-- ==== Sys2Proof/Word.lean ====
section
/-! DEFINITION. The word types of the KLH1536. Registers are at most 64 bits wide (R405, R406); memories are made of bytes
(R7); a Jexannar flit carries 256 data bits (R17). -/

namespace Sys2Proof

abbrev Byte := BitVec 8
abbrev Word16 := BitVec 16
abbrev Word32 := BitVec 32
abbrev Word64 := BitVec 64
abbrev Flit := BitVec 256

end Sys2Proof
end

