-- ==== Sys2Proof/Types.lean ====
section
/-! DEFINITION. The operand types of the commands: what a row of the table is told by its sender. -/

namespace Sys2Proof

/-- The access ports of R180, each with its own holding and staging registers and its own pop-window copy (R212). -/
inductive Port where
  | pcie | sideband | clusterA | clusterB | safety
  deriving DecidableEq, Repr

/-- What the W256 decoder says of one word (R29 to R33): clean, corrected, or uncorrectable, with its syndrome (R34). -/
inductive Ecc where
  | good
  | corrected (syn : BitVec 16)
  | bad (syn : BitVec 16)
  deriving DecidableEq, Repr

/-- What a Jexannar request addresses (R17): a device memory address, a register address or a tile SRAM word address. -/
inductive JexSpace where
  | devMem | register | tileSram
  deriving DecidableEq, Repr

/-- Power domains that can be switched off in service (R38). PD_TILE_t_D and PD_TILE_t_A go together. -/
inductive Domain where
  | clb
  | eth (p : Fin 4)
  | twn
  | ddr (m : Fin 4)
  | tile (t : Fin 6)
  deriving DecidableEq, Repr

/-- What a tagged operation acts on (R37, R39, R397). -/
inductive Target where
  | tile (t : Fin 6)
  | snuffer
  | ddr (m : Fin 4)
  | eth (p : Fin 4)
  | twn
  | clb
  | host
  | fabric
  deriving DecidableEq, Repr

/-- The header fields of a Jexannar message that the receiver uses (R17). -/
structure JexHdr where
  tag : BitVec 12
  addr : BitVec 64
  port : BitVec 16
  deriving DecidableEq, Repr

/-- The streams of virtual channel 2 (R18). -/
inductive JexStream where
  | cellPacket | summary | rawTap | pilotHistogram
  deriving DecidableEq, Repr

/-- A transfer on the sideband (R222): I3C or SMBus, the target address it calls, and whether it has no protocol error and no PEC
mismatch. -/
structure SbXfer where
  i3c : Bool
  target : BitVec 7
  ok : Bool
  deriving DecidableEq, Repr

/-- A 32-bit value written to the low half of a 64-bit register, and whether the access it makes times out (R37, R220). -/
structure LowHalf where
  value : Word32
  late : Bool
  deriving DecidableEq, Repr

/-- Where an aperture write begins, and whether it times out (R218, R220). -/
structure ApertureOff where
  off : Fin 4096
  late : Bool
  deriving DecidableEq, Repr

/-- A ring with a CFG register (R191). -/
inductive RingSel where
  | sq (n : Fin 128)
  | cq (n : Fin 128)
  | pr (n : Fin 32)
  deriving DecidableEq, Repr

/-- The two safety channels (R278). -/
inductive SafSel where
  | sp | snf
  deriving DecidableEq, Repr

/-- The two output pairs (R278). -/
inductive Pair where
  | a | b
  deriving DecidableEq, Repr

/-- What Lamplighter finds on one channel when it initialises memory (R225, R226, R240): the cap code of MEM_CH_m_INFO (0
absent), two ranks, dies of 24 Gb or more, and whether initial training succeeds. -/
structure MemFound where
  cap : Fin 5
  ranks2 : Bool
  dense : Bool
  trained : Bool
  deriving DecidableEq, Repr

/-- What the gPTP protocol machines conclude from a received event message (R265): nothing new, an offset with the source's wrap
count, or a change of grandmaster (whether the device itself has won, and the port it now takes time from); or they send a Pdelay_Req
of their own, or answer the Pdelay_Req that came (R266). -/
inductive PtpResult where
  | keep
  | offset (off : Word64) (wrap : Word32)
  | grandmaster (self : Bool) (slave : Option (Fin 4))
  | askDelay
  | answerDelay
  deriving DecidableEq, Repr

/-- How a received frame finds its port (R258, R277): the bytes of earlier frames that are still in the receive buffer, of gPTP and QSL
frames and of others, and the codewords of the frame that FEC has corrected. -/
structure RxNote where
  own : BitVec 19
  other : BitVec 19
  corrected : BitVec 8
  deriving DecidableEq, Repr

/-- An image as Lamplighter reads it (R305): whether its header or its payload cannot be read, the 512 bytes of the header as a little-endian
number, and the payload. -/
structure ImageFound where
  headErr : Bool
  dataErr : Bool
  head : BitVec 4096
  data : List Byte
  deriving DecidableEq, Repr

/-- What the self-test of the hub finds (R389, R390): the signatures of its blocks outside PD_AON (PD_CLA, PD_CLB, PD_CORE, PD_FIRE, PD_HOST,
PD_ETH_0 to 3, PD_TWN, PD_DDR_0 to 3), and the key stores (cluster A, cluster B, Lamplighter) that did not read back as zero. -/
structure HubBist where
  misr : Vector Word64 14
  keys : BitVec 3
  deriving DecidableEq, Repr

/-- How a slice's action on a tile ends (R338, R389): the signature that a test found, and whether the rest of it succeeded. -/
structure SliceOutcome where
  misr : Word64
  ok : Bool
  deriving DecidableEq, Repr

/-- What a heartbeat of the twin link says (R323, R341): unit, mode and base mode, configuration epoch, frame epoch, table_id and crc
of the active safety table, the grants of the pairs, the mirror owner, T0 and length of the last frame (device-time units), swap
pending, table phase and the crc of a table that is ready. -/
structure HbMsg where
  unit : Bool
  mode : BitVec 4
  baseMode : BitVec 4
  epoch : Word32
  frameEpoch : Word32
  tableId : Word32
  crc : Word32
  grantA : Bool
  grantB : Bool
  owner : Bool
  t0 : Word64
  frameLen : Word64
  swapPending : Bool
  tablePhase : BitVec 3
  readyCrc : Word32
  deriving DecidableEq, Repr

/-- Which of the words that a step reads the W256 outcome is told of, and that outcome (R31, R32). -/
structure WordEcc where
  word : Nat
  ecc : Ecc
  deriving DecidableEq, Repr

/-- The bank whose cell a snapshot scans, and a word of one channel's coarse histogram with the outcome of its read (R114, R116). -/
structure ScanWord where
  bank : Fin 64
  chan : Fin 256
  word : Fin 256
  ecc : Ecc
  deriving DecidableEq, Repr

/-- How the blocks of a twin-link message come (R29, R32): the lane that the W256 outcome is told of, and that outcome. -/
structure TwinRx where
  lane : Fin 4
  ecc : Ecc
  deriving DecidableEq, Repr

/-- A time message of the twin (R332): when the peer sent it, and for the last message of this device that reached it, when this device sent
that and when the peer received it, each on its sender's or receiver's own time base. -/
structure TwinStamps where
  sent : Word64
  echo : Option (Word64 × Word64)
  deriving DecidableEq, Repr

/-- The loop state of a mirror loop (R323), binary32 words: set point, integrator, last output, and measured speed, amplitude and
phase. -/
structure LoopMsg where
  wsp : Word32
  integ : Word32
  out : Word32
  speed : Word32
  amplitude : Word32
  phase : Word32
  deriving DecidableEq, Repr

/-- What ends a descriptor's turn while it moves data, once so many bytes have moved: the host answers with an error, or a tagged
operation times out (R201), or it goes on in a later turn (R197). -/
inductive DescStop where
  | hostError (moved : Nat)
  | timeout (moved : Nat)
  | hold (moved : Nat)
  deriving DecidableEq, Repr

/-- A turn of a COPY or FILL of an SQ (R196, R197): the next descriptor starts, or the `n`th move of that opcode under way goes on (they
may run alongside); and what stops it. -/
structure MoveTurn where
  resume : Option Nat
  stop : Option DescStop
  deriving DecidableEq, Repr

/-- What a calibration measures on one channel of a tile (R385, R386): for each of the four comparator-range pairs (lo_h, hi_h, lo_l,
hi_l) the trip point of each of the 28 combinations and, measured again, of the selected one, in 0.05 mV above the group reference; and the
sums of leading stamp less pulser time over the 4,096 pulses of the first run and of the second, signed, in stamp units. -/
structure CalResult where
  tile : Fin 6
  chan : Fin 260
  trips : Vector (Vector Word16 28) 4
  again : Vector Word16 4
  sum1 : Word64
  sum2 : Word64
  deriving DecidableEq, Repr

end Sys2Proof
end

