-- ==== Sys2Proof/Syntax.lean ====
section
/-! DEFINITION. The commands of the block: one constructor per row of spec/opcode_table.json, in the table's order, named after the
row's mnemonic, with the operands its sender gives it. -/

namespace Sys2Proof

/-- The commands. -/
inductive Instr where
  /-- PORST_N_ASSERT (R303). PORST_N goes low: every domain except PD_SNF resets and the device enters HOLD. -/
  | porstNAssert (tiles : BitVec 6)
  /-- WARM_RST_N_ASSERT (R303). WARM_RST_N goes low: every domain except PD_AON and PD_SNF resets and the device enters HOLD. -/
  | warmRstNAssert
  /-- RESET_RELEASE (R302). Both reset pins are high: the device leaves HOLD for BOOT and Lamplighter starts from ROM. -/
  | resetRelease (twinId : Bool)
  /-- REGISTER_WRITE (R10). A write to a register that has no row of its own, applied under its access type, the lock bit and isolation. -/
  | registerWrite (p : Port) (a : BitVec 26) (bytes : Fin 9) (v hit : Word64)
  /-- READ_CLEAR (R11). A read of an RC field returns its value and clears it; a set in the same clock is kept. -/
  | readClear (p : Port) (a : BitVec 26) (bytes : Fin 9) (hit : Word64)
  /-- THM_LOCK (R12). A write of THM_CTL.lock sets the write-once thermal block lock. -/
  | thmLock
  /-- JEX_FLIT_RECEIVE (R19). A Jexannar receiver corrects a flit, or rejects an uncorrectable one so that the sender replays. -/
  | jexFlitReceive (l : Fin 22) (e : Ecc) (hdr : Option (Option Flit))
  /-- JEX_LINK_DOWN (R19). A third consecutive failed replay declares the link down; waiting operations complete with errors. -/
  | jexLinkDown (l : Fin 22)
  /-- JEX_READ_REQUEST (R17). A read request message arrives on a Jexannar link. -/
  | jexReadRequest (l : Fin 22) (space : JexSpace) (hdr : JexHdr) (words : Fin 16)
  /-- JEX_WRITE_REQUEST (R17). A write request message arrives on a Jexannar link. -/
  | jexWriteRequest (l : Fin 22) (space : JexSpace) (hdr : JexHdr) (data : List Flit)
  /-- JEX_READ_RESPONSE (R17). A read response arrives and completes its tagged operation. -/
  | jexReadResponse (l : Fin 22) (tag : BitVec 12) (inst : Nat) (data : List Flit)
  /-- JEX_WRITE_ACK (R17). A write acknowledge arrives and completes its tagged operation. -/
  | jexWriteAck (l : Fin 22) (tag : BitVec 12) (inst : Nat)
  /-- JEX_ERROR_RESPONSE (R17). An error response arrives and completes its operation with an error. -/
  | jexErrorResponse (l : Fin 22) (tag : BitVec 12) (inst : Nat)
  /-- JEX_STREAM_MESSAGE (R17). A stream message (cell packet, summary, raw tap or pilot histogram) arrives on VC 2. -/
  | jexStreamMessage (l : Fin 22) (kind : JexStream) (data : List Flit)
  /-- JEX_SAFETY_MESSAGE (R18). A safety message arrives on VC 3 with strict priority. -/
  | jexSafetyMessage (l : Fin 22) (data : List Flit)
  /-- JEX_CREDIT_RETURN (R18). Credits for a virtual channel return over the link-control wire or a credit-only message. -/
  | jexCreditReturn (l : Fin 22) (vc : Fin 4) (n : Fin 65)
  /-- INJECT_ARM (R29). A write of HUB_W256_CTL.inject_arm arms inversion of bits in the next write to the selected location class. -/
  | injectArm (bits : Fin 4) (loc : Fin 8)
  /-- W256_CLEAR_COUNTS (R31). A write of clear_counts clears both W256 error counters. -/
  | w256ClearCounts
  /-- TAG_GRANT (R35). A waiting requester is granted a tag once its class floor, the shared pool and its ceiling allow. -/
  | tagGrant (cls : Fin 8) (target : Target) (port : Word16)
  /-- TAG_POOL_WRITE (R36). A write of HUB_TAG_POOL_n is applied, or rejected when the floors would exceed 4,096. -/
  | tagPoolWrite (cls : Fin 8) (floor ceil : BitVec 12)
  /-- TAG_PEAK_CLEAR (R35). A write of peak_clear loads peak with the present in_use of the class. -/
  | tagPeakClear (cls : Fin 8)
  /-- TAG_TIMEOUT (R37). A tagged operation's completion timeout expires in CD2; it completes with an error and releases its tag. -/
  | tagTimeout (inst : Nat) (arrived : Bool)
  /-- POWER_DOMAIN_OFF (R39). A power domain is clamped, its pending operations complete with errors, and it is switched off. -/
  | powerDomainOff (d : Domain)
  /-- POWER_DOMAIN_ON (R39). A power domain is powered again and starts from its reset values. -/
  | powerDomainOn (d : Domain)
  /-- RPLL_LOCK (R24). The RPLL locks to a 10 MHz OCXO_IN; device time starts counting at the first lock. -/
  | rpllLock
  /-- RPLL_LOSS_OF_LOCK (R24). The RPLL declares loss of lock; strobes stop within 1 µs and a safety fault with cause 0x0A follows. -/
  | rpllLossOfLock
  /-- RUN_SET (R50). A write of FIRE_FRAME_CTL.run = 1 cancels a pending stop or, as a rise, pulses TAPER_SYNC and sends ENUM to all drivers. -/
  | runSet
  /-- RUN_CLEAR (R50). A write of run = 0 asks firing to stop at the next decided cell boundary. -/
  | runClear
  /-- SWAP_REQ (R46). A write of swap_req starts validation of the inactive buffer. -/
  | swapReq
  /-- SYNC_PIN_SELECT (R51). A FIRE_FRAME_CTL write selecting SYNC_IN in start_mode or swap_mode claims the pin or is denied. -/
  | syncPinSelect (startMode swapMode : Fin 4)
  /-- TAPER_ENUM_DONE (R61). Enumeration ends, drv_present is replaced, and validation of first_buf begins. -/
  | taperEnumDone (answered : Word16)
  /-- FRAME_VALIDATION_DONE (R46). Validation of a buffer ends, either passing with the swap pending or failing with val_err and err_index. -/
  | frameValidationDone
  /-- DECISION_POINT (R429). The generator commits to the next frame start, proof shot or entry, deciding swaps, stops and latched starts at the boundary. -/
  | decisionPoint
  /-- FRAME_START (R47). A frame starts at T0: the blind slot begins, proof shots are chosen and the previous frame is judged for mirror lock. -/
  | frameStart
  /-- FRAME_END (R48). The frame ends: a latched start request is consumed, a waiting swap takes effect or the frame repeats. -/
  | frameEnd
  /-- SYNC_IN_EDGE (R47). A rising SYNC_IN edge is time-stamped and acts as a start request or swap trigger. -/
  | syncInEdge
  /-- MIRROR_INDEX (R65). The position interface's index event is time-stamped and acts as a start request in mode 0b10. -/
  | mirrorIndex (count : Word32)
  /-- MIRROR_INDEX_MISSING (R48). No index for 1.5 times the last index period raises mirror-index-missing. -/
  | mirrorIndexMissing
  /-- POSITION_SAMPLE (R63). A quadrature or SPI position sample is time-stamped for azimuth interpolation. -/
  | positionSample (pos : Word32)
  /-- ENTRY_PREFETCH (R54). A shot entry is taken from the prefetch queue, S is computed and shorted segments are removed. -/
  | entryPrefetch
  /-- SHADE_CHECK (R67). At S − 2.0 µs Shade admits the shot and charges its ledgers, or suppresses it. -/
  | shadeCheck
  /-- SHADE_BUCKET_ADVANCE (R67). A Shade window's bucket period ends and the oldest bucket drops out of the ledger. -/
  | shadeBucketAdvance (w : Fin 3)
  /-- SHOT_NOTICE (R54). At S − 1.5 µs the shot notice reaches the six tiles, which open receive windows under the enable and window limits. -/
  | shotNotice
  /-- SHOT_COMMAND_SEND (R59). The SHOT command frame is sent on the driver's command lane, ending t_setup before S. -/
  | shotCommandSend
  /-- STROBE (R52). The strobe edge is placed at S + trim_n on FS_P_n/FS_N_n. -/
  | strobe
  /-- TAPER_STATUS_RECEIVE (R59). A driver's STATUS frame is received on a status lane. -/
  | taperStatusReceive (lane : Fin 2) (v : BitVec 96)
  /-- STATUS_EVALUATE (R62). At S + 1.2 µs the generator judges the status frame for missing, CRC, seq and overcurrent. -/
  | statusEvaluate
  /-- TAPER_DRIVER_FAULT (R62). A third consecutive missing or bad status sets drv_fault and stops commands to the driver. -/
  | taperDriverFault (d : Fin 16)
  /-- DRV_FAULT_CLEAR (R62). Clearing drv_fault sends CLEAR, pulses TAPER_SYNC and enumerates the driver again. -/
  | drvFaultClear (d : Fin 16) (answered : Bool)
  /-- SHOT_WINDOW_CLOSE (R54). At S + 8.192 µs the shot's receive windows close in the tiles. -/
  | shotWindowClose
  /-- REKEY (R56). A write of rekey regenerates the code table, which takes effect at the next cell boundary. -/
  | rekey
  /-- SHADE_LOCK (R292). A write of SHADE_CTL.lock locks Shade settings and sends Snuffer its copies for a CRC comparison. -/
  | shadeLock (same : Bool)
  /-- SHADE_BUDGET_WRITE (R68). A budget write applies to later checks; after lock only cuts apply and are sent to Snuffer. -/
  | shadeBudgetWrite (w : Fin 3) (v : Word32)
  /-- SHADE_TEMP_INHIBIT (R69). Three consecutive valid RTD samples at or beyond a limit start the firing inhibit. -/
  | shadeTempInhibit
  /-- SHADE_TEMP_STALE (R69). An enabled RTD without a valid value for 1 s starts the inhibit and sets temp_stale. -/
  | shadeTempStale (rtd : Fin 2)
  /-- DIAG_CLEAR (R70). A FIRE_DIAG_CLR write sets the addressed segments to not yet diagnosed and zeroes their counters. -/
  | diagClear (bank : Fin 64) (seg : Fin 64) (whole all : Bool)
  /-- REFERENCE_RETURN (R103). A reference channel sees a backscatter pulse of sufficient ToT in its window and updates the driver's average. -/
  | referenceReturn (t : Fin 6) (k : Fin 4) (lead : BitVec 56) (tot : BitVec 14)
  /-- REF_WINDOW_CLOSE (R70). A reference window closes; a diagnostic shot without a return is counted for emitter diagnosis. -/
  | refWindowClose (t : Fin 6)
  /-- SEGMENT_OPEN (R70). M consecutive diagnostic shots without return make the segment open. -/
  | segmentOpen (bank : Fin 64) (seg : Fin 48)
  /-- DIAG_PERIOD_END (R71). The diagnosis period ends; short-counted segments revert and diag-incomplete may be raised. -/
  | diagPeriodEnd
  /-- COMPARATOR_EVENT (R77). A leading and trailing edge of the low comparator form one stamped event, or it is lost to dead time or blanking. -/
  | comparatorEvent (t : Fin 6) (c : Fin 260) (cl : BitVec 49) (rl : Fin 160) (ct : BitVec 49) (rt : Fin 160) (above peak : Word32)
  /-- TOT_TIMEOUT (R77). No trailing edge within 63.996 ns closes the event with ToT = 16,383. -/
  | totTimeout (t : Fin 6) (c : Fin 260) (cl : BitVec 49) (rl : Fin 160) (peak : Word32)
  /-- GAIN_SWITCH_POINT (R79). At S − 60 ns the channel changes gain range if needed and blanks its comparators. -/
  | gainSwitchPoint (t : Fin 6) (c : Fin 260)
  /-- GAIN_BLANK_END (R79). The 40 ns comparator blanking ends at S − 20 ns. -/
  | gainBlankEnd (t : Fin 6) (c : Fin 260)
  /-- CH_ENABLE_WRITE (R84). A TILE_t_CH_EN_w write powers channels down or up, with a 20 µs settling before windows open. -/
  | chEnableWrite (t : Fin 6) (w : Fin 8) (v : Word32)
  /-- EVENT_ACCUMULATE (R108). A queued event is counted in the coarse bin of each open window and possibly in fine bins and the stamp store. -/
  | eventAccumulate (t : Fin 6) (c : Fin 256) (ecc : WordEcc)
  /-- CDT_RECOMPUTE (R88). A tile temperature change of cdt_delta recomputes the active code-density tables into a shadow. -/
  | cdtRecompute (t : Fin 6) (temps : List (BitVec 16))
  /-- CDT_STALE (R88). No valid tile temperature for 10 s sets cdt_stale and raises cdt-stale. -/
  | cdtStale (t : Fin 6)
  /-- TDC_HEALTH_CHECK (R96). After 65,536 edges a capture unit compares observed code centres with its table. -/
  | tdcHealthCheck (t : Fin 6) (n : Fin 276) (unit : Fin 2) (span : BitVec 8)
  /-- TDC_STAMP_SILENCE (R96). A comparator that toggled without a stamp for 1 ms declares its TDC faulty. -/
  | tdcStampSilence (t : Fin 6) (n : Fin 276)
  /-- TDC_FAIL_WRITE (R97). A host write setting a TILE_t_TDC_FAIL_w bit marks that TDC failed with the consequences of a fault. -/
  | tdcFailWrite (t : Fin 6) (w : Fin 9) (v : Word32)
  /-- SPARE_MAP_WRITE (R98). A TILE_t_SPARE_k_MAP write maps or unmaps a spare, or is denied with claim-denied. -/
  | spareMapWrite (t : Fin 6) (k : Fin 16) (target : BitVec 9) (valid : Bool)
  /-- GANG_PHASE_MEASURE (R100). Every 1 µs a tile measures and corrects its coarse-clock phase against the fire timing clock. -/
  | gangPhaseMeasure (t : Fin 6) (err : BitVec 9)
  /-- GANG_LOCK (R100). After 64 good measurements locked sets and the coarse counter is loaded. -/
  | gangLock (t : Fin 6)
  /-- GANG_UNLOCK (R100). After 3 bad measurements locked clears, open cells drop and gang-unlock is raised. -/
  | gangUnlock (t : Fin 6)
  /-- REF_CLEAR (R103). A write of TILE_t_REF_CLR.clr clears all reference averages and counts. -/
  | refClear (t : Fin 6)
  /-- WALK_WRITE (R94). A walk-table write updates the tile entry and the hub copy. -/
  | walkWrite (t : Fin 6) (g : Fin 2) (ix : Fin 64) (v : Word16)
  /-- ZOOM_SNAPSHOT (R116). When the last coarse shot's window closes, the tile scans each channel's coarse histogram for peaks. -/
  | zoomSnapshot (t : Fin 6) (b : ScanWord)
  /-- SUMMARY_SEND (R117). A channel's 64-byte summary leaves upstream on VC 2 once scanned and credited. -/
  | summarySend (t : Fin 6) (k : Fin 2)
  /-- ZOOM_ANSWER (R118). The hub zoom controller chooses up to four windows for a summary and sends them to the tile. -/
  | zoomAnswer (t : Fin 6) (late : Bool)
  /-- ZOOM_WINDOW_INSTALL (R119). The tile installs a channel's zoom windows; later shots become zoom shots. -/
  | zoomWindowInstall (t : Fin 6) (c : Fin 256)
  /-- CELL_SEAL (R122). The last window of a cell closes and each channel hands its buffer to hand-off with the next cell_seq. -/
  | cellSeal (t : Fin 6) (b : Fin 64)
  /-- CELL_PACKET_SEND (R124). The tile sends a channel record upstream as credits allow, clearing the buffer as it reads. -/
  | cellPacketSend (t : Fin 6) (k : Fin 2) (w : Fin 304) (e : Ecc)
  /-- HANDOFF_COMPLETE (R123). A buffer's hand-off read and clear complete and the buffer is free. -/
  | handoffComplete (t : Fin 6) (c : Fin 256)
  /-- CELL_RECORD_RECEIVE (R127). The hub stores an arriving channel record in the cell store, checking cell_seq continuity. -/
  | cellRecordReceive (t : Fin 6) (e : Ecc)
  /-- TAP_SELECT (R129). A HIST_TAP_n_SEL write enables a tap on a channel or is denied with claim-denied. -/
  | tapSelect (n : Fin 64) (ch : BitVec 11) (en : Bool) (decim : Fin 16)
  /-- TAP_ENABLE (R133). A HIST_TAP_CTL enable write starts the taps, or is ignored with too few slots or a misaligned base. -/
  | tapEnable (en ovr : Bool) (wm : Word16)
  /-- TAP_FLUSH (R133). A write of flush sets tail to head and abandons a partly written slot. -/
  | tapFlush (partly : Bool)
  /-- TAP_TAIL_WRITE (R131). A host HIST_TAP_TAIL write is applied if it lies between tail and head. -/
  | tapTailWrite (v : Word16)
  /-- TAP_SLOT_COMMIT (R131). A fully written tap slot becomes visible and head advances, or a full buffer drops or overwrites. -/
  | tapSlotCommit
  /-- ECHO_EXTRACT (R136). Extraction takes a channel record and runs floor, filter, peaks, refinement, range, gating, interference and confidence. -/
  | echoExtract (e : Ecc)
  /-- POINT_PACKET_WRITE (R206). The point writer writes a channel cell's packet to its ring if it fits, or drops it whole. -/
  | pointPacketWrite (held : Bool)
  /-- IF_FRAME_EVALUATE (R156). At each frame the interference detector counts cells with plateaus and activates or clears. -/
  | ifFrameEvaluate
  /-- DEVICE_TIME_WRAP (R165). Device time wraps modulo 2⁶⁴ and TIME_WRAP increments. -/
  | deviceTimeWrap
  /-- SERVO_OFFSET (R167). An offset from gPTP, PPS or the twin reaches the servo, updating src_locked and possibly stepping. -/
  | servoOffset (src : Fin 4) (off : BitVec 64) (wrap : Word32)
  /-- TRIM_UPDATE (R166). Once per 1 ms the servo changes the RPLL trim by at most 0.1 ppm. -/
  | trimUpdate
  /-- HOLDOVER_ENTRY (R167). No offset for the source's timeout enters holdover and raises source-lost. -/
  | holdoverEntry
  /-- TIME_STEP_WRITE (R168). A TIME_STEP write steps device time when no frame runs, or is refused with step-refused. -/
  | timeStepWrite (v : BitVec 64)
  /-- WARM_REACHED (R169). Lock and OCXO_WARM have held for settle_s; the time base becomes warm. -/
  | warmReached (held : Word16)
  /-- OCXO_WARM_CHANGE (R169). OCXO_WARM changes level; a fall ends warm and raises time-warm-lost. -/
  | ocxoWarmChange (level : Bool)
  /-- PPS_EDGE (R171). A PPS_IN rising edge is stamped and used as a phase offset when valid. -/
  | ppsEdge (coarse : BitVec 49) (code : Fin 160)
  /-- PPS_MISSING (R171). No usable PPS edge for 1.5 s sets pps_missing. -/
  | ppsMissing
  /-- TIMEIN_EDGE (R174). A TIMEIN edge is stamped into its FIFO, or lost to dead time or a full FIFO. -/
  | timeinEdge (n : Fin 4) (rising : Bool) (coarse : BitVec 49) (code : Fin 160)
  /-- TIMEIN_STAMP_READ (R174). A read of TIME_TIN_n_STAMP returns and removes the oldest FIFO entry. -/
  | timeinStampRead (p : Port) (n : Fin 4)
  /-- STATS_START (R177). A write of start begins a statistics run, claiming the engine, or is ignored while busy. -/
  | statsStart (p : Port)
  /-- STATS_ABORT (R177). A write of abort ends the run without loading results. -/
  | statsAbort
  /-- STATS_SAMPLE (R175). The statistics engine forms one sample from its source, or discards an out-of-range one. -/
  | statsSample
  /-- STATS_DONE (R176). The Nth sample loads mean, deviation, minimum and maximum together and sets done. -/
  | statsDone
  /-- LOW_HALF_READ (R178). A 32-bit low-half read of a 64-bit register returns it and holds the high half in the port. -/
  | lowHalfRead (p : Port) (a : BitVec 25) (e : Ecc) (late : Bool)
  /-- HIGH_HALF_WRITE (R179). A high-half write stages the value with its address in the port. -/
  | highHalfWrite (p : Port) (a : BitVec 25) (v : Word32)
  /-- LOW_HALF_WRITE (R179). A low-half write commits both halves at the staged address, or the low half alone. -/
  | lowHalfWrite (p : Port) (a : BitVec 25) (v : LowHalf)
  /-- LINK_UP (R184). The host link trains to CXL or PCIe and link-up is raised. -/
  | linkUp (cxl : Bool) (width : Fin 16) (speed : Fin 16) (cxlMem : Bool)
  /-- LINK_DOWN (R190). Loss of the host link disables host-memory rings and raises link-down. -/
  | linkDown
  /-- FLR (R189). A function-level reset disables rings, resets RING and BAR2 registers and abandons descriptors. -/
  | flr
  /-- RING_CFG_WRITE (R192). A ring CFG write enables, disables or reconfigures a ring, or is rejected. -/
  | ringCfgWrite (r : RingSel) (v : Word32)
  /-- SQ_DOORBELL (R193). A write to an SQ doorbell accepts a new tail or is ignored as invalid. -/
  | sqDoorbell (n : Fin 128) (v : Word32)
  /-- DESCRIPTOR_FETCH (R193). The ring engine reads a 64-byte descriptor once credit, order and a tag allow. -/
  | descriptorFetch (ok : Bool)
  /-- NOP (R195). A NOP descriptor completes at once. -/
  | nop (n : Fin 128)
  /-- COPY (R196). A COPY descriptor moves length bytes between host memory and internal addresses. -/
  | copy (n : Fin 128) (e : Ecc) (stop : MoveTurn)
  /-- FILL (R196). A FILL descriptor writes a 64-bit pattern over length bytes. -/
  | fill (n : Fin 128) (stop : MoveTurn)
  /-- REG_WRITE (R196). A REG_WRITE descriptor writes one to four registers in order. -/
  | regWrite (n : Fin 128)
  /-- REG_READ (R196). A REG_READ descriptor copies a run of registers into host memory. -/
  | regRead (n : Fin 128) (stop : Option DescStop)
  /-- WAIT_TIME (R196). A WAIT_TIME descriptor starts waiting for a device time, completing at once if passed. -/
  | waitTime (n : Fin 128)
  /-- WAIT_TIME_REACHED (R196). Device time reaches the awaited time and the WAIT_TIME completes. -/
  | waitTimeReached (n : Fin 128)
  /-- MODE_REQ (R301). A MODE_REQ descriptor requests a mode change under the transition table. -/
  | modeReq (n : Fin 128)
  /-- INVALID_OPCODE (R195). A descriptor with a reserved opcode completes with invalid opcode. -/
  | invalidOpcode (n : Fin 128)
  /-- DESCRIPTOR_COMPLETE (R202). A completion entry is written once the CQ has room and the descriptor's effects are visible. -/
  | descriptorComplete (n : Fin 128)
  /-- CQ_DOORBELL (R202). A write to a CQ doorbell returns entries by accepting a new head. -/
  | cqDoorbell (n : Fin 128) (v : Word32)
  /-- CQ_NOTICE_TIMER (R203). tmo_us after the first unnoticed entry, the CQ's MSI-X notice is sent. -/
  | cqNoticeTimer (n : Fin 128)
  /-- SQ_FLUSH (R204). A write of flush stops fetching, discards pending descriptors and truncates executing ones. -/
  | sqFlush (n : Fin 128)
  /-- SQ_FLUSH_DONE (R204). When nothing of the SQ executes, the flush-done completion is written and head moves to tail. -/
  | sqFlushDone (n : Fin 128)
  /-- PR_DOORBELL (R206). A host tail write to a point ring doorbell is accepted between tail and head or ignored. -/
  | prDoorbell (n : Fin 32) (v : Word32)
  /-- PR_QUOTA_WRITE (R207). A quota write limits the ring level, setting quota_cut when below the present level. -/
  | prQuotaWrite (n : Fin 32) (v : BitVec 28)
  /-- HEAD_WORD_WRITE (R208). The head word is written after an advance that triggers a notice, or every 100 µs while head moves. -/
  | headWordWrite (n : Fin 32)
  /-- PR_NOTICE_TIMER (R209). tmo_us after the first unnoticed packet, the point ring's notice is sent. -/
  | prNoticeTimer (n : Fin 32)
  /-- PR_FLUSH (R211). A point ring flush sets tail to head, abandons a partial packet and increments flush_gen. -/
  | prFlush (n : Fin 32) (partly : Bool)
  /-- EVENT_POP (R212). A read including byte 0 of the pop window pops the top record into the port's holding copy, or the idle item. -/
  | eventPop (p : Port) (off : Fin 32) (len : Fin 33)
  /-- DPORT_ADDR_WRITE (R218). A DPORT_ADDR write sets the internal address and clears the window count. -/
  | dportAddrWrite (v : Word64)
  /-- DPORT_DATA_READ (R216). A DPORT_DATA read returns 8 bytes at ADDR and adds 8 to ADDR. -/
  | dportDataRead (p : Port) (e : Ecc) (late : Bool)
  /-- DPORT_DATA_WRITE (R216). A DPORT_DATA write stores 8 bytes at ADDR and adds 8 to ADDR. -/
  | dportDataWrite (p : Port) (v : Word64) (late : Bool)
  /-- DPORT_APERTURE_WRITE (R218). An aperture write stores at ADDR + o and advances ADDR after all 1,024 words are written. -/
  | dportApertureWrite (o : ApertureOff) (data : List Byte)
  /-- DPORT_APERTURE_READ (R218). An aperture read returns data at ADDR + o without moving ADDR. -/
  | dportApertureRead (o : Fin 4096) (len : Fin 4097) (e : Ecc) (late : Bool)
  /-- SIDEBAND_ENTDAA (R222). The I3C sideband takes its dynamic address by ENTDAA. -/
  | sidebandEntdaa (dyn : BitVec 7)
  /-- SIDEBAND_WRITE (R222). A sideband write command writes 4 bytes to the addressed window. -/
  | sidebandWrite (a v : Word32) (x : SbXfer)
  /-- SIDEBAND_READ (R222). A sideband read command returns 4 data bytes and a status byte. -/
  | sidebandRead (a : Word32) (x : SbXfer) (e : Ecc) (late : Bool)
  /-- SIDEBAND_TIMEOUT (R222). A sideband read held off for 100 µs returns status 0x03. -/
  | sidebandTimeout
  /-- CXL_MEM_READ (R185). A host CXL.mem read of device memory is served through port 2. -/
  | cxlMemRead (d : Word64) (e : Ecc)
  /-- CXL_MEM_WRITE (R185). A host CXL.mem write of device memory is served through port 2. -/
  | cxlMemWrite (d : Word64) (data : List Byte)
  /-- MEM_INIT (R232). Lamplighter writes map_order and starts training and zeroing of memory. -/
  | memInit (order : Fin 4) (f0 f1 f2 f3 : MemFound)
  /-- MEM_INIT_DONE (R249). Initialisation completes: mem_active sets and CXL Memory_Active reports ready. -/
  | memInitDone
  /-- MEM_LOCK (R232). A write of MEM_CTL.lock fixes map_order until reset. -/
  | memLock
  /-- MEM_REQUEST (R234). A port request enters its bank queue once the port quota allows. -/
  | memRequest (p : Fin 8) (d : BitVec 64) (write : Bool)
  /-- MEM_COMMAND_SLOT (R235). At each command slot the channel chooses refresh or the most urgent candidate. -/
  | memCommandSlot (m : Fin 4)
  /-- MEM_COMPLETION (R236). A memory request completes, with W256 decoding and a latency miss when late. -/
  | memCompletion (p : Fin 8) (e : Ecc)
  /-- REFRESH_DUE (R238). Each tREFI every bank is owed a per-bank refresh, issued or postponed. -/
  | refreshDue (m : Fin 4)
  /-- REFRESH_PREEMPT (R239). A bank's owed count reaches 8 and its refresh pre-empts at the next chunk boundary. -/
  | refreshPreempt (m : Fin 4) (b : Fin 16)
  /-- MR4_RATE_CHANGE (R238). A die's MR4 refresh rate changes tREFI and raises mem-thermal-derate. -/
  | mr4RateChange (m : Fin 4) (mult : Fin 3)
  /-- RETRAIN_STEP (R241). Every retrain_ms a channel runs a periodic training step of at most 40 µs. -/
  | retrainStep (m : Fin 4) (ok : Bool)
  /-- FREQ_CHANGE_REQ (R242). A write of req or a throttle state requests a data-rate change, deferred during a training step. -/
  | freqChangeReq (sp : Fin 4) (throttle : Bool)
  /-- FREQ_CHANGE_APPLY (R242). All channels change set point together and cur_sp updates. -/
  | freqChangeApply
  /-- MEM_QUOTA_WRITE (R234). A port quota write limits outstanding requests and may set quota_cut. -/
  | memQuotaWrite (p : Fin 8) (v : BitVec 11)
  /-- MEM_PORT_CFG_WRITE (R237). A port CFG write is applied, or rejected when rt = 1 with too low a target. -/
  | memPortCfgWrite (p : Fin 8) (target : BitVec 16) (rt : Bool)
  /-- MEM_PORT_PEAK_CLR (R234). A write of peak_clr loads the port's peak with present in_use. -/
  | memPortPeakClr (p : Fin 8)
  /-- SCRUB_PASS_END (R244). The patrol scrubber completes a pass over all usable words. -/
  | scrubPassEnd
  /-- CE_RATE_CHECK (R245). Each second a channel's correctable-error count is compared with ce_thr. -/
  | ceRateCheck (m : Fin 4)
  /-- MEM_ERR_CLEAR (R245). A write of clr clears a channel's error counts. -/
  | memErrClear (m : Fin 4)
  /-- RETIRE_START (R246). A write of start begins retiring a channel, shrinking the extent, or is rejected. -/
  | retireStart (ch : Fin 4)
  /-- MIGRATE_STRIPE (R247). The migration engine moves one stripe to its new place and advances the pointer. -/
  | migrateStripe (bad : List (Fin 8))
  /-- RETIRE_DONE (R247). The last stripe has moved; retired sets and the channel domain powers off. -/
  | retireDone
  /-- ETH_MODE_WRITE (R254). A write of a port's mode takes its link down and trains in the new mode. -/
  | ethModeWrite (p : Fin 4) (mode : Fin 8) (inStep : Bool)
  /-- ETH_LINK_UP (R254). A port finishes auto-negotiation and training and its link comes up. -/
  | ethLinkUp (p : Fin 4)
  /-- ETH_LINK_DOWN (R254). A port's link goes down. -/
  | ethLinkDown (p : Fin 4)
  /-- EQ_ADAPT_STEP (R255). A lane's equaliser adaptation step ends, releasing a deferred change or retrain. -/
  | eqAdaptStep (lane : Fin 8)
  /-- ETH_RETRAIN (R256). A write of retrain retrains one port alone. -/
  | ethRetrain (p : Fin 4) (inStep : Bool)
  /-- ETH_FRAME_RECEIVE (R257). A received frame is kept as gPTP or QSL after policing, or discarded. -/
  | ethFrameReceive (p : Fin 4) (frame : List Byte) (note : RxNote) (mismatch : Bool)
  /-- FRER_RESET (R264). reset_ms without a frame of a stream resets its recovery. -/
  | frerReset (dst : BitVec 48) (vid : BitVec 12)
  /-- TX_SELECT (R259). At a transmit opportunity the port picks the highest eligible queue. -/
  | txSelect (p : Fin 4)
  /-- GATE_CHANGE (R260). A write of change sets pending for the admin gate list, or is rejected. -/
  | gateChange (p : Fin 4)
  /-- GATE_LIST_SWITCH (R260). At the computed base time the admin list becomes operative. -/
  | gateListSwitch (p : Fin 4)
  /-- GCL_ENTRY_ADVANCE (R260). A gate list entry's interval ends and the next entry's gates apply. -/
  | gclEntryAdvance (p : Fin 4)
  /-- PTP_MESSAGE_RECEIVE (R265). A gPTP event message is received and timestamped for the protocol machines. -/
  | ptpMessageReceive (p : Fin 4) (stamp : Word64) (r : PtpResult)
  /-- PTP_SYNC_SEND (R266). As grandmaster the device sends Sync on every enabled port. -/
  | ptpSyncSend
  /-- EXPORT_ENABLE (R267). Enabling an export binds it to a ring or is rejected. -/
  | exportEnable (x : Fin 4)
  /-- EXPORT_FRAME_SEND (R267). An export frame is queued when full or flush_us after its first record. -/
  | exportFrameSend (x : Fin 4)
  /-- QSL_TX_ENABLE (R271). Enabling a QSL transmit connection is accepted or rejected for a reserved identity. -/
  | qslTxEnable (c : Fin 8)
  /-- QSL_COMMIT (R272). A write of commit makes the written payload the one used by later frames. -/
  | qslCommit (c : Fin 8)
  /-- QSL_TX_PERIOD (R272). Each period a transmit connection queues a frame with the next seq. -/
  | qslTxPeriod (c : Fin 8)
  /-- QSL_RX_ENABLE (R273). Enabling a receive connection enters Wait or is rejected for a reserved identity. -/
  | qslRxEnable (c : Fin 8)
  /-- QSL_RESTART (R273). A write of restart moves a connection to Wait. -/
  | qslRestart (c : Fin 8)
  /-- QSL_FRAME_RECEIVE (R274). A QSL frame is checked in order and accepted, discarded or fails its connection. -/
  | qslFrameReceive (p : Fin 4) (pdu : List Byte) (mismatch : Bool)
  /-- QSL_WATCHDOG (R275). A receive connection's watchdog expires and the connection fails with cause 1. -/
  | qslWatchdog (c : Fin 8) (arrived : Bool)
  /-- SAFETY_SUMMARY (R281). A safety summary reaches a safety channel. -/
  | safetySummary (c : SafSel) (v : Flit)
  /-- CELL_CLOSE_MARKER (R281). A cell-close marker reaches a safety channel and its cell's evaluation begins. -/
  | cellCloseMarker (c : SafSel) (bank : Fin 64) (azimuth : BitVec 20) (firstShot : Word64)
  /-- ZONE_EVALUATE (R284). A channel evaluates the cell against the zones and updates occupancy, violation and grants. -/
  | zoneEvaluate (c : SafSel)
  /-- VERDICT_EXCHANGE (R280). The channels exchange verdicts over VC 3; any disagreement is a fault. -/
  | verdictExchange
  /-- VERDICT_TIMEOUT (R280). A channel's verdict missing past its response bound is a fault with cause 0x02. -/
  | verdictTimeout (c : SafSel) (arrived : Bool)
  /-- PERMISSION_CLOCK_STOP (R279). A permission clock at one level for 2 µs opens its series switch, and a fault if granted. -/
  | permissionClockStop (p : Pair)
  /-- RESTART_DELAY (R285). restart_ms after the grant conditions became true, the pair may be granted. -/
  | restartDelay (c : SafSel) (p : Pair)
  /-- ZT_PREPARE (R289). A write of prepare makes both channels copy and check the staged table. -/
  | ztPrepare
  /-- ZT_CHANNEL_CHECK_DONE (R289). A channel finishes its table check; with both ok and equal crc the phase becomes ready. -/
  | ztChannelCheckDone (c : SafSel)
  /-- ZT_COMMIT (R289). A write of commit in ready schedules the swap at the next agreed cell boundary. -/
  | ztCommit
  /-- ZT_ABORT (R289). A write of abort returns the phase to idle with err 6. -/
  | ztAbort
  /-- TABLE_RECHECK (R293). Each second each channel re-checks its table CRC, faulting with cause 0x0D on failure. -/
  | tableRecheck (c : SafSel) (ok : Bool)
  /-- ZONE_SET_AGREE (R286). The channels agree on a new set index and it takes effect at the next decided boundary. -/
  | zoneSetAgree
  /-- ZONE_SWITCH_END (R286). switch_ms after the boundary, the old set stops being evaluated. -/
  | zoneSwitchEnd
  /-- DCI_SAMPLE (R290). Every 1 ms Snuffer samples and filters the safety-input contacts and updates agreed states. -/
  | dciSample (contacts : BitVec 8)
  /-- DCI_DISCREPANCY_TIMEOUT (R290). A discrepancy window expires before the second contact follows: fault 0x08. -/
  | dciDiscrepancyTimeout (n : Fin 4) (second : Bool)
  /-- TEST_PULSE (R291). An output of an on pair is switched off for tp_width_us each tp_period_ms. -/
  | testPulse (output : Fin 4) (off : Bool)
  /-- OUTPUT_READBACK (R291). Snuffer's readback finds an output at the wrong level: fault 0x06 or 0x07. -/
  | outputReadback (level settled : BitVec 4)
  /-- SHADE_DIGEST (R292). Every 1 ms the hub sends its ledger digest and Snuffer compares it. -/
  | shadeDigest
  /-- SHADE_DIGEST_TIMEOUT (R292). No digest for 3 ms is a fault with cause 0x09. -/
  | shadeDigestTimeout
  /-- PILOT_LINK_SILENCE (R293). A pilot link silent for 100 µs while firing is a fault with cause 0x0B. -/
  | pilotLinkSilence (link : Fin 2)
  /-- LOR_REQ_RISE (R295). LOR_REQ rises and both channels start timing its high time. -/
  | lorReqRise
  /-- LOR_REQ_FALL (R295). LOR_REQ falls and the reset is accepted or rejected. -/
  | lorReqFall (spMs snfMs : Word16) (present : Bool)
  /-- LOR_REQ_LONG (R295). LOR_REQ held high for 5 s is rejected once and ignored until low for 100 ms. -/
  | lorReqLong
  /-- LOR_REQ_REARM (R295). LOR_REQ has been low for 100 ms and is seen again. -/
  | lorReqRearm
  /-- LOCKOUT_CLEAR (R295). 1 ms after an accepted edge lock-out clears, the selector returns to hub and STANDBY is entered. -/
  | lockoutClear
  /-- VSNF_RISE (R417). VSNF rises through 2.90 V: Snuffer starts and lock-out sets with cause 0x0E. -/
  | vsnfRise
  /-- VSNF_OUT_OF_RANGE (R417). VSNF outside 3.00 to 3.60 V for 10 µs is a fault 0x0F, info 0. -/
  | vsnfOutOfRange
  /-- VSAF_OUT_OF_RANGE (R417). VSAF outside 16.0 to 32.0 V for 10 µs is a fault 0x0F, info 1. -/
  | vsafOutOfRange
  /-- VSNF_BROWNOUT (R417). VSNF below 2.70 V for 1 µs resets Snuffer and blanks the pad selector. -/
  | vsnfBrownout
  /-- MODE_REQUEST (R301). A HUB_MODE_REQ write with go requests a mode, carried out or denied. -/
  | modeRequest (target : Fin 16)
  /-- STANDBY_ENTRY (R302). Firing has stopped after a STANDBY request; the mode becomes STANDBY and the request completes. -/
  | standbyEntry
  /-- BOOT_CONFIG_READ (R304). Lamplighter reads the configuration block from the boot flash. -/
  | bootConfigRead (copy0 copy1 : BitVec 128)
  /-- IMAGE_CHECK (R306). Lamplighter checks a candidate image and falls back or sets boot_err. -/
  | imageCheck (a b : ImageFound)
  /-- BOOT_RETRY (R308). A write of retry checks an image placed in device memory. -/
  | bootRetry (readErr : Bool) (keyOk sigOk hashOk : Unit)
  /-- SVN_COMMIT (R307). A write of svn_commit in STANDBY raises the security-version floor. -/
  | svnCommit
  /-- CAL_STORE_LOAD (R381). Snuffer loads the factory region and active field half, checking every record. -/
  | calStoreLoad
  /-- BOOT_COMPLETE (R302). Image, memory, calibration and RPLL ready, BOOT enters START-TEST or FACTORY. -/
  | bootComplete (factoryEn : Bool)
  /-- START_TEST_END (R310). BIST ends and the device enters STANDBY or SAFE by which blocks failed. -/
  | startTestEnd (tileFail : Vector Word64 6) (hubFail : HubBist) (snfFail : Bool) (rows : List (Fin 6 × Fin 10368))
  /-- PILOT_CLUSTER_SILENCE (R312). No control cluster active for 10 ms enters PILOT-LIGHT with cause 2. -/
  | pilotClusterSilence
  /-- PILOT_SUMMARY_SILENCE (R312). No priority cell-close marker for 100 ms withdraws grants and enters PILOT-LIGHT with cause 3. -/
  | pilotSummarySilence
  /-- PILOT_STROBE_SILENCE (R312). No strobe for 100 ms while run = 1 enters PILOT-LIGHT with cause 4. -/
  | pilotStrobeSilence
  /-- PILOT_SHOT (R313). Every 10 µs Snuffer sends a SHOT to driver 0 and fires its own strobe. -/
  | pilotShot
  /-- PILOT_WINDOW (R314). A reference return on reference channel 0 of TILE_2 or TILE_3 opens a 512 ns pilot window. -/
  | pilotWindow (high : Bool) (lead : BitVec 56) (tot : BitVec 14)
  /-- PILOT_BUFFER_SEAL (R314). After 64 windows the pilot buffer is sealed and sent on the pilot link. -/
  | pilotBufferSeal (high : Bool)
  /-- PILOT_POWER_ALL (R314). Reference returns without shot notices for 100 µs make the tile power all channels. -/
  | pilotPowerAll (high : Bool)
  /-- PILOT_EVALUATE (R315). Snuffer evaluates a pilot cell for near-field detections and decides pair A. -/
  | pilotEvaluate
  /-- PILOT_BLIND (R315). No pilot cell for 2 ms makes the evaluation blind and occupied. -/
  | pilotBlind
  /-- PILOT_GRANT_MESSAGE (R315). Every 1 ms Snuffer sends its pair A grant to the safety processor. -/
  | pilotGrantMessage
  /-- IND_APPLY (R320). A write of apply schedules all eight indicator shadows, at once or at IND_APPLY_TIME. -/
  | indApply (atTime : Bool)
  /-- IND_APPLY_TAKE_EFFECT (R320). The shadows take effect together, claiming or releasing IND pins. -/
  | indApplyTakeEffect
  /-- LAMP_DIAG (R321). A pin held near compliance or below 0.5 V for 200 µs marks the output open or short. -/
  | lampDiag (n : Fin 8) (short : Bool)
  /-- IND_FAULT_CLEAR (R321). Writing fault_seen clears it and sets the output's state to untested. -/
  | indFaultClear (mask : BitVec 8)
  /-- HEARTBEAT_SEND (R323). Every 20 µs a heartbeat is sent on the twin link. -/
  | heartbeatSend
  /-- HEARTBEAT_RECEIVE (R324). A peer heartbeat is judged valid; hb_valid sets after 10 and rejoin may follow. -/
  | heartbeatReceive (h : HbMsg) (lane : Fin 4) (e : Ecc)
  /-- HEARTBEAT_TIMEOUT (R324). 200 µs without a valid heartbeat clears hb_valid and the device goes solo. -/
  | heartbeatTimeout (arrived : Bool)
  /-- TWIN_TIME_MESSAGE (R332). A twin time message gives a two-way offset to the servo. -/
  | twinTimeMessage (off : TwinStamps) (m : Bool × TwinRx)
  /-- MIRROR_STATE_MESSAGE (R323). The owner's mirror loop state reaches the non-owner's warm copy. -/
  | mirrorStateMessage (n : Fin 8) (m : LoopMsg × TwinRx)
  /-- OVERLAP_MESSAGE (R334). An overlap cell's nearest range reaches the peer for cross-checking. -/
  | overlapMessage (chan : Fin 1536) (bank : Fin 64) (az : BitVec 20) (m : Option (BitVec 24) × TwinRx)
  /-- BULK_MESSAGE (R333). A bulk block lands in the mirror window or is dropped outside it. -/
  | bulkMessage (addr : Word64) (m : Flit × TwinRx)
  /-- EPOCH_MISMATCH (R333). Configuration epochs differing for 1 s raise twin-epoch-mismatch. -/
  | epochMismatch
  /-- TWIN_LANE_RETRAIN (R335). A write of a retrain bit retrains one twin lane, or a lane fails three replays. -/
  | twinLaneRetrain (lane : Fin 4) (write inStep : Bool)
  /-- TWIN_LANE_UP (R335). A retrained twin lane rejoins and twin-lane-retrain-done is raised. -/
  | twinLaneUp (lane : Fin 4)
  /-- MIRROR_HANDOFF (R331). A write of handoff on the owner names a sample for a planned change, or is refused. -/
  | mirrorHandoff (time : Word64)
  /-- MIRROR_HANDOFF_EXECUTE (R331). At the named sample the non-owner presets, asserts MIR_OWN and drives. -/
  | mirrorHandoffExecute
  /-- MIRROR_RELEASE (R330). An owner with no loop sample for 100 µs, or reset, releases MIR_OWN and its DACs. -/
  | mirrorRelease
  /-- MIRROR_TAKEOVER_WAIT (R331). MIR_OWN high for 50 µs after hb_valid cleared starts the unit delay. -/
  | mirrorTakeoverWait
  /-- MIRROR_TAKEOVER (R331). After the unit delay with MIR_OWN still high, the device presets, asserts MIR_OWN and drives. -/
  | mirrorTakeover (high : Bool)
  /-- HANDOVER_START (R336). A write of HUB_HO_CTL.start enters HANDOVER and powers the standby cluster. -/
  | handoverStart
  /-- HANDOVER_READY (R336). The standby cluster has booted, copied state and reports ready. -/
  | handoverReady
  /-- HANDOVER_SWITCH (R336). At the next cell boundary the new cluster becomes active. -/
  | handoverSwitch
  /-- HANDOVER_END (R336). 1 ms after the switch the mode returns to its base mode. -/
  | handoverEnd
  /-- HANDOVER_ABORT (R337). An image failure or no ready in 2 s aborts the handover. -/
  | handoverAbort (timeout readErr : Bool) (keyOk sigOk hashOk : Unit)
  /-- CLUSTER_WATCHDOG (R337). The active cluster's watchdog expires; handover switches at once or PILOT-LIGHT follows. -/
  | clusterWatchdog
  /-- SLICE_START (R338). A write of HUB_SLICE_CTL.start enters SCAN-SLICED or is denied. -/
  | sliceStart (tile : Fin 8) (action : Fin 4)
  /-- SLICE_ISOLATE (R338). At the next cell boundary the tile's cells drop with reason 7 and it is isolated. -/
  | sliceIsolate
  /-- SLICE_ACTION_DONE (R338). The slice's test, recalibration or microcode action ends. -/
  | sliceActionDone (passed : SliceOutcome) (tdcs : BitVec 276)
  /-- SLICE_REJOIN (R338). The tile is re-initialised and its registers restored, and the mode returns to base. -/
  | sliceRejoin
  /-- HK_ENABLE (R350). A write of HK_CTL.enable starts the engine, or is refused for a bad 3-wire entry. -/
  | hkEnable
  /-- HK_DISABLE (R350). A write of enable = 0 stops the engine at the end of the present phase. -/
  | hkDisable
  /-- HK_SW_TRIGGER (R349). A write of sw_trig starts a round, queues it or drops it. -/
  | hkSwTrigger
  /-- HK_TIMER_TRIGGER (R349). The round timer expires and triggers a round. -/
  | hkTimerTrigger
  /-- HK_PHASE_DONE (R347). A conversion phase's filter fills and its result loads. -/
  | hkPhaseDone (raw : BitVec 24) (overload : Bool)
  /-- HK_WIRE_BREAK (R355). A compliance loss of 10 µs is a wire break marking the result. -/
  | hkWireBreak (source : Fin 4)
  /-- SYNC_HK_EDGE (R351). A rising SYNC_HK edge clears both filter stages. -/
  | syncHkEdge
  /-- HK_CAL_START (R359). A write of HK_CAL_CMD.go starts a calibration after the running round. -/
  | hkCalStart (entry : Fin 16) (fullScale : Bool) (fsTarget : BitVec 24)
  /-- HK_CAL_DONE (R359). A calibration ends and its plausible result is applied or rejected. -/
  | hkCalDone (sum : BitVec 28)
  /-- CHIMNEY_MEASURE (R360). An electrode measurement completes and is classified under persistence. -/
  | chimneyMeasure (e : Fin 8) (c g : BitVec 31) (amp : BitVec 16)
  /-- CHIMNEY_REF_CAPTURE (R360). A write of ref_cap stores an electrode's next C and G as clean reference. -/
  | chimneyRefCapture (mask : BitVec 8)
  /-- THERMAL_ROUND (R365). Every round_ms one sample of each sensor updates states and the cross-check. -/
  | thermalRound (die : List (BitVec 16))
  /-- THERMAL_CLASS_STALE (R366). A class with no usable sensor for 1 s is a fault 0x0C. -/
  | thermalClassStale (k : Fin 4)
  /-- SNUFFER_TEMP_SAMPLE (R369). Snuffer samples its own sensors for the NVM window and thermal shutdown. -/
  | snufferTempSample (a b : BitVec 16)
  /-- LOOP_ENABLE (R371). A write of a loop's enable claims its output or is denied. -/
  | loopEnable (n : Fin 8) (on : Bool)
  /-- LOOP_SAMPLE (R370). A loop samples its input and updates its output under its law. -/
  | loopSample (n : Fin 8) (mirror : Word32)
  /-- LOOP_AUTO_SWITCH (R373). A change to auto presets the integrator bumplessly and starts the ramp from pv. -/
  | loopAutoSwitch (n : Fin 8)
  /-- LOOP_COMMIT (R375). A write of commit applies the shadow parameters at the next sample, or is rejected. -/
  | loopCommit (n : Fin 8)
  /-- LOOP_SATURATED (R376). An output pinned at a limit for 1 s raises loop-saturated. -/
  | loopSaturated (n : Fin 8)
  /-- LOOP_DEVIATION (R376). An error above dev_alarm for 1 s raises loop-deviation. -/
  | loopDeviation (n : Fin 8)
  /-- NVM_WRITE_SET (R382). A write of op 0b01 with go writes the staged field set into the inactive half. -/
  | nvmWriteSet
  /-- NVM_WRITE_DONE (R382). The commit marker is written, or the operation ends with an err. -/
  | nvmWriteDone (stopped verifyFail : Bool)
  /-- NVM_READ_RECORD (R384). A write of op 0b10 with go copies a loaded record into staging. -/
  | nvmReadRecord (type : BitVec 8) (index : Word16)
  /-- CAL_GO (R387). A write of CAL_CTL.go starts offset and skew calibration or is refused. -/
  | calGo (tiles : BitVec 6) (kind : Fin 4)
  /-- CAL_DONE (R388). Calibration ends and plausible results are written, others rejected. -/
  | calDone (results : List CalResult)
  /-- BIST_SLICE_DUE (R392). A slice is due each interval and starts or is deferred. -/
  | bistSliceDue (free : Bool)
  /-- BIST_SLICE_DONE (R393). A slice test ends; the block rejoins or stays isolated. -/
  | bistSliceDone (misr : Word64) (pass : Bool)
  /-- OVERFLOW_RECORD_ENTER (R403). A waiting event-ring-overflow record enters when a pop frees a slot. -/
  | overflowRecordEnter
  /-- CLAIM_RESERVE (R412). A write of reserve claims a resource for the host reservation. -/
  | claimReserve (ix : Fin 32)
  /-- CLAIM_RELEASE (R412). A write of release frees a host reservation. -/
  | claimRelease (ix : Fin 32)
  /-- BANK_LOAD_PEAK_CLR (R111). A write of peak_clr loads the bank's peak with present util. -/
  | bankLoadPeakClr (t : Fin 6) (b : Fin 16)
  /-- ECHO_LOAD_PEAK_CLR (R138). A write of peak_clr loads extraction's peak with present util. -/
  | echoLoadPeakClr
  /-- SAFETY_LOCKSTEP_MISMATCH (R293). The safety processor's lockstep pair disagrees, latching a fault with cause 0x03. -/
  | safetyLockstepMismatch
  /-- TWIN_LANE_LOSS (R324). A twin-link lane loses its signal; when all four lanes are lost the link is down and twin-link-down is raised. -/
  | twinLaneLoss (lane : Fin 4)
  /-- PCIE_ADVANCED_ERROR (R224). The device logs a PCIe advanced error and raises aer-correctable or aer-uncorrectable. -/
  | pcieAdvancedError (correctable : Bool)
  /-- FEC_UNCORRECTABLE_CODEWORD (R277). A port receives an uncorrectable FEC codeword, counting it, setting fec_seen and raising eth-fec-uncorrectable at most once per second. -/
  | fecUncorrectableCodeword (p : Fin 4)
  /-- TWIN_TIME_SEND (R323). Every 100 µs the device sends a two-way timestamp time message on the twin link. -/
  | twinTimeSend
  /-- MIRROR_STATE_SEND (R323). Every 100 µs the mirror owner sends its loop state to the non-owner. -/
  | mirrorStateSend (speed amplitude : Word32)
  /-- TRAINING_STEP_END (R242). A DRAM channel's periodic training step ends, releasing a data-rate change deferred during it. -/
  | trainingStepEnd (m : Fin 4)
  deriving DecidableEq, Repr

end Sys2Proof
end

