-- ==== Sys2Proof/Machine/Bits.lean ====
section
/-! DEFINITION. Number helpers of the model: byte orders (R7), signed fields, exact rounding, integer square roots and
the CRC checks the spec names. Everything is structural and evaluates on numerals. -/

namespace Sys2Proof.Machine

/-- 1 for true, 0 for false: a one-bit field. -/
def bit (b : Bool) : Nat := if b then 1 else 0

/-- Bits [lo + len - 1 : lo] of a number. -/
def bits (x lo len : Nat) : Nat := x / 2 ^ lo % 2 ^ len

/-- A counter that stops at `cap`. -/
def satAdd (cap x n : Nat) : Nat := Nat.min cap (x + n)

/-- A `len`-bit field read as two's complement. -/
def sx (len x : Nat) : Int := if x % 2 ^ len < 2 ^ (len - 1) then (x % 2 ^ len : Nat) else (x % 2 ^ len : Nat) - (2 ^ len : Nat)

/-- An integer as a two's complement field of `len` bits. -/
def toField (len : Nat) (x : Int) : Nat := (x % (2 ^ len : Nat)).toNat

/-- `x` held to the range [lo, hi]. -/
def clampI (lo hi x : Int) : Int := if x < lo then lo else if hi < x then hi else x

/-- `x` held to the range [lo, hi]. -/
def clampN (lo hi x : Nat) : Nat := if x < lo then lo else if hi < x then hi else x

/-- `n / d` rounded to the nearest integer, a half rounded to even. -/
def roundHalfEven (n : Int) (d : Nat) : Int :=
  let q := Int.fdiv n d
  let r := Int.fmod n d
  if 2 * r < d then q else if (d : Int) < 2 * r then q + 1 else if q % 2 = 0 then q else q + 1

/-- Integer square root, bit by bit from bit `k - 1`. -/
def isqrtGo (n : Nat) : Nat → Nat → Nat
  | 0, r => r
  | k + 1, r => let r' := r + 2 ^ k; if r' * r' ≤ n then isqrtGo n k r' else isqrtGo n k r

/-- Floor of the square root. -/
def isqrt (n : Nat) : Nat := isqrtGo n (Nat.log2 n / 2 + 1) 0

/-- `n` bytes of a number, the byte of bits [7:0] first (R7). -/
def toLE : Nat → Nat → List Byte
  | 0, _ => []
  | n + 1, x => BitVec.ofNat 8 (x % 256) :: toLE n (x / 256)

/-- A number from its bytes, the byte of bits [7:0] first. -/
def ofLE : List Byte → Nat
  | [] => 0
  | b :: t => b.toNat + 256 * ofLE t

/-- `n` bytes of a number in network byte order. -/
def toBE (n x : Nat) : List Byte := (toLE n x).reverse

/-- A number from its bytes in network byte order. -/
def ofBE (l : List Byte) : Nat := ofLE l.reverse

/-- One bit of a CRC register that shifts towards its most significant bit: `w` bits wide, generator `poly`. -/
def crcBitUp (w poly : Nat) (r : Nat) : Nat :=
  let s := (2 * r) % 2 ^ w
  if 2 ^ (w - 1) ≤ r then Nat.xor s poly else s

/-- One byte into a CRC register that takes the most significant bit first. -/
def crcByteUp (w poly r b : Nat) : Nat :=
  let r0 := Nat.xor r (b * 2 ^ (w - 8))
  let r1 := crcBitUp w poly (crcBitUp w poly (crcBitUp w poly (crcBitUp w poly r0)))
  crcBitUp w poly (crcBitUp w poly (crcBitUp w poly (crcBitUp w poly r1)))

/-- A CRC that takes every byte most significant bit first. -/
def crcUp (w poly init : Nat) (l : List Byte) : Nat := l.foldl (fun r b => crcByteUp w poly r b.toNat) init

/-- One bit of a reflected CRC register (least significant bit first), with the reflected generator. -/
def crcBitDown (rpoly r : Nat) : Nat := if r % 2 = 1 then Nat.xor (r / 2) rpoly else r / 2

/-- One byte into a reflected CRC register. -/
def crcByteDown (rpoly r b : Nat) : Nat :=
  let r0 := Nat.xor r b
  let r1 := crcBitDown rpoly (crcBitDown rpoly (crcBitDown rpoly (crcBitDown rpoly r0)))
  crcBitDown rpoly (crcBitDown rpoly (crcBitDown rpoly (crcBitDown rpoly r1)))

/-- A reflected CRC over bytes. -/
def crcDown (rpoly init : Nat) (l : List Byte) : Nat := l.foldl (fun r b => crcByteDown rpoly r b.toNat) init

/-- The modular comparison of R165 on a field of `w` bits: `a` is at or after `b`. -/
def modGe (w a b : Nat) : Bool := decide ((a + 2 ^ w - b % 2 ^ w) % 2 ^ w < 2 ^ (w - 1))

/-- How much later device time `t` is than `u`, by the modular comparison of R165; negative where it is earlier. -/
def laterThan (t u : Nat) : Int := sx 64 (t + 2 ^ 64 - u % 2 ^ 64)

/-- The list with repeats left out, first occurrences kept. -/
def uniq : List Nat → List Nat
  | [] => []
  | a :: l => a :: (uniq l).filter (fun b => !(b == a))

/-- A natural number from its bits, least significant first. -/
def ofBits : List Bool → Nat
  | [] => 0
  | b :: t => bit b + 2 * ofBits t

/-- Inserts into an ascending list. -/
def insertAsc (x : Int) : List Int → List Int
  | [] => [x]
  | y :: l => if x ≤ y then x :: y :: l else y :: insertAsc x l

/-- Twice the median (R368): that of an even count is the mean of the middle two. -/
def median2 (l : List Int) : Int :=
  let a := l.foldl (fun acc x => insertAsc x acc) []
  let n := a.length
  if n % 2 = 1 then 2 * a.getD (n / 2) 0 else a.getD (n / 2 - 1) 0 + a.getD (n / 2) 0

/-- An on-die reading in 0.1 °C; outside -55 °C to +150 °C it is absent (R365). -/
def dieSample (t : Int) : Option Int := if -550 ≤ t ∧ t ≤ 1500 then some t else none

end Sys2Proof.Machine
end

