-- ==== Sys2Proof/Machine/Crypto.lean ====
section
/-! DEFINITION. The cryptographic checks of an image (R305, R306): SHA-384 and the verification of an ECDSA P-384 signature, of FIPS 180-4 and
FIPS 186-5, which R305 names. -/

namespace Sys2Proof.Machine

/-- Bytes as a big-endian number, as the two standards read them. -/
def beNat (l : List Byte) : Nat := l.foldl (fun n b => 256 * n + b.toNat) 0

/-- The working variables of SHA-384 (FIPS 180-4). -/
structure ShaWork where
  a : Nat
  b : Nat
  c : Nat
  d : Nat
  e : Nat
  f : Nat
  g : Nat
  h : Nat

/-- A 64-bit word turned right by `n` bits. -/
def shaRot (x n : Nat) : Nat := x / 2 ^ n + x % 2 ^ n * 2 ^ (64 - n)

/-- The round constants: the first 64 bits of the fractions of the cube roots of the first 80 primes. -/
def shaConst : List Nat :=
  [0x428a2f98d728ae22, 0x7137449123ef65cd, 0xb5c0fbcfec4d3b2f, 0xe9b5dba58189dbbc] ++
  [0x3956c25bf348b538, 0x59f111f1b605d019, 0x923f82a4af194f9b, 0xab1c5ed5da6d8118] ++
  [0xd807aa98a3030242, 0x12835b0145706fbe, 0x243185be4ee4b28c, 0x550c7dc3d5ffb4e2] ++
  [0x72be5d74f27b896f, 0x80deb1fe3b1696b1, 0x9bdc06a725c71235, 0xc19bf174cf692694] ++
  [0xe49b69c19ef14ad2, 0xefbe4786384f25e3, 0x0fc19dc68b8cd5b5, 0x240ca1cc77ac9c65] ++
  [0x2de92c6f592b0275, 0x4a7484aa6ea6e483, 0x5cb0a9dcbd41fbd4, 0x76f988da831153b5] ++
  [0x983e5152ee66dfab, 0xa831c66d2db43210, 0xb00327c898fb213f, 0xbf597fc7beef0ee4] ++
  [0xc6e00bf33da88fc2, 0xd5a79147930aa725, 0x06ca6351e003826f, 0x142929670a0e6e70] ++
  [0x27b70a8546d22ffc, 0x2e1b21385c26c926, 0x4d2c6dfc5ac42aed, 0x53380d139d95b3df] ++
  [0x650a73548baf63de, 0x766a0abb3c77b2a8, 0x81c2c92e47edaee6, 0x92722c851482353b] ++
  [0xa2bfe8a14cf10364, 0xa81a664bbc423001, 0xc24b8b70d0f89791, 0xc76c51a30654be30] ++
  [0xd192e819d6ef5218, 0xd69906245565a910, 0xf40e35855771202a, 0x106aa07032bbd1b8] ++
  [0x19a4c116b8d2d0c8, 0x1e376c085141ab53, 0x2748774cdf8eeb99, 0x34b0bcb5e19b48a8] ++
  [0x391c0cb3c5c95a63, 0x4ed8aa4ae3418acb, 0x5b9cca4f7763e373, 0x682e6ff3d6b2b8a3] ++
  [0x748f82ee5defb2fc, 0x78a5636f43172f60, 0x84c87814a1f0ab72, 0x8cc702081a6439ec] ++
  [0x90befffa23631e28, 0xa4506cebde82bde9, 0xbef9a3f7b2c67915, 0xc67178f2e372532b] ++
  [0xca273eceea26619c, 0xd186b8c721c0c207, 0xeada7dd6cde0eb1e, 0xf57d4f7fee6ed178] ++
  [0x06f067aa72176fba, 0x0a637dc5a2c898a6, 0x113f9804bef90dae, 0x1b710b35131c471b] ++
  [0x28db77f523047d84, 0x32caab7b40c72493, 0x3c9ebe0a15c9bebc, 0x431d67c49c100d4c] ++
  [0x4cc5d4becb3e42b6, 0x597f299cfc657e2a, 0x5fcb6fab3ad6faec, 0x6c44198c4a475817]

/-- The initial hash: the first 64 bits of the fractions of the square roots of the ninth to sixteenth prime. -/
def shaInit : ShaWork :=
  ⟨0xcbbb9d5dc1059ed8, 0x629a292a367cd507, 0x9159015a3070dd17, 0x152fecd8f70e5939,
   0x67332667ffc00b31, 0x8eb44a8768581511, 0xdb0c2e0d64f98fa7, 0x47b5481dbefa4fa4⟩

/-- The next word of the message schedule, of the sixteen before it. -/
def shaSched (w : List Nat) : Nat :=
  let x := w.getD 1 0
  let y := w.getD 14 0
  (w.getD 0 0 + Nat.xor (Nat.xor (shaRot x 1) (shaRot x 8)) (x / 2 ^ 7) + w.getD 9 0 +
    Nat.xor (Nat.xor (shaRot y 19) (shaRot y 61)) (y / 2 ^ 6)) % 2 ^ 64

/-- One round, with the words of the schedule from its own on. -/
def shaRound (s : ShaWork × List Nat) (k : Nat) : ShaWork × List Nat :=
  let v := s.1
  let ch := Nat.xor (Nat.land v.e v.f) (Nat.land (2 ^ 64 - 1 - v.e) v.g)
  let t1 := v.h + Nat.xor (Nat.xor (shaRot v.e 14) (shaRot v.e 18)) (shaRot v.e 41) + ch + k + s.2.headD 0
  let maj := Nat.xor (Nat.xor (Nat.land v.a v.b) (Nat.land v.a v.c)) (Nat.land v.b v.c)
  let t2 := Nat.xor (Nat.xor (shaRot v.a 28) (shaRot v.a 34)) (shaRot v.a 39) + maj
  (⟨(t1 + t2) % 2 ^ 64, v.a, v.b, v.c, (v.d + t1) % 2 ^ 64, v.e, v.f, v.g⟩, s.2.tail ++ [shaSched s.2])

/-- The hash after one block of 16 words. -/
def shaBlock (v : ShaWork) (w : List Nat) : ShaWork :=
  let x := (shaConst.foldl shaRound (v, w)).1
  let m := 2 ^ 64
  ⟨(v.a + x.a) % m, (v.b + x.b) % m, (v.c + x.c) % m, (v.d + x.d) % m, (v.e + x.e) % m, (v.f + x.f) % m, (v.g + x.g) % m, (v.h + x.h) % m⟩

/-- The padded message: a one bit, zeros, and the length in bits as a 128-bit number. -/
def shaPad (l : List Byte) : List Byte :=
  l ++ [0x80] ++ List.replicate ((239 - l.length % 128) % 128) 0 ++ (toLE 16 (8 * l.length)).reverse

/-- The hash over the blocks of a padded message of at most `n` blocks. -/
def shaBlocks : Nat → ShaWork → List Byte → ShaWork
  | 0, v, _ => v
  | n + 1, v, l =>
    if l.isEmpty then v
    else shaBlocks n (shaBlock v ((List.range 16).map (fun i => beNat ((l.drop (8 * i)).take 8)))) (l.drop 128)

/-- SHA-384 of a message, as a big-endian number. -/
def sha384 (l : List Byte) : Nat :=
  let p := shaPad l
  let v := shaBlocks (p.length / 128) shaInit p
  ((((v.a * 2 ^ 64 + v.b) * 2 ^ 64 + v.c) * 2 ^ 64 + v.d) * 2 ^ 64 + v.e) * 2 ^ 64 + v.f

/-- The field, the order, the coefficient b and the base point of P-384. -/
def p384P : Nat := 2 ^ 384 - 2 ^ 128 - 2 ^ 96 + 2 ^ 32 - 1
def p384N : Nat := 0xffffffffffffffffffffffffffffffffffffffffffffffffc7634d81f4372ddf581a0db248b0a77aecec196accc52973
def p384B : Nat := 0xb3312fa7e23ee7e4988e056be3f82d19181d9c6efe8141120314088f5013875ac656398d8a2ed19d2a85c8edd3ec2aef
def p384X : Nat := 0xaa87ca22be8b05378eb1c71ef320ad746e1d3b628ba79b9859f741e082542a385502f25dbf55296c3a545e3872760ab7
def p384Y : Nat := 0x3617de4a96262c6f5d9e98bf9292dc29f8f41dbd289a147ce9da3113b5f0b8c00a60b1ce1d7e819d7a431d7c90ea0e5f

/-- Difference and product in the field. -/
def p384Sub (a b : Nat) : Nat := (a + p384P - b % p384P) % p384P
def p384Mul (a b : Nat) : Nat := a * b % p384P

/-- A point in Jacobian coordinates; z = 0 at infinity. -/
structure JPoint where
  x : Nat
  y : Nat
  z : Nat

/-- Twice a point. -/
def JPoint.double (q : JPoint) : JPoint :=
  let y2 := p384Mul q.y q.y
  let s := 4 * p384Mul q.x y2 % p384P
  let z2 := p384Mul q.z q.z
  let m := 3 * p384Mul (p384Sub q.x z2) (q.x + z2) % p384P
  let x := p384Sub (p384Mul m m) (2 * s)
  ⟨x, p384Sub (p384Mul m (p384Sub s x)) (8 * p384Mul y2 y2), 2 * p384Mul q.y q.z % p384P⟩

/-- The sum of two points. -/
def JPoint.add (a b : JPoint) : JPoint :=
  if a.z = 0 then b
  else if b.z = 0 then a
  else
    let za := p384Mul a.z a.z
    let zb := p384Mul b.z b.z
    let u := p384Mul a.x zb
    let s := p384Mul a.y (p384Mul zb b.z)
    let h := p384Sub (p384Mul b.x za) u
    let r := p384Sub (p384Mul b.y (p384Mul za a.z)) s
    if h = 0 then (if r = 0 then a.double else ⟨1, 1, 0⟩)
    else
      let h2 := p384Mul h h
      let h3 := p384Mul h2 h
      let v := p384Mul u h2
      let x := p384Sub (p384Mul r r) (h3 + 2 * v)
      ⟨x, p384Sub (p384Mul r (p384Sub v x)) (p384Mul s h3), p384Mul h (p384Mul a.z b.z)⟩

/-- `i` × `p` + `j` × `q`, over the `n` low bits of `i` and `j`; `pq` is `p` + `q`. -/
def JPoint.comb (p q pq : JPoint) (i j : Nat) : Nat → JPoint
  | 0 => ⟨1, 1, 0⟩
  | n + 1 =>
    let d := (JPoint.comb p q pq (i / 2) (j / 2) n).double
    if i % 2 = 1 then (if j % 2 = 1 then d.add pq else d.add p) else if j % 2 = 1 then d.add q else d

/-- A power modulo `m`, over the `n` low bits of the exponent. -/
def powMod (m b e : Nat) : Nat → Nat
  | 0 => 1
  | n + 1 => let r := powMod m (b * b % m) (e / 2) n; if e % 2 = 1 then r * b % m else r

/-- Is (r, s) a signature of the hash `e` by the public key (x, y) (FIPS 186-5, over P-384)? -/
def ecdsaOk (x y e r s : Nat) : Bool :=
  let on := decide (x < p384P ∧ y < p384P) && decide (p384Mul y y = p384Sub (p384Mul (p384Mul x x) x + p384B) (3 * x))
  let fit := decide (1 ≤ r ∧ r < p384N) && decide (1 ≤ s ∧ s < p384N)
  let w := powMod p384N s (p384N - 2) 384
  let g : JPoint := ⟨p384X, p384Y, 1⟩
  let q : JPoint := ⟨x, y, 1⟩
  let c := JPoint.comb g q (g.add q) (e * w % p384N) (r * w % p384N) 384
  let zi := powMod p384P c.z (p384P - 2) 384
  on && fit && !(c.z == 0) && decide (p384Mul c.x (p384Mul zi zi) % p384N = r)

end Sys2Proof.Machine
end

