-- ==== Sys2Proof/Config.lean ====
section
/-! DEFINITION. What one part fixes and the spec leaves open, and the free values. A constant without a body is a free
value: nothing in Lean can evaluate it or prove a value of it, and a claim about it holds for every value. -/

namespace Sys2Proof.Config

/-- HUB_UID of this part, less 1 (R407: per part, from one-time-programmable memory, never 0 and never all ones). UNVERIFIED; log entry
3. -/
opaque uidPred : Fin (18446744073709551613 + 1)

/-- HUB_UID of this part. -/
def uid : BitVec 64 := BitVec.ofNat 64 (uidPred.val + 1)

/-- HUB_SVN_FLOOR as this part stands in one-time-programmable memory at power-up (R407: per part). Log entry 3. -/
opaque svnFloor : BitVec 32

/-- The straps SB_ADDR_1 and SB_ADDR_0 of this part's board (R222): pins, per board. Log entry 172. -/
opaque sbAddr : BitVec 2

/-- A fresh free value for every use: applied to the counter `State.freeCtr`, which each use advances (R9). Log entry 4. -/
opaque freeValue : Nat → BitVec 64

/-- The amplitude (azimuth LSB), frequency (2⁻⁴⁸ turns in a unit of device time) and phase (2⁻⁴⁸ turns, at the sample) of a resonant
MEMS mirror as measured up to the position sample at a time with a count (R64): the spec does not say how they are measured. Log
entry 11. -/
opaque memsAmplitude : Nat → Nat → BitVec 20
opaque memsFrequency : Nat → Nat → BitVec 48
opaque memsPhase : Nat → Nat → BitVec 48

/-- The sine of an angle in 2⁻⁴⁸ turns, as a signed fraction with 20 bits after the point (R64): the spec gives no arithmetic for it.
Log entry 11. -/
opaque sine : Nat → BitVec 22

/-- The azimuth of the phase model, 20 bits, while nothing has been measured (R64), at a device time. Log entry 11. -/
opaque unmeasuredAzimuth : Nat → BitVec 20

/-- The bin centre that a capture unit uses for a raw code before a code-density record is loaded for it (R85, R89): the spec
gives no table. Log entry 24. -/
opaque cdtCentre : Nat → Nat → BitVec 16

/-- The source port identifier (R17, R34) of a reader inside the device: memory port p for p below 8, echo extraction 8, the cell
store 9, a tile's histogram engine 10, the receiver of Jexannar link l 11 + l, the fire timing generator 33, frame validation 34,
Shade 35, the safety processor's zone engine 36. The spec gives no numbers. Log entry 30. -/
opaque portId : Nat → BitVec 16

/-- The syndrome that the decoder finds for a test injection of `n` bits in the word at an address (R29, R34): the spec does not
give the code's matrix. Log entry 31. -/
opaque syndrome : Nat → Nat → BitVec 16

/-- Does the step of 256 that breathe takes at a time in its period, both in ns, lie above (1 - cos 2πφ) ÷ 2 where that is no step (R319)?
The spec does not say how it is rounded to steps. Log entry 32. -/
opaque breatheUp : Nat → Nat → Bool

/-- The configuration set that firmware sends the peer at a configuration epoch (R333): offsets in the mirror window, multiples of 32, with
the 32 bytes that go there as one number. The spec does not list the set. Log entry 223. -/
opaque mirrorSet : Nat → List (BitVec 24 × BitVec 256)

/-- The key hash in this part's one-time-programmable memory (R306: per part). Log entry 3. -/
opaque keyHash : BitVec 384

/-- The self-test signatures in this stepping's mask ROM (R389, R391): blocks of the hub 0 to 13, tiles 14 to 19, slices 20 to 37. The spec
gives no values. Log entry 218. -/
opaque romSignature : Nat → BitVec 64

end Sys2Proof.Config
end

