-- ==== Sys2Proof/Machine/Blocks.lean ====
section
/-! DEFINITION. More parts of the state that no register shows, as plain data: device memory, Ethernet, indicators,
housekeeping, thermal management and the control engine (chapters 8, 9, 11, 13 and 14). -/

namespace Sys2Proof.Machine

/-- A request of a memory port (R233 to R236): its port, device memory address, whether it writes, device time of its entry
into the port, its tag instance once it holds one (R35), and whether it has completed (a write may, while it is queued). -/
structure MemReq where
  port : Fin 8
  d : Nat
  write : Bool
  entered : Nat
  inst : Option Nat
  done : Bool
  deriving DecidableEq, Repr

/-- Device memory outside its registers and its contents (chapter 8). Banks are keyed by 16 m + bank. -/
structure MemSt where
  /-- The channels of the map in ascending number (R231), stripes per channel, and the place in that list of the channel that
  is or has been retired (R246). -/
  chs : List Nat
  stripes : Nat
  retIx : Option Nat
  /-- Bank queues in order of entry, requests that wait in their ports, reads that have been issued. -/
  queues : List (Nat × List MemReq)
  waiting : List MemReq
  flight : List MemReq
  /-- Open row, row hits served in a row, blocked by a refresh until, owed refreshes (R235, R238, R239). -/
  rows : List (Nat × Option Nat)
  hits : List (Nat × Nat)
  blocked : List (Nat × Nat)
  owed : List (Nat × Nat)
  /-- The check chunks of the open row that a bank's cache holds: number, and whether it is still to be written back (R228). -/
  checks : List (Nat × List (Nat × Bool))
  /-- Per channel: bank served last, inside a training step, failed periodic steps in a row, stored settings of the three set
  points (R241), correctable errors in this second (R245). -/
  last : List Nat
  stepOn : List Bool
  fails : List Nat
  trained : List (List Nat)
  ceSec : List Nat
  /-- The requested set point (R242). -/
  target : Option Nat
  /-- When mem-latency-miss (per port), mem-refresh-limit (per channel) and mem-extent-violation were last raised. -/
  missAt : List (Option Nat)
  limitAt : List (Option Nat)
  extentAt : Option Nat
  /-- The size of the HDM decoder: the usable extent at the end of BOOT (R249). -/
  hdmSize : Nat
  deriving DecidableEq, Repr

def MemSt.init : MemSt where
  chs := []
  stripes := 0
  retIx := none
  queues := []
  waiting := []
  flight := []
  rows := []
  hits := []
  blocked := []
  owed := []
  checks := []
  last := List.replicate 4 0
  stepOn := List.replicate 4 false
  fails := List.replicate 4 0
  trained := List.replicate 4 [0, 0, 0]
  ceSec := List.replicate 4 0
  target := none
  missAt := List.replicate 8 none
  limitAt := List.replicate 4 none
  extentAt := none
  hdmSize := 0

/-- What a transmitted frame is (R257). -/
inductive FrameKind where
  /-- A QSL frame of a connection (R269), an export frame (R268). -/
  | qsl (c : Nat)
  | exported (x : Nat)
  /-- A gPTP Sync, one-step or not, and a Follow_Up (R266): their bytes are those of IEEE 802.1AS. -/
  | sync (oneStep : Bool)
  | followUp
  /-- A Pdelay_Req, and the two messages that answer one (R266). -/
  | delayReq
  | delayResp
  | delayFollowUp
  deriving DecidableEq, Repr

/-- A frame in a transmit queue: its kind, its length with the FCS, its bytes without the FCS (none for gPTP), the device time
it carries (gPTP). -/
structure TxFrame where
  kind : FrameKind
  len : Nat
  bytes : List Byte
  time : Nat
  deriving DecidableEq, Repr

/-- One Ethernet port outside its registers (R253 to R262, R266). -/
structure EthPort where
  /-- A change of mode or a retrain that waits for an adaptation step (R255); the port retrains (R256); the stored equaliser set
  points by mode, and the one in use. -/
  defMode : Bool
  defRetrain : Bool
  retraining : Bool
  /-- The mode that the lane runs: that of the register, but for a change that waits (R255). -/
  live : Nat
  eqStored : List Nat
  eqNow : Nat
  /-- Transmit queues; credit of each shaper in units of 2^-16 ns times 1 Mb/s, and when it was last brought up to date. -/
  queues : List (List TxFrame)
  credit : List Int
  creditAt : List Nat
  /-- The operative list's length, cycle time in ns, the start of the present cycle, of the present entry, and that entry. -/
  operLen : Nat
  operCycle : Nat
  cycleAt : Nat
  entryAt : Nat
  entry : Nat
  /-- The pending change: its time, length and cycle time (R260). -/
  change : Option (Nat × Nat × Nat)
  sduAt : Option Nat
  fecAt : Option Nat
  /-- The timestamps of the last gPTP event message received and sent (R266). -/
  ptpRx : Nat
  ptpTx : Nat
  /-- The bytes that the receive buffer holds of gPTP and QSL frames, and of others (R258). -/
  rxOwn : Nat
  rxOther : Nat
  deriving DecidableEq, Repr

def EthPort.init : EthPort where
  defMode := false
  defRetrain := false
  retraining := false
  live := 0
  eqStored := List.replicate 8 0
  eqNow := 0
  queues := List.replicate 8 []
  credit := List.replicate 8 0
  creditAt := List.replicate 8 0
  operLen := 1
  operCycle := 0
  cycleAt := 0
  entryAt := 0
  entry := 0
  change := none
  sduAt := none
  fecAt := none
  ptpRx := 0
  ptpTx := 0
  rxOwn := 0
  rxOther := 0

/-- Sequence recovery of one stream (R264): destination address and VID, the recovery sequence number, the history from that
number down, whether any number is taken next, and the consecutive frames that port A and port B delivered while the other
delivered none. -/
structure FrerStream where
  dst : Nat
  vid : Nat
  recov : Nat
  hist : List Bool
  takeAny : Bool
  runA : Nat
  runB : Nat
  deriving DecidableEq, Repr

/-- A QSL transmit connection (R272): the committed payload, seq of the last frame, its R-TAG number. -/
structure QslTx where
  payload : List Byte
  seq : Nat
  rtag : Nat
  deriving DecidableEq, Repr

/-- A QSL receive connection (R273 to R275, R287): check failures in a row, and when a channel last found a mismatch. -/
structure QslRx where
  crcRun : Nat
  mismatchAt : Option Nat
  deriving DecidableEq, Repr

/-- An export (R267, R268): frame sequence number, R-TAG number, packets of its ring dropped when its last frame was queued. -/
structure ExportSt where
  seq : Nat
  rtag : Nat
  deriving DecidableEq, Repr

/-- Ethernet, TSN and QSL outside their registers (chapter 9). -/
structure EthSt where
  ports : List EthPort
  /-- Token buckets of the stream filters that are not full: tokens in units of 2^-16 ns times 1 Mb/s, and their time (R263). -/
  meters : List (Nat × Option (Nat × Nat))
  psfpAt : Option Nat
  frer : List FrerStream
  qtx : List QslTx
  qrx : List QslRx
  unknownAt : Option Nat
  exports : List ExportSt
  deriving DecidableEq, Repr

def EthSt.init : EthSt where
  ports := List.replicate 4 EthPort.init
  meters := []
  psfpAt := none
  frer := []
  qtx := List.replicate 8 ⟨List.replicate 64 0, 0, 0⟩
  qrx := List.replicate 8 ⟨0, none⟩
  unknownAt := none
  exports := List.replicate 4 ⟨0, 0⟩

/-- The indicator engine outside its registers (R318 to R321): the eight configurations in effect, as IND_n_CFG words, and the
pending apply: its time and the shadows it takes. -/
structure IndSt where
  active : List Nat
  apply : Option (Nat × List Nat)
  deriving DecidableEq, Repr

def IndSt.init : IndSt := ⟨List.replicate 8 0, none⟩

/-- A result that waits for the end of its round (R346): its entry, calibrated code and marks, and the settings of its conversion. -/
structure HkResult where
  entry : Nat
  code : Int
  ovr : Bool
  broken : Bool
  fb : Bool
  good : Bool
  snap : List Nat
  deriving DecidableEq, Repr

/-- Housekeeping outside its registers (R346 to R359). -/
structure HkSt where
  /-- Are modulator and reference powered (R348)? -/
  powered : Bool
  /-- When step 2 of the phase that runs begins, as long as its settings are not latched (R347, R350). -/
  latchAt : Option Nat
  /-- The results of the round so far, in order: they load once it has converted its entries (R346). -/
  pend : List HkResult
  /-- Per entry: the latest valid value (R361). -/
  latest : List (Option Int)
  /-- The phase that runs: entry and phase number; 0 is the first. -/
  run : Option (Nat × Nat)
  /-- What the round has latched: seq_len_m1, osr_r, min_phase (R350). -/
  round : Nat × Nat × Nat
  /-- What the entry's phase has latched at its step 2: the words of HK_SEQ_i_CFG, HK_SEQ_i_TIM, HK_THR_i and HK_CAL_i (R350). -/
  snap : List Nat
  /-- Phase codes of the conversion so far, and whether one was over-range. -/
  codes : List Int
  ovr : Bool
  /-- Current sources whose break marks the next result (R355), and the entry converted last. -/
  breaks : List Nat
  lastEntry : Nat
  /-- Per entry: conversions since enable or since the fall-back began; in fall-back (R356); the latest valid value since enable
  (R357), and whether it has loaded since the last thermal round (R365). -/
  count : List Nat
  fallback : List Bool
  value : List (Option Int)
  newValue : List Bool
  /-- The calibration that waits or runs: entry, kind, fs_target (R359), and whether it runs. -/
  cal : Option (Nat × Nat × Nat)
  calRuns : Bool
  /-- enable has been cleared during the present phase (R350). -/
  stopping : Bool
  /-- When the filter of the present phase was last cleared (R351). -/
  filterAt : Nat
  deriving DecidableEq, Repr

def HkSt.init : HkSt where
  powered := false
  latchAt := none
  pend := []
  latest := List.replicate 16 none
  run := none
  round := (0, 1250, 0)
  snap := []
  codes := []
  ovr := false
  breaks := []
  lastEntry := 0
  count := List.replicate 16 0
  fallback := List.replicate 16 false
  value := List.replicate 16 none
  newValue := List.replicate 16 false
  cal := none
  calRuns := false
  stopping := false
  filterAt := 0

/-- The Chimney monitor outside its registers (R360 to R362): per electrode the clean reference (C in 0.01 fF, G in pS), and the
class that has begun to differ from the reported state with its run of measurements. -/
structure ChmSt where
  refs : List (Int × Int)
  cand : List (Nat × Nat)
  deriving DecidableEq, Repr

def ChmSt.init : ChmSt := ⟨List.replicate 8 (0, 0), List.replicate 8 (0, 0)⟩

/-- One thermal sensor outside its register (R366, R368): its runs at or above warning, throttle and shutdown, the states held as
a mask, samples in a row away from its neighbours' median and near it. -/
structure ThmSens where
  runs : List Nat
  held : Nat
  far : Nat
  near : Nat
  deriving DecidableEq, Repr

def ThmSens.init : ThmSens := ⟨[0, 0, 0], 0, 0, 0⟩

/-- Thermal management outside its registers: the sensors; Snuffer's own samples taken, its run outside the NVM window, its runs
at or above shutdown per sensor, and whether it holds shutdown (R367, R369). -/
structure ThmSt where
  sens : List ThmSens
  nvmTaken : Nat
  nvmRun : Nat
  snfRuns : List Nat
  snfHeld : List Bool
  deriving DecidableEq, Repr

def ThmSt.init : ThmSt := ⟨List.replicate 38 ThmSens.init, 0, 0, [0, 0], [false, false]⟩

/-- One control loop outside its registers (R370 to R376), numbers as binary32 words: the parameters in effect, the output it has
claimed, the derivative state, the last input, the parameters of a commit that waits, whether the next sample presets the
integrator, and whether it starts the working set point from pv. -/
structure LoopSt where
  pars : List Nat
  claimed : Option Nat
  deriv : Nat
  pvPrev : Option Nat
  commit : Option (List Nat)
  preset : Bool
  restart : Bool
  deriving DecidableEq, Repr

def LoopSt.init : LoopSt := ⟨[0, 0, 0, 0, 0, 0, 0x3F800000, 0, 0, 0, 0, 0], none, 0, none, none, false, false⟩

end Sys2Proof.Machine
end

