-- ==== Sys2Proof/Machine/Data.lean ====
section
/-! DEFINITION. The parts of the state that no register shows, block by block, as plain data. Whatever a register shows
has its only home in the register file (State.regs). -/

namespace Sys2Proof.Machine

/-- A message in a Jexannar receiver's buffer (R17, R18): virtual channel, flits, type, for a request what it addresses and the
words it asks for, header, data, whether it has been served, and whether its header was uncorrectable, so that an error response
goes out in its place (R33). -/
structure JexMsg where
  vc : Nat
  flits : Nat
  msgType : Nat
  space : JexSpace
  words : Nat
  hdr : JexHdr
  data : List Flit
  served : Bool
  refused : Bool
  deriving DecidableEq, Repr

/-- What a receiver does with the replay of a message whose header was uncorrectable (R33): nothing of the kind is due, a request is
not executed, or the message is discarded. -/
inductive Replayed where
  | asUsual | requestOff | anyOff
  deriving DecidableEq, Repr

/-- One Jexannar link (R16 to R19): declared down, failed receptions of the present flit, the sender's replay under way,
the credits the sender holds for VC 0 to 3, the messages in the receiver's buffer, what the replay of a failed header brings, and the
sender's replay buffer of 64 flits, newest first. -/
structure JexLink where
  down : Bool
  failed : Nat
  replay : Bool
  accepted : Nat
  credits : List Nat
  rx : List JexMsg
  next : Replayed
  sent : List Flit
  deriving DecidableEq, Repr

/-- A link after reset: every receiver buffer empty, so every credit is held (R18). -/
def JexLink.init : JexLink := ⟨false, 0, false, 0, [16, 16, 64, 8], [], .asUsual, []⟩

/-- An operation in flight: its tag and tag instance (R35, R37), its requester class, what it acts on, its requester's port. -/
structure Op where
  tag : Nat
  inst : Nat
  cls : Fin 8
  target : Target
  port : Nat
  deriving DecidableEq, Repr

/-- A requester that waits for a tag (R35). -/
structure Waiter where
  cls : Fin 8
  target : Target
  port : Nat
  deriving DecidableEq, Repr

/-- The hub's own state outside the registers. `cut`: by requester class, the limit that a cut has left below the tags held (R36).
`claimClb`: the firmware that last claimed the statistics engine runs on cluster B (R412). -/
structure HubSt where
  links : List JexLink
  ops : List Op
  waiters : List Waiter
  nextInst : Nat
  late : Nat
  isolated : List Domain
  logFull : Bool
  injected : List (Nat × Nat × Nat)
  cut : List (Option Nat)
  claimClb : Bool
  deriving DecidableEq, Repr

def HubSt.init : HubSt := ⟨List.replicate 22 JexLink.init, [], [], 0, 0, [], false, [], List.replicate 8 none, false⟩

/-- One event record in the ring (R213); coalesced is count > 1. -/
structure EvRec where
  time : Nat
  src : Nat
  pri : Nat
  loss : Bool
  count : Nat
  seq : Nat
  info0 : Nat
  info1 : Nat
  deriving DecidableEq, Repr

/-- The event system outside its registers: the ring in order of entry, the overflow record that waits (R403), whether
the next record to enter carries the loss flag, whether event-ring-overflow has been raised for this filling, the raises
that an insertion leaves due, and the holding copy of each port's pop window (R212). -/
structure EvSt where
  ring : List EvRec
  waiting : Option EvRec
  lossNext : Bool
  filling : Bool
  ovfDue : Bool
  wmDue : Bool
  hold : List (List Byte)
  deriving DecidableEq, Repr

def EvSt.init : EvSt := ⟨[], none, false, false, false, false, List.replicate 5 (List.replicate 32 0)⟩

/-- The holding and staging registers of one access port (R178 to R180). -/
structure PortSt where
  holdAddr : Option Nat
  hold : Nat
  stageAddr : Option Nat
  stage : Nat
  deriving DecidableEq, Repr

def PortSt.init : PortSt := ⟨none, 0, none, 0⟩

/-- Where a fetched descriptor stands (R195 to R204). -/
inductive DescSt where
  | fetched
  | running
  /-- A COPY or FILL that has moved so many bytes. -/
  | moving (moved : Nat)
  | waiting (time : Nat)
  | done (status result : Nat)
  deriving DecidableEq, Repr

/-- A fetched descriptor: its 64 bytes as one number, little-endian (R194), its tag instance, its state, and whether it has started
to execute (R199). -/
structure Desc where
  words : Nat
  inst : Nat
  st : DescSt
  started : Bool
  deriving DecidableEq, Repr

/-- A submission ring outside its registers: the tail last accepted (R193), the fetched descriptors in ring order, the
descriptors a flush has discarded (R204), the rounds of R198's deficit. -/
structure SqSt where
  tail : Nat
  descs : List Desc
  discarded : Nat
  deficit : Int
  deriving DecidableEq, Repr

def SqSt.init : SqSt := ⟨0, [], 0, 0⟩

/-- A completion ring outside its registers: the head the host has returned to (R202), entries since the last notice. -/
structure CqSt where
  head : Nat
  unnoticed : Nat
  fullNow : Bool
  deriving DecidableEq, Repr

def CqSt.init : CqSt := ⟨0, 0, false⟩

/-- A point ring outside its registers: flush generation, truncated flag of the next head word (R208, R211), packets since
the last notice (R209), whether head has moved since the head word was written, and whether the ring is full (R206). -/
structure PrSt where
  flushGen : Nat
  truncNext : Bool
  unnoticed : Nat
  headMoved : Bool
  fullNow : Bool
  /-- A packet was dropped since the ring's last export frame (R268). -/
  lossNext : Bool
  deriving DecidableEq, Repr

def PrSt.init : PrSt := ⟨0, false, 0, false, false, false⟩

/-- The host side outside the registers. -/
structure HostSt where
  sq : List (Nat × SqSt)
  cq : List (Nat × CqSt)
  pr : List (Nat × PrSt)
  doorbells : List (Nat × Nat)
  /-- The normal SQ served last, and the high-priority one (R198). -/
  lastSq : Nat
  lastHigh : Nat
  /-- The tag instances of the descriptors that have ended, in the order in which they ended (R202). -/
  ends : List Nat
  aperture : List (Nat × Nat)
  dportHeld : Bool
  sbAddr : Option Nat
  linkUp : Bool
  deriving DecidableEq, Repr

def HostSt.init : HostSt := ⟨[], [], [], [], 0, 0, [], [], false, none, false⟩

/-- What the generator does next (R429). -/
inductive FirePhase where
  /-- Nothing is fired. -/
  | off
  /-- What comes next is a frame start. -/
  | waiting
  /-- What comes next is an entry of the frame, or its end. -/
  | frame
  /-- A stop is decided and its boundary has not come (R50). -/
  | stopping
  deriving DecidableEq, Repr

/-- An entry or proof shot that the generator has committed to (R43, R71), in the prefetch queue. -/
structure Committed where
  cell : Nat
  idx : Nat
  bank : Nat
  segset : Nat
  mask : Nat
  current : Nat
  codeNs : Nat
  fine : Nat
  nominal : Nat
  buf : Nat
  cellEnd : Bool
  first : Bool
  syncOut : Bool
  noRx : Bool
  proof : Bool
  deriving DecidableEq, Repr

/-- How far a shot has come along the steps of R54. -/
inductive ShotStage where
  | fetched | admitted | noticed | commanded | struck | judged
  deriving DecidableEq, Repr

/-- A shot between the prefetch queue and the close of its windows. -/
structure Shot where
  c : Committed
  driver : Nat
  localBank : Nat
  time : Nat
  stage : ShotStage
  seq : Nat
  status : Option (List Byte)
  refSeen : Option Bool
  counts : Bool
  deriving DecidableEq, Repr

/-- A cell from its first committed entry to its seal in every tile (R45, R122): N counts its entries; `committed` and
`seen` how many of them are committed and have been noticed or suppressed; `times` the S of the fired shots; `map` the 192 bytes of its
channel-enable map as they stood in the protected buffer (R42, R44). -/
structure CellInfo where
  id : Nat
  bank : Nat
  segset : Nat
  map : List Byte
  planned : Nat
  firstEntry : Nat
  epoch : Nat
  committed : Nat
  seen : Nat
  times : List Nat
  firstS : Nat
  suppressSeen : Bool
  sealedBy : List Nat
  /-- The code span latched with its buffer (R46); the nominal spacings of its shots so far, in ns: the last nominal time, their
  sum, the least and the largest (R144); azimuth and model flag once the first tile has sealed it. -/
  span : Nat
  nomLast : Nat
  dSum : Nat
  dMin : Nat
  dMax : Nat
  az : Option (Nat × Bool)
  /-- S of its entries so far, fired or not; the entry that closes it; the frame it belongs to, counted from reset. -/
  entryS : List Nat
  lastEntry : Nat
  frame : Nat
  /-- Its not-warm state (R170), kept at a time step that comes before its seal. -/
  cold : Option Bool
  deriving DecidableEq, Repr

/-- Diagnosis counts of a segment (R70): shots in this period, shots since it was last not yet diagnosed, consecutive
shots without a return. -/
structure SegCnt where
  period : Nat
  total : Nat
  misses : Nat
  deriving DecidableEq, Repr

/-- A position sample (R63): its time, its count, and the index events between the sample before it and this one, each with the count
that the position interface latched just before the reset. -/
structure PosSample where
  time : Nat
  pos : Nat
  index : List (Nat × Nat)
  deriving DecidableEq, Repr

/-- The fire timing generator, Taper bus master, mirror position and Shade outside their registers. Times are device
times. -/
structure FireSt where
  /-- From the write that sets run until firing has stopped (R42). -/
  engaged : Bool
  stopReq : Bool
  /-- Validations under way: of first_buf after run rose, of the swap's buffer (R46). -/
  validRun : Bool
  validSwap : Bool
  /-- The buffer that was first_buf when run rose (R42, R46). -/
  runBuf : Nat
  /-- The buffer that a swap has replaced, until the new frame's T0 (R42, R49). -/
  oldBuf : Option Nat
  /-- The buffer a swap brings, and the code span latched with it (R46, R49). -/
  swapBuf : Nat
  swapSpan : Nat
  /-- SYNC_IN edge seen since swap_req (R49); FIRE_SWAP_TIME had passed at the end of validation. -/
  swapEdge : Option Nat
  swapLate : Bool
  enumerating : Bool
  /-- No frame has started since run rose. -/
  firstFrame : Bool
  /-- The latched start request (R48), whether a committed frame start uses it, and a request that is not latched because no
  frame runs. -/
  latch : Option Nat
  latchUsed : Bool
  startNow : Option Nat
  phase : FirePhase
  /-- A frame start is committed and its T0 has not come; T0 of the frame to come or in progress, and of the one before. -/
  startPending : Bool
  nextT0 : Nat
  t0 : Nat
  prevT0 : Option Nat
  /-- A frame has started since reset; frames committed to since reset. -/
  hadFrame : Bool
  frames : Nat
  /-- The end of the last frame, or 50 µs after the run write before the first (R47). -/
  frameEnd : Nat
  /-- The next entry to commit to and its nominal time. -/
  entry : Nat
  nominal : Nat
  /-- The prefetch queue (R54). -/
  committed : List Committed
  shots : List Shot
  cells : List CellInfo
  nextCell : Nat
  /-- The code table in use, the key of the one that rekey has asked for (R55, R56), and the span of the active buffer. -/
  codes : List Nat
  nextKey : Option Nat
  span : Nat
  diag : List (Nat × SegCnt)
  diagPtr : Nat
  /-- Per driver: SHOT count modulo 256 (R59), status frames missing or bad in a row (R62). -/
  seqs : List Nat
  fails : List Nat
  /-- CLEAR commands whose STATUS frame has not been judged, oldest first: driver, time, the frame once it has come (R60, R62). -/
  clears : List (Nat × Nat × Option (List Byte))
  /-- Position samples and index events, newest first (R63 to R65); the index latches since the newest sample. -/
  samples : List PosSample
  indexLatch : List (Nat × Nat)
  indexTimes : List Nat
  indexPeriod : Nat
  lockCount : Nat
  /-- The SYNC_OUT pulses of entries whose S has not come (R51). -/
  syncDue : List Nat
  /-- Shade's buckets, newest first, by 4096 w + 64 bank + bin (R67). -/
  ledger : List (Nat × List Nat)
  /-- Per RTD A and B: samples at or beyond a limit in a row, inside with hysteresis since the inhibit, stale (R69). -/
  tempRuns : List Nat
  tempIn : List Bool
  tempStale : List Bool
  deriving DecidableEq, Repr

/-- Has the shot's strobe not been placed yet? -/
def Shot.unstruck (x : Shot) : Bool := !(decide (x.stage = .struck) || decide (x.stage = .judged))

/-- Entries or proof shots that the generator has committed to and not struck yet. -/
def FireSt.pending (f : FireSt) : Bool := !f.committed.isEmpty || f.shots.any Shot.unstruck

/-- Before a buffer has been active the code table is all 0 (R55: it is generated with a buffer's span). -/
def FireSt.init : FireSt where
  engaged := false
  stopReq := false
  validRun := false
  validSwap := false
  runBuf := 0
  oldBuf := none
  swapBuf := 0
  swapSpan := 0
  swapEdge := none
  swapLate := false
  enumerating := false
  firstFrame := false
  latch := none
  latchUsed := false
  startNow := none
  phase := .off
  startPending := false
  nextT0 := 0
  t0 := 0
  prevT0 := none
  hadFrame := false
  frames := 0
  frameEnd := 0
  entry := 0
  nominal := 0
  committed := []
  shots := []
  cells := []
  nextCell := 1
  codes := List.replicate 64 0
  nextKey := none
  span := 0
  diag := []
  diagPtr := 0
  seqs := List.replicate 16 0
  fails := List.replicate 16 0
  clears := []
  samples := []
  indexLatch := []
  indexTimes := []
  indexPeriod := 0
  lockCount := 0
  syncDue := []
  ledger := []
  tempRuns := [0, 0]
  tempIn := [false, false]
  tempStale := [false, false]

/-- One event of a TDC (R77): leading stamp and ToT in units of 3.90625 ps, gain range, sat; and, by the temperature of the code-density
tables that an open cell of the channel uses, the stamp and ToT which those tables give (R88). -/
structure TdcEvent where
  lead : Nat
  tot : Nat
  low : Bool
  sat : Bool
  tables : List (Int × Nat × Nat)
  deriving DecidableEq, Repr

/-- An open receive window (R57, R82): its shot's S in stamp units, cell and index in the cell, whether the shot is a zoom
shot (R119), and the stamps kept for it (R92). -/
structure RxWin where
  s : Nat
  cell : Nat
  idx : Nat
  zoom : Bool
  kept : Nat
  deriving DecidableEq, Repr

/-- What a channel cell's report will say beside the cell's own data (R125). -/
structure RepCnt where
  used : Nat
  skip : Nat
  excess : Nat
  stampLost : Nat
  low : Nat
  sat : Nat
  qLost : Nat
  deadLost : Nat
  satBins : Nat
  total : Nat
  zoomFirst : Option Nat
  fineSat : Bool
  stampFull : Bool
  spare : Bool
  stale : Bool
  corrected : Bool
  late : Bool
  drop : Nat
  /-- Stamps kept. -/
  kept : Nat
  deriving DecidableEq, Repr

def RepCnt.init : RepCnt := ⟨0, 0, 0, 0, 0, 0, 0, 0, 0, 0, none, false, false, false, false, false, false, 0, 0⟩

/-- One buffer of a channel (R110, R123): the cell it serves, whether it is sealed, when it last became free, the sparse
coarse and fine histograms, the stamps in the order of their shots, each with its shot's index in the cell (R121), the report counts, the
installed zoom windows, the temperature of the code-density tables that the cell uses (R88), and what has been written over Jexannar to
places of the stamp store beyond the stamps kept, by place. -/
structure HistBuf where
  cell : Option Nat
  isSealed : Bool
  freeAt : Nat
  coarse : List (Nat × Nat)
  fine : List (Nat × Nat)
  stamps : List (Nat × Nat)
  rep : RepCnt
  zoomWins : List Nat
  zoomAt : Option Nat
  table : Int
  raw : List (Nat × Nat)
  deriving DecidableEq, Repr

def HistBuf.init : HistBuf := ⟨none, false, 0, [], [], [], RepCnt.init, [], none, 0, []⟩

/-- One channel of a tile. -/
structure ChanSt where
  lowGain : Bool
  latch : Bool
  /-- The comparators are blanked; S, in stamp units, of the shot at whose switch point the range last changed (R79). -/
  blanked : Bool
  switchS : Option Nat
  lastLead : Option Nat
  queue : List TdcEvent
  wins : List RxWin
  buf0 : HistBuf
  buf1 : HistBuf
  nextBuf : Nat
  /-- The writes of the channel's enable bit and of its thresholds, newest first: the value before each, and its time (R78, R84). -/
  enHist : List (Bool × Nat)
  thrHist : List (Nat × Nat)
  /-- The cells that wait for a buffer (R123). -/
  waitCells : List Nat
  /-- The open cells that have had a switch point, with the range each is in: low gain or not (R80). -/
  gainCells : List (Nat × Bool)
  /-- By open cell: events lost at a full queue, and to dead time or blanking, since its first S (R125). -/
  losses : List (Nat × Nat × Nat)
  deriving DecidableEq, Repr

def ChanSt.init : ChanSt :=
  ⟨false, false, false, none, none, [], [], HistBuf.init, HistBuf.init, 0, [], [], [], [], []⟩

/-- A cell as one tile sees it: Nc and the zoom settings it was opened with (R115). -/
structure TileCell where
  id : Nat
  planned : Nat
  nc : Nat
  zoomOn : Bool
  box : Nat
  stampsEn : Bool
  snapped : Bool
  /-- cell-dropped, and late-join, have been raised for the cell in this tile (R123, R126). -/
  counted : Bool
  lateRaised : Bool
  /-- No channel joins: the tile was not gang-locked while the cell was open (R101). -/
  barred : Bool
  /-- The reason for which the whole cell is dropped in this tile, 0 for none (R126). -/
  drop : Nat
  deriving DecidableEq, Repr

/-- The cell data that a channel record carries (R64, R125). -/
structure CellMeta where
  id : Nat
  bank : Nat
  segset : Nat
  firstEntry : Nat
  epoch : Nat
  planned : Nat
  fired : Nat
  tFirst : Nat
  azimuth : Nat
  azModel : Bool
  azFree : Bool
  tMean : Nat
  notWarm : Bool
  span : Nat
  dSum : Nat
  dMin : Nat
  dMax : Nat
  /-- The frame that the cell belongs to, counted from reset. -/
  frame : Nat
  deriving DecidableEq, Repr

/-- A channel record (R124, R125) on its way to the hub and in the cell store (R127). -/
structure ChanRec where
  tile : Nat
  chan : Nat
  seq : Nat
  /-- When the tile sealed the cell (R139). -/
  sealedAt : Nat
  cell : CellMeta
  nc : Nat
  zoomOff : Bool
  rep : RepCnt
  wins : List Nat
  coarse : List (Nat × Nat)
  fine : List (Nat × Nat)
  stamps : List Nat
  last : Bool
  /-- cell-dropped has been raised for the cell in its tile (R126). -/
  raised : Bool
  tapped : Bool
  extracted : Bool
  /-- No tile sealed it: the hub holds it for a channel whose tile makes no record (R162). -/
  made : Bool
  deriving DecidableEq, Repr

/-- A summary on its way to the hub (R117). -/
structure Summary where
  chan : Nat
  cell : Nat
  seq : Nat
  shots : Nat
  box : Nat
  total : Nat
  cands : List (Nat × Nat)
  sent : Bool
  link : Nat
  answer : Option (List Nat)
  deriving DecidableEq, Repr

/-- An open reference window (R103): reference channel, driver, S in stamp units, cell (0 for a proof shot), whether a return has been
seen. -/
structure RefWin where
  k : Nat
  driver : Nat
  s : Nat
  cell : Nat
  seen : Bool
  deriving DecidableEq, Repr

/-- The pilot store of TILE_2 and TILE_3 (R314). -/
structure PilotSt where
  windows : List Nat
  count : Nat
  bins : List (Nat × Nat)
  /-- When the tile powered all its channels (R314). -/
  powerAll : Option Nat
  deriving DecidableEq, Repr

/-- A tile outside its registers. -/
structure TileSt where
  chans : List (Nat × ChanSt)
  cells : List TileCell
  sums : List Summary
  outq : List ChanRec
  refWins : List RefWin
  good : Nat
  bad : Nat
  /-- The correction made so far to the phase of the tile's coarse clock, and what its coarse counter holds beyond the fire timing count,
  modulo 2^49 (R100). -/
  phase : Int
  coarseOff : Nat
  /-- Writes of TILE_t_ZOOM_CFG, newest first: the value before each, and its time (R121). -/
  zoomHist : List (Nat × Nat)
  /-- Per capture unit, by 2 × TDC + unit: the raw codes of the edges collected for the health check, with their counts (R96). -/
  codes : List (Nat × List (Nat × Nat))
  pilot : PilotSt
  /-- Update-port work per bank: device time and eighths of a cycle (R111, R112). -/
  load : List (Nat × List (Nat × Nat))
  /-- SRAM rows (R340): correctable errors per row since reset, rows marked for repair, rows repaired. -/
  rowCe : List (Nat × Nat)
  marked : List Nat
  repaired : List Nat
  /-- Words of the SRAM outside the channel buffers that Jexannar has written since the tile last used that area (R110). -/
  rest : List (Nat × Option Nat)
  deriving DecidableEq, Repr

def TileSt.init : TileSt := ⟨[], [], [], [], [], 0, 0, 0, 0, [], [], ⟨[], 0, [], none⟩, [], [], [], [], []⟩

/-- A cell whose close the hub has still to tell the safety channels (R281): tiles that have not sealed it, and tiles whose last
record has not been extracted. -/
structure CloseWait where
  cell : CellMeta
  unsealed : List Nat
  waiting : List Nat
  deriving DecidableEq, Repr

/-- Echo extraction outside its registers (chapter 05): packets for the point writer (ring and records), cells to be closed,
plateaus seen in this frame (cell, tile, twice the centre bin), frames towards detection and towards clearing, frames until the
next automatic re-key, near-field clutter in this and in the last frame, banks whose missing emission offset has been reported,
time of the last shed, times of the extractions of the last 1 ms. -/
structure EchoSt where
  out : List (Nat × List (List Byte))
  closes : List CloseWait
  foreign : List (Nat × Nat × Nat)
  runOn : Nat
  runOff : Nat
  hold : Nat
  clutThis : Bool
  clutPrev : Bool
  emis : List Nat
  shedAt : Option Nat
  loads : List Nat
  /-- The hub's copy of the tiles' walk tables, by register address (R94). -/
  walk : List (Nat × Nat)
  deriving DecidableEq, Repr

def EchoSt.init : EchoSt := ⟨[], [], [], 0, 0, 0, false, false, [], none, [], []⟩

/-- Hub side of the histograms (R127 to R133). -/
structure HistSt where
  /-- Records on their way to the hub, with the link each takes (R16). -/
  transit : List (Nat × ChanRec)
  store : List ChanRec
  nextSeq : List (Option Nat)
  tapCount : List Nat
  tapPart : Option ChanRec
  tapFull : Bool
  deriving DecidableEq, Repr

def HistSt.init : HistSt := ⟨[], [], List.replicate 6 none, List.replicate 64 0, none, false⟩

/-- One zone in one channel (R284): device times of the first shots of its occupied cells, latest first, and whether it is violated. -/
structure ZoneSt where
  occTimes : List Nat
  occ : Bool
  viol : Bool
  deriving DecidableEq, Repr

def ZoneSt.init : ZoneSt := ⟨[], false, false⟩

/-- A closed cell that waits for its evaluation (R281): bank, azimuth, device time of its first shot, its summaries as
little-endian numbers of 32 bytes. -/
structure ClosedCell where
  bank : Nat
  azimuth : Nat
  firstShot : Nat
  sums : List Nat
  deriving DecidableEq, Repr

/-- A channel's verdict on one zone of one cell (R280): set, zone, whether the evaluation is occupied, whether the zone is
violated and whether this evaluation made it so, and whether it is a protective zone. -/
structure ZoneVerdict where
  set : Nat
  zone : Nat
  occ : Bool
  viol : Bool
  rise : Bool
  protective : Bool
  deriving DecidableEq, Repr

/-- A channel's verdict on one cell (R280). -/
structure Verdict where
  bank : Nat
  firstShot : Nat
  zones : List ZoneVerdict
  deriving DecidableEq, Repr

/-- A table that a channel has used before, with its number among the swaps, and its zones (R286). -/
structure OldTable where
  gen : Nat
  table : List Byte
  zones : List (Nat × ZoneSt)
  deriving DecidableEq, Repr

/-- From the boundary at device time `start` on: the active set, and the number of the table (R286). -/
structure ZoneSpan where
  start : Nat
  set : Nat
  gen : Nat
  deriving DecidableEq, Repr

/-- One safety channel (R278): its copy of the table in use and of the one being prepared, its zones, the tables before it,
the summaries it holds, the cells it has to evaluate and the verdicts it has given. -/
structure SafChan where
  table : List Byte
  next : List Byte
  zones : List (Nat × ZoneSt)
  olds : List OldTable
  sums : List Nat
  closed : List ClosedCell
  verdicts : List Verdict
  /-- The spans of the cells that were fired before the last time steps and are still to be evaluated, by their first shots (R286). -/
  stepped : List (Nat × List ZoneSpan)
  deriving DecidableEq, Repr

def SafChan.init : SafChan := ⟨[], [], [], [], [], [], [], []⟩

/-- One safety-input contact (R290): its last samples, newest first, up to three. -/
abbrev Contact := List Bool

/-- The safety function outside its registers. -/
structure SafSt where
  sp : SafChan
  snf : SafChan
  /-- A fault has been latched since the last accepted reset or power-up (R293). -/
  latched : Bool
  /-- The boundaries at which set or table changed (R286, R289), newest first, and the number of the table in use. -/
  spans : List ZoneSpan
  gen : Nat
  /-- An agreed set index that waits for its boundary (R286). -/
  nextSet : Option Nat
  /-- The eight contacts in the order of SAF_DCI_STAT.contacts, and the inputs whose discrepancy window has expired and that
  are still inconsistent (R290). -/
  contacts : List Contact
  dciBad : List Bool
  /-- Device time of the last zone-blind (R288). -/
  blindAt : Option Nat
  pulse : List Bool
  clockStopped : List Bool
  lorHigh : Bool
  lorIgnored : Bool
  lorAccepted : Bool
  /-- START-TEST left a failing block (R310): a condition present until the next PORST_N. -/
  bistCond : Bool
  /-- Of each receive connection, what the channels themselves have accepted (R287): the set index of the last payload, and a frame since
  the connection opened. -/
  qslIndex : List Nat
  qslTaken : List Bool
  deriving DecidableEq, Repr

def SafSt.init : SafSt where
  sp := SafChan.init
  snf := SafChan.init
  latched := false
  spans := [⟨0, 0, 0⟩]
  gen := 0
  nextSet := none
  contacts := List.replicate 8 []
  dciBad := List.replicate 4 false
  blindAt := none
  pulse := List.replicate 4 false
  clockStopped := [false, false]
  lorHigh := false
  lorIgnored := false
  lorAccepted := false
  bistCond := false
  qslIndex := List.replicate 8 0
  qslTaken := List.replicate 8 false

/-- The states of Snuffer's pad selector (R15). -/
inductive PadSel where
  | hub | snuffer | blanked
  deriving DecidableEq, Repr

/-- Snuffer's copies of the Shade settings (R292). -/
structure ShadeCopy where
  lens : List Nat
  budgets : List Nat
  azMin : Nat
  azMax : Nat
  energy : List Byte
  tMin : Nat
  tMax : Nat
  hyst : Nat
  deriving DecidableEq, Repr

/-- Snuffer (PD_SNF). -/
structure SnfSt where
  powered : Bool
  sel : PadSel
  shade : Option ShadeCopy
  /-- Its ledger of the hub's charges, and of its own pilot shots (R292, R313). -/
  ledger : List (Nat × List Nat)
  pilotLedger : List (Nat × List Nat)
  /-- The emitter-board temperature last reported to it, 0.1 °C, and whether it is older than 1 s. -/
  boardTemp : Option Int
  /-- The pilot pattern runs; the next local bank; SHOT count of driver 0; bad status frames in a row (R313). -/
  pilotOn : Bool
  pilotBank : Nat
  pilotSeq : Nat
  pilotFails : Nat
  pilotAwait : Bool
  pilotOccupied : Bool
  pilotMsg : Bool
  /-- The pilot buffers sealed and sent by TILE_2 and TILE_3, newest only (R314). -/
  pilotCells : List (List (Nat × Nat))
  pilotSilent : List Bool
  /-- The pilot buffers that have come since Snuffer last looked (R315). -/
  pilotNew : List Bool
  deriving DecidableEq, Repr

def SnfSt.init : SnfSt :=
  ⟨true, .hub, none, [], [], none, false, 0, 0, 0, false, true, false, [[], []], [false, false], [false, false]⟩

/-- Resets, boot and service outside their registers (chapters 11 and 12). -/
structure BootSt where
  porstLow : Bool
  warmLow : Bool
  /-- The descriptor (SQ, tag instance) that made the mode request in progress (R301). -/
  modeReqBy : Option (Nat × Nat)
  /-- From the configuration block (R304). -/
  bootPref : Nat
  xspiDtr : Bool
  mapOrder : Nat
  /-- The configuration block has been read in this boot (R232, R304). -/
  cfgRead : Bool
  /-- Slots tried and failed in this boot, and the running image's security version once one has passed (R306, R307). -/
  tried : List Nat
  secVersion : Option Nat
  calLoaded : Bool
  /-- No control cluster is active (R312). -/
  noCluster : Bool
  /-- Handover progress (R336): 0 none, 1 started, 3 ready, 4 switched. -/
  hoStep : Nat
  /-- Slice progress (R338): tile, step (1 requested, 2 isolated, 3 action passed), the TILE_t registers recorded, and the TDCs
  that passed the test as a mask. -/
  sliceTile : Option Nat
  sliceStep : Nat
  sliceSaved : List (Nat × BitVec 64)
  slicePass : Nat
  /-- A handover start waits for a cluster self-test slice (R392). -/
  hoWait : Bool
  /-- The action of the running slice, as its start gave it (R338). -/
  sliceAct : Nat
  /-- The security version of the image that the running handover loads (R307, R336). -/
  hoSec : Option Nat
  /-- The key hash in one-time-programmable memory (R306). -/
  keyHash : BitVec 384
  deriving DecidableEq, Repr

def BootSt.init : BootSt :=
  ⟨false, false, none, 0, false, 0, false, [], none, false, false, 0, none, 0, [], 0, false, 0, none, Config.keyHash⟩

/-- What the last heartbeat of the peer said (R323). -/
structure Heartbeat where
  unit : Nat
  mode : Nat
  baseMode : Nat
  epoch : Nat
  frameEpoch : Nat
  tableId : Nat
  crc : Nat
  grantA : Bool
  grantB : Bool
  owner : Bool
  t0 : Nat
  frameLen : Nat
  swapPending : Bool
  tablePhase : Nat
  /-- The crc of a table that is ready (R341). -/
  readyCrc : Nat
  deriving DecidableEq, Repr

/-- A channel cell in the overlap region (R334): channel, bank, azimuth and nearest range, none for no echo. -/
structure OvlCell where
  chan : Nat
  bank : Nat
  azimuth : Nat
  range : Option Nat
  deriving DecidableEq, Repr

/-- The twin link outside its registers (chapter 12). -/
structure TwnSt where
  /-- The configuration epoch of R4. -/
  epoch : Nat
  /-- The peer's last valid heartbeat, how many in a row have reported it in a SCAN mode, counted to 2, when the last arrived, valid ones in a
  row (R324). -/
  peer : Option Heartbeat
  peerHbs : Nat
  hbAt : Option Nat
  hbRun : Nat
  lastFrameLen : Nat
  /-- twin-epoch-mismatch has been raised for this difference (R333). -/
  mismatchSeen : Bool
  /-- The device takes its starts from the leader since its last frame end (R325). -/
  following : Bool
  /-- Heartbeats that have come since this device entered a SCAN mode, counted to 2; is it the device that was in one first (R325, R328)? -/
  scanHbs : Nat
  lead : Bool
  /-- A follower's start requests whose times have not come, oldest first (R325). -/
  starts : List Nat
  /-- The last time message: when the peer sent it and when this device received it (R332). -/
  timeRx : Option (Nat × Nat)
  /-- R326: the peer's pending swap has been seen with an own one; the leader's swap has been seen. -/
  pairHold : Bool
  swapLead : Bool
  /-- The warm copy of the mirror loops' state by loop (R323). -/
  warm : List (Nat × LoopMsg)
  /-- The peer selects the twin as its time source too (R332). -/
  peerFollows : Bool
  handoffAt : Option Nat
  takeover : Bool
  /-- Own channel cells in the overlap region, newest first: of this frame and of the last (R334). -/
  ovl : List OvlCell
  ovlPrev : List OvlCell
  /-- The frame that the cells of this frame belong to, and the last frame that has ended. -/
  ovlNow : Nat
  ovlEnded : Nat
  matched : Nat
  disagreed : Nat
  bulkDropped : Nat
  /-- Lanes that train, lanes whose retrain waits for an adaptation step, and when a lane last rejoined (R335). -/
  laneTrain : List Bool
  laneDef : List Bool
  laneUpAt : Option Nat
  /-- Of each lane: the equaliser set point in use and the stored one (R335), and how often in a row its present block has failed (R32). -/
  eqNow : List Nat
  eqStored : List Nat
  laneFails : List Nat
  deriving DecidableEq, Repr

def TwnSt.init : TwnSt where
  epoch := 0
  peer := none
  peerHbs := 0
  hbAt := none
  hbRun := 0
  lastFrameLen := 0
  mismatchSeen := false
  following := false
  scanHbs := 0
  lead := true
  starts := []
  timeRx := none
  pairHold := false
  swapLead := false
  warm := []
  peerFollows := false
  handoffAt := none
  takeover := false
  ovl := []
  ovlPrev := []
  ovlNow := 0
  ovlEnded := 0
  matched := 0
  disagreed := 0
  bulkDropped := 0
  laneTrain := List.replicate 4 false
  laneDef := List.replicate 4 false
  laneUpAt := none
  eqNow := List.replicate 4 0
  eqStored := List.replicate 4 0
  laneFails := List.replicate 4 0

/-- A record of the calibration store as loaded (R379, R381): type, index and all its bytes. -/
structure CalRec where
  type : Nat
  index : Nat
  bytes : List Byte
  deriving DecidableEq, Repr

/-- The signatures in mask ROM (R389, R391): of the hub's blocks, of the tiles, and of the eighteen slices. -/
structure BistRom where
  hub : Vector Word64 14
  tile : Vector Word64 6
  slice : Vector Word64 18
  deriving DecidableEq, Repr

/-- The ROM of this part (log entry 218). -/
def BistRom.init : BistRom :=
  ⟨Vector.ofFn (fun i => Config.romSignature i), Vector.ofFn (fun i => Config.romSignature (14 + i)), Vector.ofFn (fun i => Config.romSignature (20 + i))⟩

/-- Calibration store, calibration and in-service self-test outside their registers (chapter 15). -/
structure CalSt where
  loaded : List CalRec
  /-- Hub TDCs without a usable CDT record: their inputs are not stamped (R381). -/
  hubDead : List Nat
  /-- Tiles whose SKEW_TREE is unusable (R381), and whether a pilot record is usable. -/
  skewBad : List Nat
  pilotOk : Bool
  pilotCurrent : Nat
  /-- The calibration under way: tiles and kind, and whether a slice runs it (R387). -/
  job : Option (Nat × Nat × Bool)
  /-- The set being written: the bytes copied from staging (R382). -/
  nvmSet : Option (List Byte)
  /-- Erase cycles of the two field halves. -/
  wear : List Nat
  /-- The self-test slice that runs, and those that have run in this rotation (R392). -/
  bistRun : Option Nat
  bistRan : List Nat
  /-- The standby cluster was switched on for the slice that runs (R391). -/
  bistPower : Bool
  /-- The key stores of control clusters A and B and of Lamplighter hold keys (R390). -/
  keys : List Bool
  /-- The self-test signatures in the mask ROM (R389, R391). -/
  rom : BistRom
  deriving DecidableEq, Repr

def CalSt.init : CalSt := ⟨[], [], [], false, 0, none, none, [0, 0], none, [], false, [false, false, false], BistRom.init⟩

/-- A run of the statistics engine (R175, R176): its configuration as started, the samples so far as count, sum, sum of squares,
minimum and maximum. -/
structure StatsRun where
  src : Nat
  a : Nat
  b : Nat
  refTile : Nat
  refK : Nat
  n : Nat
  owner : Nat
  count : Nat
  sum : Int
  squares : Nat
  min : Int
  max : Int
  deriving DecidableEq, Repr

/-- The time base outside its registers (chapter 06): the RPLL has locked since PORST_N; offsets in a row within 100 ns and beyond
1 µs; the servo slews at the trim limit; stamp of the last edge of TIMEIN_0 to TIMEIN_3 and PPS_IN, in LSB; FIFOs, and whether
timein-overflow has been raised for the present fullness; the hub temperature for the code-density tables, 0.1 °C; the
statistics run, the edges it has seen on each input, and the samples its source has given. -/
structure TimeSt where
  everLocked : Bool
  good : Nat
  bad : Nat
  slew : Bool
  lastEdge : List (Option Nat)
  fifo : List (List Nat)
  ovf : List Bool
  hubTemp : Int
  run : Option StatsRun
  seen : List (Option Nat)
  samples : List Int
  /-- The times at which TIME_STAT.warm has changed since the last time step, latest first (R169, R170). -/
  warmLog : List Nat
  deriving DecidableEq, Repr

def TimeSt.init : TimeSt :=
  ⟨false, 0, 0, false, List.replicate 5 none, List.replicate 4 [], List.replicate 4 false, 0, none, List.replicate 4 none, [], []⟩

/-- A message on an external interface (the model's own log of what leaves the device). -/
inductive Out where
  /-- An MSI-X message on a vector (R203, R209, R402). -/
  | msix (vector : Nat)
  /-- A response on a Jexannar link (R17): its header flit and data bytes. -/
  | jex (link : Nat) (hdr : Flit) (data : List Byte)
  /-- A stream message on a tile's upstream link (R17, R117, R124): its data bytes. -/
  | stream (link : Nat) (data : List Byte)
  /-- A tagged operation completed towards its requester: ok or with an error response (R37, R39). -/
  | opDone (tag inst port : Nat) (ok : Bool)
  /-- The bytes a read of the pop window returned (R212). -/
  | popData (port : Port) (data : List Byte)
  /-- What a read on a port returned (R10): address, value. -/
  | readData (port : Port) (addr value : Nat)
  /-- A pulse on TAPER_SYNC (R58), by the hub or by Snuffer. -/
  | taperSync (bySnuffer : Bool)
  /-- A command frame on a lane (R59): its bytes 1 to 12. -/
  | taper (bySnuffer : Bool) (lane : Nat) (bytes : List Byte)
  /-- A strobe on FS_P_n/FS_N_n (R52, R53): driver, edge time in device-time units modulo 2^64, high time in 0.5 ns. -/
  | strobe (bySnuffer : Bool) (driver time high : Nat)
  /-- A safety message to a channel (R140, R281): the 32 bytes of a summary or a cell-close marker. -/
  | safety (toSnuffer : Bool) (data : List Byte)
  /-- An overlap message to the twin (R334): the channel cell. -/
  | overlap (cell : OvlCell)
  /-- A heartbeat, a time message, a mirror-state message and a named hand-off sample, on the twin link (R323, R331, R332). -/
  | heartbeat (h : Heartbeat)
  | twinTime (sent : Nat) (echo : Option (Nat × Nat))
  /-- A bulk block that goes to an offset in the peer's mirror window (R323, R333). -/
  | bulk (offset data : Nat)
  | mirrorState (loop : Nat) (m : LoopMsg)
  | handoff (time : Nat)
  /-- A frame leaves an Ethernet port from a queue (R259). -/
  | frame (port queue : Nat) (f : TxFrame)
  /-- A control loop drives an actuator (R370): PWM_0 to PWM_3 in units of 5 ns high time, mirror DAC 0 and 1 (4, 5) in units of
  2^-17 of full scale. -/
  | actuate (output : Nat) (value : Int)
  /-- A pulse on SYNC_OUT at a device time (R51). -/
  | syncOut (time : Nat)
  /-- A PCIe read answered with Completer Abort (R32). -/
  | readAbort (port : Port) (addr : Nat)
  /-- The answer to a CXL.mem read: device memory address, poison, bytes (R185, R32, R248). -/
  | cxlData (addr : Nat) (poison : Bool) (data : List Byte)
  /-- The five bytes of a sideband read: data and status (R222, R223). -/
  | sideband (data status : Nat)
  deriving DecidableEq, Repr

end Sys2Proof.Machine
end

