-- ==== Sys2Proof/Machine/EventIx.lean ====
section
/-! DEFINITION. The event sources (R395, R396): the index of each of the 250 sources, and the default priorities of R400. -/

namespace Sys2Proof.Machine

/-- gang-unlock of TILE_t (R396). -/
def Ev.gangUnlock (t : Nat) : Nat := 16 * t + 0
/-- tdc-fault of TILE_t (R396). -/
def Ev.tdcFault (t : Nat) : Nat := 16 * t + 1
/-- tdc-substituted of TILE_t (R396). -/
def Ev.tdcSubstituted (t : Nat) : Nat := 16 * t + 2
/-- spares-exhausted of TILE_t (R396). -/
def Ev.sparesExhausted (t : Nat) : Nat := 16 * t + 3
/-- cdt-invalid of TILE_t (R396). -/
def Ev.cdtInvalid (t : Nat) : Nat := 16 * t + 4
/-- cdt-stale of TILE_t (R396). -/
def Ev.cdtStale (t : Nat) : Nat := 16 * t + 5
/-- cell-dropped of TILE_t (R396). -/
def Ev.cellDropped (t : Nat) : Nat := 16 * t + 6
/-- late-join of TILE_t (R396). -/
def Ev.lateJoin (t : Nat) : Nat := 16 * t + 7
/-- queue-loss of TILE_t (R396). -/
def Ev.queueLoss (t : Nat) : Nat := 16 * t + 8
/-- sram-uncorrectable of TILE_t (R396). -/
def Ev.sramUncorrectable (t : Nat) : Nat := 16 * t + 9
/-- zoom-missed of TILE_t (R396). -/
def Ev.zoomMissed (t : Nat) : Nat := 16 * t + 10
/-- tile-link-down of TILE_t (R396). -/
def Ev.tileLinkDown (t : Nat) : Nat := 16 * t + 11
/-- tile-timeout of TILE_t (R396). -/
def Ev.tileTimeout (t : Nat) : Nat := 16 * t + 12
/-- tile-w256-corrected of TILE_t (R396). -/
def Ev.tileW256Corrected (t : Nat) : Nat := 16 * t + 13
/-- sram-repair-exhausted of TILE_t (R396). -/
def Ev.sramRepairExhausted (t : Nat) : Nat := 16 * t + 14
/-- claim-denied of TILE_t (R396). -/
def Ev.claimDenied (t : Nat) : Nat := 16 * t + 15
/-- frame-swapped (Firing, R395). -/
def Ev.frameSwapped : Nat := 96
/-- frame-validation-failed (Firing, R395). -/
def Ev.frameValidationFailed : Nat := 97
/-- swap-late (Firing, R395). -/
def Ev.swapLate : Nat := 98
/-- start-overrun (Firing, R395). -/
def Ev.startOverrun : Nat := 99
/-- write-to-active-buffer (Firing, R395). -/
def Ev.writeToActiveBuffer : Nat := 100
/-- code-rekeyed (Firing, R395). -/
def Ev.codeRekeyed : Nat := 101
/-- taper-status-missing (Firing, R395). -/
def Ev.taperStatusMissing : Nat := 102
/-- taper-crc-error (Firing, R395). -/
def Ev.taperCrcError : Nat := 103
/-- taper-driver-fault (Firing, R395). -/
def Ev.taperDriverFault : Nat := 104
/-- taper-no-command (Firing, R395). -/
def Ev.taperNoCommand : Nat := 105
/-- segment-open (Firing, R395). -/
def Ev.segmentOpen : Nat := 106
/-- segment-short (Firing, R395). -/
def Ev.segmentShort : Nat := 107
/-- diag-incomplete (Firing, R395). -/
def Ev.diagIncomplete : Nat := 108
/-- shade-suppress (Firing, R395). -/
def Ev.shadeSuppress : Nat := 109
/-- shade-config-rejected (Firing, R395). -/
def Ev.shadeConfigRejected : Nat := 110
/-- shade-temp-inhibit (Firing, R395). -/
def Ev.shadeTempInhibit : Nat := 111
/-- shade-temp-stale (Firing, R395). -/
def Ev.shadeTempStale : Nat := 112
/-- mirror-lock-lost (Firing, R395). -/
def Ev.mirrorLockLost : Nat := 113
/-- mirror-index-missing (Firing, R395). -/
def Ev.mirrorIndexMissing : Nat := 114
/-- mirror-model-azimuth (Firing, R395). -/
def Ev.mirrorModelAzimuth : Nat := 115
/-- cell-seq-gap (Histogram and echo, R395). -/
def Ev.cellSeqGap : Nat := 116
/-- cell-record-uncorrectable (Histogram and echo, R395). -/
def Ev.cellRecordUncorrectable : Nat := 117
/-- tap-watermark (Histogram and echo, R395). -/
def Ev.tapWatermark : Nat := 118
/-- tap-full (Histogram and echo, R395). -/
def Ev.tapFull : Nat := 119
/-- echo-shed (Histogram and echo, R395). -/
def Ev.echoShed : Nat := 120
/-- interference-detected (Histogram and echo, R395). -/
def Ev.interferenceDetected : Nat := 121
/-- interference-cleared (Histogram and echo, R395). -/
def Ev.interferenceCleared : Nat := 122
/-- interference-rekey (Histogram and echo, R395). -/
def Ev.interferenceRekey : Nat := 123
/-- near-field-clutter (Histogram and echo, R395). -/
def Ev.nearFieldClutter : Nat := 124
/-- range-out-of-field (Histogram and echo, R395). -/
def Ev.rangeOutOfField : Nat := 125
/-- emission-offset-missing (Histogram and echo, R395). -/
def Ev.emissionOffsetMissing : Nat := 126
/-- echo-config-rejected (Histogram and echo, R395). -/
def Ev.echoConfigRejected : Nat := 127
/-- rpll-unlock (Time base, R395). -/
def Ev.rpllUnlock : Nat := 128
/-- time-warm (Time base, R395). -/
def Ev.timeWarm : Nat := 129
/-- time-warm-lost (Time base, R395). -/
def Ev.timeWarmLost : Nat := 130
/-- source-locked (Time base, R395). -/
def Ev.sourceLocked : Nat := 131
/-- source-lost (Time base, R395). -/
def Ev.sourceLost : Nat := 132
/-- time-step (Time base, R395). -/
def Ev.timeStep : Nat := 133
/-- step-refused (Time base, R395). -/
def Ev.stepRefused : Nat := 134
/-- pps-missing (Time base, R395). -/
def Ev.ppsMissing : Nat := 135
/-- timein-overflow (Time base, R395). -/
def Ev.timeinOverflow : Nat := 136
/-- stats-done (Time base, R395). -/
def Ev.statsDone : Nat := 137
/-- link-up (Host link, R395). -/
def Ev.linkUp : Nat := 138
/-- link-down (Host link, R395). -/
def Ev.linkDown : Nat := 139
/-- link-degraded (Host link, R395). -/
def Ev.linkDegraded : Nat := 140
/-- flr (Host link, R395). -/
def Ev.flr : Nat := 141
/-- aer-correctable (Host link, R395). -/
def Ev.aerCorrectable : Nat := 142
/-- aer-uncorrectable (Host link, R395). -/
def Ev.aerUncorrectable : Nat := 143
/-- doorbell-invalid (Host link, R395). -/
def Ev.doorbellInvalid : Nat := 144
/-- descriptor-fetch-error (Host link, R395). -/
def Ev.descriptorFetchError : Nat := 145
/-- sq-credit-cut (Host link, R395). -/
def Ev.sqCreditCut : Nat := 146
/-- cq-full (Host link, R395). -/
def Ev.cqFull : Nat := 147
/-- completion-error (Host link, R395). -/
def Ev.completionError : Nat := 148
/-- point-ring-full (Host link, R395). -/
def Ev.pointRingFull : Nat := 149
/-- point-ring-watermark (Host link, R395). -/
def Ev.pointRingWatermark : Nat := 150
/-- point-quota-cut (Host link, R395). -/
def Ev.pointQuotaCut : Nat := 151
/-- point-ring-flushed (Host link, R395). -/
def Ev.pointRingFlushed : Nat := 152
/-- ring-config-rejected (Host link, R395). -/
def Ev.ringConfigRejected : Nat := 153
/-- event-ring-watermark (Host link, R395). -/
def Ev.eventRingWatermark : Nat := 154
/-- event-ring-overflow (Host link, R395). -/
def Ev.eventRingOverflow : Nat := 155
/-- dport-error (Host link, R395). -/
def Ev.dportError : Nat := 156
/-- sideband-error (Host link, R395). -/
def Ev.sidebandError : Nat := 157
/-- isolated-access (Host link, R395). -/
def Ev.isolatedAccess : Nat := 158
/-- tag-config-rejected (Host link, R395). -/
def Ev.tagConfigRejected : Nat := 159
/-- tag-exhaust (Host link, R395). -/
def Ev.tagExhaust : Nat := 160
/-- host-timeout (Host link, R395). -/
def Ev.hostTimeout : Nat := 161
/-- mem-init-done (Memory, R395). -/
def Ev.memInitDone : Nat := 162
/-- mem-correctable (Memory, R395). -/
def Ev.memCorrectable : Nat := 163
/-- mem-uncorrectable (Memory, R395). -/
def Ev.memUncorrectable : Nat := 164
/-- mem-ce-rate (Memory, R395). -/
def Ev.memCeRate : Nat := 165
/-- mem-scrub-done (Memory, R395). -/
def Ev.memScrubDone : Nat := 166
/-- mem-refresh-limit (Memory, R395). -/
def Ev.memRefreshLimit : Nat := 167
/-- mem-thermal-derate (Memory, R395). -/
def Ev.memThermalDerate : Nat := 168
/-- mem-latency-miss (Memory, R395). -/
def Ev.memLatencyMiss : Nat := 169
/-- mem-quota-cut (Memory, R395). -/
def Ev.memQuotaCut : Nat := 170
/-- mem-config-rejected (Memory, R395). -/
def Ev.memConfigRejected : Nat := 171
/-- mem-train-done (Memory, R395). -/
def Ev.memTrainDone : Nat := 172
/-- mem-train-fail (Memory, R395). -/
def Ev.memTrainFail : Nat := 173
/-- mem-freq-change (Memory, R395). -/
def Ev.memFreqChange : Nat := 174
/-- mem-retire-start (Memory, R395). -/
def Ev.memRetireStart : Nat := 175
/-- mem-retire-done (Memory, R395). -/
def Ev.memRetireDone : Nat := 176
/-- mem-extent-violation (Memory, R395). -/
def Ev.memExtentViolation : Nat := 177
/-- eth-link-up (Ethernet, R395). -/
def Ev.ethLinkUp : Nat := 178
/-- eth-link-down (Ethernet, R395). -/
def Ev.ethLinkDown : Nat := 179
/-- eth-fec-uncorrectable (Ethernet, R395). -/
def Ev.ethFecUncorrectable : Nat := 180
/-- eth-retrain-done (Ethernet, R395). -/
def Ev.ethRetrainDone : Nat := 181
/-- eth-config-rejected (Ethernet, R395). -/
def Ev.ethConfigRejected : Nat := 182
/-- gate-list-switched (Ethernet, R395). -/
def Ev.gateListSwitched : Nat := 183
/-- gate-sdu-overrun (Ethernet, R395). -/
def Ev.gateSduOverrun : Nat := 184
/-- psfp-drop (Ethernet, R395). -/
def Ev.psfpDrop : Nat := 185
/-- psfp-gate-closed (Ethernet, R395). -/
def Ev.psfpGateClosed : Nat := 186
/-- frer-reset (Ethernet, R395). -/
def Ev.frerReset : Nat := 187
/-- frer-latent-error (Ethernet, R395). -/
def Ev.frerLatentError : Nat := 188
/-- ptp-gm-change (Ethernet, R395). -/
def Ev.ptpGmChange : Nat := 189
/-- export-backlog (Ethernet, R395). -/
def Ev.exportBacklog : Nat := 190
/-- qsl-conn-open (Ethernet, R395). -/
def Ev.qslConnOpen : Nat := 191
/-- qsl-conn-fail (Ethernet, R395). -/
def Ev.qslConnFail : Nat := 192
/-- qsl-check-error (Ethernet, R395). -/
def Ev.qslCheckError : Nat := 193
/-- qsl-unknown-id (Ethernet, R395). -/
def Ev.qslUnknownId : Nat := 194
/-- qsl-frame-rejected (Ethernet, R395). -/
def Ev.qslFrameRejected : Nat := 195
/-- twin-link-up (Twin link, R395). -/
def Ev.twinLinkUp : Nat := 196
/-- twin-link-down (Twin link, R395). -/
def Ev.twinLinkDown : Nat := 197
/-- twin-heartbeat-lost (Twin link, R395). -/
def Ev.twinHeartbeatLost : Nat := 198
/-- twin-rejoined (Twin link, R395). -/
def Ev.twinRejoined : Nat := 199
/-- twin-epoch-mismatch (Twin link, R395). -/
def Ev.twinEpochMismatch : Nat := 200
/-- mirror-ownership-change (Twin link, R395). -/
def Ev.mirrorOwnershipChange : Nat := 201
/-- twin-overlap-mismatch (Twin link, R395). -/
def Ev.twinOverlapMismatch : Nat := 202
/-- twin-lane-retrain-done (Twin link, R395). -/
def Ev.twinLaneRetrainDone : Nat := 203
/-- safety-fault (Safety, R395). -/
def Ev.safetyFault : Nat := 204
/-- lockout-cleared (Safety, R395). -/
def Ev.lockoutCleared : Nat := 205
/-- lor-rejected (Safety, R395). -/
def Ev.lorRejected : Nat := 206
/-- output-a-off (Safety, R395). -/
def Ev.outputAOff : Nat := 207
/-- output-b-off (Safety, R395). -/
def Ev.outputBOff : Nat := 208
/-- protective-zone-violated (Safety, R395). -/
def Ev.protectiveZoneViolated : Nat := 209
/-- warning-zone-violated (Safety, R395). -/
def Ev.warningZoneViolated : Nat := 210
/-- zone-set-changed (Safety, R395). -/
def Ev.zoneSetChanged : Nat := 211
/-- zone-set-invalid (Safety, R395). -/
def Ev.zoneSetInvalid : Nat := 212
/-- channel-disagree (Safety, R395). -/
def Ev.channelDisagree : Nat := 213
/-- zone-blind (Safety, R395). -/
def Ev.zoneBlind : Nat := 214
/-- zone-commit-done (Safety, R395). -/
def Ev.zoneCommitDone : Nat := 215
/-- zone-commit-failed (Safety, R395). -/
def Ev.zoneCommitFailed : Nat := 216
/-- safety-input-change (Safety, R395). -/
def Ev.safetyInputChange : Nat := 217
/-- hk-round-done (Housekeeping, R395). -/
def Ev.hkRoundDone : Nat := 218
/-- hk-missed-trigger (Housekeeping, R395). -/
def Ev.hkMissedTrigger : Nat := 219
/-- hk-over-range (Housekeeping, R395). -/
def Ev.hkOverRange : Nat := 220
/-- hk-wire-break (Housekeeping, R395). -/
def Ev.hkWireBreak : Nat := 221
/-- hk-wire-restored (Housekeeping, R395). -/
def Ev.hkWireRestored : Nat := 222
/-- hk-threshold-high (Housekeeping, R395). -/
def Ev.hkThresholdHigh : Nat := 223
/-- hk-threshold-low (Housekeeping, R395). -/
def Ev.hkThresholdLow : Nat := 224
/-- hk-cal-done (Housekeeping, R395). -/
def Ev.hkCalDone : Nat := 225
/-- hk-cal-rejected (Housekeeping, R395). -/
def Ev.hkCalRejected : Nat := 226
/-- hk-config-rejected (Housekeeping, R395). -/
def Ev.hkConfigRejected : Nat := 227
/-- chimney-film-change (Housekeeping, R395). -/
def Ev.chimneyFilmChange : Nat := 228
/-- chimney-drive-fault (Housekeeping, R395). -/
def Ev.chimneyDriveFault : Nat := 229
/-- thm-warning (Thermal, R395). -/
def Ev.thmWarning : Nat := 230
/-- thm-warning-cleared (Thermal, R395). -/
def Ev.thmWarningCleared : Nat := 231
/-- thm-throttle (Thermal, R395). -/
def Ev.thmThrottle : Nat := 232
/-- thm-shutdown (Thermal, R395). -/
def Ev.thmShutdown : Nat := 233
/-- thm-throttle-cleared (Thermal, R395). -/
def Ev.thmThrottleCleared : Nat := 234
/-- thm-sensor-suspect (Thermal, R395). -/
def Ev.thmSensorSuspect : Nat := 235
/-- thm-sensor-restored (Thermal, R395). -/
def Ev.thmSensorRestored : Nat := 236
/-- thm-nvm-inhibit (Thermal, R395). -/
def Ev.thmNvmInhibit : Nat := 237
/-- loop-windup (Control loops, R395). -/
def Ev.loopWindup : Nat := 238
/-- loop-saturated (Control loops, R395). -/
def Ev.loopSaturated : Nat := 239
/-- loop-ramp-done (Control loops, R395). -/
def Ev.loopRampDone : Nat := 240
/-- loop-input-invalid (Control loops, R395). -/
def Ev.loopInputInvalid : Nat := 241
/-- loop-deviation (Control loops, R395). -/
def Ev.loopDeviation : Nat := 242
/-- loop-config-rejected (Control loops, R395). -/
def Ev.loopConfigRejected : Nat := 243
/-- cal-done (Calibration and NVM, R395). -/
def Ev.calDone : Nat := 244
/-- cal-rejected (Calibration and NVM, R395). -/
def Ev.calRejected : Nat := 245
/-- nvm-error (Calibration and NVM, R395). -/
def Ev.nvmError : Nat := 246
/-- bist-slice-fail (BIST, R395). -/
def Ev.bistSliceFail : Nat := 247
/-- bist-slice-deferred (BIST, R395). -/
def Ev.bistSliceDeferred : Nat := 248
/-- bist-rotation-done (BIST, R395). -/
def Ev.bistRotationDone : Nat := 249

/-- Default priorities of the 16 local sources of a tile (R400, group Tiles). -/
def tilePriorities : List Nat := [5, 5, 3, 5, 3, 3, 3, 3, 3, 5, 3, 5, 3, 3, 3, 3]

/-- Default priorities of sources 96 to 115 (R400, group Firing). -/
def firingPriorities : List Nat := [1, 3, 3, 3, 3, 1, 3, 3, 5, 3, 5, 5, 3, 3, 3, 5, 5, 3, 3, 3]
/-- Default priorities of sources 116 to 127 (R400, group Histogram and echo). -/
def histogramEchoPriorities : List Nat := [3, 5, 1, 3, 5, 3, 3, 3, 3, 3, 3, 3]
/-- Default priorities of sources 128 to 137 (R400, group Time base). -/
def timeBasePriorities : List Nat := [6, 1, 5, 1, 5, 3, 3, 3, 3, 1]
/-- Default priorities of sources 138 to 161 (R400, group Host link). -/
def hostLinkPriorities : List Nat := [1, 6, 3, 3, 3, 6, 3, 5, 3, 3, 3, 3, 1, 3, 3, 3, 1, 5, 3, 3, 3, 3, 3, 3]
/-- Default priorities of sources 162 to 177 (R400, group Memory). -/
def memoryPriorities : List Nat := [1, 1, 6, 3, 1, 3, 3, 3, 3, 3, 1, 5, 1, 3, 3, 5]
/-- Default priorities of sources 178 to 195 (R400, group Ethernet). -/
def ethernetPriorities : List Nat := [1, 5, 3, 3, 3, 1, 3, 3, 3, 3, 3, 3, 3, 3, 6, 5, 3, 3]
/-- Default priorities of sources 196 to 203 (R400, group Twin link). -/
def twinLinkPriorities : List Nat := [4, 6, 6, 4, 4, 5, 4, 4]
/-- Default priorities of sources 204 to 217 (R400, group Safety). -/
def safetyPriorities : List Nat := [7, 6, 6, 6, 6, 6, 6, 4, 6, 6, 6, 4, 6, 4]
/-- Default priorities of sources 218 to 229 (R400, group Housekeeping). -/
def housekeepingPriorities : List Nat := [1, 2, 2, 5, 2, 2, 2, 1, 2, 2, 2, 4]
/-- Default priorities of sources 230 to 237 (R400, group Thermal). -/
def thermalPriorities : List Nat := [4, 2, 6, 6, 2, 4, 2, 4]
/-- Default priorities of sources 238 to 243 (R400, group Control loops). -/
def controlLoopsPriorities : List Nat := [3, 3, 3, 5, 3, 3]
/-- Default priorities of sources 244 to 246 (R400, group Calibration and NVM). -/
def calibrationNvmPriorities : List Nat := [3, 3, 5]
/-- Default priorities of sources 247 to 249 (R400, group BIST). -/
def bistPriorities : List Nat := [6, 3, 1]

/-- The default priority of source `n` (R400). -/
def evPriority (n : Nat) : Nat :=
  if n < 96 then tilePriorities.getD (n % 16) 0
  else (firingPriorities ++ histogramEchoPriorities ++ timeBasePriorities ++ hostLinkPriorities ++ memoryPriorities ++ ethernetPriorities ++ twinLinkPriorities ++ safetyPriorities ++ housekeepingPriorities ++ thermalPriorities ++ controlLoopsPriorities ++ calibrationNvmPriorities ++ bistPriorities).getD (n - 96) 0

/-- The reset value of EVT_SRC_n_CFG (R400): enabled, coalescing, the default priority, and vector 63 for a default priority of 6 or 7, else
62. -/
def evtCfgReset (n : Nat) : Nat :=
  3 + 16 * evPriority n + 256 * (if 6 ≤ evPriority n then 63 else 62)

end Sys2Proof.Machine
end

