-- ==== Sys2Proof/Machine/RegMap.lean ====
section
/-! DEFINITION. The register map (R405, R406): one row per register family of "Register map", with the fields, access
types and reset values of the owning chapters; and one name per field, `REGISTER.field`, the register's indices as
arguments in the order of its name. -/

namespace Sys2Proof.Machine

/-- The access types of R10. -/
inductive Acc where
  | rw | ro | wo | w1c | w1s | rc | rwl
  deriving DecidableEq, Repr

/-- One field of a register: its low bit, its width and its access type. -/
structure Fld where
  lo : Nat
  len : Nat
  acc : Acc
  deriving DecidableEq, Repr

/-- One register family: the address of its first member, its width in bits, the (stride, count) of each index from the
widest stride down, its reset value and its fields. A bit in no field is reserved (R8). -/
structure RegFam where
  base : Nat
  width : Nat
  dims : List (Nat × Nat)
  reset : Nat
  flds : List Fld
  deriving DecidableEq, Repr

/-- A named field: the BAR0 address of its register, its low bit and its width. -/
structure FRef where
  addr : Nat
  lo : Nat
  len : Nat
  deriving DecidableEq, Repr

/-- Registers of the HUB group. -/
def regsHub : List RegFam := [
  -- HUB_W256_CTL (R34)
  ⟨0x300, 32, [], 0x13, [⟨0, 1, .rw⟩, ⟨1, 1, .rw⟩, ⟨2, 1, .w1s⟩, ⟨3, 1, .wo⟩, ⟨4, 2, .rw⟩, ⟨8, 3, .rw⟩]⟩,
  -- HUB_W256_STAT (R34)
  ⟨0x308, 64, [], 0x0, [⟨0, 32, .ro⟩, ⟨32, 16, .ro⟩, ⟨48, 6, .ro⟩, ⟨54, 1, .w1c⟩]⟩,
  -- HUB_TAG_POOL_n (R35)
  ⟨0x400, 32, [(0x4, 8)], 0x0, [⟨0, 12, .rw⟩, ⟨16, 12, .rw⟩]⟩,
  -- HUB_TAG_STAT_n (R36)
  ⟨0x440, 32, [(0x4, 8)], 0x0, [⟨0, 12, .ro⟩, ⟨16, 12, .ro⟩, ⟨30, 1, .wo⟩, ⟨31, 1, .w1c⟩]⟩,
  -- HUB_TAG_TIMEOUT (R36)
  ⟨0x460, 32, [], 0x3e8, [⟨0, 16, .rw⟩]⟩,
  -- HUB_MODE_STAT (R302)
  ⟨0x200, 32, [], 0x101, [⟨0, 4, .ro⟩, ⟨4, 4, .ro⟩, ⟨8, 1, .ro⟩, ⟨9, 1, .ro⟩, ⟨10, 1, .ro⟩, ⟨11, 3, .ro⟩, ⟨16, 4, .ro⟩]⟩,
  -- HUB_MODE_REQ (R302)
  ⟨0x204, 32, [], 0x0, [⟨0, 4, .wo⟩, ⟨4, 1, .wo⟩, ⟨8, 4, .ro⟩, ⟨12, 1, .w1c⟩]⟩,
  -- HUB_RESET_CAUSE (R303)
  ⟨0x208, 32, [], 0x1, [⟨0, 1, .w1c⟩, ⟨1, 1, .w1c⟩]⟩,
  -- HUB_BOOT_STAT (R308)
  ⟨0x210, 32, [], 0x3, [⟨0, 2, .ro⟩, ⟨2, 1, .ro⟩, ⟨3, 1, .ro⟩, ⟨4, 4, .ro⟩, ⟨8, 4, .ro⟩, ⟨12, 4, .ro⟩, ⟨16, 1, .ro⟩, ⟨17, 1, .ro⟩]⟩,
  -- HUB_BOOT_CTL (R308)
  ⟨0x214, 32, [], 0x0, [⟨0, 1, .w1s⟩, ⟨1, 1, .w1s⟩]⟩,
  -- HUB_BOOT_IMG (R308)
  ⟨0x218, 64, [], 0x0, [⟨12, 52, .rw⟩]⟩,
  -- HUB_BIST_RES (R310)
  ⟨0x220, 32, [], 0x0, [⟨0, 6, .ro⟩, ⟨6, 1, .ro⟩, ⟨7, 1, .ro⟩, ⟨8, 1, .ro⟩]⟩,
  -- HUB_HO_CTL (R342)
  ⟨0x230, 32, [], 0x0, [⟨0, 1, .w1s⟩]⟩,
  -- HUB_HO_STAT (R342)
  ⟨0x234, 32, [], 0x0, [⟨0, 1, .ro⟩, ⟨1, 1, .ro⟩, ⟨2, 4, .ro⟩]⟩,
  -- HUB_SLICE_CTL (R342)
  ⟨0x240, 32, [], 0x0, [⟨0, 3, .rw⟩, ⟨3, 2, .rw⟩, ⟨5, 1, .w1s⟩]⟩,
  -- HUB_SLICE_STAT (R342)
  ⟨0x244, 32, [], 0x0, [⟨0, 1, .ro⟩, ⟨1, 1, .w1c⟩, ⟨2, 3, .ro⟩, ⟨5, 3, .ro⟩]⟩,
  -- HUB_ID (R407)
  ⟨0x0, 32, [], 0x15361f9a, [⟨0, 16, .ro⟩, ⟨16, 16, .ro⟩]⟩,
  -- HUB_REV (R407)
  ⟨0x4, 32, [], 0x1021011, [⟨0, 8, .ro⟩, ⟨8, 8, .ro⟩, ⟨16, 8, .ro⟩, ⟨24, 8, .ro⟩]⟩,
  -- HUB_UID (R407)
  ⟨0x8, 64, [], 0x0, [⟨0, 64, .ro⟩]⟩,
  -- HUB_CAP (R407)
  ⟨0x10, 32, [], 0xff, [⟨0, 6, .ro⟩, ⟨6, 1, .ro⟩, ⟨7, 1, .ro⟩]⟩,
  -- HUB_SVN_FLOOR (R407)
  ⟨0x14, 32, [], 0x0, [⟨0, 32, .ro⟩]⟩,
  -- HUB_CLAIM_i (R412)
  ⟨0x800, 32, [(0x4, 32)], 0x0, [⟨0, 8, .ro⟩, ⟨8, 1, .w1s⟩, ⟨9, 1, .wo⟩, ⟨16, 8, .ro⟩, ⟨24, 1, .w1c⟩]⟩,
  -- Error log entry i, word j (R34)
  ⟨0x1000, 64, [(0x20, 64), (0x8, 4)], 0x0, [⟨0, 64, .ro⟩]⟩
  ]

/-- Registers of the FIRE group. -/
def regsFire : List RegFam := [
  -- FIRE_BANK_n_CFG (R41)
  ⟨0x200200, 32, [(0x4, 64)], 0x0, [⟨0, 4, .rw⟩, ⟨4, 2, .rw⟩, ⟨6, 1, .rw⟩, ⟨8, 3, .rw⟩, ⟨11, 2, .rw⟩]⟩,
  -- FIRE_FRAME_CTL (R51)
  ⟨0x200000, 32, [], 0x0, [⟨0, 1, .rw⟩, ⟨1, 1, .w1s⟩, ⟨2, 2, .rw⟩, ⟨4, 2, .rw⟩, ⟨6, 1, .rw⟩]⟩,
  -- FIRE_FRAME_LEN_b (R51)
  ⟨0x200008, 32, [(0x4, 2)], 0x0, [⟨0, 15, .rw⟩]⟩,
  -- FIRE_SWAP_TIME (R51)
  ⟨0x200010, 64, [], 0x0, [⟨0, 64, .rw⟩]⟩,
  -- FIRE_FRAME_STAT (R51)
  ⟨0x200018, 32, [], 0x0, [⟨0, 1, .ro⟩, ⟨1, 1, .ro⟩, ⟨2, 1, .ro⟩, ⟨3, 1, .ro⟩, ⟨4, 8, .ro⟩, ⟨12, 4, .ro⟩, ⟨16, 1, .w1c⟩, ⟨17, 1, .w1c⟩]⟩,
  -- FIRE_FRAME_VAL (R51)
  ⟨0x20001c, 32, [], 0x0, [⟨0, 14, .ro⟩]⟩,
  -- FIRE_TIMING_CFG (R51)
  ⟨0x200020, 32, [], 0x9c4, [⟨0, 16, .rw⟩, ⟨16, 8, .rw⟩]⟩,
  -- FIRE_SHOT_STAT (R51)
  ⟨0x200028, 64, [], 0x0, [⟨0, 32, .ro⟩, ⟨32, 32, .ro⟩]⟩,
  -- FIRE_STROBE_n_CFG (R53)
  ⟨0x200100, 32, [(0x4, 16)], 0x6000, [⟨0, 11, .rw⟩, ⟨12, 5, .rw⟩, ⟨17, 1, .rw⟩]⟩,
  -- FIRE_CODE_CFG (R56)
  ⟨0x200030, 32, [], 0x40, [⟨0, 8, .rw⟩, ⟨8, 1, .w1s⟩]⟩,
  -- FIRE_CODE_KEY (R56)
  ⟨0x200034, 32, [], 0x1, [⟨0, 32, .rw⟩]⟩,
  -- FIRE_TAPER_CFG (R62)
  ⟨0x200300, 32, [], 0x30096, [⟨0, 9, .rw⟩, ⟨16, 1, .rw⟩, ⟨17, 1, .rw⟩]⟩,
  -- FIRE_TAPER_STAT (R62)
  ⟨0x200304, 32, [], 0x0, [⟨0, 16, .ro⟩, ⟨16, 16, .w1c⟩]⟩,
  -- FIRE_TAPER_DRV_n_CNT (R62)
  ⟨0x200340, 32, [(0x4, 16)], 0x0, [⟨0, 16, .rc⟩, ⟨16, 16, .rc⟩]⟩,
  -- FIRE_MIRROR_CFG (R65)
  ⟨0x200400, 32, [], 0x10800, [⟨0, 2, .rw⟩, ⟨2, 2, .rw⟩, ⟨4, 1, .rw⟩, ⟨8, 8, .rw⟩, ⟨16, 4, .rw⟩]⟩,
  -- FIRE_MIRROR_SCALE (R65)
  ⟨0x200404, 32, [], 0x1000000, [⟨0, 32, .rw⟩]⟩,
  -- FIRE_MIRROR_ZERO (R65)
  ⟨0x200408, 32, [], 0x0, [⟨0, 32, .rw⟩]⟩,
  -- FIRE_MIRROR_PHASE (R65)
  ⟨0x20040c, 32, [], 0xa000000, [⟨0, 24, .rw⟩, ⟨24, 8, .rw⟩]⟩,
  -- FIRE_MIRROR_STAT (R65)
  ⟨0x200410, 32, [], 0x0, [⟨0, 24, .ro⟩, ⟨24, 1, .ro⟩, ⟨25, 1, .w1c⟩, ⟨26, 1, .w1c⟩, ⟨27, 1, .w1c⟩]⟩,
  -- FIRE_DIAG_CFG (R71)
  ⟨0x200500, 32, [], 0x8400020, [⟨0, 9, .rw⟩, ⟨16, 8, .rw⟩, ⟨24, 6, .rw⟩]⟩,
  -- FIRE_DIAG_PERIOD (R71)
  ⟨0x200504, 32, [], 0x3c, [⟨0, 16, .rw⟩]⟩,
  -- FIRE_DIAG_REF (R71)
  ⟨0x200508, 32, [], 0x140040, [⟨0, 12, .rw⟩, ⟨16, 8, .rw⟩]⟩,
  -- FIRE_DIAG_CLR (R71)
  ⟨0x20050c, 32, [], 0x0, [⟨0, 6, .wo⟩, ⟨6, 6, .wo⟩, ⟨12, 1, .wo⟩, ⟨13, 1, .wo⟩]⟩,
  -- FIRE_SEG_STATE_b_w (R71)
  ⟨0x201000, 32, [(0x10, 64), (0x4, 3)], 0x0, [⟨0, 2, .ro⟩, ⟨2, 2, .ro⟩, ⟨4, 2, .ro⟩, ⟨6, 2, .ro⟩, ⟨8, 2, .ro⟩, ⟨10, 2, .ro⟩, ⟨12, 2, .ro⟩, ⟨14, 2, .ro⟩, ⟨16, 2, .ro⟩, ⟨18, 2, .ro⟩, ⟨20, 2, .ro⟩, ⟨22, 2, .ro⟩, ⟨24, 2, .ro⟩, ⟨26, 2, .ro⟩, ⟨28, 2, .ro⟩, ⟨30, 2, .ro⟩]⟩
  ]

/-- Registers of the SHADE group. -/
def regsShade : List RegFam := [
  -- SHADE_CTL (R69)
  ⟨0x208000, 32, [], 0x0, [⟨0, 1, .w1s⟩]⟩,
  -- SHADE_WIN_w_LEN (R69)
  ⟨0x208010, 32, [(0x8, 3)], 0x0, [⟨0, 32, .rwl⟩]⟩,
  -- SHADE_WIN_w_BUDGET (R69)
  ⟨0x208014, 32, [(0x8, 3)], 0x0, [⟨0, 32, .rw⟩]⟩,
  -- SHADE_AZ_MIN (R69)
  ⟨0x208028, 32, [], 0x0, [⟨0, 20, .rwl⟩]⟩,
  -- SHADE_AZ_MAX (R69)
  ⟨0x20802c, 32, [], 0x0, [⟨0, 20, .rwl⟩]⟩,
  -- SHADE_TEMP_WIN (R69)
  ⟨0x208030, 32, [], 0x0, [⟨0, 16, .rwl⟩, ⟨16, 16, .rwl⟩]⟩,
  -- SHADE_TEMP_CFG (R69)
  ⟨0x208034, 32, [], 0x0, [⟨0, 8, .rwl⟩, ⟨8, 4, .rwl⟩, ⟨12, 4, .rwl⟩, ⟨16, 1, .rwl⟩]⟩,
  -- SHADE_STAT (R69)
  ⟨0x208040, 32, [], 0x0, [⟨0, 1, .ro⟩, ⟨1, 1, .ro⟩, ⟨2, 1, .w1c⟩]⟩,
  -- SHADE_SUPPRESS_CNT (R69)
  ⟨0x208044, 32, [], 0x0, [⟨0, 32, .rc⟩]⟩
  ]

/-- Registers of the TILE group. -/
def regsTile : List RegFam := [
  -- TILE_t_AFE_REF_SRC (R75)
  ⟨0x400000, 32, [(0x100000, 6)], 0xffffffff, [⟨0, 32, .rw⟩]⟩,
  -- TILE_t_THR_CH_c (R78)
  ⟨0x401000, 64, [(0x100000, 6), (0x8, 256)], 0x62f8002802f80028, [⟨0, 10, .rw⟩, ⟨16, 10, .rw⟩, ⟨32, 10, .rw⟩, ⟨48, 10, .rw⟩, ⟨60, 2, .rw⟩, ⟨62, 1, .rw⟩]⟩,
  -- TILE_t_THR_REF_k (R78)
  ⟨0x401800, 64, [(0x100000, 6), (0x8, 4)], 0x62f8002802f80028, [⟨0, 10, .rw⟩, ⟨16, 10, .rw⟩, ⟨32, 10, .rw⟩, ⟨48, 10, .rw⟩, ⟨60, 2, .rw⟩, ⟨62, 1, .rw⟩]⟩,
  -- TILE_t_CH_EN_w (R84)
  ⟨0x400010, 32, [(0x100000, 6), (0x4, 8)], 0x0, [⟨0, 32, .rw⟩]⟩,
  -- TILE_t_TDC_CFG (R89)
  ⟨0x402000, 32, [(0x100000, 6)], 0xa03, [⟨0, 1, .rw⟩, ⟨1, 1, .rw⟩, ⟨8, 8, .rw⟩]⟩,
  -- TILE_t_TDC_STAT (R89)
  ⟨0x402004, 32, [(0x100000, 6)], 0x400000, [⟨0, 16, .ro⟩, ⟨16, 1, .ro⟩, ⟨17, 1, .w1c⟩, ⟨18, 5, .ro⟩]⟩,
  -- TILE_t_CH_c_CNT_A (R92)
  ⟨0x404000, 32, [(0x100000, 6), (0x8, 256)], 0x0, [⟨0, 16, .rc⟩, ⟨16, 16, .rc⟩]⟩,
  -- TILE_t_CH_c_CNT_B (R92)
  ⟨0x404004, 32, [(0x100000, 6), (0x8, 256)], 0x0, [⟨0, 16, .rc⟩, ⟨16, 16, .rc⟩]⟩,
  -- TILE_t_WALK_g_i (R94)
  ⟨0x403000, 32, [(0x100000, 6), (0x100, 2), (0x4, 64)], 0x0, [⟨0, 16, .rw⟩]⟩,
  -- TILE_t_WALK_STEP (R94)
  ⟨0x403200, 32, [(0x100000, 6)], 0x8, [⟨0, 8, .rw⟩]⟩,
  -- TILE_t_TDC_FAIL_w (R99)
  ⟨0x402010, 32, [(0x100000, 6), (0x4, 9)], 0x0, [⟨0, 32, .w1s⟩]⟩,
  -- TILE_t_SPARE_k_MAP (R99)
  ⟨0x402040, 32, [(0x100000, 6), (0x4, 16)], 0x0, [⟨0, 9, .rw⟩, ⟨9, 1, .rw⟩, ⟨10, 1, .ro⟩]⟩,
  -- TILE_t_GANG_CTL (R102)
  ⟨0x402100, 32, [(0x100000, 6)], 0x1, [⟨0, 1, .rw⟩]⟩,
  -- TILE_t_GANG_STAT (R102)
  ⟨0x402104, 32, [(0x100000, 6)], 0x0, [⟨0, 8, .ro⟩, ⟨8, 1, .ro⟩, ⟨9, 1, .w1c⟩]⟩,
  -- TILE_t_REF_CLR (R104)
  ⟨0x4023f0, 32, [(0x100000, 6)], 0x0, [⟨0, 1, .wo⟩]⟩,
  -- TILE_t_REF_k_DRV_n_AVG (R104)
  ⟨0x402400, 32, [(0x100000, 6), (0x40, 4), (0x4, 16)], 0x0, [⟨0, 24, .ro⟩, ⟨24, 8, .ro⟩]⟩,
  -- TILE_t_ZOOM_CFG (R121)
  ⟨0x405000, 32, [(0x100000, 6)], 0x138, [⟨0, 4, .rw⟩, ⟨4, 3, .rw⟩, ⟨8, 1, .rw⟩]⟩,
  -- TILE_t_HIST_STAT (R128)
  ⟨0x405010, 32, [(0x100000, 6)], 0x0, [⟨0, 16, .ro⟩, ⟨16, 1, .w1c⟩, ⟨17, 1, .w1c⟩, ⟨18, 1, .w1c⟩, ⟨19, 1, .w1c⟩]⟩,
  -- TILE_t_HIST_CNT (R128)
  ⟨0x405018, 64, [(0x100000, 6)], 0x0, [⟨0, 32, .ro⟩, ⟨32, 16, .rc⟩, ⟨48, 16, .rc⟩]⟩,
  -- TILE_t_BANK_b_LOAD (R128)
  ⟨0x405100, 32, [(0x100000, 6), (0x4, 16)], 0x0, [⟨0, 8, .ro⟩, ⟨8, 8, .ro⟩, ⟨31, 1, .wo⟩]⟩,
  -- TILE_t_SRAM_REPAIR (R342)
  ⟨0x405200, 32, [(0x100000, 6)], 0x800008, [⟨0, 8, .rw⟩, ⟨8, 8, .ro⟩, ⟨16, 8, .ro⟩, ⟨24, 1, .w1c⟩]⟩
  ]

/-- Registers of the HIST group. -/
def regsHist : List RegFam := [
  -- HIST_ZOOM_CFG (R121)
  ⟨0xa00000, 32, [], 0x4020c, [⟨0, 6, .rw⟩, ⟨8, 8, .rw⟩, ⟨16, 3, .rw⟩, ⟨20, 2, .rw⟩]⟩,
  -- HIST_ZOOM_MIN_BIN (R121)
  ⟨0xa00004, 32, [], 0x0, [⟨0, 12, .rw⟩]⟩,
  -- HIST_ZOOM_STAT (R121)
  ⟨0xa00008, 32, [], 0x0, [⟨0, 16, .rc⟩, ⟨16, 16, .rc⟩]⟩,
  -- HIST_SEQ_STAT (R128)
  ⟨0xa00010, 32, [], 0x0, [⟨0, 16, .rc⟩, ⟨16, 3, .ro⟩, ⟨19, 1, .w1c⟩]⟩,
  -- HIST_DROP_CNT (R128)
  ⟨0xa00014, 32, [], 0x0, [⟨0, 16, .rc⟩]⟩,
  -- HIST_TAP_CTL (R133)
  ⟨0xa00100, 32, [], 0x0, [⟨0, 1, .rw⟩, ⟨1, 1, .rw⟩, ⟨2, 1, .wo⟩, ⟨16, 16, .rw⟩]⟩,
  -- HIST_TAP_BASE (R133)
  ⟨0xa00108, 64, [], 0x0, [⟨12, 52, .rw⟩]⟩,
  -- HIST_TAP_SLOTS (R133)
  ⟨0xa00110, 32, [], 0x0, [⟨0, 16, .rw⟩]⟩,
  -- HIST_TAP_HEAD (R133)
  ⟨0xa00114, 32, [], 0x0, [⟨0, 16, .ro⟩]⟩,
  -- HIST_TAP_TAIL (R133)
  ⟨0xa00118, 32, [], 0x0, [⟨0, 16, .rw⟩]⟩,
  -- HIST_TAP_STAT (R133)
  ⟨0xa0011c, 32, [], 0x0, [⟨0, 16, .ro⟩, ⟨16, 1, .w1c⟩, ⟨17, 1, .w1c⟩]⟩,
  -- HIST_TAP_CNT (R133)
  ⟨0xa00120, 32, [], 0x0, [⟨0, 16, .rc⟩, ⟨16, 16, .rc⟩]⟩,
  -- HIST_TAP_n_SEL (R133)
  ⟨0xa00200, 32, [(0x4, 64)], 0x0, [⟨0, 11, .rw⟩, ⟨11, 1, .rw⟩, ⟨12, 4, .rw⟩]⟩
  ]

/-- Registers of the ECHO group. -/
def regsEcho : List RegFam := [
  -- ECHO_PRIO (R141)
  ⟨0xa01210, 64, [], 0x0, [⟨0, 64, .rw⟩]⟩,
  -- ECHO_AGE (R141)
  ⟨0xa01218, 32, [], 0xc8, [⟨0, 16, .rw⟩]⟩,
  -- ECHO_LOAD (R141)
  ⟨0xa01258, 32, [], 0x0, [⟨0, 8, .ro⟩, ⟨8, 8, .ro⟩, ⟨31, 1, .wo⟩]⟩,
  -- ECHO_CFG (R143)
  ⟨0xa01000, 32, [], 0x3031404, [⟨0, 3, .rw⟩, ⟨3, 1, .rw⟩, ⟨4, 1, .rw⟩, ⟨8, 6, .rw⟩, ⟨16, 8, .rw⟩, ⟨24, 8, .rw⟩]⟩,
  -- ECHO_KERNEL_CTR (R143)
  ⟨0xa01004, 32, [], 0x4, [⟨0, 3, .rw⟩]⟩,
  -- ECHO_KERNEL (R143)
  ⟨0xa01008, 64, [], 0x40ff40000000, [⟨0, 8, .rw⟩, ⟨8, 8, .rw⟩, ⟨16, 8, .rw⟩, ⟨24, 8, .rw⟩, ⟨32, 8, .rw⟩, ⟨40, 8, .rw⟩, ⟨48, 8, .rw⟩, ⟨56, 8, .rw⟩]⟩,
  -- ECHO_REFINE_CFG (R148)
  ⟨0xa01010, 32, [], 0x10001004, [⟨0, 4, .rw⟩, ⟨4, 14, .rw⟩, ⟨24, 8, .rw⟩]⟩,
  -- ECHO_REFRACT (R151)
  ⟨0xa01014, 32, [], 0x0, [⟨0, 16, .rw⟩]⟩,
  -- ECHO_RANGE_OFFSET (R151)
  ⟨0xa01018, 32, [], 0x0, [⟨0, 32, .rw⟩]⟩,
  -- ECHO_TILE_t_PATH (R151)
  ⟨0xa01020, 32, [(0x4, 6)], 0x0, [⟨0, 24, .rw⟩]⟩,
  -- ECHO_REF_t_k_PATH (R151)
  ⟨0xa01040, 32, [(0x10, 6), (0x4, 4)], 0x0, [⟨0, 24, .rw⟩]⟩,
  -- ECHO_RAIN_CFG (R154)
  ⟨0xa010b0, 32, [], 0x9a081e05, [⟨0, 2, .rw⟩, ⟨2, 1, .rw⟩, ⟨8, 8, .rw⟩, ⟨16, 8, .rw⟩, ⟨24, 8, .rw⟩]⟩,
  -- ECHO_RAIN_WIDTH (R154)
  ⟨0xa010b4, 32, [], 0x180, [⟨0, 12, .rw⟩]⟩,
  -- ECHO_BANK_b_SECT (R154)
  ⟨0xa01100, 32, [(0x4, 64)], 0x0, [⟨0, 8, .rw⟩]⟩,
  -- ECHO_IF_CFG (R158)
  ⟨0xa01200, 32, [], 0x2101018, [⟨0, 8, .rw⟩, ⟨8, 8, .rw⟩, ⟨16, 8, .rw⟩, ⟨24, 4, .rw⟩, ⟨28, 1, .rw⟩, ⟨29, 1, .rw⟩]⟩,
  -- ECHO_IF_CFG2 (R158)
  ⟨0xa01204, 32, [], 0x34010, [⟨0, 8, .rw⟩, ⟨8, 8, .rw⟩, ⟨16, 4, .rw⟩]⟩,
  -- ECHO_IF_STAT (R158)
  ⟨0xa01208, 32, [], 0x0, [⟨0, 16, .ro⟩, ⟨16, 1, .ro⟩, ⟨17, 1, .w1c⟩, ⟨18, 1, .w1c⟩]⟩,
  -- ECHO_CONF_CFG (R159)
  ⟨0xa010a0, 32, [], 0x40, [⟨0, 8, .rw⟩, ⟨8, 8, .rw⟩]⟩,
  -- ECHO_CONF_PEN (R159)
  ⟨0xa010a4, 32, [], 0x10204040, [⟨0, 8, .rw⟩, ⟨8, 8, .rw⟩, ⟨16, 8, .rw⟩, ⟨24, 8, .rw⟩]⟩,
  -- ECHO_ROUTE_t (R163)
  ⟨0xa01220, 32, [(0x4, 6)], 0x0, [⟨0, 5, .rw⟩]⟩,
  -- ECHO_STAT (R163)
  ⟨0xa01240, 32, [], 0x0, [⟨0, 1, .ro⟩, ⟨1, 1, .w1c⟩, ⟨2, 1, .w1c⟩, ⟨3, 1, .w1c⟩]⟩,
  -- ECHO_CNT_A (R163)
  ⟨0xa01248, 64, [], 0x0, [⟨0, 32, .ro⟩, ⟨32, 16, .rc⟩, ⟨48, 16, .rc⟩]⟩,
  -- ECHO_CNT_B (R163)
  ⟨0xa01250, 64, [], 0x0, [⟨0, 16, .rc⟩, ⟨16, 16, .rc⟩, ⟨32, 16, .rc⟩, ⟨48, 16, .rc⟩]⟩
  ]

/-- Registers of the TIME group. -/
def regsTime : List RegFam := [
  -- TIME_CTL (R170)
  ⟨0x100000, 32, [], 0x14, [⟨0, 2, .rw⟩, ⟨2, 2, .rw⟩, ⟨4, 1, .rw⟩]⟩,
  -- TIME_NOW (R170)
  ⟨0x100008, 64, [], 0x0, [⟨0, 64, .ro⟩]⟩,
  -- TIME_WRAP (R170)
  ⟨0x100010, 32, [], 0x0, [⟨0, 32, .ro⟩]⟩,
  -- TIME_STEP (R170)
  ⟨0x100018, 64, [], 0x0, [⟨0, 64, .wo⟩]⟩,
  -- TIME_OFFSET (R170)
  ⟨0x100020, 64, [], 0x0, [⟨0, 64, .ro⟩]⟩,
  -- TIME_TRIM (R170)
  ⟨0x100028, 32, [], 0x0, [⟨0, 24, .ro⟩]⟩,
  -- TIME_STAT (R170)
  ⟨0x10002c, 32, [], 0x0, [⟨0, 1, .ro⟩, ⟨1, 1, .ro⟩, ⟨2, 1, .ro⟩, ⟨3, 1, .ro⟩, ⟨4, 1, .ro⟩, ⟨8, 1, .w1c⟩, ⟨9, 1, .w1c⟩, ⟨10, 1, .w1c⟩]⟩,
  -- TIME_WARM_CFG (R170)
  ⟨0x100030, 32, [], 0x143c, [⟨0, 8, .rw⟩, ⟨8, 8, .rw⟩]⟩,
  -- TIME_PPS_STAMP (R172)
  ⟨0x100038, 64, [], 0x0, [⟨0, 64, .ro⟩]⟩,
  -- TIME_TIN_n_CFG (R174)
  ⟨0x100100, 32, [(0x4, 4)], 0x2, [⟨0, 1, .rw⟩, ⟨1, 2, .rw⟩]⟩,
  -- TIME_TIN_n_STAMP (R174)
  ⟨0x100140, 64, [(0x8, 4)], 0x0, [⟨0, 64, .ro⟩]⟩,
  -- TIME_TIN_n_STAT (R174)
  ⟨0x100160, 32, [(0x4, 4)], 0x0, [⟨0, 7, .ro⟩, ⟨7, 1, .w1c⟩, ⟨16, 16, .rc⟩]⟩,
  -- TIME_STATS_CFG (R177)
  ⟨0x100200, 32, [], 0x20, [⟨0, 3, .rw⟩, ⟨3, 2, .rw⟩, ⟨5, 2, .rw⟩, ⟨7, 3, .rw⟩, ⟨10, 2, .rw⟩, ⟨16, 1, .w1s⟩, ⟨17, 1, .wo⟩]⟩,
  -- TIME_STATS_N (R177)
  ⟨0x100204, 32, [], 0x400, [⟨0, 17, .rw⟩]⟩,
  -- TIME_STATS_STAT (R177)
  ⟨0x100208, 32, [], 0x0, [⟨0, 1, .ro⟩, ⟨1, 1, .w1c⟩, ⟨2, 1, .w1c⟩, ⟨3, 1, .w1c⟩, ⟨16, 16, .rc⟩]⟩,
  -- TIME_STATS_MEAN (R177)
  ⟨0x100210, 64, [], 0x0, [⟨0, 64, .ro⟩]⟩,
  -- TIME_STATS_SDEV (R177)
  ⟨0x100218, 32, [], 0x0, [⟨0, 32, .ro⟩]⟩,
  -- TIME_STATS_MINMAX (R177)
  ⟨0x100220, 64, [], 0x0, [⟨0, 32, .ro⟩, ⟨32, 32, .ro⟩]⟩
  ]

/-- Registers of the RING group. -/
def regsRing : List RegFam := [
  -- RING_LINK_STAT (R190)
  ⟨0xb00000, 32, [], 0x0, [⟨0, 2, .ro⟩, ⟨2, 4, .ro⟩, ⟨6, 4, .ro⟩, ⟨10, 1, .ro⟩, ⟨11, 1, .ro⟩, ⟨12, 1, .w1c⟩, ⟨13, 1, .w1c⟩]⟩,
  -- RING_SQ_n_BASE (R199)
  ⟨0xb01000, 64, [(0x20, 128)], 0x0, [⟨12, 52, .rw⟩]⟩,
  -- RING_SQ_n_CFG (R199)
  ⟨0xb01008, 32, [(0x20, 128)], 0x10004, [⟨0, 5, .rw⟩, ⟨5, 1, .rw⟩, ⟨6, 1, .rw⟩, ⟨8, 7, .rw⟩, ⟨16, 8, .rw⟩, ⟨24, 8, .rw⟩]⟩,
  -- RING_SQ_n_STAT (R199)
  ⟨0xb0100c, 32, [(0x20, 128)], 0x0, [⟨0, 16, .ro⟩, ⟨16, 9, .ro⟩, ⟨25, 1, .w1c⟩, ⟨26, 1, .w1c⟩, ⟨27, 1, .w1c⟩, ⟨28, 1, .ro⟩]⟩,
  -- RING_SQ_n_CTL (R199)
  ⟨0xb01010, 32, [(0x20, 128)], 0x0, [⟨0, 1, .w1s⟩]⟩,
  -- RING_CQ_n_BASE (R204)
  ⟨0xb02000, 64, [(0x20, 128)], 0x0, [⟨12, 52, .rw⟩]⟩,
  -- RING_CQ_n_CFG (R204)
  ⟨0xb02008, 32, [(0x20, 128)], 0x4, [⟨0, 5, .rw⟩, ⟨5, 1, .rw⟩, ⟨8, 6, .rw⟩, ⟨14, 1, .rw⟩]⟩,
  -- RING_CQ_n_MOD (R204)
  ⟨0xb0200c, 32, [(0x20, 128)], 0x1, [⟨0, 16, .rw⟩, ⟨16, 16, .rw⟩]⟩,
  -- RING_CQ_n_STAT (R204)
  ⟨0xb02010, 32, [(0x20, 128)], 0x0, [⟨0, 16, .ro⟩, ⟨16, 1, .ro⟩, ⟨17, 1, .w1c⟩, ⟨18, 1, .w1c⟩]⟩,
  -- RING_PR_n_BASE (R211)
  ⟨0xb03000, 64, [(0x40, 32)], 0x0, [⟨12, 52, .rw⟩]⟩,
  -- RING_PR_n_CFG (R211)
  ⟨0xb03008, 32, [(0x40, 32)], 0xb, [⟨0, 5, .rw⟩, ⟨5, 1, .rw⟩, ⟨6, 1, .rw⟩, ⟨8, 6, .rw⟩, ⟨14, 1, .rw⟩]⟩,
  -- RING_PR_n_QUOTA (R211)
  ⟨0xb0300c, 32, [(0x40, 32)], 0x0, [⟨0, 28, .rw⟩]⟩,
  -- RING_PR_n_MOD (R211)
  ⟨0xb03010, 32, [(0x40, 32)], 0x1, [⟨0, 16, .rw⟩, ⟨16, 16, .rw⟩]⟩,
  -- RING_PR_n_WM (R211)
  ⟨0xb03014, 32, [(0x40, 32)], 0x0, [⟨0, 28, .rw⟩]⟩,
  -- RING_PR_n_WB (R211)
  ⟨0xb03018, 64, [(0x40, 32)], 0x0, [⟨3, 61, .rw⟩]⟩,
  -- RING_PR_n_HEAD (R211)
  ⟨0xb03020, 32, [(0x40, 32)], 0x0, [⟨0, 28, .ro⟩]⟩,
  -- RING_PR_n_TAIL (R211)
  ⟨0xb03024, 32, [(0x40, 32)], 0x0, [⟨0, 28, .ro⟩]⟩,
  -- RING_PR_n_STAT (R211)
  ⟨0xb03028, 32, [(0x40, 32)], 0x0, [⟨0, 28, .ro⟩, ⟨28, 1, .w1c⟩, ⟨29, 1, .w1c⟩, ⟨30, 1, .w1c⟩, ⟨31, 1, .w1c⟩]⟩,
  -- RING_PR_n_CTL (R211)
  ⟨0xb0302c, 32, [(0x40, 32)], 0x0, [⟨0, 1, .wo⟩]⟩,
  -- RING_PR_n_CNT (R211)
  ⟨0xb03030, 64, [(0x40, 32)], 0x0, [⟨0, 32, .ro⟩, ⟨32, 16, .rc⟩, ⟨48, 16, .rc⟩]⟩,
  -- RING_EV_CFG (R215)
  ⟨0xb04000, 32, [], 0x0, [⟨0, 11, .rw⟩]⟩,
  -- RING_EV_STAT (R215)
  ⟨0xb04004, 32, [], 0x0, [⟨0, 11, .ro⟩, ⟨11, 1, .w1c⟩, ⟨12, 1, .w1c⟩, ⟨16, 16, .ro⟩]⟩
  ]

/-- Registers of the DPORT group. -/
def regsDport : List RegFam := [
  -- DPORT_ADDR (R221)
  ⟨0x1000000, 64, [], 0x0, [⟨3, 61, .rw⟩]⟩,
  -- DPORT_DATA (R221)
  ⟨0x1000008, 64, [], 0x0, [⟨0, 64, .rw⟩]⟩,
  -- DPORT_STAT (R221)
  ⟨0x1000010, 32, [], 0x0, [⟨0, 1, .w1c⟩, ⟨1, 3, .ro⟩, ⟨16, 10, .ro⟩]⟩
  ]

/-- Registers of the MEM group. -/
def regsMem : List RegFam := [
  -- MEM_CTL (R251)
  ⟨0xc00000, 32, [], 0x0, [⟨0, 2, .rwl⟩, ⟨2, 1, .w1s⟩, ⟨3, 1, .w1s⟩]⟩,
  -- MEM_STAT (R251)
  ⟨0xc00004, 32, [], 0x0, [⟨0, 4, .ro⟩, ⟨4, 4, .ro⟩, ⟨8, 1, .ro⟩, ⟨9, 1, .ro⟩, ⟨10, 1, .ro⟩, ⟨11, 1, .ro⟩, ⟨12, 2, .ro⟩, ⟨14, 1, .ro⟩]⟩,
  -- MEM_EXTENT (R251)
  ⟨0xc00008, 64, [], 0x0, [⟨0, 64, .ro⟩]⟩,
  -- MEM_CH_m_INFO (R251)
  ⟨0xc00010, 32, [(0x4, 4)], 0x0, [⟨0, 3, .ro⟩, ⟨3, 1, .ro⟩, ⟨8, 8, .ro⟩, ⟨16, 2, .ro⟩, ⟨18, 1, .w1c⟩]⟩,
  -- MEM_FREQ_CTL (R251)
  ⟨0xc00030, 32, [], 0x0, [⟨0, 2, .rw⟩, ⟨2, 1, .w1s⟩, ⟨4, 2, .ro⟩, ⟨6, 1, .ro⟩]⟩,
  -- MEM_TRAIN_CFG (R251)
  ⟨0xc00034, 32, [], 0x10064, [⟨0, 16, .rw⟩, ⟨16, 1, .rw⟩]⟩,
  -- MEM_PORT_p_CFG (R251)
  ⟨0xc00100, 32, [(0x10, 8)], 0x0, [⟨0, 16, .rw⟩, ⟨16, 1, .rw⟩]⟩,
  -- MEM_PORT_p_QUOTA (R251)
  ⟨0xc00104, 32, [(0x10, 8)], 0x0, [⟨0, 11, .rw⟩]⟩,
  -- MEM_PORT_p_STAT (R251)
  ⟨0xc00108, 32, [(0x10, 8)], 0x0, [⟨0, 11, .ro⟩, ⟨16, 11, .ro⟩, ⟨27, 1, .wo⟩, ⟨28, 1, .w1c⟩, ⟨29, 1, .w1c⟩]⟩,
  -- MEM_PORT_p_MISS (R251)
  ⟨0xc0010c, 32, [(0x10, 8)], 0x0, [⟨0, 32, .rc⟩]⟩,
  -- MEM_CH_m_REF (R251)
  ⟨0xc00200, 32, [(0x4, 4)], 0x0, [⟨0, 4, .ro⟩, ⟨4, 4, .ro⟩, ⟨16, 16, .rc⟩]⟩,
  -- MEM_SCRUB_CFG (R251)
  ⟨0xc00300, 32, [], 0x118, [⟨0, 8, .rw⟩, ⟨8, 1, .rw⟩]⟩,
  -- MEM_CE_THR (R251)
  ⟨0xc00304, 32, [], 0x3e8, [⟨0, 16, .rw⟩]⟩,
  -- MEM_CH_m_ERR (R251)
  ⟨0xc00310, 64, [(0x8, 4)], 0x0, [⟨0, 32, .ro⟩, ⟨32, 16, .ro⟩, ⟨48, 1, .w1c⟩, ⟨49, 1, .wo⟩]⟩,
  -- MEM_RETIRE_CTL (R251)
  ⟨0xc00400, 32, [], 0x5000, [⟨0, 2, .rw⟩, ⟨2, 1, .w1s⟩, ⟨8, 8, .rw⟩]⟩,
  -- MEM_RETIRE_PTR (R251)
  ⟨0xc00408, 64, [], 0x0, [⟨0, 64, .ro⟩]⟩
  ]

/-- Registers of the ETH group. -/
def regsEth : List RegFam := [
  -- ETH_Pp_CFG (R259)
  ⟨0xd00000, 32, [(0x10000, 4)], 0x50, [⟨0, 3, .rw⟩, ⟨4, 1, .rw⟩, ⟨5, 2, .rw⟩, ⟨7, 1, .w1s⟩, ⟨8, 1, .rw⟩]⟩,
  -- ETH_Pp_STAT (R259)
  ⟨0xd00004, 32, [(0x10000, 4)], 0x0, [⟨0, 1, .ro⟩, ⟨1, 1, .ro⟩, ⟨2, 1, .ro⟩, ⟨3, 1, .w1c⟩, ⟨4, 1, .w1c⟩]⟩,
  -- ETH_Pp_MAC (R259)
  ⟨0xd00008, 64, [(0x10000, 4)], 0x0, [⟨0, 48, .rw⟩]⟩,
  -- ETH_Pp_CNT (R259)
  ⟨0xd00010, 64, [(0x10000, 4)], 0x0, [⟨0, 32, .rc⟩, ⟨32, 16, .rc⟩, ⟨48, 16, .rc⟩]⟩,
  -- ETH_Pp_GATE_CTL (R262)
  ⟨0xd00100, 32, [(0x10000, 4)], 0x0, [⟨0, 1, .rw⟩, ⟨1, 1, .ro⟩, ⟨2, 1, .w1s⟩, ⟨3, 1, .ro⟩, ⟨16, 6, .rw⟩]⟩,
  -- ETH_Pp_GATE_CYCLE (R262)
  ⟨0xd00104, 32, [(0x10000, 4)], 0x0, [⟨0, 30, .rw⟩]⟩,
  -- ETH_Pp_GATE_BASE (R262)
  ⟨0xd00108, 64, [(0x10000, 4)], 0x0, [⟨0, 64, .rw⟩]⟩,
  -- ETH_Pp_GCL_l_i (R262)
  ⟨0xd00200, 32, [(0x10000, 4), (0x100, 2), (0x4, 64)], 0x0, [⟨0, 8, .rw⟩, ⟨8, 24, .rw⟩]⟩,
  -- ETH_Pp_CBS_q (R262)
  ⟨0xd00400, 32, [(0x10000, 4), (0x4, 8)], 0x0, [⟨0, 17, .rw⟩, ⟨31, 1, .rw⟩]⟩,
  -- ETH_Pp_GATE_CNT (R262)
  ⟨0xd00440, 32, [(0x10000, 4)], 0x0, [⟨0, 16, .rc⟩]⟩,
  -- ETH_PSFP_f_ID (R263)
  ⟨0xd51000, 64, [(0x10, 32)], 0x0, [⟨0, 48, .rw⟩, ⟨48, 12, .rw⟩, ⟨60, 4, .rw⟩]⟩,
  -- ETH_PSFP_f_CFG (R263)
  ⟨0xd51008, 32, [(0x10, 32)], 0x0, [⟨0, 1, .rw⟩, ⟨1, 1, .rw⟩, ⟨2, 1, .rw⟩, ⟨4, 11, .rw⟩]⟩,
  -- ETH_PSFP_f_METER (R263)
  ⟨0xd5100c, 32, [(0x10, 32)], 0x0, [⟨0, 20, .rw⟩, ⟨20, 12, .rw⟩]⟩,
  -- ETH_PSFP_f_CNT (R263)
  ⟨0xd51400, 64, [(0x8, 32)], 0x0, [⟨0, 32, .ro⟩, ⟨32, 16, .rc⟩, ⟨48, 16, .rc⟩]⟩,
  -- ETH_FRER_CFG (R264)
  ⟨0xd50010, 32, [], 0x641004, [⟨0, 2, .rw⟩, ⟨2, 2, .rw⟩, ⟨4, 1, .rw⟩, ⟨8, 5, .rw⟩, ⟨16, 16, .rw⟩]⟩,
  -- ETH_FRER_STAT (R264)
  ⟨0xd50014, 32, [], 0x0, [⟨0, 16, .rc⟩, ⟨16, 16, .rc⟩]⟩,
  -- ETH_PTP_CFG (R266)
  ⟨0xd50020, 32, [], 0xdf8f0, [⟨0, 1, .rw⟩, ⟨1, 1, .rw⟩, ⟨4, 4, .rw⟩, ⟨8, 8, .rw⟩, ⟨16, 4, .rw⟩, ⟨20, 4, .rw⟩]⟩,
  -- ETH_PTP_STAT (R266)
  ⟨0xd50024, 32, [], 0x0, [⟨0, 1, .ro⟩, ⟨1, 2, .ro⟩, ⟨3, 1, .ro⟩, ⟨4, 1, .w1c⟩]⟩,
  -- ETH_ETYPE (R268)
  ⟨0xd50000, 32, [], 0x88b688b5, [⟨0, 16, .rw⟩, ⟨16, 16, .rw⟩]⟩,
  -- ETH_EXP_x_CFG (R268)
  ⟨0xd50100, 32, [(0x10, 4)], 0x14000400, [⟨0, 5, .rw⟩, ⟨5, 2, .rw⟩, ⟨7, 1, .rw⟩, ⟨8, 3, .rw⟩, ⟨11, 1, .rw⟩, ⟨12, 12, .rw⟩, ⟨24, 8, .rw⟩]⟩,
  -- ETH_EXP_x_DST (R268)
  ⟨0xd50108, 64, [(0x10, 4)], 0x0, [⟨0, 48, .rw⟩]⟩
  ]

/-- Registers of the QSL group. -/
def regsQsl : List RegFam := [
  -- QSL_TX_c_CFG (R275)
  ⟨0xd40000, 32, [(0x100, 8)], 0xc0, [⟨0, 1, .rw⟩, ⟨1, 1, .w1s⟩, ⟨2, 2, .rw⟩, ⟨4, 1, .rw⟩, ⟨5, 3, .rw⟩, ⟨8, 12, .rw⟩, ⟨20, 7, .rw⟩]⟩,
  -- QSL_TX_c_ID (R275)
  ⟨0xd40004, 32, [(0x100, 8)], 0x0, [⟨0, 32, .rw⟩]⟩,
  -- QSL_TX_c_DST (R275)
  ⟨0xd40008, 64, [(0x100, 8)], 0x0, [⟨0, 48, .rw⟩, ⟨48, 16, .rc⟩]⟩,
  -- QSL_TX_c_TIMING (R275)
  ⟨0xd40010, 32, [(0x100, 8)], 0xc80032, [⟨0, 16, .rw⟩, ⟨16, 16, .rw⟩]⟩,
  -- QSL_RX_c_CFG (R275)
  ⟨0xd41000, 32, [(0x100, 8)], 0xa110020, [⟨0, 1, .rw⟩, ⟨1, 4, .rw⟩, ⟨5, 1, .rw⟩, ⟨6, 1, .w1s⟩, ⟨7, 7, .rw⟩, ⟨14, 4, .rw⟩, ⟨18, 4, .rw⟩, ⟨23, 9, .rw⟩]⟩,
  -- QSL_RX_c_ID (R275)
  ⟨0xd41004, 32, [(0x100, 8)], 0x0, [⟨0, 32, .rw⟩]⟩,
  -- QSL_RX_c_AGE (R275)
  ⟨0xd41008, 32, [(0x100, 8)], 0xc8, [⟨0, 16, .rw⟩]⟩,
  -- QSL_RX_c_STAT (R275)
  ⟨0xd4100c, 32, [(0x100, 8)], 0x0, [⟨0, 2, .ro⟩, ⟨3, 1, .w1c⟩, ⟨4, 4, .ro⟩, ⟨16, 16, .ro⟩]⟩,
  -- QSL_RX_c_CNT (R275)
  ⟨0xd41010, 64, [(0x100, 8)], 0x0, [⟨0, 16, .ro⟩, ⟨16, 16, .rc⟩, ⟨32, 16, .rc⟩, ⟨48, 16, .rc⟩]⟩,
  -- QSL_TX_c_PAYLOAD_w (R272)
  ⟨0xd40040, 32, [(0x100, 8), (0x4, 16)], 0x0, [⟨0, 32, .rw⟩]⟩,
  -- QSL_RX_c_PAYLOAD_w (R275)
  ⟨0xd41040, 32, [(0x100, 8), (0x4, 16)], 0x0, [⟨0, 32, .ro⟩]⟩
  ]

/-- Registers of the SAF group. -/
def regsSaf : List RegFam := [
  -- SAF_STAT (R297)
  ⟨0xe00000, 32, [], 0x40, [⟨0, 1, .ro⟩, ⟨1, 1, .ro⟩, ⟨2, 1, .ro⟩, ⟨3, 1, .ro⟩, ⟨4, 1, .ro⟩, ⟨5, 1, .ro⟩, ⟨6, 1, .ro⟩, ⟨8, 4, .ro⟩, ⟨12, 4, .ro⟩, ⟨16, 1, .ro⟩, ⟨17, 1, .ro⟩]⟩,
  -- SAF_FAULT (R297)
  ⟨0xe00004, 32, [], 0xe, [⟨0, 8, .ro⟩, ⟨8, 8, .ro⟩, ⟨16, 16, .ro⟩]⟩,
  -- SAF_FAULT_TIME (R297)
  ⟨0xe00008, 64, [], 0x0, [⟨0, 64, .ro⟩]⟩,
  -- SAF_ZONE_STAT (R297)
  ⟨0xe00010, 64, [], 0x0, [⟨0, 1, .ro⟩, ⟨2, 1, .ro⟩, ⟨4, 1, .ro⟩, ⟨6, 1, .ro⟩, ⟨8, 1, .ro⟩, ⟨10, 1, .ro⟩, ⟨12, 1, .ro⟩, ⟨14, 1, .ro⟩, ⟨16, 1, .ro⟩, ⟨18, 1, .ro⟩, ⟨20, 1, .ro⟩, ⟨22, 1, .ro⟩, ⟨24, 1, .ro⟩, ⟨26, 1, .ro⟩, ⟨28, 1, .ro⟩, ⟨30, 1, .ro⟩, ⟨32, 1, .ro⟩, ⟨34, 1, .ro⟩, ⟨36, 1, .ro⟩, ⟨38, 1, .ro⟩, ⟨40, 1, .ro⟩, ⟨42, 1, .ro⟩, ⟨44, 1, .ro⟩, ⟨46, 1, .ro⟩, ⟨48, 1, .ro⟩, ⟨50, 1, .ro⟩, ⟨52, 1, .ro⟩, ⟨54, 1, .ro⟩, ⟨56, 1, .ro⟩, ⟨58, 1, .ro⟩, ⟨60, 1, .ro⟩, ⟨62, 1, .ro⟩, ⟨1, 1, .ro⟩, ⟨3, 1, .ro⟩, ⟨5, 1, .ro⟩, ⟨7, 1, .ro⟩, ⟨9, 1, .ro⟩, ⟨11, 1, .ro⟩, ⟨13, 1, .ro⟩, ⟨15, 1, .ro⟩, ⟨17, 1, .ro⟩, ⟨19, 1, .ro⟩, ⟨21, 1, .ro⟩, ⟨23, 1, .ro⟩, ⟨25, 1, .ro⟩, ⟨27, 1, .ro⟩, ⟨29, 1, .ro⟩, ⟨31, 1, .ro⟩, ⟨33, 1, .ro⟩, ⟨35, 1, .ro⟩, ⟨37, 1, .ro⟩, ⟨39, 1, .ro⟩, ⟨41, 1, .ro⟩, ⟨43, 1, .ro⟩, ⟨45, 1, .ro⟩, ⟨47, 1, .ro⟩, ⟨49, 1, .ro⟩, ⟨51, 1, .ro⟩, ⟨53, 1, .ro⟩, ⟨55, 1, .ro⟩, ⟨57, 1, .ro⟩, ⟨59, 1, .ro⟩, ⟨61, 1, .ro⟩, ⟨63, 1, .ro⟩]⟩,
  -- SAF_DCI_STAT (R297)
  ⟨0xe00018, 32, [], 0x0, [⟨0, 8, .ro⟩, ⟨8, 4, .ro⟩, ⟨12, 4, .ro⟩]⟩,
  -- SAF_ZT_CTL (R297)
  ⟨0xe00100, 32, [], 0x0, [⟨0, 1, .w1s⟩, ⟨1, 1, .w1s⟩, ⟨2, 1, .wo⟩]⟩,
  -- SAF_ZT_STAT (R297)
  ⟨0xe00104, 32, [], 0x0, [⟨0, 2, .ro⟩, ⟨2, 1, .ro⟩, ⟨3, 1, .ro⟩, ⟨4, 4, .ro⟩, ⟨8, 1, .w1c⟩]⟩,
  -- SAF_ZT_ACTIVE (R297)
  ⟨0xe00108, 64, [], 0x0, [⟨0, 32, .ro⟩, ⟨32, 32, .ro⟩]⟩,
  -- SAF_LOR_CNT (R297)
  ⟨0xe00110, 32, [], 0x0, [⟨0, 16, .ro⟩, ⟨16, 16, .rc⟩]⟩
  ]

/-- Registers of the IND group. -/
def regsInd : List RegFam := [
  -- IND_n_CFG (R321)
  ⟨0xf8c000, 64, [(0x8, 8)], 0x0, [⟨0, 2, .rw⟩, ⟨2, 3, .rw⟩, ⟨5, 1, .rw⟩, ⟨8, 6, .rw⟩, ⟨16, 16, .rw⟩, ⟨32, 8, .rw⟩, ⟨40, 3, .rw⟩, ⟨43, 3, .rw⟩]⟩,
  -- IND_CTL (R321)
  ⟨0xf8c040, 32, [], 0x0, [⟨0, 1, .w1s⟩, ⟨1, 1, .rw⟩, ⟨2, 1, .w1c⟩]⟩,
  -- IND_APPLY_TIME (R321)
  ⟨0xf8c048, 64, [], 0x0, [⟨0, 64, .rw⟩]⟩,
  -- IND_STAT (R321)
  ⟨0xf8c050, 32, [], 0xffff, [⟨0, 2, .ro⟩, ⟨2, 2, .ro⟩, ⟨4, 2, .ro⟩, ⟨6, 2, .ro⟩, ⟨8, 2, .ro⟩, ⟨10, 2, .ro⟩, ⟨12, 2, .ro⟩, ⟨14, 2, .ro⟩, ⟨16, 8, .w1c⟩]⟩
  ]

/-- Registers of the TWN group. -/
def regsTwn : List RegFam := [
  -- TWN_CTL (R342)
  ⟨0xd80000, 32, [], 0x3, [⟨0, 1, .rw⟩, ⟨1, 1, .rw⟩, ⟨2, 1, .rw⟩, ⟨3, 1, .rw⟩, ⟨4, 4, .w1s⟩]⟩,
  -- TWN_STAT (R342)
  ⟨0xd80004, 32, [], 0x0, [⟨0, 1, .ro⟩, ⟨1, 1, .ro⟩, ⟨2, 4, .ro⟩, ⟨6, 1, .ro⟩, ⟨7, 4, .ro⟩, ⟨11, 1, .ro⟩, ⟨12, 1, .ro⟩, ⟨13, 1, .ro⟩, ⟨14, 1, .w1c⟩, ⟨15, 1, .w1c⟩, ⟨16, 1, .w1c⟩]⟩,
  -- TWN_PHASE (R342)
  ⟨0xd80008, 32, [], 0x0, [⟨0, 32, .rw⟩]⟩,
  -- TWN_PEER_EPOCH (R342)
  ⟨0xd80010, 32, [], 0x0, [⟨0, 32, .ro⟩]⟩,
  -- TWN_PEER_TABLE (R342)
  ⟨0xd80018, 64, [], 0x0, [⟨0, 32, .ro⟩, ⟨32, 32, .ro⟩]⟩,
  -- TWN_OWN_CTL (R342)
  ⟨0xd80020, 32, [], 0x0, [⟨0, 1, .w1s⟩, ⟨1, 1, .ro⟩, ⟨2, 1, .ro⟩, ⟨3, 1, .w1c⟩]⟩,
  -- TWN_MIRROR_BASE (R342)
  ⟨0xd80028, 64, [], 0x0, [⟨24, 40, .rw⟩]⟩,
  -- TWN_OVL_BANKS (R342)
  ⟨0xd80040, 64, [], 0x0, [⟨0, 64, .rw⟩]⟩,
  -- TWN_OVL_AZ (R342)
  ⟨0xd80048, 64, [], 0x0, [⟨0, 20, .rw⟩, ⟨32, 20, .rw⟩]⟩,
  -- TWN_OVL_CFG (R342)
  ⟨0xd80050, 32, [], 0x10100032, [⟨0, 12, .rw⟩, ⟨16, 8, .rw⟩, ⟨24, 8, .rw⟩]⟩
  ]

/-- Registers of the HK group. -/
def regsHk : List RegFam := [
  -- HK_CTL (R362)
  ⟨0xe80000, 32, [], 0x4e20090, [⟨0, 1, .rw⟩, ⟨1, 2, .rw⟩, ⟨3, 1, .rw⟩, ⟨4, 2, .rw⟩, ⟨6, 1, .rw⟩, ⟨7, 1, .rw⟩, ⟨8, 4, .rw⟩, ⟨12, 1, .w1s⟩, ⟨16, 16, .rw⟩]⟩,
  -- HK_PERIOD (R362)
  ⟨0xe80004, 32, [], 0x186a0, [⟨0, 32, .rw⟩]⟩,
  -- HK_STAT (R362)
  ⟨0xe80008, 32, [], 0x0, [⟨0, 1, .ro⟩, ⟨1, 1, .ro⟩, ⟨2, 1, .ro⟩, ⟨3, 1, .w1c⟩, ⟨16, 16, .rc⟩]⟩,
  -- HK_CAL_CMD (R362)
  ⟨0xe8000c, 32, [], 0x0, [⟨0, 24, .rw⟩, ⟨24, 4, .rw⟩, ⟨28, 1, .rw⟩, ⟨29, 1, .w1s⟩]⟩,
  -- HK_SEQ_i_CFG (R362)
  ⟨0xe80100, 32, [(0x10, 16)], 0x20000000, [⟨0, 2, .rw⟩, ⟨2, 5, .rw⟩, ⟨7, 5, .rw⟩, ⟨12, 5, .rw⟩, ⟨17, 3, .rw⟩, ⟨20, 2, .rw⟩, ⟨22, 2, .rw⟩, ⟨24, 3, .rw⟩, ⟨27, 3, .rw⟩]⟩,
  -- HK_SEQ_i_TIM (R362)
  ⟨0xe80104, 32, [(0x10, 16)], 0x64, [⟨0, 16, .rw⟩, ⟨16, 4, .rw⟩, ⟨20, 1, .rw⟩, ⟨24, 8, .rw⟩]⟩,
  -- HK_THR_i (R362)
  ⟨0xe80108, 64, [(0x10, 16)], 0x800000007fffffff, [⟨0, 32, .rw⟩, ⟨32, 32, .rw⟩]⟩,
  -- HK_RES_i (R362)
  ⟨0xe80400, 64, [(0x8, 16)], 0x0, [⟨0, 24, .ro⟩, ⟨24, 1, .ro⟩, ⟨25, 1, .ro⟩, ⟨26, 1, .ro⟩, ⟨27, 1, .ro⟩, ⟨28, 1, .ro⟩, ⟨29, 1, .ro⟩, ⟨30, 1, .w1c⟩, ⟨31, 1, .w1c⟩, ⟨32, 32, .ro⟩]⟩,
  -- HK_CAL_i (R362)
  ⟨0xe80500, 64, [(0x8, 16)], 0x4000000000000000, [⟨0, 24, .rw⟩, ⟨32, 32, .rw⟩]⟩,
  -- HK_LEAD_i (R362)
  ⟨0xe80580, 32, [(0x4, 16)], 0x0, [⟨0, 24, .ro⟩, ⟨24, 1, .ro⟩]⟩,
  -- HK_LIN_s_k (R362)
  ⟨0xe81000, 32, [(0x80, 4), (0x4, 24)], 0x0, [⟨0, 32, .rw⟩]⟩,
  -- HK_LIN_s_CFG (R362)
  ⟨0xe81060, 32, [(0x80, 4)], 0x1, [⟨0, 3, .rw⟩, ⟨4, 2, .rw⟩]⟩
  ]

/-- Registers of the CHM group. -/
def regsChm : List RegFam := [
  -- CHM_CTL (R362)
  ⟨0xe88000, 32, [], 0x36642710, [⟨0, 15, .rw⟩, ⟨15, 1, .rw⟩, ⟨16, 8, .rw⟩, ⟨24, 4, .rw⟩, ⟨28, 4, .rw⟩]⟩,
  -- CHM_CFG (R362)
  ⟨0xe88008, 64, [], 0xa00100032, [⟨0, 16, .rw⟩, ⟨16, 8, .rw⟩, ⟨24, 4, .rw⟩, ⟨28, 1, .rw⟩, ⟨32, 16, .rw⟩]⟩,
  -- CHM_STAT (R362)
  ⟨0xe88010, 32, [], 0x0, [⟨0, 2, .ro⟩, ⟨2, 2, .ro⟩, ⟨4, 2, .ro⟩, ⟨6, 2, .ro⟩, ⟨8, 2, .ro⟩, ⟨10, 2, .ro⟩, ⟨12, 2, .ro⟩, ⟨14, 2, .ro⟩, ⟨16, 2, .ro⟩, ⟨18, 1, .w1c⟩, ⟨24, 8, .w1s⟩]⟩,
  -- CHM_E_e_MEAS (R362)
  ⟨0xe88040, 64, [(0x8, 8)], 0x0, [⟨0, 32, .ro⟩, ⟨32, 16, .ro⟩, ⟨48, 1, .ro⟩, ⟨49, 2, .ro⟩]⟩
  ]

/-- Registers of the THM group. -/
def regsThm : List RegFam := [
  -- THM_CTL (R369)
  ⟨0xf00000, 32, [], 0xa, [⟨0, 8, .rw⟩, ⟨8, 1, .w1s⟩, ⟨12, 4, .rw⟩]⟩,
  -- THM_EXT_CFG (R369)
  ⟨0xf00004, 32, [], 0x0, [⟨0, 4, .rw⟩, ⟨4, 4, .rw⟩, ⟨8, 4, .rw⟩, ⟨12, 4, .rw⟩]⟩,
  -- THM_CLS_k_THR (R369)
  ⟨0xf00010, 64, [(0x8, 4)], 0x3204b0044c041a, [⟨0, 16, .rw⟩, ⟨16, 16, .rw⟩, ⟨32, 16, .rwl⟩, ⟨48, 8, .rw⟩]⟩,
  -- THM_STAT (R369)
  ⟨0xf00040, 32, [], 0x100, [⟨0, 2, .ro⟩, ⟨2, 2, .ro⟩, ⟨4, 2, .ro⟩, ⟨6, 2, .ro⟩, ⟨8, 1, .ro⟩, ⟨9, 1, .ro⟩, ⟨10, 1, .w1c⟩]⟩,
  -- THM_SENS_i (R369)
  ⟨0xf00100, 32, [(0x4, 38)], 0x0, [⟨0, 16, .ro⟩, ⟨16, 1, .ro⟩, ⟨17, 1, .ro⟩, ⟨18, 2, .ro⟩]⟩
  ]

/-- Registers of the CTL group. -/
def regsCtl : List RegFam := [
  -- CTL_LOOP_n_CFG (R376)
  ⟨0xf01000, 32, [(0x80, 8)], 0x2000, [⟨0, 1, .rw⟩, ⟨1, 1, .rw⟩, ⟨2, 1, .rw⟩, ⟨3, 1, .w1s⟩, ⟨4, 3, .rw⟩, ⟨8, 5, .rw⟩, ⟨13, 3, .rw⟩, ⟨16, 8, .rw⟩, ⟨24, 3, .rw⟩, ⟨27, 1, .w1c⟩, ⟨28, 1, .ro⟩, ⟨29, 1, .ro⟩, ⟨30, 1, .ro⟩]⟩,
  -- CTL_LOOP_n_PAR_k (R376)
  ⟨0xf01004, 32, [(0x80, 8), (0x4, 12)], 0x0, [⟨0, 32, .rw⟩]⟩,
  -- CTL_LOOP_n_STAT_j (R376)
  ⟨0xf01040, 32, [(0x80, 8), (0x4, 4)], 0x0, [⟨0, 32, .ro⟩]⟩
  ]

/-- Registers of the CAL group. -/
def regsCal : List RegFam := [
  -- CAL_NVM_CTL (R384)
  ⟨0xf80100, 32, [], 0x0, [⟨0, 2, .rw⟩, ⟨2, 1, .w1s⟩, ⟨3, 8, .rw⟩, ⟨11, 16, .rw⟩]⟩,
  -- CAL_NVM_STAT (R384)
  ⟨0xf80104, 32, [], 0x0, [⟨0, 1, .ro⟩, ⟨1, 3, .ro⟩, ⟨4, 1, .ro⟩, ⟨5, 1, .w1c⟩, ⟨16, 16, .ro⟩]⟩,
  -- CAL_NVM_GEN (R384)
  ⟨0xf80108, 32, [], 0x0, [⟨0, 32, .ro⟩]⟩,
  -- CAL_NVM_LOAD (R384)
  ⟨0xf8010c, 32, [], 0x0, [⟨0, 16, .ro⟩, ⟨16, 1, .ro⟩]⟩,
  -- CAL_CTL (R388)
  ⟨0xf80000, 32, [], 0x0, [⟨0, 6, .rw⟩, ⟨6, 2, .rw⟩, ⟨8, 1, .w1s⟩]⟩,
  -- CAL_STAT (R388)
  ⟨0xf80004, 32, [], 0x0, [⟨0, 1, .ro⟩, ⟨1, 3, .ro⟩, ⟨4, 1, .w1c⟩, ⟨5, 1, .w1c⟩]⟩,
  -- CAL_LIMITS (R388)
  ⟨0xf80008, 32, [], 0x10280a, [⟨0, 8, .rw⟩, ⟨8, 8, .rw⟩, ⟨16, 8, .rw⟩]⟩,
  -- CAL_t_QUAL (R388)
  ⟨0xf80010, 64, [(0x8, 6)], 0x0, [⟨0, 8, .ro⟩, ⟨8, 8, .ro⟩, ⟨16, 9, .ro⟩, ⟨25, 9, .ro⟩]⟩,
  -- CAL_t_CH_c (R388)
  ⟨0xf81000, 64, [(0x1000, 6), (0x8, 260)], 0x1000000, [⟨0, 5, .rw⟩, ⟨5, 5, .rw⟩, ⟨10, 5, .rw⟩, ⟨15, 5, .rw⟩, ⟨20, 5, .rw⟩, ⟨32, 8, .ro⟩, ⟨40, 8, .ro⟩, ⟨48, 8, .ro⟩, ⟨56, 1, .w1c⟩, ⟨57, 1, .w1c⟩]⟩
  ]

/-- Registers of the BIST group. -/
def regsBist : List RegFam := [
  -- BIST_CFG (R393)
  ⟨0xf8a000, 32, [], 0x1e0001, [⟨0, 1, .rw⟩, ⟨16, 16, .rw⟩]⟩,
  -- BIST_MASK (R393)
  ⟨0xf8a004, 32, [], 0x3ffff, [⟨0, 18, .rw⟩]⟩,
  -- BIST_STAT (R393)
  ⟨0xf8a008, 32, [], 0x0, [⟨0, 5, .ro⟩, ⟨5, 1, .ro⟩, ⟨6, 1, .w1c⟩, ⟨16, 16, .ro⟩]⟩,
  -- BIST_SLICE_s_STAT (R393)
  ⟨0xf8a100, 32, [(0x4, 18)], 0x0, [⟨0, 2, .ro⟩, ⟨8, 8, .ro⟩, ⟨16, 16, .ro⟩]⟩,
  -- BIST_LAST_MISR (R393)
  ⟨0xf8a200, 64, [], 0x0, [⟨0, 64, .ro⟩]⟩
  ]

/-- Registers of the EVT group. -/
def regsEvt : List RegFam := [
  -- EVT_SRC_n_CFG (R400)
  ⟨0xf8e000, 32, [(0x4, 250)], 0x0, [⟨0, 1, .rw⟩, ⟨1, 1, .rw⟩, ⟨4, 3, .rw⟩, ⟨8, 6, .rw⟩]⟩,
  -- EVT_PEND_w (R400)
  ⟨0xf8e400, 32, [(0x4, 8)], 0x0, [⟨0, 32, .w1c⟩]⟩,
  -- EVT_STAT (R400)
  ⟨0xf8e440, 32, [], 0x0, [⟨0, 16, .rc⟩, ⟨16, 1, .w1c⟩]⟩
  ]

/-- Every register family of the device. -/
def regTable : List RegFam :=
  regsHub ++ regsFire ++ regsShade ++ regsTile ++ regsHist ++ regsEcho ++ regsTime ++ regsRing ++ regsDport ++ regsMem ++ regsEth ++ regsQsl ++ regsSaf ++ regsInd ++ regsTwn ++ regsHk ++ regsChm ++ regsThm ++ regsCtl ++ regsCal ++ regsBist ++ regsEvt

/-- Does offset `off` fall on a member of the family with these (stride, count) pairs? -/
def dimsCover : Nat → List (Nat × Nat) → Bool
  | off, [] => off == 0
  | off, (st, c) :: ds => Nat.blt (off / st) c && dimsCover (off % st) ds

/-- Is address `a` a register of family `r`? -/
def RegFam.covers (r : RegFam) (a : Nat) : Bool := Nat.ble r.base a && dimsCover (a - r.base) r.dims

/-- The families of the block that address `a` falls in (R405); the data port's BAR2 registers stand from 0x1000000 up. -/
def blockRegs (a : Nat) : List RegFam :=
  if a < 0x100000 then regsHub
  else if a < 0x200000 then regsTime
  else if a < 0x400000 then regsFire ++ regsShade
  else if a < 0xA00000 then regsTile
  else if a < 0xB00000 then regsHist ++ regsEcho
  else if a < 0xC00000 then regsRing
  else if a < 0xD00000 then regsMem
  else if a < 0xD80000 then regsEth ++ regsQsl
  else if a < 0xE00000 then regsTwn
  else if a < 0xE80000 then regsSaf
  else if a < 0xF00000 then regsHk ++ regsChm
  else if a < 0xF80000 then regsThm ++ regsCtl
  else if a < 0x1000000 then regsCal ++ regsBist ++ regsEvt ++ regsInd
  else regsDport

/-- The family of the register at address `a`, if there is one (R406). -/
def regAt (a : Nat) : Option RegFam := (blockRegs a).find? (·.covers a)

/-- Reset values of HUB_TAG_POOL_n (R35). -/
def tagPoolReset : List Nat :=
  [0x08000200, 0x0C000400, 0x08000300, 0x04000100, 0x04000100, 0x02000080, 0x06000200, 0x01000040]

/-- HUB_W256_CTL (01, R34). -/
def HUB_W256_CTL.addr : Nat := 0x300
def HUB_W256_CTL.writeback_en : FRef := ⟨HUB_W256_CTL.addr, 0, 1⟩
def HUB_W256_CTL.log_ce : FRef := ⟨HUB_W256_CTL.addr, 1, 1⟩
def HUB_W256_CTL.inject_arm : FRef := ⟨HUB_W256_CTL.addr, 2, 1⟩
def HUB_W256_CTL.clear_counts : FRef := ⟨HUB_W256_CTL.addr, 3, 1⟩
def HUB_W256_CTL.inject_bits : FRef := ⟨HUB_W256_CTL.addr, 4, 2⟩
def HUB_W256_CTL.inject_loc : FRef := ⟨HUB_W256_CTL.addr, 8, 3⟩
/-- HUB_W256_STAT (01, R34). -/
def HUB_W256_STAT.addr : Nat := 0x308
def HUB_W256_STAT.ce_count : FRef := ⟨HUB_W256_STAT.addr, 0, 32⟩
def HUB_W256_STAT.ue_count : FRef := ⟨HUB_W256_STAT.addr, 32, 16⟩
def HUB_W256_STAT.log_head : FRef := ⟨HUB_W256_STAT.addr, 48, 6⟩
def HUB_W256_STAT.log_wrapped : FRef := ⟨HUB_W256_STAT.addr, 54, 1⟩
/-- HUB_TAG_POOL_n (01, R35). -/
def HUB_TAG_POOL.addr (n : Nat) : Nat := 0x400 + 0x4 * n
def HUB_TAG_POOL.floor (n : Nat) : FRef := ⟨HUB_TAG_POOL.addr n, 0, 12⟩
def HUB_TAG_POOL.ceiling (n : Nat) : FRef := ⟨HUB_TAG_POOL.addr n, 16, 12⟩
/-- HUB_TAG_STAT_n (01, R36). -/
def HUB_TAG_STAT.addr (n : Nat) : Nat := 0x440 + 0x4 * n
def HUB_TAG_STAT.in_use (n : Nat) : FRef := ⟨HUB_TAG_STAT.addr n, 0, 12⟩
def HUB_TAG_STAT.peak (n : Nat) : FRef := ⟨HUB_TAG_STAT.addr n, 16, 12⟩
def HUB_TAG_STAT.peak_clear (n : Nat) : FRef := ⟨HUB_TAG_STAT.addr n, 30, 1⟩
def HUB_TAG_STAT.exhaust (n : Nat) : FRef := ⟨HUB_TAG_STAT.addr n, 31, 1⟩
/-- HUB_TAG_TIMEOUT (01, R36). -/
def HUB_TAG_TIMEOUT.addr : Nat := 0x460
def HUB_TAG_TIMEOUT.timeout_us : FRef := ⟨HUB_TAG_TIMEOUT.addr, 0, 16⟩
/-- FIRE_BANK_n_CFG (02, R41). -/
def FIRE_BANK_CFG.addr (n : Nat) : Nat := 0x200200 + 0x4 * n
def FIRE_BANK_CFG.driver (n : Nat) : FRef := ⟨FIRE_BANK_CFG.addr n, 0, 4⟩
def FIRE_BANK_CFG.local_bank (n : Nat) : FRef := ⟨FIRE_BANK_CFG.addr n, 4, 2⟩
def FIRE_BANK_CFG.enable (n : Nat) : FRef := ⟨FIRE_BANK_CFG.addr n, 6, 1⟩
def FIRE_BANK_CFG.ref_tile (n : Nat) : FRef := ⟨FIRE_BANK_CFG.addr n, 8, 3⟩
def FIRE_BANK_CFG.ref_ch (n : Nat) : FRef := ⟨FIRE_BANK_CFG.addr n, 11, 2⟩
/-- FIRE_FRAME_CTL (02, R51). -/
def FIRE_FRAME_CTL.addr : Nat := 0x200000
def FIRE_FRAME_CTL.run : FRef := ⟨FIRE_FRAME_CTL.addr, 0, 1⟩
def FIRE_FRAME_CTL.swap_req : FRef := ⟨FIRE_FRAME_CTL.addr, 1, 1⟩
def FIRE_FRAME_CTL.swap_mode : FRef := ⟨FIRE_FRAME_CTL.addr, 2, 2⟩
def FIRE_FRAME_CTL.start_mode : FRef := ⟨FIRE_FRAME_CTL.addr, 4, 2⟩
def FIRE_FRAME_CTL.first_buf : FRef := ⟨FIRE_FRAME_CTL.addr, 6, 1⟩
/-- FIRE_FRAME_LEN_b (02, R51). -/
def FIRE_FRAME_LEN.addr (b : Nat) : Nat := 0x200008 + 0x4 * b
def FIRE_FRAME_LEN.entries (b : Nat) : FRef := ⟨FIRE_FRAME_LEN.addr b, 0, 15⟩
/-- FIRE_SWAP_TIME (02, R51). -/
def FIRE_SWAP_TIME.addr : Nat := 0x200010
def FIRE_SWAP_TIME.time : FRef := ⟨FIRE_SWAP_TIME.addr, 0, 64⟩
/-- FIRE_FRAME_STAT (02, R51). -/
def FIRE_FRAME_STAT.addr : Nat := 0x200018
def FIRE_FRAME_STAT.active_buf : FRef := ⟨FIRE_FRAME_STAT.addr, 0, 1⟩
def FIRE_FRAME_STAT.running : FRef := ⟨FIRE_FRAME_STAT.addr, 1, 1⟩
def FIRE_FRAME_STAT.swap_pending : FRef := ⟨FIRE_FRAME_STAT.addr, 2, 1⟩
def FIRE_FRAME_STAT.start_latched : FRef := ⟨FIRE_FRAME_STAT.addr, 3, 1⟩
def FIRE_FRAME_STAT.frame_epoch : FRef := ⟨FIRE_FRAME_STAT.addr, 4, 8⟩
def FIRE_FRAME_STAT.val_err : FRef := ⟨FIRE_FRAME_STAT.addr, 12, 4⟩
def FIRE_FRAME_STAT.swap_late : FRef := ⟨FIRE_FRAME_STAT.addr, 16, 1⟩
def FIRE_FRAME_STAT.start_overrun : FRef := ⟨FIRE_FRAME_STAT.addr, 17, 1⟩
/-- FIRE_FRAME_VAL (02, R51). -/
def FIRE_FRAME_VAL.addr : Nat := 0x20001c
def FIRE_FRAME_VAL.err_index : FRef := ⟨FIRE_FRAME_VAL.addr, 0, 14⟩
/-- FIRE_TIMING_CFG (02, R51). -/
def FIRE_TIMING_CFG.addr : Nat := 0x200020
def FIRE_TIMING_CFG.start_offset_ns : FRef := ⟨FIRE_TIMING_CFG.addr, 0, 16⟩
def FIRE_TIMING_CFG.blind_len_us : FRef := ⟨FIRE_TIMING_CFG.addr, 16, 8⟩
/-- FIRE_SHOT_STAT (02, R51). -/
def FIRE_SHOT_STAT.addr : Nat := 0x200028
def FIRE_SHOT_STAT.fired : FRef := ⟨FIRE_SHOT_STAT.addr, 0, 32⟩
def FIRE_SHOT_STAT.suppressed : FRef := ⟨FIRE_SHOT_STAT.addr, 32, 32⟩
/-- FIRE_STROBE_n_CFG (02, R53). -/
def FIRE_STROBE_CFG.addr (n : Nat) : Nat := 0x200100 + 0x4 * n
def FIRE_STROBE_CFG.trim (n : Nat) : FRef := ⟨FIRE_STROBE_CFG.addr n, 0, 11⟩
def FIRE_STROBE_CFG.width (n : Nat) : FRef := ⟨FIRE_STROBE_CFG.addr n, 12, 5⟩
def FIRE_STROBE_CFG.enable (n : Nat) : FRef := ⟨FIRE_STROBE_CFG.addr n, 17, 1⟩
/-- FIRE_CODE_CFG (02, R56). -/
def FIRE_CODE_CFG.addr : Nat := 0x200030
def FIRE_CODE_CFG.code_span_ns : FRef := ⟨FIRE_CODE_CFG.addr, 0, 8⟩
def FIRE_CODE_CFG.rekey : FRef := ⟨FIRE_CODE_CFG.addr, 8, 1⟩
/-- FIRE_CODE_KEY (02, R56). -/
def FIRE_CODE_KEY.addr : Nat := 0x200034
def FIRE_CODE_KEY.key : FRef := ⟨FIRE_CODE_KEY.addr, 0, 32⟩
/-- FIRE_TAPER_CFG (02, R62). -/
def FIRE_TAPER_CFG.addr : Nat := 0x200300
def FIRE_TAPER_CFG.t_setup_ns : FRef := ⟨FIRE_TAPER_CFG.addr, 0, 9⟩
def FIRE_TAPER_CFG.lane0_en : FRef := ⟨FIRE_TAPER_CFG.addr, 16, 1⟩
def FIRE_TAPER_CFG.lane1_en : FRef := ⟨FIRE_TAPER_CFG.addr, 17, 1⟩
/-- FIRE_TAPER_STAT (02, R62). -/
def FIRE_TAPER_STAT.addr : Nat := 0x200304
def FIRE_TAPER_STAT.drv_present : FRef := ⟨FIRE_TAPER_STAT.addr, 0, 16⟩
def FIRE_TAPER_STAT.drv_fault : FRef := ⟨FIRE_TAPER_STAT.addr, 16, 16⟩
/-- FIRE_TAPER_DRV_n_CNT (02, R62). -/
def FIRE_TAPER_DRV_CNT.addr (n : Nat) : Nat := 0x200340 + 0x4 * n
def FIRE_TAPER_DRV_CNT.crc_err (n : Nat) : FRef := ⟨FIRE_TAPER_DRV_CNT.addr n, 0, 16⟩
def FIRE_TAPER_DRV_CNT.missing (n : Nat) : FRef := ⟨FIRE_TAPER_DRV_CNT.addr n, 16, 16⟩
/-- FIRE_MIRROR_CFG (02, R65). -/
def FIRE_MIRROR_CFG.addr : Nat := 0x200400
def FIRE_MIRROR_CFG.pos_src : FRef := ⟨FIRE_MIRROR_CFG.addr, 0, 2⟩
def FIRE_MIRROR_CFG.kind : FRef := ⟨FIRE_MIRROR_CFG.addr, 2, 2⟩
def FIRE_MIRROR_CFG.lock_dir : FRef := ⟨FIRE_MIRROR_CFG.addr, 4, 1⟩
def FIRE_MIRROR_CFG.gap_max_us : FRef := ⟨FIRE_MIRROR_CFG.addr, 8, 8⟩
def FIRE_MIRROR_CFG.facets : FRef := ⟨FIRE_MIRROR_CFG.addr, 16, 4⟩
/-- FIRE_MIRROR_SCALE (02, R65). -/
def FIRE_MIRROR_SCALE.addr : Nat := 0x200404
def FIRE_MIRROR_SCALE.scale : FRef := ⟨FIRE_MIRROR_SCALE.addr, 0, 32⟩
/-- FIRE_MIRROR_ZERO (02, R65). -/
def FIRE_MIRROR_ZERO.addr : Nat := 0x200408
def FIRE_MIRROR_ZERO.zero : FRef := ⟨FIRE_MIRROR_ZERO.addr, 0, 32⟩
/-- FIRE_MIRROR_PHASE (02, R65). -/
def FIRE_MIRROR_PHASE.addr : Nat := 0x20040c
def FIRE_MIRROR_PHASE.phase_target : FRef := ⟨FIRE_MIRROR_PHASE.addr, 0, 24⟩
def FIRE_MIRROR_PHASE.phase_tol : FRef := ⟨FIRE_MIRROR_PHASE.addr, 24, 8⟩
/-- FIRE_MIRROR_STAT (02, R65). -/
def FIRE_MIRROR_STAT.addr : Nat := 0x200410
def FIRE_MIRROR_STAT.phase_err : FRef := ⟨FIRE_MIRROR_STAT.addr, 0, 24⟩
def FIRE_MIRROR_STAT.locked : FRef := ⟨FIRE_MIRROR_STAT.addr, 24, 1⟩
def FIRE_MIRROR_STAT.lock_lost : FRef := ⟨FIRE_MIRROR_STAT.addr, 25, 1⟩
def FIRE_MIRROR_STAT.model_used : FRef := ⟨FIRE_MIRROR_STAT.addr, 26, 1⟩
def FIRE_MIRROR_STAT.index_missing : FRef := ⟨FIRE_MIRROR_STAT.addr, 27, 1⟩
/-- SHADE_CTL (02, R69). -/
def SHADE_CTL.addr : Nat := 0x208000
def SHADE_CTL.lock : FRef := ⟨SHADE_CTL.addr, 0, 1⟩
/-- SHADE_WIN_w_LEN (02, R69). -/
def SHADE_WIN_LEN.addr (w : Nat) : Nat := 0x208010 + 0x8 * w
def SHADE_WIN_LEN.len_us (w : Nat) : FRef := ⟨SHADE_WIN_LEN.addr w, 0, 32⟩
/-- SHADE_WIN_w_BUDGET (02, R69). -/
def SHADE_WIN_BUDGET.addr (w : Nat) : Nat := 0x208014 + 0x8 * w
def SHADE_WIN_BUDGET.budget (w : Nat) : FRef := ⟨SHADE_WIN_BUDGET.addr w, 0, 32⟩
/-- SHADE_AZ_MIN (02, R69). -/
def SHADE_AZ_MIN.addr : Nat := 0x208028
def SHADE_AZ_MIN.az : FRef := ⟨SHADE_AZ_MIN.addr, 0, 20⟩
/-- SHADE_AZ_MAX (02, R69). -/
def SHADE_AZ_MAX.addr : Nat := 0x20802c
def SHADE_AZ_MAX.az : FRef := ⟨SHADE_AZ_MAX.addr, 0, 20⟩
/-- SHADE_TEMP_WIN (02, R69). -/
def SHADE_TEMP_WIN.addr : Nat := 0x208030
def SHADE_TEMP_WIN.t_min : FRef := ⟨SHADE_TEMP_WIN.addr, 0, 16⟩
def SHADE_TEMP_WIN.t_max : FRef := ⟨SHADE_TEMP_WIN.addr, 16, 16⟩
/-- SHADE_TEMP_CFG (02, R69). -/
def SHADE_TEMP_CFG.addr : Nat := 0x208034
def SHADE_TEMP_CFG.hyst : FRef := ⟨SHADE_TEMP_CFG.addr, 0, 8⟩
def SHADE_TEMP_CFG.rtd_a : FRef := ⟨SHADE_TEMP_CFG.addr, 8, 4⟩
def SHADE_TEMP_CFG.rtd_b : FRef := ⟨SHADE_TEMP_CFG.addr, 12, 4⟩
def SHADE_TEMP_CFG.rtd_b_en : FRef := ⟨SHADE_TEMP_CFG.addr, 16, 1⟩
/-- SHADE_STAT (02, R69). -/
def SHADE_STAT.addr : Nat := 0x208040
def SHADE_STAT.temp_inhibit : FRef := ⟨SHADE_STAT.addr, 0, 1⟩
def SHADE_STAT.temp_stale : FRef := ⟨SHADE_STAT.addr, 1, 1⟩
def SHADE_STAT.suppress_seen : FRef := ⟨SHADE_STAT.addr, 2, 1⟩
/-- SHADE_SUPPRESS_CNT (02, R69). -/
def SHADE_SUPPRESS_CNT.addr : Nat := 0x208044
def SHADE_SUPPRESS_CNT.count : FRef := ⟨SHADE_SUPPRESS_CNT.addr, 0, 32⟩
/-- FIRE_DIAG_CFG (02, R71). -/
def FIRE_DIAG_CFG.addr : Nat := 0x200500
def FIRE_DIAG_CFG.m : FRef := ⟨FIRE_DIAG_CFG.addr, 0, 9⟩
def FIRE_DIAG_CFG.diag_current : FRef := ⟨FIRE_DIAG_CFG.addr, 16, 8⟩
def FIRE_DIAG_CFG.proof_max : FRef := ⟨FIRE_DIAG_CFG.addr, 24, 6⟩
/-- FIRE_DIAG_PERIOD (02, R71). -/
def FIRE_DIAG_PERIOD.addr : Nat := 0x200504
def FIRE_DIAG_PERIOD.period_s : FRef := ⟨FIRE_DIAG_PERIOD.addr, 0, 16⟩
/-- FIRE_DIAG_REF (02, R71). -/
def FIRE_DIAG_REF.addr : Nat := 0x200508
def FIRE_DIAG_REF.tot_min : FRef := ⟨FIRE_DIAG_REF.addr, 0, 12⟩
def FIRE_DIAG_REF.ref_window_ns : FRef := ⟨FIRE_DIAG_REF.addr, 16, 8⟩
/-- FIRE_DIAG_CLR (02, R71). -/
def FIRE_DIAG_CLR.addr : Nat := 0x20050c
def FIRE_DIAG_CLR.bank : FRef := ⟨FIRE_DIAG_CLR.addr, 0, 6⟩
def FIRE_DIAG_CLR.segment : FRef := ⟨FIRE_DIAG_CLR.addr, 6, 6⟩
def FIRE_DIAG_CLR.whole_bank : FRef := ⟨FIRE_DIAG_CLR.addr, 12, 1⟩
def FIRE_DIAG_CLR.all_banks : FRef := ⟨FIRE_DIAG_CLR.addr, 13, 1⟩
/-- FIRE_SEG_STATE_b_w (02, R71). -/
def FIRE_SEG_STATE.addr (b : Nat) (w : Nat) : Nat := 0x201000 + 0x10 * b + 0x4 * w
def FIRE_SEG_STATE.seg (b : Nat) (w : Nat) (i : Nat) : FRef := ⟨FIRE_SEG_STATE.addr b w, 0 + 2 * i, 2⟩
/-- TILE_t_AFE_REF_SRC (03, R75). -/
def TILE_AFE_REF_SRC.addr (t : Nat) : Nat := 0x400000 + 0x100000 * t
def TILE_AFE_REF_SRC.ref_int (t : Nat) : FRef := ⟨TILE_AFE_REF_SRC.addr t, 0, 32⟩
/-- TILE_t_THR_CH_c (03, R78). -/
def TILE_THR_CH.addr (t : Nat) (c : Nat) : Nat := 0x401000 + 0x100000 * t + 0x8 * c
def TILE_THR_CH.lo_h (t : Nat) (c : Nat) : FRef := ⟨TILE_THR_CH.addr t c, 0, 10⟩
def TILE_THR_CH.hi_h (t : Nat) (c : Nat) : FRef := ⟨TILE_THR_CH.addr t c, 16, 10⟩
def TILE_THR_CH.lo_l (t : Nat) (c : Nat) : FRef := ⟨TILE_THR_CH.addr t c, 32, 10⟩
def TILE_THR_CH.hi_l (t : Nat) (c : Nat) : FRef := ⟨TILE_THR_CH.addr t c, 48, 10⟩
def TILE_THR_CH.gain_mode (t : Nat) (c : Nat) : FRef := ⟨TILE_THR_CH.addr t c, 60, 2⟩
def TILE_THR_CH.term (t : Nat) (c : Nat) : FRef := ⟨TILE_THR_CH.addr t c, 62, 1⟩
/-- TILE_t_THR_REF_k (03, R78). -/
def TILE_THR_REF.addr (t : Nat) (k : Nat) : Nat := 0x401800 + 0x100000 * t + 0x8 * k
def TILE_THR_REF.lo_h (t : Nat) (k : Nat) : FRef := ⟨TILE_THR_REF.addr t k, 0, 10⟩
def TILE_THR_REF.hi_h (t : Nat) (k : Nat) : FRef := ⟨TILE_THR_REF.addr t k, 16, 10⟩
def TILE_THR_REF.lo_l (t : Nat) (k : Nat) : FRef := ⟨TILE_THR_REF.addr t k, 32, 10⟩
def TILE_THR_REF.hi_l (t : Nat) (k : Nat) : FRef := ⟨TILE_THR_REF.addr t k, 48, 10⟩
def TILE_THR_REF.gain_mode (t : Nat) (k : Nat) : FRef := ⟨TILE_THR_REF.addr t k, 60, 2⟩
def TILE_THR_REF.term (t : Nat) (k : Nat) : FRef := ⟨TILE_THR_REF.addr t k, 62, 1⟩
/-- TILE_t_CH_EN_w (03, R84). -/
def TILE_CH_EN.addr (t : Nat) (w : Nat) : Nat := 0x400010 + 0x100000 * t + 0x4 * w
def TILE_CH_EN.en (t : Nat) (w : Nat) : FRef := ⟨TILE_CH_EN.addr t w, 0, 32⟩
/-- TILE_t_TDC_CFG (03, R89). -/
def TILE_TDC_CFG.addr (t : Nat) : Nat := 0x402000 + 0x100000 * t
def TILE_TDC_CFG.auto_sub (t : Nat) : FRef := ⟨TILE_TDC_CFG.addr t, 0, 1⟩
def TILE_TDC_CFG.health_en (t : Nat) : FRef := ⟨TILE_TDC_CFG.addr t, 1, 1⟩
def TILE_TDC_CFG.cdt_delta (t : Nat) : FRef := ⟨TILE_TDC_CFG.addr t, 8, 8⟩
/-- TILE_t_TDC_STAT (03, R89). -/
def TILE_TDC_STAT.addr (t : Nat) : Nat := 0x402004 + 0x100000 * t
def TILE_TDC_STAT.cdt_temp (t : Nat) : FRef := ⟨TILE_TDC_STAT.addr t, 0, 16⟩
def TILE_TDC_STAT.cdt_stale (t : Nat) : FRef := ⟨TILE_TDC_STAT.addr t, 16, 1⟩
def TILE_TDC_STAT.cdt_invalid (t : Nat) : FRef := ⟨TILE_TDC_STAT.addr t, 17, 1⟩
def TILE_TDC_STAT.spares_free (t : Nat) : FRef := ⟨TILE_TDC_STAT.addr t, 18, 5⟩
/-- TILE_t_CH_c_CNT_A (03, R92). -/
def TILE_CH_CNT_A.addr (t : Nat) (c : Nat) : Nat := 0x404000 + 0x100000 * t + 0x8 * c
def TILE_CH_CNT_A.oow (t : Nat) (c : Nat) : FRef := ⟨TILE_CH_CNT_A.addr t c, 0, 16⟩
def TILE_CH_CNT_A.dead_lost (t : Nat) (c : Nat) : FRef := ⟨TILE_CH_CNT_A.addr t c, 16, 16⟩
/-- TILE_t_CH_c_CNT_B (03, R92). -/
def TILE_CH_CNT_B.addr (t : Nat) (c : Nat) : Nat := 0x404004 + 0x100000 * t + 0x8 * c
def TILE_CH_CNT_B.q_lost (t : Nat) (c : Nat) : FRef := ⟨TILE_CH_CNT_B.addr t c, 0, 16⟩
def TILE_CH_CNT_B.sat (t : Nat) (c : Nat) : FRef := ⟨TILE_CH_CNT_B.addr t c, 16, 16⟩
/-- TILE_t_WALK_g_i (03, R94). -/
def TILE_WALK.addr (t : Nat) (g : Nat) (i : Nat) : Nat := 0x403000 + 0x100000 * t + 0x100 * g + 0x4 * i
def TILE_WALK.corr (t : Nat) (g : Nat) (i : Nat) : FRef := ⟨TILE_WALK.addr t g i, 0, 16⟩
/-- TILE_t_WALK_STEP (03, R94). -/
def TILE_WALK_STEP.addr (t : Nat) : Nat := 0x403200 + 0x100000 * t
def TILE_WALK_STEP.step (t : Nat) : FRef := ⟨TILE_WALK_STEP.addr t, 0, 8⟩
/-- TILE_t_TDC_FAIL_w (03, R99). -/
def TILE_TDC_FAIL.addr (t : Nat) (w : Nat) : Nat := 0x402010 + 0x100000 * t + 0x4 * w
def TILE_TDC_FAIL.failed (t : Nat) (w : Nat) : FRef := ⟨TILE_TDC_FAIL.addr t w, 0, 32⟩
/-- TILE_t_SPARE_k_MAP (03, R99). -/
def TILE_SPARE_MAP.addr (t : Nat) (k : Nat) : Nat := 0x402040 + 0x100000 * t + 0x4 * k
def TILE_SPARE_MAP.target (t : Nat) (k : Nat) : FRef := ⟨TILE_SPARE_MAP.addr t k, 0, 9⟩
def TILE_SPARE_MAP.valid (t : Nat) (k : Nat) : FRef := ⟨TILE_SPARE_MAP.addr t k, 9, 1⟩
def TILE_SPARE_MAP.auto (t : Nat) (k : Nat) : FRef := ⟨TILE_SPARE_MAP.addr t k, 10, 1⟩
/-- TILE_t_GANG_CTL (03, R102). -/
def TILE_GANG_CTL.addr (t : Nat) : Nat := 0x402100 + 0x100000 * t
def TILE_GANG_CTL.gang_en (t : Nat) : FRef := ⟨TILE_GANG_CTL.addr t, 0, 1⟩
/-- TILE_t_GANG_STAT (03, R102). -/
def TILE_GANG_STAT.addr (t : Nat) : Nat := 0x402104 + 0x100000 * t
def TILE_GANG_STAT.phase_err (t : Nat) : FRef := ⟨TILE_GANG_STAT.addr t, 0, 8⟩
def TILE_GANG_STAT.locked (t : Nat) : FRef := ⟨TILE_GANG_STAT.addr t, 8, 1⟩
def TILE_GANG_STAT.unlock_seen (t : Nat) : FRef := ⟨TILE_GANG_STAT.addr t, 9, 1⟩
/-- TILE_t_REF_CLR (03, R104). -/
def TILE_REF_CLR.addr (t : Nat) : Nat := 0x4023f0 + 0x100000 * t
def TILE_REF_CLR.clr (t : Nat) : FRef := ⟨TILE_REF_CLR.addr t, 0, 1⟩
/-- TILE_t_REF_k_DRV_n_AVG (03, R104). -/
def TILE_REF_DRV_AVG.addr (t : Nat) (k : Nat) (n : Nat) : Nat := 0x402400 + 0x100000 * t + 0x40 * k + 0x4 * n
def TILE_REF_DRV_AVG.offset (t : Nat) (k : Nat) (n : Nat) : FRef := ⟨TILE_REF_DRV_AVG.addr t k n, 0, 24⟩
def TILE_REF_DRV_AVG.count (t : Nat) (k : Nat) (n : Nat) : FRef := ⟨TILE_REF_DRV_AVG.addr t k n, 24, 8⟩
/-- TILE_t_ZOOM_CFG (04, R121). -/
def TILE_ZOOM_CFG.addr (t : Nat) : Nat := 0x405000 + 0x100000 * t
def TILE_ZOOM_CFG.nc_frac (t : Nat) : FRef := ⟨TILE_ZOOM_CFG.addr t, 0, 4⟩
def TILE_ZOOM_CFG.box_m1 (t : Nat) : FRef := ⟨TILE_ZOOM_CFG.addr t, 4, 3⟩
def TILE_ZOOM_CFG.stamps_en (t : Nat) : FRef := ⟨TILE_ZOOM_CFG.addr t, 8, 1⟩
/-- HIST_ZOOM_CFG (04, R121). -/
def HIST_ZOOM_CFG.addr : Nat := 0xa00000
def HIST_ZOOM_CFG.k : FRef := ⟨HIST_ZOOM_CFG.addr, 0, 6⟩
def HIST_ZOOM_CFG.min_counts : FRef := ⟨HIST_ZOOM_CFG.addr, 8, 8⟩
def HIST_ZOOM_CFG.max_win : FRef := ⟨HIST_ZOOM_CFG.addr, 16, 3⟩
def HIST_ZOOM_CFG.policy : FRef := ⟨HIST_ZOOM_CFG.addr, 20, 2⟩
/-- HIST_ZOOM_MIN_BIN (04, R121). -/
def HIST_ZOOM_MIN_BIN.addr : Nat := 0xa00004
def HIST_ZOOM_MIN_BIN.min_bin : FRef := ⟨HIST_ZOOM_MIN_BIN.addr, 0, 12⟩
/-- HIST_ZOOM_STAT (04, R121). -/
def HIST_ZOOM_STAT.addr : Nat := 0xa00008
def HIST_ZOOM_STAT.empty : FRef := ⟨HIST_ZOOM_STAT.addr, 0, 16⟩
def HIST_ZOOM_STAT.late : FRef := ⟨HIST_ZOOM_STAT.addr, 16, 16⟩
/-- TILE_t_HIST_STAT (04, R128). -/
def TILE_HIST_STAT.addr (t : Nat) : Nat := 0x405010 + 0x100000 * t
def TILE_HIST_STAT.cell_seq (t : Nat) : FRef := ⟨TILE_HIST_STAT.addr t, 0, 16⟩
def TILE_HIST_STAT.sram_ue_seen (t : Nat) : FRef := ⟨TILE_HIST_STAT.addr t, 16, 1⟩
def TILE_HIST_STAT.late_join_seen (t : Nat) : FRef := ⟨TILE_HIST_STAT.addr t, 17, 1⟩
def TILE_HIST_STAT.zoom_missed_seen (t : Nat) : FRef := ⟨TILE_HIST_STAT.addr t, 18, 1⟩
def TILE_HIST_STAT.q_loss_seen (t : Nat) : FRef := ⟨TILE_HIST_STAT.addr t, 19, 1⟩
/-- TILE_t_HIST_CNT (04, R128). -/
def TILE_HIST_CNT.addr (t : Nat) : Nat := 0x405018 + 0x100000 * t
def TILE_HIST_CNT.sealed (t : Nat) : FRef := ⟨TILE_HIST_CNT.addr t, 0, 32⟩
def TILE_HIST_CNT.dropped (t : Nat) : FRef := ⟨TILE_HIST_CNT.addr t, 32, 16⟩
def TILE_HIST_CNT.late_joins (t : Nat) : FRef := ⟨TILE_HIST_CNT.addr t, 48, 16⟩
/-- TILE_t_BANK_b_LOAD (04, R128). -/
def TILE_BANK_LOAD.addr (t : Nat) (b : Nat) : Nat := 0x405100 + 0x100000 * t + 0x4 * b
def TILE_BANK_LOAD.util (t : Nat) (b : Nat) : FRef := ⟨TILE_BANK_LOAD.addr t b, 0, 8⟩
def TILE_BANK_LOAD.peak (t : Nat) (b : Nat) : FRef := ⟨TILE_BANK_LOAD.addr t b, 8, 8⟩
def TILE_BANK_LOAD.peak_clr (t : Nat) (b : Nat) : FRef := ⟨TILE_BANK_LOAD.addr t b, 31, 1⟩
/-- HIST_SEQ_STAT (04, R128). -/
def HIST_SEQ_STAT.addr : Nat := 0xa00010
def HIST_SEQ_STAT.gaps : FRef := ⟨HIST_SEQ_STAT.addr, 0, 16⟩
def HIST_SEQ_STAT.last_tile : FRef := ⟨HIST_SEQ_STAT.addr, 16, 3⟩
def HIST_SEQ_STAT.gap_seen : FRef := ⟨HIST_SEQ_STAT.addr, 19, 1⟩
/-- HIST_DROP_CNT (04, R128). -/
def HIST_DROP_CNT.addr : Nat := 0xa00014
def HIST_DROP_CNT.hub_ue : FRef := ⟨HIST_DROP_CNT.addr, 0, 16⟩
/-- HIST_TAP_CTL (04, R133). -/
def HIST_TAP_CTL.addr : Nat := 0xa00100
def HIST_TAP_CTL.enable : FRef := ⟨HIST_TAP_CTL.addr, 0, 1⟩
def HIST_TAP_CTL.overwrite : FRef := ⟨HIST_TAP_CTL.addr, 1, 1⟩
def HIST_TAP_CTL.flush : FRef := ⟨HIST_TAP_CTL.addr, 2, 1⟩
def HIST_TAP_CTL.wm_level : FRef := ⟨HIST_TAP_CTL.addr, 16, 16⟩
/-- HIST_TAP_BASE (04, R133). -/
def HIST_TAP_BASE.addr : Nat := 0xa00108
def HIST_TAP_BASE.base : FRef := ⟨HIST_TAP_BASE.addr, 12, 52⟩
/-- HIST_TAP_SLOTS (04, R133). -/
def HIST_TAP_SLOTS.addr : Nat := 0xa00110
def HIST_TAP_SLOTS.slots : FRef := ⟨HIST_TAP_SLOTS.addr, 0, 16⟩
/-- HIST_TAP_HEAD (04, R133). -/
def HIST_TAP_HEAD.addr : Nat := 0xa00114
def HIST_TAP_HEAD.index : FRef := ⟨HIST_TAP_HEAD.addr, 0, 16⟩
/-- HIST_TAP_TAIL (04, R133). -/
def HIST_TAP_TAIL.addr : Nat := 0xa00118
def HIST_TAP_TAIL.index : FRef := ⟨HIST_TAP_TAIL.addr, 0, 16⟩
/-- HIST_TAP_STAT (04, R133). -/
def HIST_TAP_STAT.addr : Nat := 0xa0011c
def HIST_TAP_STAT.level : FRef := ⟨HIST_TAP_STAT.addr, 0, 16⟩
def HIST_TAP_STAT.wm : FRef := ⟨HIST_TAP_STAT.addr, 16, 1⟩
def HIST_TAP_STAT.full_seen : FRef := ⟨HIST_TAP_STAT.addr, 17, 1⟩
/-- HIST_TAP_CNT (04, R133). -/
def HIST_TAP_CNT.addr : Nat := 0xa00120
def HIST_TAP_CNT.dropped_full : FRef := ⟨HIST_TAP_CNT.addr, 0, 16⟩
def HIST_TAP_CNT.truncated : FRef := ⟨HIST_TAP_CNT.addr, 16, 16⟩
/-- HIST_TAP_n_SEL (04, R133). -/
def HIST_TAP_SEL.addr (n : Nat) : Nat := 0xa00200 + 0x4 * n
def HIST_TAP_SEL.channel (n : Nat) : FRef := ⟨HIST_TAP_SEL.addr n, 0, 11⟩
def HIST_TAP_SEL.enable (n : Nat) : FRef := ⟨HIST_TAP_SEL.addr n, 11, 1⟩
def HIST_TAP_SEL.decim (n : Nat) : FRef := ⟨HIST_TAP_SEL.addr n, 12, 4⟩
/-- ECHO_PRIO (05, R141). -/
def ECHO_PRIO.addr : Nat := 0xa01210
def ECHO_PRIO.prio : FRef := ⟨ECHO_PRIO.addr, 0, 64⟩
/-- ECHO_AGE (05, R141). -/
def ECHO_AGE.addr : Nat := 0xa01218
def ECHO_AGE.age_max_us : FRef := ⟨ECHO_AGE.addr, 0, 16⟩
/-- ECHO_LOAD (05, R141). -/
def ECHO_LOAD.addr : Nat := 0xa01258
def ECHO_LOAD.util : FRef := ⟨ECHO_LOAD.addr, 0, 8⟩
def ECHO_LOAD.peak : FRef := ⟨ECHO_LOAD.addr, 8, 8⟩
def ECHO_LOAD.peak_clr : FRef := ⟨ECHO_LOAD.addr, 31, 1⟩
/-- ECHO_CFG (05, R143). -/
def ECHO_CFG.addr : Nat := 0xa01000
def ECHO_CFG.max_echo : FRef := ⟨ECHO_CFG.addr, 0, 3⟩
def ECHO_CFG.emit_empty : FRef := ⟨ECHO_CFG.addr, 3, 1⟩
def ECHO_CFG.reject_mismatch : FRef := ⟨ECHO_CFG.addr, 4, 1⟩
def ECHO_CFG.k_det : FRef := ⟨ECHO_CFG.addr, 8, 6⟩
def ECHO_CFG.min_sig : FRef := ⟨ECHO_CFG.addr, 16, 8⟩
def ECHO_CFG.sep_bins : FRef := ⟨ECHO_CFG.addr, 24, 8⟩
/-- ECHO_KERNEL_CTR (05, R143). -/
def ECHO_KERNEL_CTR.addr : Nat := 0xa01004
def ECHO_KERNEL_CTR.kc : FRef := ⟨ECHO_KERNEL_CTR.addr, 0, 3⟩
/-- ECHO_KERNEL (05, R143). -/
def ECHO_KERNEL.addr : Nat := 0xa01008
def ECHO_KERNEL.h (j : Nat) : FRef := ⟨ECHO_KERNEL.addr, 0 + 8 * j, 8⟩
/-- ECHO_REFINE_CFG (05, R148). -/
def ECHO_REFINE_CFG.addr : Nat := 0xa01010
def ECHO_REFINE_CFG.gate_half : FRef := ⟨ECHO_REFINE_CFG.addr, 0, 4⟩
def ECHO_REFINE_CFG.tot_default : FRef := ⟨ECHO_REFINE_CFG.addr, 4, 14⟩
def ECHO_REFINE_CFG.ghost_k : FRef := ⟨ECHO_REFINE_CFG.addr, 24, 8⟩
/-- ECHO_REFRACT (05, R151). -/
def ECHO_REFRACT.addr : Nat := 0xa01014
def ECHO_REFRACT.refract : FRef := ⟨ECHO_REFRACT.addr, 0, 16⟩
/-- ECHO_RANGE_OFFSET (05, R151). -/
def ECHO_RANGE_OFFSET.addr : Nat := 0xa01018
def ECHO_RANGE_OFFSET.range_offset : FRef := ⟨ECHO_RANGE_OFFSET.addr, 0, 32⟩
/-- ECHO_TILE_t_PATH (05, R151). -/
def ECHO_TILE_PATH.addr (t : Nat) : Nat := 0xa01020 + 0x4 * t
def ECHO_TILE_PATH.path (t : Nat) : FRef := ⟨ECHO_TILE_PATH.addr t, 0, 24⟩
/-- ECHO_REF_t_k_PATH (05, R151). -/
def ECHO_REF_PATH.addr (t : Nat) (k : Nat) : Nat := 0xa01040 + 0x10 * t + 0x4 * k
def ECHO_REF_PATH.path (t : Nat) (k : Nat) : FRef := ⟨ECHO_REF_PATH.addr t k, 0, 24⟩
/-- ECHO_RAIN_CFG (05, R154). -/
def ECHO_RAIN_CFG.addr : Nat := 0xa010b0
def ECHO_RAIN_CFG.mode : FRef := ⟨ECHO_RAIN_CFG.addr, 0, 2⟩
def ECHO_RAIN_CFG.chimney_en : FRef := ⟨ECHO_RAIN_CFG.addr, 2, 1⟩
def ECHO_RAIN_CFG.gate_m : FRef := ⟨ECHO_RAIN_CFG.addr, 8, 8⟩
def ECHO_RAIN_CFG.clut_level : FRef := ⟨ECHO_RAIN_CFG.addr, 16, 8⟩
def ECHO_RAIN_CFG.hard_min : FRef := ⟨ECHO_RAIN_CFG.addr, 24, 8⟩
/-- ECHO_RAIN_WIDTH (05, R154). -/
def ECHO_RAIN_WIDTH.addr : Nat := 0xa010b4
def ECHO_RAIN_WIDTH.width_max : FRef := ⟨ECHO_RAIN_WIDTH.addr, 0, 12⟩
/-- ECHO_BANK_b_SECT (05, R154). -/
def ECHO_BANK_SECT.addr (b : Nat) : Nat := 0xa01100 + 0x4 * b
def ECHO_BANK_SECT.electrodes (b : Nat) : FRef := ⟨ECHO_BANK_SECT.addr b, 0, 8⟩
/-- ECHO_IF_CFG (05, R158). -/
def ECHO_IF_CFG.addr : Nat := 0xa01200
def ECHO_IF_CFG.k_if : FRef := ⟨ECHO_IF_CFG.addr, 0, 8⟩
def ECHO_IF_CFG.if_min : FRef := ⟨ECHO_IF_CFG.addr, 8, 8⟩
def ECHO_IF_CFG.if_cells : FRef := ⟨ECHO_IF_CFG.addr, 16, 8⟩
def ECHO_IF_CFG.if_frames : FRef := ⟨ECHO_IF_CFG.addr, 24, 4⟩
def ECHO_IF_CFG.auto_rekey : FRef := ⟨ECHO_IF_CFG.addr, 28, 1⟩
def ECHO_IF_CFG.coinc_req : FRef := ⟨ECHO_IF_CFG.addr, 29, 1⟩
/-- ECHO_IF_CFG2 (05, R158). -/
def ECHO_IF_CFG2.addr : Nat := 0xa01204
def ECHO_IF_CFG2.clear_frames : FRef := ⟨ECHO_IF_CFG2.addr, 0, 8⟩
def ECHO_IF_CFG2.rekey_hold : FRef := ⟨ECHO_IF_CFG2.addr, 8, 8⟩
def ECHO_IF_CFG2.mis_bins : FRef := ⟨ECHO_IF_CFG2.addr, 16, 4⟩
/-- ECHO_IF_STAT (05, R158). -/
def ECHO_IF_STAT.addr : Nat := 0xa01208
def ECHO_IF_STAT.f_last : FRef := ⟨ECHO_IF_STAT.addr, 0, 16⟩
def ECHO_IF_STAT.active : FRef := ⟨ECHO_IF_STAT.addr, 16, 1⟩
def ECHO_IF_STAT.detected_seen : FRef := ⟨ECHO_IF_STAT.addr, 17, 1⟩
def ECHO_IF_STAT.rekeyed_seen : FRef := ⟨ECHO_IF_STAT.addr, 18, 1⟩
/-- ECHO_CONF_CFG (05, R159). -/
def ECHO_CONF_CFG.addr : Nat := 0xa010a0
def ECHO_CONF_CFG.z_half : FRef := ⟨ECHO_CONF_CFG.addr, 0, 8⟩
def ECHO_CONF_CFG.conf_min : FRef := ⟨ECHO_CONF_CFG.addr, 8, 8⟩
/-- ECHO_CONF_PEN (05, R159). -/
def ECHO_CONF_PEN.addr : Nat := 0xa010a4
def ECHO_CONF_PEN.pen_mismatch : FRef := ⟨ECHO_CONF_PEN.addr, 0, 8⟩
def ECHO_CONF_PEN.pen_rain : FRef := ⟨ECHO_CONF_PEN.addr, 8, 8⟩
def ECHO_CONF_PEN.pen_window : FRef := ⟨ECHO_CONF_PEN.addr, 16, 8⟩
def ECHO_CONF_PEN.pen_misc : FRef := ⟨ECHO_CONF_PEN.addr, 24, 8⟩
/-- ECHO_ROUTE_t (05, R163). -/
def ECHO_ROUTE.addr (t : Nat) : Nat := 0xa01220 + 0x4 * t
def ECHO_ROUTE.ring (t : Nat) : FRef := ⟨ECHO_ROUTE.addr t, 0, 5⟩
/-- ECHO_STAT (05, R163). -/
def ECHO_STAT.addr : Nat := 0xa01240
def ECHO_STAT.shedding : FRef := ⟨ECHO_STAT.addr, 0, 1⟩
def ECHO_STAT.shed_seen : FRef := ⟨ECHO_STAT.addr, 1, 1⟩
def ECHO_STAT.range_oof_seen : FRef := ⟨ECHO_STAT.addr, 2, 1⟩
def ECHO_STAT.emis_missing_seen : FRef := ⟨ECHO_STAT.addr, 3, 1⟩
/-- ECHO_CNT_A (05, R163). -/
def ECHO_CNT_A.addr : Nat := 0xa01248
def ECHO_CNT_A.records : FRef := ⟨ECHO_CNT_A.addr, 0, 32⟩
def ECHO_CNT_A.shed : FRef := ⟨ECHO_CNT_A.addr, 32, 16⟩
def ECHO_CNT_A.conf_drop : FRef := ⟨ECHO_CNT_A.addr, 48, 16⟩
/-- ECHO_CNT_B (05, R163). -/
def ECHO_CNT_B.addr : Nat := 0xa01250
def ECHO_CNT_B.range_oof : FRef := ⟨ECHO_CNT_B.addr, 0, 16⟩
def ECHO_CNT_B.rain_dropped : FRef := ⟨ECHO_CNT_B.addr, 16, 16⟩
def ECHO_CNT_B.mismatch_dropped : FRef := ⟨ECHO_CNT_B.addr, 32, 16⟩
def ECHO_CNT_B.ghosts : FRef := ⟨ECHO_CNT_B.addr, 48, 16⟩
/-- TIME_CTL (06, R170). -/
def TIME_CTL.addr : Nat := 0x100000
def TIME_CTL.time_src : FRef := ⟨TIME_CTL.addr, 0, 2⟩
def TIME_CTL.loop_bw : FRef := ⟨TIME_CTL.addr, 2, 2⟩
def TIME_CTL.step_en : FRef := ⟨TIME_CTL.addr, 4, 1⟩
/-- TIME_NOW (06, R170). -/
def TIME_NOW.addr : Nat := 0x100008
def TIME_NOW.time : FRef := ⟨TIME_NOW.addr, 0, 64⟩
/-- TIME_WRAP (06, R170). -/
def TIME_WRAP.addr : Nat := 0x100010
def TIME_WRAP.wraps : FRef := ⟨TIME_WRAP.addr, 0, 32⟩
/-- TIME_STEP (06, R170). -/
def TIME_STEP.addr : Nat := 0x100018
def TIME_STEP.step : FRef := ⟨TIME_STEP.addr, 0, 64⟩
/-- TIME_OFFSET (06, R170). -/
def TIME_OFFSET.addr : Nat := 0x100020
def TIME_OFFSET.offset : FRef := ⟨TIME_OFFSET.addr, 0, 64⟩
/-- TIME_TRIM (06, R170). -/
def TIME_TRIM.addr : Nat := 0x100028
def TIME_TRIM.trim : FRef := ⟨TIME_TRIM.addr, 0, 24⟩
/-- TIME_STAT (06, R170). -/
def TIME_STAT.addr : Nat := 0x10002c
def TIME_STAT.warm : FRef := ⟨TIME_STAT.addr, 0, 1⟩
def TIME_STAT.ocxo_warm : FRef := ⟨TIME_STAT.addr, 1, 1⟩
def TIME_STAT.rpll_locked : FRef := ⟨TIME_STAT.addr, 2, 1⟩
def TIME_STAT.src_locked : FRef := ⟨TIME_STAT.addr, 3, 1⟩
def TIME_STAT.holdover : FRef := ⟨TIME_STAT.addr, 4, 1⟩
def TIME_STAT.warm_lost : FRef := ⟨TIME_STAT.addr, 8, 1⟩
def TIME_STAT.unlock_seen : FRef := ⟨TIME_STAT.addr, 9, 1⟩
def TIME_STAT.pps_missing : FRef := ⟨TIME_STAT.addr, 10, 1⟩
/-- TIME_WARM_CFG (06, R170). -/
def TIME_WARM_CFG.addr : Nat := 0x100030
def TIME_WARM_CFG.settle_s : FRef := ⟨TIME_WARM_CFG.addr, 0, 8⟩
def TIME_WARM_CFG.zone_margin : FRef := ⟨TIME_WARM_CFG.addr, 8, 8⟩
/-- TIME_PPS_STAMP (06, R172). -/
def TIME_PPS_STAMP.addr : Nat := 0x100038
def TIME_PPS_STAMP.time : FRef := ⟨TIME_PPS_STAMP.addr, 0, 64⟩
/-- TIME_TIN_n_CFG (06, R174). -/
def TIME_TIN_CFG.addr (n : Nat) : Nat := 0x100100 + 0x4 * n
def TIME_TIN_CFG.enable (n : Nat) : FRef := ⟨TIME_TIN_CFG.addr n, 0, 1⟩
def TIME_TIN_CFG.edge (n : Nat) : FRef := ⟨TIME_TIN_CFG.addr n, 1, 2⟩
/-- TIME_TIN_n_STAMP (06, R174). -/
def TIME_TIN_STAMP.addr (n : Nat) : Nat := 0x100140 + 0x8 * n
def TIME_TIN_STAMP.stamp (n : Nat) : FRef := ⟨TIME_TIN_STAMP.addr n, 0, 64⟩
/-- TIME_TIN_n_STAT (06, R174). -/
def TIME_TIN_STAT.addr (n : Nat) : Nat := 0x100160 + 0x4 * n
def TIME_TIN_STAT.level (n : Nat) : FRef := ⟨TIME_TIN_STAT.addr n, 0, 7⟩
def TIME_TIN_STAT.ovf (n : Nat) : FRef := ⟨TIME_TIN_STAT.addr n, 7, 1⟩
def TIME_TIN_STAT.lost (n : Nat) : FRef := ⟨TIME_TIN_STAT.addr n, 16, 16⟩
/-- TIME_STATS_CFG (06, R177). -/
def TIME_STATS_CFG.addr : Nat := 0x100200
def TIME_STATS_CFG.src : FRef := ⟨TIME_STATS_CFG.addr, 0, 3⟩
def TIME_STATS_CFG.a : FRef := ⟨TIME_STATS_CFG.addr, 3, 2⟩
def TIME_STATS_CFG.b : FRef := ⟨TIME_STATS_CFG.addr, 5, 2⟩
def TIME_STATS_CFG.ref_tile : FRef := ⟨TIME_STATS_CFG.addr, 7, 3⟩
def TIME_STATS_CFG.ref_k : FRef := ⟨TIME_STATS_CFG.addr, 10, 2⟩
def TIME_STATS_CFG.start : FRef := ⟨TIME_STATS_CFG.addr, 16, 1⟩
def TIME_STATS_CFG.abort : FRef := ⟨TIME_STATS_CFG.addr, 17, 1⟩
/-- TIME_STATS_N (06, R177). -/
def TIME_STATS_N.addr : Nat := 0x100204
def TIME_STATS_N.n : FRef := ⟨TIME_STATS_N.addr, 0, 17⟩
/-- TIME_STATS_STAT (06, R177). -/
def TIME_STATS_STAT.addr : Nat := 0x100208
def TIME_STATS_STAT.busy : FRef := ⟨TIME_STATS_STAT.addr, 0, 1⟩
def TIME_STATS_STAT.done : FRef := ⟨TIME_STATS_STAT.addr, 1, 1⟩
def TIME_STATS_STAT.aborted : FRef := ⟨TIME_STATS_STAT.addr, 2, 1⟩
def TIME_STATS_STAT.busy_start : FRef := ⟨TIME_STATS_STAT.addr, 3, 1⟩
def TIME_STATS_STAT.discarded : FRef := ⟨TIME_STATS_STAT.addr, 16, 16⟩
/-- TIME_STATS_MEAN (06, R177). -/
def TIME_STATS_MEAN.addr : Nat := 0x100210
def TIME_STATS_MEAN.mean : FRef := ⟨TIME_STATS_MEAN.addr, 0, 64⟩
/-- TIME_STATS_SDEV (06, R177). -/
def TIME_STATS_SDEV.addr : Nat := 0x100218
def TIME_STATS_SDEV.sdev : FRef := ⟨TIME_STATS_SDEV.addr, 0, 32⟩
/-- TIME_STATS_MINMAX (06, R177). -/
def TIME_STATS_MINMAX.addr : Nat := 0x100220
def TIME_STATS_MINMAX.min : FRef := ⟨TIME_STATS_MINMAX.addr, 0, 32⟩
def TIME_STATS_MINMAX.max : FRef := ⟨TIME_STATS_MINMAX.addr, 32, 32⟩
/-- RING_LINK_STAT (07, R190). -/
def RING_LINK_STAT.addr : Nat := 0xb00000
def RING_LINK_STAT.proto : FRef := ⟨RING_LINK_STAT.addr, 0, 2⟩
def RING_LINK_STAT.width : FRef := ⟨RING_LINK_STAT.addr, 2, 4⟩
def RING_LINK_STAT.speed : FRef := ⟨RING_LINK_STAT.addr, 6, 4⟩
def RING_LINK_STAT.cxl_mem_en : FRef := ⟨RING_LINK_STAT.addr, 10, 1⟩
def RING_LINK_STAT.degraded : FRef := ⟨RING_LINK_STAT.addr, 11, 1⟩
def RING_LINK_STAT.flr_seen : FRef := ⟨RING_LINK_STAT.addr, 12, 1⟩
def RING_LINK_STAT.down_seen : FRef := ⟨RING_LINK_STAT.addr, 13, 1⟩
/-- RING_SQ_n_BASE (07, R199). -/
def RING_SQ_BASE.addr (n : Nat) : Nat := 0xb01000 + 0x20 * n
def RING_SQ_BASE.base (n : Nat) : FRef := ⟨RING_SQ_BASE.addr n, 12, 52⟩
/-- RING_SQ_n_CFG (07, R199). -/
def RING_SQ_CFG.addr (n : Nat) : Nat := 0xb01008 + 0x20 * n
def RING_SQ_CFG.size_log2 (n : Nat) : FRef := ⟨RING_SQ_CFG.addr n, 0, 5⟩
def RING_SQ_CFG.enable (n : Nat) : FRef := ⟨RING_SQ_CFG.addr n, 5, 1⟩
def RING_SQ_CFG.prio (n : Nat) : FRef := ⟨RING_SQ_CFG.addr n, 6, 1⟩
def RING_SQ_CFG.cq (n : Nat) : FRef := ⟨RING_SQ_CFG.addr n, 8, 7⟩
def RING_SQ_CFG.weight (n : Nat) : FRef := ⟨RING_SQ_CFG.addr n, 16, 8⟩
def RING_SQ_CFG.credit_m1 (n : Nat) : FRef := ⟨RING_SQ_CFG.addr n, 24, 8⟩
/-- RING_SQ_n_STAT (07, R199). -/
def RING_SQ_STAT.addr (n : Nat) : Nat := 0xb0100c + 0x20 * n
def RING_SQ_STAT.head (n : Nat) : FRef := ⟨RING_SQ_STAT.addr n, 0, 16⟩
def RING_SQ_STAT.in_flight (n : Nat) : FRef := ⟨RING_SQ_STAT.addr n, 16, 9⟩
def RING_SQ_STAT.credit_cut (n : Nat) : FRef := ⟨RING_SQ_STAT.addr n, 25, 1⟩
def RING_SQ_STAT.fetch_err (n : Nat) : FRef := ⟨RING_SQ_STAT.addr n, 26, 1⟩
def RING_SQ_STAT.bad_db (n : Nat) : FRef := ⟨RING_SQ_STAT.addr n, 27, 1⟩
def RING_SQ_STAT.flushing (n : Nat) : FRef := ⟨RING_SQ_STAT.addr n, 28, 1⟩
/-- RING_SQ_n_CTL (07, R199). -/
def RING_SQ_CTL.addr (n : Nat) : Nat := 0xb01010 + 0x20 * n
def RING_SQ_CTL.flush (n : Nat) : FRef := ⟨RING_SQ_CTL.addr n, 0, 1⟩
/-- RING_CQ_n_BASE (07, R204). -/
def RING_CQ_BASE.addr (n : Nat) : Nat := 0xb02000 + 0x20 * n
def RING_CQ_BASE.base (n : Nat) : FRef := ⟨RING_CQ_BASE.addr n, 12, 52⟩
/-- RING_CQ_n_CFG (07, R204). -/
def RING_CQ_CFG.addr (n : Nat) : Nat := 0xb02008 + 0x20 * n
def RING_CQ_CFG.size_log2 (n : Nat) : FRef := ⟨RING_CQ_CFG.addr n, 0, 5⟩
def RING_CQ_CFG.enable (n : Nat) : FRef := ⟨RING_CQ_CFG.addr n, 5, 1⟩
def RING_CQ_CFG.vector (n : Nat) : FRef := ⟨RING_CQ_CFG.addr n, 8, 6⟩
def RING_CQ_CFG.irq_en (n : Nat) : FRef := ⟨RING_CQ_CFG.addr n, 14, 1⟩
/-- RING_CQ_n_MOD (07, R204). -/
def RING_CQ_MOD.addr (n : Nat) : Nat := 0xb0200c + 0x20 * n
def RING_CQ_MOD.ent_thresh (n : Nat) : FRef := ⟨RING_CQ_MOD.addr n, 0, 16⟩
def RING_CQ_MOD.tmo_us (n : Nat) : FRef := ⟨RING_CQ_MOD.addr n, 16, 16⟩
/-- RING_CQ_n_STAT (07, R204). -/
def RING_CQ_STAT.addr (n : Nat) : Nat := 0xb02010 + 0x20 * n
def RING_CQ_STAT.tail (n : Nat) : FRef := ⟨RING_CQ_STAT.addr n, 0, 16⟩
def RING_CQ_STAT.phase (n : Nat) : FRef := ⟨RING_CQ_STAT.addr n, 16, 1⟩
def RING_CQ_STAT.full_seen (n : Nat) : FRef := ⟨RING_CQ_STAT.addr n, 17, 1⟩
def RING_CQ_STAT.bad_db (n : Nat) : FRef := ⟨RING_CQ_STAT.addr n, 18, 1⟩
/-- RING_PR_n_BASE (07, R211). -/
def RING_PR_BASE.addr (n : Nat) : Nat := 0xb03000 + 0x40 * n
def RING_PR_BASE.base (n : Nat) : FRef := ⟨RING_PR_BASE.addr n, 12, 52⟩
/-- RING_PR_n_CFG (07, R211). -/
def RING_PR_CFG.addr (n : Nat) : Nat := 0xb03008 + 0x40 * n
def RING_PR_CFG.size_log2 (n : Nat) : FRef := ⟨RING_PR_CFG.addr n, 0, 5⟩
def RING_PR_CFG.enable (n : Nat) : FRef := ⟨RING_PR_CFG.addr n, 5, 1⟩
def RING_PR_CFG.loc (n : Nat) : FRef := ⟨RING_PR_CFG.addr n, 6, 1⟩
def RING_PR_CFG.vector (n : Nat) : FRef := ⟨RING_PR_CFG.addr n, 8, 6⟩
def RING_PR_CFG.irq_en (n : Nat) : FRef := ⟨RING_PR_CFG.addr n, 14, 1⟩
/-- RING_PR_n_QUOTA (07, R211). -/
def RING_PR_QUOTA.addr (n : Nat) : Nat := 0xb0300c + 0x40 * n
def RING_PR_QUOTA.quota (n : Nat) : FRef := ⟨RING_PR_QUOTA.addr n, 0, 28⟩
/-- RING_PR_n_MOD (07, R211). -/
def RING_PR_MOD.addr (n : Nat) : Nat := 0xb03010 + 0x40 * n
def RING_PR_MOD.pkt_thresh (n : Nat) : FRef := ⟨RING_PR_MOD.addr n, 0, 16⟩
def RING_PR_MOD.tmo_us (n : Nat) : FRef := ⟨RING_PR_MOD.addr n, 16, 16⟩
/-- RING_PR_n_WM (07, R211). -/
def RING_PR_WM.addr (n : Nat) : Nat := 0xb03014 + 0x40 * n
def RING_PR_WM.wm_level (n : Nat) : FRef := ⟨RING_PR_WM.addr n, 0, 28⟩
/-- RING_PR_n_WB (07, R211). -/
def RING_PR_WB.addr (n : Nat) : Nat := 0xb03018 + 0x40 * n
def RING_PR_WB.address (n : Nat) : FRef := ⟨RING_PR_WB.addr n, 3, 61⟩
/-- RING_PR_n_HEAD (07, R211). -/
def RING_PR_HEAD.addr (n : Nat) : Nat := 0xb03020 + 0x40 * n
def RING_PR_HEAD.index (n : Nat) : FRef := ⟨RING_PR_HEAD.addr n, 0, 28⟩
/-- RING_PR_n_TAIL (07, R211). -/
def RING_PR_TAIL.addr (n : Nat) : Nat := 0xb03024 + 0x40 * n
def RING_PR_TAIL.index (n : Nat) : FRef := ⟨RING_PR_TAIL.addr n, 0, 28⟩
/-- RING_PR_n_STAT (07, R211). -/
def RING_PR_STAT.addr (n : Nat) : Nat := 0xb03028 + 0x40 * n
def RING_PR_STAT.level (n : Nat) : FRef := ⟨RING_PR_STAT.addr n, 0, 28⟩
def RING_PR_STAT.wm (n : Nat) : FRef := ⟨RING_PR_STAT.addr n, 28, 1⟩
def RING_PR_STAT.full_seen (n : Nat) : FRef := ⟨RING_PR_STAT.addr n, 29, 1⟩
def RING_PR_STAT.quota_cut (n : Nat) : FRef := ⟨RING_PR_STAT.addr n, 30, 1⟩
def RING_PR_STAT.bad_db (n : Nat) : FRef := ⟨RING_PR_STAT.addr n, 31, 1⟩
/-- RING_PR_n_CTL (07, R211). -/
def RING_PR_CTL.addr (n : Nat) : Nat := 0xb0302c + 0x40 * n
def RING_PR_CTL.flush (n : Nat) : FRef := ⟨RING_PR_CTL.addr n, 0, 1⟩
/-- RING_PR_n_CNT (07, R211). -/
def RING_PR_CNT.addr (n : Nat) : Nat := 0xb03030 + 0x40 * n
def RING_PR_CNT.packets (n : Nat) : FRef := ⟨RING_PR_CNT.addr n, 0, 32⟩
def RING_PR_CNT.dropped_full (n : Nat) : FRef := ⟨RING_PR_CNT.addr n, 32, 16⟩
def RING_PR_CNT.truncated (n : Nat) : FRef := ⟨RING_PR_CNT.addr n, 48, 16⟩
/-- RING_EV_CFG (07, R215). -/
def RING_EV_CFG.addr : Nat := 0xb04000
def RING_EV_CFG.wm_level : FRef := ⟨RING_EV_CFG.addr, 0, 11⟩
/-- RING_EV_STAT (07, R215). -/
def RING_EV_STAT.addr : Nat := 0xb04004
def RING_EV_STAT.level : FRef := ⟨RING_EV_STAT.addr, 0, 11⟩
def RING_EV_STAT.wm : FRef := ⟨RING_EV_STAT.addr, 11, 1⟩
def RING_EV_STAT.full_seen : FRef := ⟨RING_EV_STAT.addr, 12, 1⟩
def RING_EV_STAT.next_seq : FRef := ⟨RING_EV_STAT.addr, 16, 16⟩
/-- DPORT_ADDR (07, R221). -/
def DPORT_ADDR.addr : Nat := 0x1000000
def DPORT_ADDR.address : FRef := ⟨DPORT_ADDR.addr, 3, 61⟩
/-- DPORT_DATA (07, R221). -/
def DPORT_DATA.addr : Nat := 0x1000008
def DPORT_DATA.data : FRef := ⟨DPORT_DATA.addr, 0, 64⟩
/-- DPORT_STAT (07, R221). -/
def DPORT_STAT.addr : Nat := 0x1000010
def DPORT_STAT.err : FRef := ⟨DPORT_STAT.addr, 0, 1⟩
def DPORT_STAT.err_code : FRef := ⟨DPORT_STAT.addr, 1, 3⟩
def DPORT_STAT.win_count : FRef := ⟨DPORT_STAT.addr, 16, 10⟩
/-- MEM_CTL (08, R251). -/
def MEM_CTL.addr : Nat := 0xc00000
def MEM_CTL.map_order : FRef := ⟨MEM_CTL.addr, 0, 2⟩
def MEM_CTL.lock : FRef := ⟨MEM_CTL.addr, 2, 1⟩
def MEM_CTL.init : FRef := ⟨MEM_CTL.addr, 3, 1⟩
/-- MEM_STAT (08, R251). -/
def MEM_STAT.addr : Nat := 0xc00004
def MEM_STAT.ch_present : FRef := ⟨MEM_STAT.addr, 0, 4⟩
def MEM_STAT.ch_active : FRef := ⟨MEM_STAT.addr, 4, 4⟩
def MEM_STAT.init_done : FRef := ⟨MEM_STAT.addr, 8, 1⟩
def MEM_STAT.mem_active : FRef := ⟨MEM_STAT.addr, 9, 1⟩
def MEM_STAT.retiring : FRef := ⟨MEM_STAT.addr, 10, 1⟩
def MEM_STAT.retired : FRef := ⟨MEM_STAT.addr, 11, 1⟩
def MEM_STAT.retired_ch : FRef := ⟨MEM_STAT.addr, 12, 2⟩
def MEM_STAT.boot_retired : FRef := ⟨MEM_STAT.addr, 14, 1⟩
/-- MEM_EXTENT (08, R251). -/
def MEM_EXTENT.addr : Nat := 0xc00008
def MEM_EXTENT.extent : FRef := ⟨MEM_EXTENT.addr, 0, 64⟩
/-- MEM_CH_m_INFO (08, R251). -/
def MEM_CH_INFO.addr (m : Nat) : Nat := 0xc00010 + 0x4 * m
def MEM_CH_INFO.cap (m : Nat) : FRef := ⟨MEM_CH_INFO.addr m, 0, 3⟩
def MEM_CH_INFO.ranks (m : Nat) : FRef := ⟨MEM_CH_INFO.addr m, 3, 1⟩
def MEM_CH_INFO.trfcpb_ns (m : Nat) : FRef := ⟨MEM_CH_INFO.addr m, 8, 8⟩
def MEM_CH_INFO.ref_mult (m : Nat) : FRef := ⟨MEM_CH_INFO.addr m, 16, 2⟩
def MEM_CH_INFO.train_fail (m : Nat) : FRef := ⟨MEM_CH_INFO.addr m, 18, 1⟩
/-- MEM_FREQ_CTL (08, R251). -/
def MEM_FREQ_CTL.addr : Nat := 0xc00030
def MEM_FREQ_CTL.target_sp : FRef := ⟨MEM_FREQ_CTL.addr, 0, 2⟩
def MEM_FREQ_CTL.req : FRef := ⟨MEM_FREQ_CTL.addr, 2, 1⟩
def MEM_FREQ_CTL.cur_sp : FRef := ⟨MEM_FREQ_CTL.addr, 4, 2⟩
def MEM_FREQ_CTL.deferred : FRef := ⟨MEM_FREQ_CTL.addr, 6, 1⟩
/-- MEM_TRAIN_CFG (08, R251). -/
def MEM_TRAIN_CFG.addr : Nat := 0xc00034
def MEM_TRAIN_CFG.retrain_ms : FRef := ⟨MEM_TRAIN_CFG.addr, 0, 16⟩
def MEM_TRAIN_CFG.periodic_en : FRef := ⟨MEM_TRAIN_CFG.addr, 16, 1⟩
/-- MEM_PORT_p_CFG (08, R251). -/
def MEM_PORT_CFG.addr (p : Nat) : Nat := 0xc00100 + 0x10 * p
def MEM_PORT_CFG.target_ns (p : Nat) : FRef := ⟨MEM_PORT_CFG.addr p, 0, 16⟩
def MEM_PORT_CFG.rt (p : Nat) : FRef := ⟨MEM_PORT_CFG.addr p, 16, 1⟩
/-- MEM_PORT_p_QUOTA (08, R251). -/
def MEM_PORT_QUOTA.addr (p : Nat) : Nat := 0xc00104 + 0x10 * p
def MEM_PORT_QUOTA.quota (p : Nat) : FRef := ⟨MEM_PORT_QUOTA.addr p, 0, 11⟩
/-- MEM_PORT_p_STAT (08, R251). -/
def MEM_PORT_STAT.addr (p : Nat) : Nat := 0xc00108 + 0x10 * p
def MEM_PORT_STAT.in_use (p : Nat) : FRef := ⟨MEM_PORT_STAT.addr p, 0, 11⟩
def MEM_PORT_STAT.peak (p : Nat) : FRef := ⟨MEM_PORT_STAT.addr p, 16, 11⟩
def MEM_PORT_STAT.peak_clr (p : Nat) : FRef := ⟨MEM_PORT_STAT.addr p, 27, 1⟩
def MEM_PORT_STAT.quota_cut (p : Nat) : FRef := ⟨MEM_PORT_STAT.addr p, 28, 1⟩
def MEM_PORT_STAT.miss_seen (p : Nat) : FRef := ⟨MEM_PORT_STAT.addr p, 29, 1⟩
/-- MEM_PORT_p_MISS (08, R251). -/
def MEM_PORT_MISS.addr (p : Nat) : Nat := 0xc0010c + 0x10 * p
def MEM_PORT_MISS.misses (p : Nat) : FRef := ⟨MEM_PORT_MISS.addr p, 0, 32⟩
/-- MEM_CH_m_REF (08, R251). -/
def MEM_CH_REF.addr (m : Nat) : Nat := 0xc00200 + 0x4 * m
def MEM_CH_REF.owed_now (m : Nat) : FRef := ⟨MEM_CH_REF.addr m, 0, 4⟩
def MEM_CH_REF.owed_peak (m : Nat) : FRef := ⟨MEM_CH_REF.addr m, 4, 4⟩
def MEM_CH_REF.preempts (m : Nat) : FRef := ⟨MEM_CH_REF.addr m, 16, 16⟩
/-- MEM_SCRUB_CFG (08, R251). -/
def MEM_SCRUB_CFG.addr : Nat := 0xc00300
def MEM_SCRUB_CFG.period_h : FRef := ⟨MEM_SCRUB_CFG.addr, 0, 8⟩
def MEM_SCRUB_CFG.enable : FRef := ⟨MEM_SCRUB_CFG.addr, 8, 1⟩
/-- MEM_CE_THR (08, R251). -/
def MEM_CE_THR.addr : Nat := 0xc00304
def MEM_CE_THR.ce_thr : FRef := ⟨MEM_CE_THR.addr, 0, 16⟩
/-- MEM_CH_m_ERR (08, R251). -/
def MEM_CH_ERR.addr (m : Nat) : Nat := 0xc00310 + 0x8 * m
def MEM_CH_ERR.ce_count (m : Nat) : FRef := ⟨MEM_CH_ERR.addr m, 0, 32⟩
def MEM_CH_ERR.ue_count (m : Nat) : FRef := ⟨MEM_CH_ERR.addr m, 32, 16⟩
def MEM_CH_ERR.ce_rate_seen (m : Nat) : FRef := ⟨MEM_CH_ERR.addr m, 48, 1⟩
def MEM_CH_ERR.clr (m : Nat) : FRef := ⟨MEM_CH_ERR.addr m, 49, 1⟩
/-- MEM_RETIRE_CTL (08, R251). -/
def MEM_RETIRE_CTL.addr : Nat := 0xc00400
def MEM_RETIRE_CTL.ch : FRef := ⟨MEM_RETIRE_CTL.addr, 0, 2⟩
def MEM_RETIRE_CTL.start : FRef := ⟨MEM_RETIRE_CTL.addr, 2, 1⟩
def MEM_RETIRE_CTL.mig_rate : FRef := ⟨MEM_RETIRE_CTL.addr, 8, 8⟩
/-- MEM_RETIRE_PTR (08, R251). -/
def MEM_RETIRE_PTR.addr : Nat := 0xc00408
def MEM_RETIRE_PTR.ptr : FRef := ⟨MEM_RETIRE_PTR.addr, 0, 64⟩
/-- ETH_Pp_CFG (09, R259). -/
def ETH_P_CFG.addr (p : Nat) : Nat := 0xd00000 + 0x10000 * p
def ETH_P_CFG.mode (p : Nat) : FRef := ⟨ETH_P_CFG.addr p, 0, 3⟩
def ETH_P_CFG.an_en (p : Nat) : FRef := ⟨ETH_P_CFG.addr p, 4, 1⟩
def ETH_P_CFG.fec (p : Nat) : FRef := ⟨ETH_P_CFG.addr p, 5, 2⟩
def ETH_P_CFG.retrain (p : Nat) : FRef := ⟨ETH_P_CFG.addr p, 7, 1⟩
def ETH_P_CFG.one_step (p : Nat) : FRef := ⟨ETH_P_CFG.addr p, 8, 1⟩
/-- ETH_Pp_STAT (09, R259). -/
def ETH_P_STAT.addr (p : Nat) : Nat := 0xd00004 + 0x10000 * p
def ETH_P_STAT.link (p : Nat) : FRef := ⟨ETH_P_STAT.addr p, 0, 1⟩
def ETH_P_STAT.training (p : Nat) : FRef := ⟨ETH_P_STAT.addr p, 1, 1⟩
def ETH_P_STAT.deferred (p : Nat) : FRef := ⟨ETH_P_STAT.addr p, 2, 1⟩
def ETH_P_STAT.down_seen (p : Nat) : FRef := ⟨ETH_P_STAT.addr p, 3, 1⟩
def ETH_P_STAT.fec_seen (p : Nat) : FRef := ⟨ETH_P_STAT.addr p, 4, 1⟩
/-- ETH_Pp_MAC (09, R259). -/
def ETH_P_MAC.addr (p : Nat) : Nat := 0xd00008 + 0x10000 * p
def ETH_P_MAC.address (p : Nat) : FRef := ⟨ETH_P_MAC.addr p, 0, 48⟩
/-- ETH_Pp_CNT (09, R259). -/
def ETH_P_CNT.addr (p : Nat) : Nat := 0xd00010 + 0x10000 * p
def ETH_P_CNT.fec_corr (p : Nat) : FRef := ⟨ETH_P_CNT.addr p, 0, 32⟩
def ETH_P_CNT.fec_uncorr (p : Nat) : FRef := ⟨ETH_P_CNT.addr p, 32, 16⟩
def ETH_P_CNT.rx_discard (p : Nat) : FRef := ⟨ETH_P_CNT.addr p, 48, 16⟩
/-- ETH_Pp_GATE_CTL (09, R262). -/
def ETH_P_GATE_CTL.addr (p : Nat) : Nat := 0xd00100 + 0x10000 * p
def ETH_P_GATE_CTL.gate_en (p : Nat) : FRef := ⟨ETH_P_GATE_CTL.addr p, 0, 1⟩
def ETH_P_GATE_CTL.oper_list (p : Nat) : FRef := ⟨ETH_P_GATE_CTL.addr p, 1, 1⟩
def ETH_P_GATE_CTL.change (p : Nat) : FRef := ⟨ETH_P_GATE_CTL.addr p, 2, 1⟩
def ETH_P_GATE_CTL.pending (p : Nat) : FRef := ⟨ETH_P_GATE_CTL.addr p, 3, 1⟩
def ETH_P_GATE_CTL.admin_len_m1 (p : Nat) : FRef := ⟨ETH_P_GATE_CTL.addr p, 16, 6⟩
/-- ETH_Pp_GATE_CYCLE (09, R262). -/
def ETH_P_GATE_CYCLE.addr (p : Nat) : Nat := 0xd00104 + 0x10000 * p
def ETH_P_GATE_CYCLE.cycle_ns (p : Nat) : FRef := ⟨ETH_P_GATE_CYCLE.addr p, 0, 30⟩
/-- ETH_Pp_GATE_BASE (09, R262). -/
def ETH_P_GATE_BASE.addr (p : Nat) : Nat := 0xd00108 + 0x10000 * p
def ETH_P_GATE_BASE.base (p : Nat) : FRef := ⟨ETH_P_GATE_BASE.addr p, 0, 64⟩
/-- ETH_Pp_GCL_l_i (09, R262). -/
def ETH_P_GCL.addr (p : Nat) (l : Nat) (i : Nat) : Nat := 0xd00200 + 0x10000 * p + 0x100 * l + 0x4 * i
def ETH_P_GCL.gates (p : Nat) (l : Nat) (i : Nat) : FRef := ⟨ETH_P_GCL.addr p l i, 0, 8⟩
def ETH_P_GCL.interval_ns (p : Nat) (l : Nat) (i : Nat) : FRef := ⟨ETH_P_GCL.addr p l i, 8, 24⟩
/-- ETH_Pp_CBS_q (09, R262). -/
def ETH_P_CBS.addr (p : Nat) (q : Nat) : Nat := 0xd00400 + 0x10000 * p + 0x4 * q
def ETH_P_CBS.idle_slope_mbps (p : Nat) (q : Nat) : FRef := ⟨ETH_P_CBS.addr p q, 0, 17⟩
def ETH_P_CBS.shaper_en (p : Nat) (q : Nat) : FRef := ⟨ETH_P_CBS.addr p q, 31, 1⟩
/-- ETH_Pp_GATE_CNT (09, R262). -/
def ETH_P_GATE_CNT.addr (p : Nat) : Nat := 0xd00440 + 0x10000 * p
def ETH_P_GATE_CNT.sdu_drop (p : Nat) : FRef := ⟨ETH_P_GATE_CNT.addr p, 0, 16⟩
/-- ETH_PSFP_f_ID (09, R263). -/
def ETH_PSFP_ID.addr (f : Nat) : Nat := 0xd51000 + 0x10 * f
def ETH_PSFP_ID.dst_mac (f : Nat) : FRef := ⟨ETH_PSFP_ID.addr f, 0, 48⟩
def ETH_PSFP_ID.vid (f : Nat) : FRef := ⟨ETH_PSFP_ID.addr f, 48, 12⟩
def ETH_PSFP_ID.ports (f : Nat) : FRef := ⟨ETH_PSFP_ID.addr f, 60, 4⟩
/-- ETH_PSFP_f_CFG (09, R263). -/
def ETH_PSFP_CFG.addr (f : Nat) : Nat := 0xd51008 + 0x10 * f
def ETH_PSFP_CFG.enable (f : Nat) : FRef := ⟨ETH_PSFP_CFG.addr f, 0, 1⟩
def ETH_PSFP_CFG.gate_open (f : Nat) : FRef := ⟨ETH_PSFP_CFG.addr f, 1, 1⟩
def ETH_PSFP_CFG.block_oversize (f : Nat) : FRef := ⟨ETH_PSFP_CFG.addr f, 2, 1⟩
def ETH_PSFP_CFG.max_sdu (f : Nat) : FRef := ⟨ETH_PSFP_CFG.addr f, 4, 11⟩
/-- ETH_PSFP_f_METER (09, R263). -/
def ETH_PSFP_METER.addr (f : Nat) : Nat := 0xd5100c + 0x10 * f
def ETH_PSFP_METER.cir_mbps (f : Nat) : FRef := ⟨ETH_PSFP_METER.addr f, 0, 20⟩
def ETH_PSFP_METER.cbs_kb (f : Nat) : FRef := ⟨ETH_PSFP_METER.addr f, 20, 12⟩
/-- ETH_PSFP_f_CNT (09, R263). -/
def ETH_PSFP_CNT.addr (f : Nat) : Nat := 0xd51400 + 0x8 * f
def ETH_PSFP_CNT.passed (f : Nat) : FRef := ⟨ETH_PSFP_CNT.addr f, 0, 32⟩
def ETH_PSFP_CNT.drop_sdu (f : Nat) : FRef := ⟨ETH_PSFP_CNT.addr f, 32, 16⟩
def ETH_PSFP_CNT.drop_other (f : Nat) : FRef := ⟨ETH_PSFP_CNT.addr f, 48, 16⟩
/-- ETH_FRER_CFG (09, R264). -/
def ETH_FRER_CFG.addr : Nat := 0xd50010
def ETH_FRER_CFG.port_a : FRef := ⟨ETH_FRER_CFG.addr, 0, 2⟩
def ETH_FRER_CFG.port_b : FRef := ⟨ETH_FRER_CFG.addr, 2, 2⟩
def ETH_FRER_CFG.enable : FRef := ⟨ETH_FRER_CFG.addr, 4, 1⟩
def ETH_FRER_CFG.hist_len : FRef := ⟨ETH_FRER_CFG.addr, 8, 5⟩
def ETH_FRER_CFG.reset_ms : FRef := ⟨ETH_FRER_CFG.addr, 16, 16⟩
/-- ETH_FRER_STAT (09, R264). -/
def ETH_FRER_STAT.addr : Nat := 0xd50014
def ETH_FRER_STAT.lost : FRef := ⟨ETH_FRER_STAT.addr, 0, 16⟩
def ETH_FRER_STAT.resets : FRef := ⟨ETH_FRER_STAT.addr, 16, 16⟩
/-- ETH_PTP_CFG (09, R266). -/
def ETH_PTP_CFG.addr : Nat := 0xd50020
def ETH_PTP_CFG.enable : FRef := ⟨ETH_PTP_CFG.addr, 0, 1⟩
def ETH_PTP_CFG.gm_capable : FRef := ⟨ETH_PTP_CFG.addr, 1, 1⟩
def ETH_PTP_CFG.ports : FRef := ⟨ETH_PTP_CFG.addr, 4, 4⟩
def ETH_PTP_CFG.priority1 : FRef := ⟨ETH_PTP_CFG.addr, 8, 8⟩
def ETH_PTP_CFG.log_sync : FRef := ⟨ETH_PTP_CFG.addr, 16, 4⟩
def ETH_PTP_CFG.log_pdelay : FRef := ⟨ETH_PTP_CFG.addr, 20, 4⟩
/-- ETH_PTP_STAT (09, R266). -/
def ETH_PTP_STAT.addr : Nat := 0xd50024
def ETH_PTP_STAT.is_gm : FRef := ⟨ETH_PTP_STAT.addr, 0, 1⟩
def ETH_PTP_STAT.slave_port : FRef := ⟨ETH_PTP_STAT.addr, 1, 2⟩
def ETH_PTP_STAT.slave_valid : FRef := ⟨ETH_PTP_STAT.addr, 3, 1⟩
def ETH_PTP_STAT.gm_change_seen : FRef := ⟨ETH_PTP_STAT.addr, 4, 1⟩
/-- ETH_ETYPE (09, R268). -/
def ETH_ETYPE.addr : Nat := 0xd50000
def ETH_ETYPE.exp_etype : FRef := ⟨ETH_ETYPE.addr, 0, 16⟩
def ETH_ETYPE.qsl_etype : FRef := ⟨ETH_ETYPE.addr, 16, 16⟩
/-- ETH_EXP_x_CFG (09, R268). -/
def ETH_EXP_CFG.addr (x : Nat) : Nat := 0xd50100 + 0x10 * x
def ETH_EXP_CFG.ring (x : Nat) : FRef := ⟨ETH_EXP_CFG.addr x, 0, 5⟩
def ETH_EXP_CFG.port (x : Nat) : FRef := ⟨ETH_EXP_CFG.addr x, 5, 2⟩
def ETH_EXP_CFG.enable (x : Nat) : FRef := ⟨ETH_EXP_CFG.addr x, 7, 1⟩
def ETH_EXP_CFG.pcp (x : Nat) : FRef := ⟨ETH_EXP_CFG.addr x, 8, 3⟩
def ETH_EXP_CFG.frer (x : Nat) : FRef := ⟨ETH_EXP_CFG.addr x, 11, 1⟩
def ETH_EXP_CFG.vid (x : Nat) : FRef := ⟨ETH_EXP_CFG.addr x, 12, 12⟩
def ETH_EXP_CFG.flush_us (x : Nat) : FRef := ⟨ETH_EXP_CFG.addr x, 24, 8⟩
/-- ETH_EXP_x_DST (09, R268). -/
def ETH_EXP_DST.addr (x : Nat) : Nat := 0xd50108 + 0x10 * x
def ETH_EXP_DST.dst_mac (x : Nat) : FRef := ⟨ETH_EXP_DST.addr x, 0, 48⟩
/-- QSL_TX_c_CFG (09, R275). -/
def QSL_TX_CFG.addr (c : Nat) : Nat := 0xd40000 + 0x100 * c
def QSL_TX_CFG.enable (c : Nat) : FRef := ⟨QSL_TX_CFG.addr c, 0, 1⟩
def QSL_TX_CFG.commit (c : Nat) : FRef := ⟨QSL_TX_CFG.addr c, 1, 1⟩
def QSL_TX_CFG.port (c : Nat) : FRef := ⟨QSL_TX_CFG.addr c, 2, 2⟩
def QSL_TX_CFG.frer (c : Nat) : FRef := ⟨QSL_TX_CFG.addr c, 4, 1⟩
def QSL_TX_CFG.pcp (c : Nat) : FRef := ⟨QSL_TX_CFG.addr c, 5, 3⟩
def QSL_TX_CFG.vid (c : Nat) : FRef := ⟨QSL_TX_CFG.addr c, 8, 12⟩
def QSL_TX_CFG.len (c : Nat) : FRef := ⟨QSL_TX_CFG.addr c, 20, 7⟩
/-- QSL_TX_c_ID (09, R275). -/
def QSL_TX_ID.addr (c : Nat) : Nat := 0xd40004 + 0x100 * c
def QSL_TX_ID.identity (c : Nat) : FRef := ⟨QSL_TX_ID.addr c, 0, 32⟩
/-- QSL_TX_c_DST (09, R275). -/
def QSL_TX_DST.addr (c : Nat) : Nat := 0xd40008 + 0x100 * c
def QSL_TX_DST.dst_mac (c : Nat) : FRef := ⟨QSL_TX_DST.addr c, 0, 48⟩
def QSL_TX_DST.tx_drop (c : Nat) : FRef := ⟨QSL_TX_DST.addr c, 48, 16⟩
/-- QSL_TX_c_TIMING (09, R275). -/
def QSL_TX_TIMING.addr (c : Nat) : Nat := 0xd40010 + 0x100 * c
def QSL_TX_TIMING.period_100us (c : Nat) : FRef := ⟨QSL_TX_TIMING.addr c, 0, 16⟩
def QSL_TX_TIMING.window (c : Nat) : FRef := ⟨QSL_TX_TIMING.addr c, 16, 16⟩
/-- QSL_RX_c_CFG (09, R275). -/
def QSL_RX_CFG.addr (c : Nat) : Nat := 0xd41000 + 0x100 * c
def QSL_RX_CFG.enable (c : Nat) : FRef := ⟨QSL_RX_CFG.addr c, 0, 1⟩
def QSL_RX_CFG.ports (c : Nat) : FRef := ⟨QSL_RX_CFG.addr c, 1, 4⟩
def QSL_RX_CFG.age_en (c : Nat) : FRef := ⟨QSL_RX_CFG.addr c, 5, 1⟩
def QSL_RX_CFG.restart (c : Nat) : FRef := ⟨QSL_RX_CFG.addr c, 6, 1⟩
def QSL_RX_CFG.len (c : Nat) : FRef := ⟨QSL_RX_CFG.addr c, 7, 7⟩
def QSL_RX_CFG.seq_tol (c : Nat) : FRef := ⟨QSL_RX_CFG.addr c, 14, 4⟩
def QSL_RX_CFG.crc_limit (c : Nat) : FRef := ⟨QSL_RX_CFG.addr c, 18, 4⟩
def QSL_RX_CFG.wd_ms (c : Nat) : FRef := ⟨QSL_RX_CFG.addr c, 23, 9⟩
/-- QSL_RX_c_ID (09, R275). -/
def QSL_RX_ID.addr (c : Nat) : Nat := 0xd41004 + 0x100 * c
def QSL_RX_ID.identity (c : Nat) : FRef := ⟨QSL_RX_ID.addr c, 0, 32⟩
/-- QSL_RX_c_AGE (09, R275). -/
def QSL_RX_AGE.addr (c : Nat) : Nat := 0xd41008 + 0x100 * c
def QSL_RX_AGE.max_age (c : Nat) : FRef := ⟨QSL_RX_AGE.addr c, 0, 16⟩
/-- QSL_RX_c_STAT (09, R275). -/
def QSL_RX_STAT.addr (c : Nat) : Nat := 0xd4100c + 0x100 * c
def QSL_RX_STAT.state (c : Nat) : FRef := ⟨QSL_RX_STAT.addr c, 0, 2⟩
def QSL_RX_STAT.fail_seen (c : Nat) : FRef := ⟨QSL_RX_STAT.addr c, 3, 1⟩
def QSL_RX_STAT.cause (c : Nat) : FRef := ⟨QSL_RX_STAT.addr c, 4, 4⟩
def QSL_RX_STAT.last_seq (c : Nat) : FRef := ⟨QSL_RX_STAT.addr c, 16, 16⟩
/-- QSL_RX_c_CNT (09, R275). -/
def QSL_RX_CNT.addr (c : Nat) : Nat := 0xd41010 + 0x100 * c
def QSL_RX_CNT.accepted (c : Nat) : FRef := ⟨QSL_RX_CNT.addr c, 0, 16⟩
def QSL_RX_CNT.crc_err (c : Nat) : FRef := ⟨QSL_RX_CNT.addr c, 16, 16⟩
def QSL_RX_CNT.rejected (c : Nat) : FRef := ⟨QSL_RX_CNT.addr c, 32, 16⟩
def QSL_RX_CNT.lost (c : Nat) : FRef := ⟨QSL_RX_CNT.addr c, 48, 16⟩
/-- SAF_STAT (10, R297). -/
def SAF_STAT.addr : Nat := 0xe00000
def SAF_STAT.perm_a : FRef := ⟨SAF_STAT.addr, 0, 1⟩
def SAF_STAT.perm_b : FRef := ⟨SAF_STAT.addr, 1, 1⟩
def SAF_STAT.sp_grant_a : FRef := ⟨SAF_STAT.addr, 2, 1⟩
def SAF_STAT.sp_grant_b : FRef := ⟨SAF_STAT.addr, 3, 1⟩
def SAF_STAT.snf_grant_a : FRef := ⟨SAF_STAT.addr, 4, 1⟩
def SAF_STAT.snf_grant_b : FRef := ⟨SAF_STAT.addr, 5, 1⟩
def SAF_STAT.lockout : FRef := ⟨SAF_STAT.addr, 6, 1⟩
def SAF_STAT.readback : FRef := ⟨SAF_STAT.addr, 8, 4⟩
def SAF_STAT.active_set : FRef := ⟨SAF_STAT.addr, 12, 4⟩
def SAF_STAT.switching : FRef := ⟨SAF_STAT.addr, 16, 1⟩
def SAF_STAT.margin : FRef := ⟨SAF_STAT.addr, 17, 1⟩
/-- SAF_FAULT (10, R297). -/
def SAF_FAULT.addr : Nat := 0xe00004
def SAF_FAULT.cause : FRef := ⟨SAF_FAULT.addr, 0, 8⟩
def SAF_FAULT.info : FRef := ⟨SAF_FAULT.addr, 8, 8⟩
def SAF_FAULT.later : FRef := ⟨SAF_FAULT.addr, 16, 16⟩
/-- SAF_FAULT_TIME (10, R297). -/
def SAF_FAULT_TIME.addr : Nat := 0xe00008
def SAF_FAULT_TIME.time : FRef := ⟨SAF_FAULT_TIME.addr, 0, 64⟩
/-- SAF_ZONE_STAT (10, R297). -/
def SAF_ZONE_STAT.addr : Nat := 0xe00010
def SAF_ZONE_STAT.occ (z : Nat) : FRef := ⟨SAF_ZONE_STAT.addr, 0 + 2 * z, 1⟩
def SAF_ZONE_STAT.viol (z : Nat) : FRef := ⟨SAF_ZONE_STAT.addr, 1 + 2 * z, 1⟩
/-- SAF_DCI_STAT (10, R297). -/
def SAF_DCI_STAT.addr : Nat := 0xe00018
def SAF_DCI_STAT.contacts : FRef := ⟨SAF_DCI_STAT.addr, 0, 8⟩
def SAF_DCI_STAT.agreed : FRef := ⟨SAF_DCI_STAT.addr, 8, 4⟩
def SAF_DCI_STAT.pending : FRef := ⟨SAF_DCI_STAT.addr, 12, 4⟩
/-- SAF_ZT_CTL (10, R297). -/
def SAF_ZT_CTL.addr : Nat := 0xe00100
def SAF_ZT_CTL.prepare : FRef := ⟨SAF_ZT_CTL.addr, 0, 1⟩
def SAF_ZT_CTL.commit : FRef := ⟨SAF_ZT_CTL.addr, 1, 1⟩
def SAF_ZT_CTL.abort : FRef := ⟨SAF_ZT_CTL.addr, 2, 1⟩
/-- SAF_ZT_STAT (10, R297). -/
def SAF_ZT_STAT.addr : Nat := 0xe00104
def SAF_ZT_STAT.phase : FRef := ⟨SAF_ZT_STAT.addr, 0, 2⟩
def SAF_ZT_STAT.sp_ok : FRef := ⟨SAF_ZT_STAT.addr, 2, 1⟩
def SAF_ZT_STAT.snf_ok : FRef := ⟨SAF_ZT_STAT.addr, 3, 1⟩
def SAF_ZT_STAT.err : FRef := ⟨SAF_ZT_STAT.addr, 4, 4⟩
def SAF_ZT_STAT.fail_seen : FRef := ⟨SAF_ZT_STAT.addr, 8, 1⟩
/-- SAF_ZT_ACTIVE (10, R297). -/
def SAF_ZT_ACTIVE.addr : Nat := 0xe00108
def SAF_ZT_ACTIVE.table_id : FRef := ⟨SAF_ZT_ACTIVE.addr, 0, 32⟩
def SAF_ZT_ACTIVE.crc : FRef := ⟨SAF_ZT_ACTIVE.addr, 32, 32⟩
/-- SAF_LOR_CNT (10, R297). -/
def SAF_LOR_CNT.addr : Nat := 0xe00110
def SAF_LOR_CNT.accepted : FRef := ⟨SAF_LOR_CNT.addr, 0, 16⟩
def SAF_LOR_CNT.rejected : FRef := ⟨SAF_LOR_CNT.addr, 16, 16⟩
/-- HUB_MODE_STAT (11, R302). -/
def HUB_MODE_STAT.addr : Nat := 0x200
def HUB_MODE_STAT.mode : FRef := ⟨HUB_MODE_STAT.addr, 0, 4⟩
def HUB_MODE_STAT.base_mode : FRef := ⟨HUB_MODE_STAT.addr, 4, 4⟩
def HUB_MODE_STAT.lockout : FRef := ⟨HUB_MODE_STAT.addr, 8, 1⟩
def HUB_MODE_STAT.req_busy : FRef := ⟨HUB_MODE_STAT.addr, 9, 1⟩
def HUB_MODE_STAT.pilot_by_req : FRef := ⟨HUB_MODE_STAT.addr, 10, 1⟩
def HUB_MODE_STAT.pilot_cause : FRef := ⟨HUB_MODE_STAT.addr, 11, 3⟩
def HUB_MODE_STAT.last_mode : FRef := ⟨HUB_MODE_STAT.addr, 16, 4⟩
/-- HUB_MODE_REQ (11, R302). -/
def HUB_MODE_REQ.addr : Nat := 0x204
def HUB_MODE_REQ.target : FRef := ⟨HUB_MODE_REQ.addr, 0, 4⟩
def HUB_MODE_REQ.go : FRef := ⟨HUB_MODE_REQ.addr, 4, 1⟩
def HUB_MODE_REQ.result : FRef := ⟨HUB_MODE_REQ.addr, 8, 4⟩
def HUB_MODE_REQ.denied : FRef := ⟨HUB_MODE_REQ.addr, 12, 1⟩
/-- HUB_RESET_CAUSE (11, R303). -/
def HUB_RESET_CAUSE.addr : Nat := 0x208
def HUB_RESET_CAUSE.por : FRef := ⟨HUB_RESET_CAUSE.addr, 0, 1⟩
def HUB_RESET_CAUSE.warm : FRef := ⟨HUB_RESET_CAUSE.addr, 1, 1⟩
/-- HUB_BOOT_STAT (11, R308). -/
def HUB_BOOT_STAT.addr : Nat := 0x210
def HUB_BOOT_STAT.slot : FRef := ⟨HUB_BOOT_STAT.addr, 0, 2⟩
def HUB_BOOT_STAT.fallback : FRef := ⟨HUB_BOOT_STAT.addr, 2, 1⟩
def HUB_BOOT_STAT.boot_err : FRef := ⟨HUB_BOOT_STAT.addr, 3, 1⟩
def HUB_BOOT_STAT.err_a : FRef := ⟨HUB_BOOT_STAT.addr, 4, 4⟩
def HUB_BOOT_STAT.err_b : FRef := ⟨HUB_BOOT_STAT.addr, 8, 4⟩
def HUB_BOOT_STAT.err_mem : FRef := ⟨HUB_BOOT_STAT.addr, 12, 4⟩
def HUB_BOOT_STAT.cfg_default : FRef := ⟨HUB_BOOT_STAT.addr, 16, 1⟩
def HUB_BOOT_STAT.rpll_wait : FRef := ⟨HUB_BOOT_STAT.addr, 17, 1⟩
/-- HUB_BOOT_CTL (11, R308). -/
def HUB_BOOT_CTL.addr : Nat := 0x214
def HUB_BOOT_CTL.retry : FRef := ⟨HUB_BOOT_CTL.addr, 0, 1⟩
def HUB_BOOT_CTL.svn_commit : FRef := ⟨HUB_BOOT_CTL.addr, 1, 1⟩
/-- HUB_BOOT_IMG (11, R308). -/
def HUB_BOOT_IMG.addr : Nat := 0x218
def HUB_BOOT_IMG.address : FRef := ⟨HUB_BOOT_IMG.addr, 12, 52⟩
/-- HUB_BIST_RES (11, R310). -/
def HUB_BIST_RES.addr : Nat := 0x220
def HUB_BIST_RES.tile_fail : FRef := ⟨HUB_BIST_RES.addr, 0, 6⟩
def HUB_BIST_RES.hub_fail : FRef := ⟨HUB_BIST_RES.addr, 6, 1⟩
def HUB_BIST_RES.snf_fail : FRef := ⟨HUB_BIST_RES.addr, 7, 1⟩
def HUB_BIST_RES.done : FRef := ⟨HUB_BIST_RES.addr, 8, 1⟩
/-- IND_n_CFG (11, R321). -/
def IND_CFG.addr (n : Nat) : Nat := 0xf8c000 + 0x8 * n
def IND_CFG.src (n : Nat) : FRef := ⟨IND_CFG.addr n, 0, 2⟩
def IND_CFG.pattern (n : Nat) : FRef := ⟨IND_CFG.addr n, 2, 3⟩
def IND_CFG.enable (n : Nat) : FRef := ⟨IND_CFG.addr n, 5, 1⟩
def IND_CFG.level (n : Nat) : FRef := ⟨IND_CFG.addr n, 8, 6⟩
def IND_CFG.period_ms (n : Nat) : FRef := ⟨IND_CFG.addr n, 16, 16⟩
def IND_CFG.duty (n : Nat) : FRef := ⟨IND_CFG.addr n, 32, 8⟩
def IND_CFG.chase_pos (n : Nat) : FRef := ⟨IND_CFG.addr n, 40, 3⟩
def IND_CFG.chase_len_m1 (n : Nat) : FRef := ⟨IND_CFG.addr n, 43, 3⟩
/-- IND_CTL (11, R321). -/
def IND_CTL.addr : Nat := 0xf8c040
def IND_CTL.apply : FRef := ⟨IND_CTL.addr, 0, 1⟩
def IND_CTL.at_time : FRef := ⟨IND_CTL.addr, 1, 1⟩
def IND_CTL.late : FRef := ⟨IND_CTL.addr, 2, 1⟩
/-- IND_APPLY_TIME (11, R321). -/
def IND_APPLY_TIME.addr : Nat := 0xf8c048
def IND_APPLY_TIME.time : FRef := ⟨IND_APPLY_TIME.addr, 0, 64⟩
/-- IND_STAT (11, R321). -/
def IND_STAT.addr : Nat := 0xf8c050
def IND_STAT.state (n : Nat) : FRef := ⟨IND_STAT.addr, 0 + 2 * n, 2⟩
def IND_STAT.fault_seen : FRef := ⟨IND_STAT.addr, 16, 8⟩
/-- TWN_CTL (12, R342). -/
def TWN_CTL.addr : Nat := 0xd80000
def TWN_CTL.enable : FRef := ⟨TWN_CTL.addr, 0, 1⟩
def TWN_CTL.auto_rejoin : FRef := ⟨TWN_CTL.addr, 1, 1⟩
def TWN_CTL.pair_swap : FRef := ⟨TWN_CTL.addr, 2, 1⟩
def TWN_CTL.pair_commit : FRef := ⟨TWN_CTL.addr, 3, 1⟩
def TWN_CTL.retrain : FRef := ⟨TWN_CTL.addr, 4, 4⟩
/-- TWN_STAT (12, R342). -/
def TWN_STAT.addr : Nat := 0xd80004
def TWN_STAT.unit : FRef := ⟨TWN_STAT.addr, 0, 1⟩
def TWN_STAT.link_up : FRef := ⟨TWN_STAT.addr, 1, 1⟩
def TWN_STAT.lanes_up : FRef := ⟨TWN_STAT.addr, 2, 4⟩
def TWN_STAT.hb_valid : FRef := ⟨TWN_STAT.addr, 6, 1⟩
def TWN_STAT.peer_mode : FRef := ⟨TWN_STAT.addr, 7, 4⟩
def TWN_STAT.leader : FRef := ⟨TWN_STAT.addr, 11, 1⟩
def TWN_STAT.epoch_match : FRef := ⟨TWN_STAT.addr, 12, 1⟩
def TWN_STAT.deferred : FRef := ⟨TWN_STAT.addr, 13, 1⟩
def TWN_STAT.id_clash : FRef := ⟨TWN_STAT.addr, 14, 1⟩
def TWN_STAT.hb_lost_seen : FRef := ⟨TWN_STAT.addr, 15, 1⟩
def TWN_STAT.ovl_seen : FRef := ⟨TWN_STAT.addr, 16, 1⟩
/-- TWN_PHASE (12, R342). -/
def TWN_PHASE.addr : Nat := 0xd80008
def TWN_PHASE.pair_offset_ns : FRef := ⟨TWN_PHASE.addr, 0, 32⟩
/-- TWN_PEER_EPOCH (12, R342). -/
def TWN_PEER_EPOCH.addr : Nat := 0xd80010
def TWN_PEER_EPOCH.epoch : FRef := ⟨TWN_PEER_EPOCH.addr, 0, 32⟩
/-- TWN_PEER_TABLE (12, R342). -/
def TWN_PEER_TABLE.addr : Nat := 0xd80018
def TWN_PEER_TABLE.table_id : FRef := ⟨TWN_PEER_TABLE.addr, 0, 32⟩
def TWN_PEER_TABLE.crc : FRef := ⟨TWN_PEER_TABLE.addr, 32, 32⟩
/-- TWN_OWN_CTL (12, R342). -/
def TWN_OWN_CTL.addr : Nat := 0xd80020
def TWN_OWN_CTL.handoff : FRef := ⟨TWN_OWN_CTL.addr, 0, 1⟩
def TWN_OWN_CTL.owner : FRef := ⟨TWN_OWN_CTL.addr, 1, 1⟩
def TWN_OWN_CTL.mir_own_pin : FRef := ⟨TWN_OWN_CTL.addr, 2, 1⟩
def TWN_OWN_CTL.handoff_refused : FRef := ⟨TWN_OWN_CTL.addr, 3, 1⟩
/-- TWN_MIRROR_BASE (12, R342). -/
def TWN_MIRROR_BASE.addr : Nat := 0xd80028
def TWN_MIRROR_BASE.base : FRef := ⟨TWN_MIRROR_BASE.addr, 24, 40⟩
/-- TWN_OVL_BANKS (12, R342). -/
def TWN_OVL_BANKS.addr : Nat := 0xd80040
def TWN_OVL_BANKS.banks : FRef := ⟨TWN_OVL_BANKS.addr, 0, 64⟩
/-- TWN_OVL_AZ (12, R342). -/
def TWN_OVL_AZ.addr : Nat := 0xd80048
def TWN_OVL_AZ.az_min : FRef := ⟨TWN_OVL_AZ.addr, 0, 20⟩
def TWN_OVL_AZ.az_max : FRef := ⟨TWN_OVL_AZ.addr, 32, 20⟩
/-- TWN_OVL_CFG (12, R342). -/
def TWN_OVL_CFG.addr : Nat := 0xd80050
def TWN_OVL_CFG.ovl_tol : FRef := ⟨TWN_OVL_CFG.addr, 0, 12⟩
def TWN_OVL_CFG.az_tol : FRef := ⟨TWN_OVL_CFG.addr, 16, 8⟩
def TWN_OVL_CFG.ovl_frac : FRef := ⟨TWN_OVL_CFG.addr, 24, 8⟩
/-- HUB_HO_CTL (12, R342). -/
def HUB_HO_CTL.addr : Nat := 0x230
def HUB_HO_CTL.start : FRef := ⟨HUB_HO_CTL.addr, 0, 1⟩
/-- HUB_HO_STAT (12, R342). -/
def HUB_HO_STAT.addr : Nat := 0x234
def HUB_HO_STAT.active : FRef := ⟨HUB_HO_STAT.addr, 0, 1⟩
def HUB_HO_STAT.busy : FRef := ⟨HUB_HO_STAT.addr, 1, 1⟩
def HUB_HO_STAT.err : FRef := ⟨HUB_HO_STAT.addr, 2, 4⟩
/-- HUB_SLICE_CTL (12, R342). -/
def HUB_SLICE_CTL.addr : Nat := 0x240
def HUB_SLICE_CTL.tile : FRef := ⟨HUB_SLICE_CTL.addr, 0, 3⟩
def HUB_SLICE_CTL.action : FRef := ⟨HUB_SLICE_CTL.addr, 3, 2⟩
def HUB_SLICE_CTL.start : FRef := ⟨HUB_SLICE_CTL.addr, 5, 1⟩
/-- HUB_SLICE_STAT (12, R342). -/
def HUB_SLICE_STAT.addr : Nat := 0x244
def HUB_SLICE_STAT.busy : FRef := ⟨HUB_SLICE_STAT.addr, 0, 1⟩
def HUB_SLICE_STAT.done : FRef := ⟨HUB_SLICE_STAT.addr, 1, 1⟩
def HUB_SLICE_STAT.err : FRef := ⟨HUB_SLICE_STAT.addr, 2, 3⟩
def HUB_SLICE_STAT.isolated : FRef := ⟨HUB_SLICE_STAT.addr, 5, 3⟩
/-- TILE_t_SRAM_REPAIR (12, R342). -/
def TILE_SRAM_REPAIR.addr (t : Nat) : Nat := 0x405200 + 0x100000 * t
def TILE_SRAM_REPAIR.ce_thr (t : Nat) : FRef := ⟨TILE_SRAM_REPAIR.addr t, 0, 8⟩
def TILE_SRAM_REPAIR.remapped (t : Nat) : FRef := ⟨TILE_SRAM_REPAIR.addr t, 8, 8⟩
def TILE_SRAM_REPAIR.spares_free (t : Nat) : FRef := ⟨TILE_SRAM_REPAIR.addr t, 16, 8⟩
def TILE_SRAM_REPAIR.exhausted (t : Nat) : FRef := ⟨TILE_SRAM_REPAIR.addr t, 24, 1⟩
/-- HK_CTL (13, R362). -/
def HK_CTL.addr : Nat := 0xe80000
def HK_CTL.enable : FRef := ⟨HK_CTL.addr, 0, 1⟩
def HK_CTL.trig_src : FRef := ⟨HK_CTL.addr, 1, 2⟩
def HK_CTL.queue_en : FRef := ⟨HK_CTL.addr, 3, 1⟩
def HK_CTL.pd_mode : FRef := ⟨HK_CTL.addr, 4, 2⟩
def HK_CTL.min_phase : FRef := ⟨HK_CTL.addr, 6, 1⟩
def HK_CTL.sync_en : FRef := ⟨HK_CTL.addr, 7, 1⟩
def HK_CTL.seq_len_m1 : FRef := ⟨HK_CTL.addr, 8, 4⟩
def HK_CTL.sw_trig : FRef := ⟨HK_CTL.addr, 12, 1⟩
def HK_CTL.osr_r : FRef := ⟨HK_CTL.addr, 16, 16⟩
/-- HK_PERIOD (13, R362). -/
def HK_PERIOD.addr : Nat := 0xe80004
def HK_PERIOD.period_us : FRef := ⟨HK_PERIOD.addr, 0, 32⟩
/-- HK_STAT (13, R362). -/
def HK_STAT.addr : Nat := 0xe80008
def HK_STAT.busy : FRef := ⟨HK_STAT.addr, 0, 1⟩
def HK_STAT.queued : FRef := ⟨HK_STAT.addr, 1, 1⟩
def HK_STAT.cal_busy : FRef := ⟨HK_STAT.addr, 2, 1⟩
def HK_STAT.cal_err : FRef := ⟨HK_STAT.addr, 3, 1⟩
def HK_STAT.missed : FRef := ⟨HK_STAT.addr, 16, 16⟩
/-- HK_CAL_CMD (13, R362). -/
def HK_CAL_CMD.addr : Nat := 0xe8000c
def HK_CAL_CMD.fs_target : FRef := ⟨HK_CAL_CMD.addr, 0, 24⟩
def HK_CAL_CMD.entry : FRef := ⟨HK_CAL_CMD.addr, 24, 4⟩
def HK_CAL_CMD.kind : FRef := ⟨HK_CAL_CMD.addr, 28, 1⟩
def HK_CAL_CMD.go : FRef := ⟨HK_CAL_CMD.addr, 29, 1⟩
/-- HK_SEQ_i_CFG (13, R362). -/
def HK_SEQ_CFG.addr (i : Nat) : Nat := 0xe80100 + 0x10 * i
def HK_SEQ_CFG.mode (i : Nat) : FRef := ⟨HK_SEQ_CFG.addr i, 0, 2⟩
def HK_SEQ_CFG.inp (i : Nat) : FRef := ⟨HK_SEQ_CFG.addr i, 2, 5⟩
def HK_SEQ_CFG.inn (i : Nat) : FRef := ⟨HK_SEQ_CFG.addr i, 7, 5⟩
def HK_SEQ_CFG.ret (i : Nat) : FRef := ⟨HK_SEQ_CFG.addr i, 12, 5⟩
def HK_SEQ_CFG.gain (i : Nat) : FRef := ⟨HK_SEQ_CFG.addr i, 17, 3⟩
def HK_SEQ_CFG.iex_a (i : Nat) : FRef := ⟨HK_SEQ_CFG.addr i, 20, 2⟩
def HK_SEQ_CFG.iex_b (i : Nat) : FRef := ⟨HK_SEQ_CFG.addr i, 22, 2⟩
def HK_SEQ_CFG.iex_cur (i : Nat) : FRef := ⟨HK_SEQ_CFG.addr i, 24, 3⟩
def HK_SEQ_CFG.lin_set (i : Nat) : FRef := ⟨HK_SEQ_CFG.addr i, 27, 3⟩
/-- HK_SEQ_i_TIM (13, R362). -/
def HK_SEQ_TIM.addr (i : Nat) : Nat := 0xe80104 + 0x10 * i
def HK_SEQ_TIM.settle_us (i : Nat) : FRef := ⟨HK_SEQ_TIM.addr i, 0, 16⟩
def HK_SEQ_TIM.temp_src (i : Nat) : FRef := ⟨HK_SEQ_TIM.addr i, 16, 4⟩
def HK_SEQ_TIM.thr_en (i : Nat) : FRef := ⟨HK_SEQ_TIM.addr i, 20, 1⟩
def HK_SEQ_TIM.hyst (i : Nat) : FRef := ⟨HK_SEQ_TIM.addr i, 24, 8⟩
/-- HK_THR_i (13, R362). -/
def HK_THR.addr (i : Nat) : Nat := 0xe80108 + 0x10 * i
def HK_THR.hi (i : Nat) : FRef := ⟨HK_THR.addr i, 0, 32⟩
def HK_THR.lo (i : Nat) : FRef := ⟨HK_THR.addr i, 32, 32⟩
/-- HK_RES_i (13, R362). -/
def HK_RES.addr (i : Nat) : Nat := 0xe80400 + 0x8 * i
def HK_RES.code (i : Nat) : FRef := ⟨HK_RES.addr i, 0, 24⟩
def HK_RES.valid (i : Nat) : FRef := ⟨HK_RES.addr i, 24, 1⟩
def HK_RES.ovr (i : Nat) : FRef := ⟨HK_RES.addr i, 25, 1⟩
def HK_RES.brk (i : Nat) : FRef := ⟨HK_RES.addr i, 26, 1⟩
def HK_RES.fb (i : Nat) : FRef := ⟨HK_RES.addr i, 27, 1⟩
def HK_RES.in_hi (i : Nat) : FRef := ⟨HK_RES.addr i, 28, 1⟩
def HK_RES.in_lo (i : Nat) : FRef := ⟨HK_RES.addr i, 29, 1⟩
def HK_RES.hi_seen (i : Nat) : FRef := ⟨HK_RES.addr i, 30, 1⟩
def HK_RES.lo_seen (i : Nat) : FRef := ⟨HK_RES.addr i, 31, 1⟩
def HK_RES.value (i : Nat) : FRef := ⟨HK_RES.addr i, 32, 32⟩
/-- HK_CAL_i (13, R362). -/
def HK_CAL.addr (i : Nat) : Nat := 0xe80500 + 0x8 * i
def HK_CAL.offset (i : Nat) : FRef := ⟨HK_CAL.addr i, 0, 24⟩
def HK_CAL.gain (i : Nat) : FRef := ⟨HK_CAL.addr i, 32, 32⟩
/-- HK_LEAD_i (13, R362). -/
def HK_LEAD.addr (i : Nat) : Nat := 0xe80580 + 0x4 * i
def HK_LEAD.lead (i : Nat) : FRef := ⟨HK_LEAD.addr i, 0, 24⟩
def HK_LEAD.lead_valid (i : Nat) : FRef := ⟨HK_LEAD.addr i, 24, 1⟩
/-- HK_LIN_s_k (13, R362). -/
def HK_LIN.addr (s : Nat) (k : Nat) : Nat := 0xe81000 + 0x80 * s + 0x4 * k
def HK_LIN.coef (s : Nat) (k : Nat) : FRef := ⟨HK_LIN.addr s k, 0, 32⟩
/-- HK_LIN_s_CFG (13, R362). -/
def HK_LIN_CFG.addr (s : Nat) : Nat := 0xe81060 + 0x80 * s
def HK_LIN_CFG.order_x (s : Nat) : FRef := ⟨HK_LIN_CFG.addr s, 0, 3⟩
def HK_LIN_CFG.order_t (s : Nat) : FRef := ⟨HK_LIN_CFG.addr s, 4, 2⟩
/-- CHM_CTL (13, R362). -/
def CHM_CTL.addr : Nat := 0xe88000
def CHM_CTL.freq_hz : FRef := ⟨CHM_CTL.addr, 0, 15⟩
def CHM_CTL.enable : FRef := ⟨CHM_CTL.addr, 15, 1⟩
def CHM_CTL.amp : FRef := ⟨CHM_CTL.addr, 16, 8⟩
def CHM_CTL.n_cyc_log2 : FRef := ⟨CHM_CTL.addr, 24, 4⟩
def CHM_CTL.persist : FRef := ⟨CHM_CTL.addr, 28, 4⟩
/-- CHM_CFG (13, R362). -/
def CHM_CFG.addr : Nat := 0xe88008
def CHM_CFG.c_min_ff : FRef := ⟨CHM_CFG.addr, 0, 16⟩
def CHM_CFG.d_water : FRef := ⟨CHM_CFG.addr, 16, 8⟩
def CHM_CFG.win_entry : FRef := ⟨CHM_CFG.addr, 24, 4⟩
def CHM_CFG.temp_en : FRef := ⟨CHM_CFG.addr, 28, 1⟩
def CHM_CFG.ice_temp : FRef := ⟨CHM_CFG.addr, 32, 16⟩
/-- CHM_STAT (13, R362). -/
def CHM_STAT.addr : Nat := 0xe88010
def CHM_STAT.state (e : Nat) : FRef := ⟨CHM_STAT.addr, 0 + 2 * e, 2⟩
def CHM_STAT.drive_fault : FRef := ⟨CHM_STAT.addr, 16, 2⟩
def CHM_STAT.change_seen : FRef := ⟨CHM_STAT.addr, 18, 1⟩
def CHM_STAT.ref_cap : FRef := ⟨CHM_STAT.addr, 24, 8⟩
/-- CHM_E_e_MEAS (13, R362). -/
def CHM_E_MEAS.addr (e : Nat) : Nat := 0xe88040 + 0x8 * e
def CHM_E_MEAS.dc (e : Nat) : FRef := ⟨CHM_E_MEAS.addr e, 0, 32⟩
def CHM_E_MEAS.d (e : Nat) : FRef := ⟨CHM_E_MEAS.addr e, 32, 16⟩
def CHM_E_MEAS.valid (e : Nat) : FRef := ⟨CHM_E_MEAS.addr e, 48, 1⟩
def CHM_E_MEAS.cls (e : Nat) : FRef := ⟨CHM_E_MEAS.addr e, 49, 2⟩
/-- THM_CTL (14, R369). -/
def THM_CTL.addr : Nat := 0xf00000
def THM_CTL.round_ms : FRef := ⟨THM_CTL.addr, 0, 8⟩
def THM_CTL.lock : FRef := ⟨THM_CTL.addr, 8, 1⟩
def THM_CTL.ext_en : FRef := ⟨THM_CTL.addr, 12, 4⟩
/-- THM_EXT_CFG (14, R369). -/
def THM_EXT_CFG.addr : Nat := 0xf00004
def THM_EXT_CFG.entry (x : Nat) : FRef := ⟨THM_EXT_CFG.addr, 0 + 4 * x, 4⟩
/-- THM_CLS_k_THR (14, R369). -/
def THM_CLS_THR.addr (k : Nat) : Nat := 0xf00010 + 0x8 * k
def THM_CLS_THR.warn (k : Nat) : FRef := ⟨THM_CLS_THR.addr k, 0, 16⟩
def THM_CLS_THR.throttle (k : Nat) : FRef := ⟨THM_CLS_THR.addr k, 16, 16⟩
def THM_CLS_THR.shutdown (k : Nat) : FRef := ⟨THM_CLS_THR.addr k, 32, 16⟩
def THM_CLS_THR.hyst (k : Nat) : FRef := ⟨THM_CLS_THR.addr k, 48, 8⟩
/-- THM_STAT (14, R369). -/
def THM_STAT.addr : Nat := 0xf00040
def THM_STAT.state (k : Nat) : FRef := ⟨THM_STAT.addr, 0 + 2 * k, 2⟩
def THM_STAT.nvm_inhibit : FRef := ⟨THM_STAT.addr, 8, 1⟩
def THM_STAT.mem_throttle : FRef := ⟨THM_STAT.addr, 9, 1⟩
def THM_STAT.suspect_seen : FRef := ⟨THM_STAT.addr, 10, 1⟩
/-- THM_SENS_i (14, R369). -/
def THM_SENS.addr (i : Nat) : Nat := 0xf00100 + 0x4 * i
def THM_SENS.temp (i : Nat) : FRef := ⟨THM_SENS.addr i, 0, 16⟩
def THM_SENS.valid (i : Nat) : FRef := ⟨THM_SENS.addr i, 16, 1⟩
def THM_SENS.suspect (i : Nat) : FRef := ⟨THM_SENS.addr i, 17, 1⟩
def THM_SENS.state (i : Nat) : FRef := ⟨THM_SENS.addr i, 18, 2⟩
/-- CTL_LOOP_n_CFG (14, R376). -/
def CTL_LOOP_CFG.addr (n : Nat) : Nat := 0xf01000 + 0x80 * n
def CTL_LOOP_CFG.enable (n : Nat) : FRef := ⟨CTL_LOOP_CFG.addr n, 0, 1⟩
def CTL_LOOP_CFG.law (n : Nat) : FRef := ⟨CTL_LOOP_CFG.addr n, 1, 1⟩
def CTL_LOOP_CFG.auto (n : Nat) : FRef := ⟨CTL_LOOP_CFG.addr n, 2, 1⟩
def CTL_LOOP_CFG.commit (n : Nat) : FRef := ⟨CTL_LOOP_CFG.addr n, 3, 1⟩
def CTL_LOOP_CFG.in_src (n : Nat) : FRef := ⟨CTL_LOOP_CFG.addr n, 4, 3⟩
def CTL_LOOP_CFG.in_idx (n : Nat) : FRef := ⟨CTL_LOOP_CFG.addr n, 8, 5⟩
def CTL_LOOP_CFG.out (n : Nat) : FRef := ⟨CTL_LOOP_CFG.addr n, 13, 3⟩
def CTL_LOOP_CFG.rate_div (n : Nat) : FRef := ⟨CTL_LOOP_CFG.addr n, 16, 8⟩
def CTL_LOOP_CFG.cas_loop (n : Nat) : FRef := ⟨CTL_LOOP_CFG.addr n, 24, 3⟩
def CTL_LOOP_CFG.windup (n : Nat) : FRef := ⟨CTL_LOOP_CFG.addr n, 27, 1⟩
def CTL_LOOP_CFG.in_invalid (n : Nat) : FRef := ⟨CTL_LOOP_CFG.addr n, 28, 1⟩
def CTL_LOOP_CFG.ramping (n : Nat) : FRef := ⟨CTL_LOOP_CFG.addr n, 29, 1⟩
def CTL_LOOP_CFG.tracking (n : Nat) : FRef := ⟨CTL_LOOP_CFG.addr n, 30, 1⟩
/-- CTL_LOOP_n_PAR_k (14, R376). -/
def CTL_LOOP_PAR.addr (n : Nat) (k : Nat) : Nat := 0xf01004 + 0x80 * n + 0x4 * k
def CTL_LOOP_PAR.par (n : Nat) (k : Nat) : FRef := ⟨CTL_LOOP_PAR.addr n k, 0, 32⟩
/-- CTL_LOOP_n_STAT_j (14, R376). -/
def CTL_LOOP_STAT.addr (n : Nat) (j : Nat) : Nat := 0xf01040 + 0x80 * n + 0x4 * j
def CTL_LOOP_STAT.val (n : Nat) (j : Nat) : FRef := ⟨CTL_LOOP_STAT.addr n j, 0, 32⟩
/-- CAL_NVM_CTL (15, R384). -/
def CAL_NVM_CTL.addr : Nat := 0xf80100
def CAL_NVM_CTL.op : FRef := ⟨CAL_NVM_CTL.addr, 0, 2⟩
def CAL_NVM_CTL.go : FRef := ⟨CAL_NVM_CTL.addr, 2, 1⟩
def CAL_NVM_CTL.rec_type : FRef := ⟨CAL_NVM_CTL.addr, 3, 8⟩
def CAL_NVM_CTL.rec_index : FRef := ⟨CAL_NVM_CTL.addr, 11, 16⟩
/-- CAL_NVM_STAT (15, R384). -/
def CAL_NVM_STAT.addr : Nat := 0xf80104
def CAL_NVM_STAT.busy : FRef := ⟨CAL_NVM_STAT.addr, 0, 1⟩
def CAL_NVM_STAT.err : FRef := ⟨CAL_NVM_STAT.addr, 1, 3⟩
def CAL_NVM_STAT.active_half : FRef := ⟨CAL_NVM_STAT.addr, 4, 1⟩
def CAL_NVM_STAT.fail_seen : FRef := ⟨CAL_NVM_STAT.addr, 5, 1⟩
def CAL_NVM_STAT.wear : FRef := ⟨CAL_NVM_STAT.addr, 16, 16⟩
/-- CAL_NVM_GEN (15, R384). -/
def CAL_NVM_GEN.addr : Nat := 0xf80108
def CAL_NVM_GEN.generation : FRef := ⟨CAL_NVM_GEN.addr, 0, 32⟩
/-- CAL_NVM_LOAD (15, R384). -/
def CAL_NVM_LOAD.addr : Nat := 0xf8010c
def CAL_NVM_LOAD.bad_records : FRef := ⟨CAL_NVM_LOAD.addr, 0, 16⟩
def CAL_NVM_LOAD.fallback_used : FRef := ⟨CAL_NVM_LOAD.addr, 16, 1⟩
/-- CAL_CTL (15, R388). -/
def CAL_CTL.addr : Nat := 0xf80000
def CAL_CTL.tiles : FRef := ⟨CAL_CTL.addr, 0, 6⟩
def CAL_CTL.kind : FRef := ⟨CAL_CTL.addr, 6, 2⟩
def CAL_CTL.go : FRef := ⟨CAL_CTL.addr, 8, 1⟩
/-- CAL_STAT (15, R388). -/
def CAL_STAT.addr : Nat := 0xf80004
def CAL_STAT.busy : FRef := ⟨CAL_STAT.addr, 0, 1⟩
def CAL_STAT.err : FRef := ⟨CAL_STAT.addr, 1, 3⟩
def CAL_STAT.done : FRef := ⟨CAL_STAT.addr, 4, 1⟩
def CAL_STAT.rejected_seen : FRef := ⟨CAL_STAT.addr, 5, 1⟩
/-- CAL_LIMITS (15, R388). -/
def CAL_LIMITS.addr : Nat := 0xf80008
def CAL_LIMITS.off_lim_h : FRef := ⟨CAL_LIMITS.addr, 0, 8⟩
def CAL_LIMITS.off_lim_l : FRef := ⟨CAL_LIMITS.addr, 8, 8⟩
def CAL_LIMITS.skew_lim : FRef := ⟨CAL_LIMITS.addr, 16, 8⟩
/-- CAL_t_QUAL (15, R388). -/
def CAL_QUAL.addr (t : Nat) : Nat := 0xf80010 + 0x8 * t
def CAL_QUAL.off_worst (t : Nat) : FRef := ⟨CAL_QUAL.addr t, 0, 8⟩
def CAL_QUAL.skew_worst (t : Nat) : FRef := ⟨CAL_QUAL.addr t, 8, 8⟩
def CAL_QUAL.off_fail (t : Nat) : FRef := ⟨CAL_QUAL.addr t, 16, 9⟩
def CAL_QUAL.skew_fail (t : Nat) : FRef := ⟨CAL_QUAL.addr t, 25, 9⟩
/-- CAL_t_CH_c (15, R388). -/
def CAL_CH.addr (t : Nat) (c : Nat) : Nat := 0xf81000 + 0x1000 * t + 0x8 * c
def CAL_CH.sel_lo_h (t : Nat) (c : Nat) : FRef := ⟨CAL_CH.addr t c, 0, 5⟩
def CAL_CH.sel_hi_h (t : Nat) (c : Nat) : FRef := ⟨CAL_CH.addr t c, 5, 5⟩
def CAL_CH.sel_lo_l (t : Nat) (c : Nat) : FRef := ⟨CAL_CH.addr t c, 10, 5⟩
def CAL_CH.sel_hi_l (t : Nat) (c : Nat) : FRef := ⟨CAL_CH.addr t c, 15, 5⟩
def CAL_CH.tap (t : Nat) (c : Nat) : FRef := ⟨CAL_CH.addr t c, 20, 5⟩
def CAL_CH.off_res_h (t : Nat) (c : Nat) : FRef := ⟨CAL_CH.addr t c, 32, 8⟩
def CAL_CH.off_res_l (t : Nat) (c : Nat) : FRef := ⟨CAL_CH.addr t c, 40, 8⟩
def CAL_CH.skew_res (t : Nat) (c : Nat) : FRef := ⟨CAL_CH.addr t c, 48, 8⟩
def CAL_CH.off_fail (t : Nat) (c : Nat) : FRef := ⟨CAL_CH.addr t c, 56, 1⟩
def CAL_CH.skew_fail (t : Nat) (c : Nat) : FRef := ⟨CAL_CH.addr t c, 57, 1⟩
/-- BIST_CFG (15, R393). -/
def BIST_CFG.addr : Nat := 0xf8a000
def BIST_CFG.enable : FRef := ⟨BIST_CFG.addr, 0, 1⟩
def BIST_CFG.interval_s : FRef := ⟨BIST_CFG.addr, 16, 16⟩
/-- BIST_MASK (15, R393). -/
def BIST_MASK.addr : Nat := 0xf8a004
def BIST_MASK.slices : FRef := ⟨BIST_MASK.addr, 0, 18⟩
/-- BIST_STAT (15, R393). -/
def BIST_STAT.addr : Nat := 0xf8a008
def BIST_STAT.next_slice : FRef := ⟨BIST_STAT.addr, 0, 5⟩
def BIST_STAT.running : FRef := ⟨BIST_STAT.addr, 5, 1⟩
def BIST_STAT.fail_seen : FRef := ⟨BIST_STAT.addr, 6, 1⟩
def BIST_STAT.rotations : FRef := ⟨BIST_STAT.addr, 16, 16⟩
/-- BIST_SLICE_s_STAT (15, R393). -/
def BIST_SLICE_STAT.addr (s : Nat) : Nat := 0xf8a100 + 0x4 * s
def BIST_SLICE_STAT.result (s : Nat) : FRef := ⟨BIST_SLICE_STAT.addr s, 0, 2⟩
def BIST_SLICE_STAT.deferrals (s : Nat) : FRef := ⟨BIST_SLICE_STAT.addr s, 8, 8⟩
def BIST_SLICE_STAT.runs (s : Nat) : FRef := ⟨BIST_SLICE_STAT.addr s, 16, 16⟩
/-- BIST_LAST_MISR (15, R393). -/
def BIST_LAST_MISR.addr : Nat := 0xf8a200
def BIST_LAST_MISR.misr : FRef := ⟨BIST_LAST_MISR.addr, 0, 64⟩
/-- EVT_SRC_n_CFG (16, R400). -/
def EVT_SRC_CFG.addr (n : Nat) : Nat := 0xf8e000 + 0x4 * n
def EVT_SRC_CFG.enable (n : Nat) : FRef := ⟨EVT_SRC_CFG.addr n, 0, 1⟩
def EVT_SRC_CFG.coal (n : Nat) : FRef := ⟨EVT_SRC_CFG.addr n, 1, 1⟩
def EVT_SRC_CFG.priority (n : Nat) : FRef := ⟨EVT_SRC_CFG.addr n, 4, 3⟩
def EVT_SRC_CFG.vector (n : Nat) : FRef := ⟨EVT_SRC_CFG.addr n, 8, 6⟩
/-- EVT_PEND_w (16, R400). -/
def EVT_PEND.addr (w : Nat) : Nat := 0xf8e400 + 0x4 * w
def EVT_PEND.pend (w : Nat) : FRef := ⟨EVT_PEND.addr w, 0, 32⟩
/-- EVT_STAT (16, R400). -/
def EVT_STAT.addr : Nat := 0xf8e440
def EVT_STAT.discarded : FRef := ⟨EVT_STAT.addr, 0, 16⟩
def EVT_STAT.overflow_seen : FRef := ⟨EVT_STAT.addr, 16, 1⟩
/-- HUB_ID (17, R407). -/
def HUB_ID.addr : Nat := 0x0
def HUB_ID.vendor : FRef := ⟨HUB_ID.addr, 0, 16⟩
def HUB_ID.device : FRef := ⟨HUB_ID.addr, 16, 16⟩
/-- HUB_REV (17, R407). -/
def HUB_REV.addr : Nat := 0x4
def HUB_REV.hub_step : FRef := ⟨HUB_REV.addr, 0, 8⟩
def HUB_REV.tile_step : FRef := ⟨HUB_REV.addr, 8, 8⟩
def HUB_REV.snf_step : FRef := ⟨HUB_REV.addr, 16, 8⟩
def HUB_REV.map_ver : FRef := ⟨HUB_REV.addr, 24, 8⟩
/-- HUB_UID (17, R407). -/
def HUB_UID.addr : Nat := 0x8
def HUB_UID.uid : FRef := ⟨HUB_UID.addr, 0, 64⟩
/-- HUB_CAP (17, R407). -/
def HUB_CAP.addr : Nat := 0x10
def HUB_CAP.tiles : FRef := ⟨HUB_CAP.addr, 0, 6⟩
def HUB_CAP.factory_closed : FRef := ⟨HUB_CAP.addr, 6, 1⟩
def HUB_CAP.key_set : FRef := ⟨HUB_CAP.addr, 7, 1⟩
/-- HUB_SVN_FLOOR (17, R407). -/
def HUB_SVN_FLOOR.addr : Nat := 0x14
def HUB_SVN_FLOOR.floor : FRef := ⟨HUB_SVN_FLOOR.addr, 0, 32⟩
/-- HUB_CLAIM_i (17, R412). -/
def HUB_CLAIM.addr (i : Nat) : Nat := 0x800 + 0x4 * i
def HUB_CLAIM.owner (i : Nat) : FRef := ⟨HUB_CLAIM.addr i, 0, 8⟩
def HUB_CLAIM.reserve (i : Nat) : FRef := ⟨HUB_CLAIM.addr i, 8, 1⟩
def HUB_CLAIM.release (i : Nat) : FRef := ⟨HUB_CLAIM.addr i, 9, 1⟩
def HUB_CLAIM.last_denied (i : Nat) : FRef := ⟨HUB_CLAIM.addr i, 16, 8⟩
def HUB_CLAIM.denied_seen (i : Nat) : FRef := ⟨HUB_CLAIM.addr i, 24, 1⟩
/-- QSL_TX_c_PAYLOAD_w (09, R272). -/
def QSL_TX_PAYLOAD.addr (c : Nat) (w : Nat) : Nat := 0xd40040 + 0x100 * c + 0x4 * w
def QSL_TX_PAYLOAD.data (c : Nat) (w : Nat) : FRef := ⟨QSL_TX_PAYLOAD.addr c w, 0, 32⟩
/-- QSL_RX_c_PAYLOAD_w (09, R275). -/
def QSL_RX_PAYLOAD.addr (c : Nat) (w : Nat) : Nat := 0xd41040 + 0x100 * c + 0x4 * w
def QSL_RX_PAYLOAD.data (c : Nat) (w : Nat) : FRef := ⟨QSL_RX_PAYLOAD.addr c w, 0, 32⟩
/-- Error log entry i, word j (01, R34). -/
def HUB_ERRLOG.addr (i : Nat) (j : Nat) : Nat := 0x1000 + 0x20 * i + 0x8 * j
def HUB_ERRLOG.data (i : Nat) (j : Nat) : FRef := ⟨HUB_ERRLOG.addr i j, 0, 64⟩

end Sys2Proof.Machine
end

