-- ==== Sys2Proof/Machine/Reset.lean ====
section
/-! DEFINITION. The reset value of every register (R406 and the owning chapters). -/

namespace Sys2Proof.Machine

/-- Reset values of MEM_PORT_p_CFG (R233): rt in bit 16, target_ns below. -/
def memPortCfgReset : List Nat :=
  [0x10000 + 1000, 4000, 2000, 4000, 0x10000 + 2000, 0x10000 + 1000, 0x10000 + 1000, 8000]

/-- Reset values of MEM_PORT_p_QUOTA (R233). -/
def memPortQuotaReset : List Nat := [512, 256, 512, 256, 256, 256, 128, 128]

/-- Registers whose reset value differs by index or by part; `none` for every other address. -/
def resetSpecial (a : Nat) : Option (BitVec 64) :=
  if a = HUB_UID.addr then some Config.uid
  else if a = HUB_SVN_FLOOR.addr then some (Config.svnFloor.setWidth 64)
  else if HUB_TAG_POOL.addr 0 ≤ a ∧ a < HUB_TAG_POOL.addr 8 then
    some (BitVec.ofNat 64 (tagPoolReset.getD ((a - HUB_TAG_POOL.addr 0) / 4) 0))
  else if MEM_PORT_CFG.addr 0 ≤ a ∧ a < MEM_PORT_CFG.addr 8 ∧ a % 16 = 0 then
    some (BitVec.ofNat 64 (memPortCfgReset.getD ((a - MEM_PORT_CFG.addr 0) / 16) 0))
  else if MEM_PORT_QUOTA.addr 0 ≤ a ∧ a < MEM_PORT_QUOTA.addr 8 ∧ a % 16 = 4 then
    some (BitVec.ofNat 64 (memPortQuotaReset.getD ((a - MEM_PORT_QUOTA.addr 0) / 16) 0))
  else if a = THM_CLS_THR.addr 3 then some 0x001E035202BC0258
  else if CTL_LOOP_PAR.addr 0 0 ≤ a ∧ a < CTL_LOOP_PAR.addr 8 0 ∧ a % 0x80 = 0x1C then some 0x3F800000
  else if EVT_SRC_CFG.addr 0 ≤ a ∧ a < EVT_SRC_CFG.addr 250 then
    some (BitVec.ofNat 64 (evtCfgReset ((a - EVT_SRC_CFG.addr 0) / 4)))
  else none

/-- What an unlisted address of the register file reads as: the reset value of the register there, 0 where no register
is (R8). -/
def resetOf (a : Nat) : BitVec 64 :=
  match resetSpecial a with
  | some v => v
  | none =>
    match regAt a with
    | some r => BitVec.ofNat 64 r.reset
    | none => 0

end Sys2Proof.Machine
end

