-- ==== Sys2Proof/Machine/State.lean ====
section
/-! DEFINITION. The machine's state, why a step can stop, and the state after reset. -/

namespace Sys2Proof.Machine

/-- Why the machine stops. No command of the table is given a stop by the spec, so no meaning raises a fault. -/
inductive Fault where
  /-- Raised by nothing: the spec names no condition in which the block stops. Safe. -/
  | stuck
  deriving DecidableEq, Repr

/-- Why a command has no meaning. -/
inductive Refusal where
  /-- Raised by an arm of `exec` whose command has no meaning yet, with the command's mnemonic. Safe. -/
  | notModelled (mnemonic : String)
  deriving DecidableEq, Repr

/-- The state of the KLH1536. -/
structure State where
  /-- The commands that are waiting, first in, first out. -/
  pending : List Instr
  /-- The register file: BAR0 address (R405, R406), the data port's BAR2 registers from 0x1000000 up. -/
  regs : List (Nat × BitVec 64)
  /-- Dies, links, tags and power domains (chapter 01). -/
  hub : HubSt
  /-- The event system (chapter 16). -/
  ev : EvSt
  /-- Access ports in the order of R180. -/
  ports : List PortSt
  /-- Rings, doorbells, data port and sideband (chapter 07). -/
  host : HostSt
  /-- The time base (chapter 06). -/
  time : TimeSt
  /-- The fire timing generator, Taper bus, mirror position and Shade (chapter 02). -/
  fire : FireSt
  /-- TILE_0 to TILE_5 (chapters 03 and 04). -/
  tiles : List TileSt
  /-- The hub side of the histograms (chapter 04). -/
  hist : HistSt
  /-- Echo extraction (chapter 05). -/
  echo : EchoSt
  /-- The safety function (chapter 10). -/
  saf : SafSt
  /-- Snuffer (PD_SNF). -/
  snf : SnfSt
  /-- Resets, boot, handover and slicing (chapters 11 and 12). -/
  boot : BootSt
  /-- The twin link (chapter 12). -/
  twn : TwnSt
  /-- FIRE table space (R42), by offset. -/
  fireTab : List Host.Cell
  /-- Zone-table staging (R219, R282), by offset. -/
  ztStage : List Host.Cell
  /-- Device memory (LPDDR5X), by device memory address. -/
  devMem : List Host.Cell
  /-- Host memory as this device has written or is given it, by host address. -/
  hostMem : List Host.Cell
  /-- Device memory outside its contents (chapter 8). -/
  mem : MemSt
  /-- Ethernet, TSN and QSL (chapter 9). -/
  eth : EthSt
  /-- The indicator engine (chapter 11). -/
  ind : IndSt
  /-- Housekeeping conversion and the Chimney monitor (chapter 13). -/
  hk : HkSt
  chm : ChmSt
  /-- Thermal management and the eight control loops (chapter 14). -/
  thm : ThmSt
  loops : List LoopSt
  /-- Calibration and self-test (chapter 15). -/
  cal : CalSt
  /-- The 16 MB of embedded NOR flash (R378), by flash offset. -/
  nor : List Host.Cell
  /-- Calibration staging (R219, R382), by offset. -/
  calStage : List Host.Cell
  /-- Messages put on external interfaces, newest first (the model's own). -/
  out : List Out
  /-- How many free values have been used (the model's own; log entry 4). -/
  freeCtr : Nat
  deriving DecidableEq, Repr

/-- The machine right after reset. -/
def State.reset : State where
  pending := []
  regs := []
  hub := HubSt.init
  ev := EvSt.init
  ports := List.replicate 5 PortSt.init
  host := HostSt.init
  time := TimeSt.init
  fire := FireSt.init
  tiles := List.replicate 6 TileSt.init
  hist := HistSt.init
  echo := EchoSt.init
  saf := SafSt.init
  snf := SnfSt.init
  boot := BootSt.init
  twn := TwnSt.init
  fireTab := []
  ztStage := []
  devMem := []
  hostMem := []
  mem := MemSt.init
  eth := EthSt.init
  ind := IndSt.init
  hk := HkSt.init
  chm := ChmSt.init
  thm := ThmSt.init
  loops := List.replicate 8 LoopSt.init
  cal := CalSt.init
  nor := []
  calStage := []
  out := []
  freeCtr := 0

end Sys2Proof.Machine
end

