-- ==== Sys2Proof/Machine/Ops.lean ====
section
/-! DEFINITION. The named operations over registers, memories and the event system: every read and write of the model goes
through them. -/

namespace Sys2Proof.Machine

/-- The 64 bits a register holds; a 32-bit register uses the low 32. -/
def State.reg (s : State) (a : Nat) : BitVec 64 := tabGet resetOf s.regs a

/-- Sets the bits a register holds. -/
def State.setReg (s : State) (a : Nat) (v : BitVec 64) : State := { s with regs := tabSet resetOf s.regs a v }

/-- The field [lo + len - 1 : lo] of a word. -/
def fieldOf (v : BitVec 64) (lo len : Nat) : Nat := v.toNat / 2 ^ lo % 2 ^ len

/-- The word with its field [lo + len - 1 : lo] replaced. -/
def withField (v : BitVec 64) (lo len x : Nat) : BitVec 64 :=
  BitVec.ofNat 64 (v.toNat / 2 ^ (lo + len) * 2 ^ (lo + len) + x % 2 ^ len * 2 ^ lo + v.toNat % 2 ^ lo)

/-- The present value of a field. -/
def State.get (s : State) (f : FRef) : Nat := fieldOf (s.reg f.addr) f.lo f.len

/-- Hardware sets a field, whatever its access type is for software. -/
def State.put (s : State) (f : FRef) (x : Nat) : State := s.setReg f.addr (withField (s.reg f.addr) f.lo f.len x)

/-- A one-bit field as a truth value. -/
def State.flag (s : State) (f : FRef) : Bool := s.get f == 1

/-- A counter field that stops at its largest value. -/
def State.bump (s : State) (f : FRef) : State := s.put f (satAdd (2 ^ f.len - 1) (s.get f) 1)

/-- A counter field that wraps. -/
def State.incr (s : State) (f : FRef) : State := s.put f (s.get f + 1)

/-- A register back at its reset value. -/
def State.resetReg (s : State) (a : Nat) : State := { s with regs := tabErase s.regs a }

/-- Every register of the address range [lo, hi) back at its reset value. -/
def State.resetRange (s : State) (lo hi : Nat) : State :=
  { s with regs := s.regs.filter (fun p => !(Nat.ble lo p.1 && Nat.blt p.1 hi)) }

/-- Puts a message on an external interface. -/
def State.emit (s : State) (m : Out) : State := { s with out := m :: s.out }

/-- A free value (R9): nothing constrains it. -/
def State.fresh (s : State) : Nat × State := ((Config.freeValue s.freeCtr).toNat, { s with freeCtr := s.freeCtr + 1 })

/-- The first element that satisfies `p` is changed by `f`. -/
def updFirst {α : Type} (p : α → Bool) (f : α → α) : List α → List α
  | [] => []
  | a :: l => if p a then f a :: l else a :: updFirst p f l

/-- What unwritten bytes of device memory, host memory and staging areas read as. Log entry 2. -/
def byteDefault (_ : Nat) : Byte := 0

/-- `n` bytes of a memory from address `a`. -/
def memBytes (m : List Host.Cell) (a : Nat) : Nat → List Byte
  | 0 => []
  | n + 1 => tabGet byteDefault m a :: memBytes m (a + 1) n

/-- The memory with bytes stored from address `a`. -/
def memStore (m : List Host.Cell) (a : Nat) : List Byte → List Host.Cell
  | [] => m
  | b :: t => memStore (tabSet byteDefault m a b) (a + 1) t

/-- A little-endian number of `n` bytes at address `a` (R7). -/
def memNat (m : List Host.Cell) (a n : Nat) : Nat := ofLE (memBytes m a n)

/-- What a meaning answers. -/
abbrev Res := Host.Outcome State Fault Refusal

/-- Sets a one-bit field. -/
def State.setFlag (s : State) (f : FRef) : State := s.put f 1

/-- Clears a one-bit field. -/
def State.clearFlag (s : State) (f : FRef) : State := s.put f 0

/-- Runs `g` when `c` holds. -/
def State.when (s : State) (c : Bool) (g : State → State) : State := if c then g s else s

/-- Device time (R165). -/
def State.now (s : State) : Nat := s.get TIME_NOW.time

end Sys2Proof.Machine
end

