-- ==== Sys2Proof/Machine/Events.lean ====
section
/-! DEFINITION. The event system (R212 to R215, R401 to R403) and the ownership claims (R409 to R414). -/

namespace Sys2Proof.Machine

/-- The record of lowest priority, and among equals the one with the highest seq (R403), judged modularly (R402). -/
def evVictim : List EvRec → Option EvRec
  | [] => none
  | r :: t =>
    match evVictim t with
    | none => some r
    | some v => if r.pri < v.pri || (r.pri == v.pri && modGe 16 r.seq v.seq) then some r else some v

/-- The record popped next: highest priority, and among equals the lowest seq (R212). -/
def evBest : List EvRec → Option EvRec
  | [] => none
  | r :: t =>
    match evBest t with
    | none => some r
    | some v => if v.pri < r.pri || (r.pri == v.pri && modGe 16 v.seq r.seq) then some r else some v

/-- Records the ring can still take: 1,024, less the slot an overflow record waits for (R403). -/
def evCapacity (e : EvSt) : Nat := if e.waiting.isSome then 1023 else 1024

/-- A raise merges into a record of the same source and the same info0 that is in the ring (R402). -/
def evMerge (src info0 : Nat) : List EvRec → List EvRec
  | [] => []
  | r :: t =>
    if r.src = src ∧ r.info0 = info0 then { r with count := satAdd 65535 r.count 1 } :: t else r :: evMerge src info0 t

/-- The ring holds `e.ring`: the level register follows, with the watermark of R215 and full_seen. -/
def State.evLevel (s : State) (e : EvSt) : State :=
  let old := s.ev.ring.length
  let new := e.ring.length
  let wm := s.get RING_EV_CFG.wm_level
  let rise := decide (0 < wm) && decide (old < wm) && decide (wm ≤ new)
  let s1 := ({ s with ev := { e with wmDue := e.wmDue || rise } }).put RING_EV_STAT.level new
  let s2 := if rise then s1.put RING_EV_STAT.wm 1 else s1
  if new = 1024 then s2.put RING_EV_STAT.full_seen 1 else s2

/-- One record was lost (R403). -/
def State.evLost (s : State) : State := (s.bump EVT_STAT.discarded).put EVT_STAT.overflow_seen 1

/-- A new record meets the ring (R402, R403); `ovf` says that it is the event-ring-overflow record. -/
def State.evInsert (s : State) (r : EvRec) (vector : Nat) (ovf : Bool) : State :=
  if s.ev.ring.length < evCapacity s.ev then
    (s.evLevel { s.ev with ring := s.ev.ring ++ [{ r with loss := s.ev.lossNext }], lossNext := false }).emit (.msix vector)
  else
    match evVictim s.ev.ring with
    | some v =>
      if v.pri < r.pri then
        let e := { s.ev with ring := s.ev.ring.filter (fun x => !decide (x = v)) ++ [{ r with loss := true }],
                             lossNext := false, ovfDue := s.ev.ovfDue || (!ovf && !s.ev.filling) }
        ((s.evLevel e).evLost).emit (.msix vector)
      else if ovf then { s with ev := { s.ev with waiting := some r } }
      else ({ s with ev := { s.ev with lossNext := true, ovfDue := s.ev.ovfDue || !s.ev.filling } }).evLost
    | none => s

/-- A source is raised (R401, R402), without the raises this may leave due. -/
def State.raiseOne (s : State) (src info0 info1 : Nat) (ovf : Bool) : State :=
  let s := s.setReg (EVT_PEND.addr (src / 32)) (s.reg (EVT_PEND.addr (src / 32)) ||| BitVec.ofNat 64 (2 ^ (src % 32)))
  if s.get (EVT_SRC_CFG.enable src) = 0 then s
  else if s.flag (EVT_SRC_CFG.coal src) && s.ev.ring.any (fun r => decide (r.src = src ∧ r.info0 = info0)) then
    { s with ev := { s.ev with ring := evMerge src info0 s.ev.ring } }
  else
    let q := s.get RING_EV_STAT.next_seq
    let r : EvRec := { time := s.now, src := src, pri := s.get (EVT_SRC_CFG.priority src), loss := false, count := 1,
                       seq := q, info0 := info0, info1 := info1 }
    (s.put RING_EV_STAT.next_seq (q + 1)).evInsert r (s.get (EVT_SRC_CFG.vector src)) ovf

/-- event-ring-overflow, once for each filling (R403). -/
def State.raiseOverflow (s : State) : State :=
  if s.ev.ovfDue then
    ({ s with ev := { s.ev with ovfDue := false, filling := true } }).raiseOne Ev.eventRingOverflow 0 0 true
  else s

/-- event-ring-watermark, once for each rise (R215). -/
def State.raiseWatermark (s : State) : State :=
  if s.ev.wmDue then ({ s with ev := { s.ev with wmDue := false } }).raiseOne Ev.eventRingWatermark 0 0 false else s

/-- Raises source `src` (R401 to R403). -/
def State.raise (s : State) (src info0 info1 : Nat) : State :=
  (((s.raiseOne src info0 info1 false).raiseOverflow).raiseWatermark).raiseOverflow

/-- Raises a source whose chapter defines no info beyond the instance (R398). -/
def State.raiseInst (s : State) (src inst : Nat) : State := s.raise src (inst % 256) 0

/-- Raises a source once while `c` holds. -/
def State.raiseIf (s : State) (c : Bool) (src info0 : Nat) : State := if c then s.raise src info0 0 else s

/-- The 32 bytes of an event record (R213). -/
def evBytes (r : EvRec) : List Byte :=
  let flags := 1 + (if r.count > 1 then 2 else 0) + (if r.loss then 4 else 0)
  toLE 8 r.time ++ toLE 2 r.src ++ toLE 1 r.pri ++ toLE 1 flags ++ toLE 2 r.count ++ toLE 2 r.seq ++
    toLE 8 r.info0 ++ toLE 8 r.info1

/-- The idle item (R214). -/
def evIdle (now seq : Nat) : List Byte :=
  toLE 8 now ++ toLE 2 0xFFFF ++ toLE 1 0 ++ toLE 1 8 ++ toLE 2 0 ++ toLE 2 seq ++ toLE 8 0 ++ toLE 8 0

/-- The index of a port in the lists kept in the order of R180. -/
def portIx : Port → Nat
  | .pcie => 0 | .sideband => 1 | .clusterA => 2 | .clusterB => 3 | .safety => 4

/-- A pop through a port (R212): the record that goes, or the idle item, into the port's holding copy. A pop that leaves a
free slot ends the present filling unless the overflow record waits for that slot (R403; log entry 5). -/
def State.evPop (s : State) (p : Port) : State :=
  match evBest s.ev.ring with
  | none => { s with ev := { s.ev with hold := s.ev.hold.set (portIx p) (evIdle s.now (s.get RING_EV_STAT.next_seq)) } }
  | some r =>
    s.evLevel { s.ev with ring := s.ev.ring.filter (fun x => !decide (x = r)),
                          filling := s.ev.waiting.isSome && s.ev.filling,
                          hold := s.ev.hold.set (portIx p) (evBytes r) }

/-- A claim by `who` on claim register `i` that raises claim-denied of TILE_`t` when refused (R399, R410). -/
def State.claim (s : State) (i who t : Nat) : State :=
  let o := s.get (HUB_CLAIM.owner i)
  if o = 0 ∨ o = who then s.put (HUB_CLAIM.owner i) who
  else ((s.put (HUB_CLAIM.last_denied i) who).put (HUB_CLAIM.denied_seen i) 1).raise (Ev.claimDenied t) (i + 65536 * who) 0

/-- Does `who` hold the resource of claim register `i`? -/
def State.holds (s : State) (i who : Nat) : Bool := s.get (HUB_CLAIM.owner i) == who

/-- A release by `who` (R409). -/
def State.unclaim (s : State) (i who : Nat) : State :=
  if s.get (HUB_CLAIM.owner i) = who then s.put (HUB_CLAIM.owner i) 0 else s

end Sys2Proof.Machine
end

