-- ==== Sys2Proof/Machine/Fabric.lean ====
section
/-! DEFINITION. The hub fabric's shared operations: the W256 code's counters and log (R29 to R34) and the operation tag
space (R35 to R37). -/

namespace Sys2Proof.Machine

/-- Is domain `d` off or isolated? -/
def State.isOff (s : State) (d : Domain) : Bool := s.hub.isolated.any (fun x => decide (x = d))

/-- Is the cluster whose port is `p` the standby cluster, with a self-test slice on one of its pairs (R391)? -/
def State.portInTest (s : State) (p : Port) : Bool :=
  s.cal.bistRun.elim false (fun x => decide (14 ≤ x)) && decide (p = if s.flag HUB_HO_STAT.active then Port.clusterA else Port.clusterB)

/-- A command through access port `p` (R180): the outputs of cluster B are clamped while its domain is off, and those of the standby cluster
while it is tested, so it makes none (R39, R391). -/
def State.viaPort (s : State) (p : Port) (g : State → State) : State :=
  if (p = .clusterB ∧ s.isOff .clb) ∨ s.portInTest p then s else g s

/-- A log entry's place (R34). -/
inductive W256Loc where
  | tileSram | hubSram | jexannar | twin | devMem
  deriving DecidableEq, Repr

/-- The location byte of R34. -/
def W256Loc.code : W256Loc → Nat
  | .tileSram => 0 | .hubSram => 1 | .jexannar => 2 | .twin => 3 | .devMem => 4

/-- What an error report says: where, the faulty word's address, the reader's port and tag, the instance for the event
(tile, lane or channel), and whether the word was a message header (R33). -/
structure W256Report where
  loc : W256Loc
  addr : Nat
  port : Nat
  tag : Nat
  inst : Option Nat
  command : Bool
  deriving DecidableEq, Repr

/-- Writes an error-log entry (R34). -/
def State.w256Log (s : State) (r : W256Report) (syn : BitVec 16) (flags : Nat) : State :=
  let h := s.get HUB_W256_STAT.log_head
  let w2 := syn.toNat + r.port % 65536 * 2 ^ 16 + r.loc.code * 2 ^ 32 + flags * 2 ^ 40 + r.tag % 65536 * 2 ^ 48
  let s1 := (((s.put (HUB_ERRLOG.data h 0) s.now).put (HUB_ERRLOG.data h 1) r.addr).put (HUB_ERRLOG.data h 2) w2).put
    (HUB_ERRLOG.data h 3) 0
  let s2 := (s1.when s.hub.logFull (fun s => s.setFlag HUB_W256_STAT.log_wrapped)).put HUB_W256_STAT.log_head (h + 1)
  { s2 with hub := { s2.hub with logFull := s2.hub.logFull || decide (h = 63) } }

/-- The event of a W256 error (R397, R398), of the tile that the report names where the word is a tile's or a link's. A report without a
tile, that of a failed replay, raises nothing further. -/
def State.w256Event (s : State) (r : W256Report) (correctable : Bool) : State :=
  match r.loc, r.inst with
  | .tileSram, some t | .jexannar, some t =>
    if correctable then s.raiseInst (Ev.tileW256Corrected t) t else s.raiseInst (Ev.sramUncorrectable t) t
  | .tileSram, none | .jexannar, none => s
  | _, _ =>
    let info := r.inst.getD 0 % 256 + 256 * r.loc.code
    if correctable then s.raise Ev.memCorrectable info 0 else s.raise Ev.memUncorrectable info 0

/-- A word was read with the given W256 outcome: counters, log and event (R31, R32). Flag bit 2 of a corrected word's log entry is
writeback_en, for a Jexannar or twin-link word too, which has no stored location (log entry 169). -/
def State.w256 (s : State) (r : W256Report) (e : Ecc) : State :=
  match e with
  | .good => s
  | .corrected syn =>
    let s1 := s.bump HUB_W256_STAT.ce_count
    let s2 := if s1.flag HUB_W256_CTL.log_ce then
        s1.w256Log r syn (if s1.flag HUB_W256_CTL.writeback_en then 4 else 0) else s1
    s2.w256Event r true
  | .bad syn =>
    let s1 := s.bump HUB_W256_STAT.ue_count
    (s1.w256Log r syn (if r.command then 3 else 1)).w256Event r false

/-- Bits inverted by an armed injection (R34): 0b00 behaves as 0b01. -/
def injectBits (n : Nat) : Nat := if n = 0 then 1 else n

/-- A write to a location of class `loc` at word address `a`: it takes an armed injection of that class (R29, R34), and it
replaces whatever error the word held. Only tile SRAM, hub SRAM and device memory inject. -/
def State.w256Write (s : State) (loc : W256Loc) (a : Nat) : State :=
  let old := s.hub.injected.filter (fun p => !decide (p.1 = loc.code ∧ p.2.1 = a))
  let can := decide (loc = .tileSram) || decide (loc = .hubSram) || decide (loc = .devMem)
  if can && s.flag HUB_W256_CTL.inject_arm && s.get HUB_W256_CTL.inject_loc == loc.code then
    ({ s with hub := { s.hub with injected := (loc.code, a, injectBits (s.get HUB_W256_CTL.inject_bits)) :: old } }).clearFlag
      HUB_W256_CTL.inject_arm
  else { s with hub := { s.hub with injected := old } }

/-- The W256 outcome of reading a word that an injection may have damaged, and that the sender's operand says something of:
one or two inverted bits are corrected, three are detected (R29); 4 stands for the poison syndrome, which every read finds (R247). -/
def State.w256Outcome (s : State) (loc : W256Loc) (a : Nat) (e : Ecc) : Ecc :=
  match s.hub.injected.find? (fun p => decide (p.1 = loc.code ∧ p.2.1 = a)) with
  | none => e
  | some (_, _, n) =>
    if n = 4 then .bad 0xFFFF
    else
      match e with
      | .good => if n ≤ 2 then .corrected (Config.syndrome a n) else .bad (Config.syndrome a n)
      | e => e

/-- The damage of a word is gone once the corrected word is written back (R31). -/
def State.w256Writeback (s : State) (loc : W256Loc) (a : Nat) (e : Ecc) : State :=
  match e with
  | .corrected _ =>
    if s.flag HUB_W256_CTL.writeback_en then
      { s with hub := { s.hub with injected := s.hub.injected.filter (fun p => !decide (p.1 = loc.code ∧ p.2.1 = a)) } }
    else s
  | _ => s

/-- A protected read of one word: outcome, report and writeback. -/
def State.w256Read (s : State) (r : W256Report) (e : Ecc) : Ecc × State :=
  let o := s.w256Outcome r.loc r.addr e
  (o, (s.w256 r o).w256Writeback r.loc r.addr o)

/-- A range of hub SRAM from internal address `a` is read inside the hub (R29) by reader `port`, under `tag` or 0: the words that an
injection has damaged are corrected or found uncorrectable, counted, logged and written back (R31, R32, R34). -/
def State.hubScan (s : State) (port tag a n : Nat) : State :=
  (s.hub.injected.filter (fun p => decide (p.1 = W256Loc.hubSram.code ∧ a < p.2.1 + 32 ∧ p.2.1 < a + n))).foldl (fun s p =>
    (s.w256Read ⟨.hubSram, p.2.1, (Config.portId port).toNat, tag, none, false⟩ .good).2) s

/-- `n` bytes from hub SRAM address `a` on are written (R29): each word takes an armed injection or loses its damage. -/
def State.hubWrite (s : State) (a n : Nat) : State :=
  (List.range ((n + 31) / 32)).foldl (fun (s : State) i => s.w256Write .hubSram (a + 32 * i)) s

/-- The hub SRAM address that the model gives the ring engine's buffer of a descriptor (R29; log entry 29). -/
def descBuf (inst : Nat) : Nat := 2 ^ 48 + 64 * inst

/-- Is a word in that range uncorrectable (R32)? -/
def State.hubBad (s : State) (a n : Nat) : Bool :=
  s.hub.injected.any (fun p => decide (p.1 = W256Loc.hubSram.code ∧ a < p.2.1 + 32 ∧ p.2.1 < a + n ∧ 3 ≤ p.2.2))

/-- Sum of the eight floors (R35). -/
def State.tagFloors (s : State) : Nat := ((List.range 8).map (fun n => s.get (HUB_TAG_POOL.floor n))).sum

/-- Tags of the shared pool that the classes hold above their floors (R35). -/
def State.tagShared (s : State) : Nat :=
  ((List.range 8).map (fun n => s.get (HUB_TAG_STAT.in_use n) - s.get (HUB_TAG_POOL.floor n))).sum

/-- The ceiling of a class: a value below floor is treated as equal to floor (R35). The field's range is 1 to 4,095; a 0 on a class
whose floor is 0 is used as it stands, so the class gets no tag (log entry 168). -/
def State.tagCeiling (s : State) (c : Nat) : Nat :=
  Nat.max (s.get (HUB_TAG_POOL.ceiling c)) (s.get (HUB_TAG_POOL.floor c))

/-- Is a tag available to class `c` (R35, R36)? After a cut below the tags held, none until usage is below the new limit. -/
def State.tagFree (s : State) (c : Nat) : Bool :=
  let u := s.get (HUB_TAG_STAT.in_use c)
  decide (u < s.tagCeiling c) && (match s.hub.cut.getD c none with | some l => decide (u < l) | none => true) &&
    (decide (u < s.get (HUB_TAG_POOL.floor c)) || decide (s.tagShared < 4096 - s.tagFloors))

/-- The lowest tag that no operation holds (log entry 6). -/
def freeTag (ops : List Op) : Nat → Nat → Nat
  | 0, t => t
  | n + 1, t => if ops.any (fun o => o.tag == t) then freeTag ops n (t + 1) else t

/-- A tag is taken for an operation that has tag instance `inst` (R35). -/
def State.tagTakeAs (s : State) (c : Nat) (tg : Target) (port inst : Nat) : State :=
  let u := s.get (HUB_TAG_STAT.in_use c) + 1
  let op : Op := ⟨freeTag s.hub.ops 4095 0, inst, Fin.ofNat 8 c, tg, port⟩
  let s1 := (s.put (HUB_TAG_STAT.in_use c) u).put (HUB_TAG_STAT.peak c) (Nat.max u (s.get (HUB_TAG_STAT.peak c)))
  { s1 with hub := { s1.hub with ops := s1.hub.ops ++ [op] } }

/-- A tag is taken for an operation, under the next tag instance (R35, R37). -/
def State.tagTake (s : State) (c : Nat) (tg : Target) (port : Nat) : State :=
  let s1 := s.tagTakeAs c tg port s.hub.nextInst
  { s1 with hub := { s1.hub with nextInst := s1.hub.nextInst + 1 } }

/-- A requester finds no tag: it waits, and the first wait sets the class's exhaust flag (R35, R36). -/
def State.tagWait (s : State) (c : Nat) : State :=
  let first := !s.flag (HUB_TAG_STAT.exhaust c)
  (s.setFlag (HUB_TAG_STAT.exhaust c)).raiseIf first Ev.tagExhaust c

/-- The limits that cuts have left, once class `c` holds `u` tags: usage below the limit ends it (R36). -/
def cutAfter (cut : List (Option Nat)) (c u : Nat) : List (Option Nat) :=
  match cut.getD c none with
  | some l => if u < l then cut.set c none else cut
  | none => cut

/-- The operation with tag instance `i` ends: its tag is released (R35). -/
def State.tagRelease (s : State) (i : Nat) : State :=
  match s.hub.ops.find? (fun o => o.inst == i) with
  | none => s
  | some o =>
    let u := s.get (HUB_TAG_STAT.in_use o.cls) - 1
    let s1 := s.put (HUB_TAG_STAT.in_use o.cls) u
    { s1 with hub := { s1.hub with ops := s1.hub.ops.filter (fun o => !(o.inst == i)), cut := cutAfter s1.hub.cut o.cls u } }

/-- The tag of the operation with tag instance `i`; 0 where no operation has it (R34). -/
def State.tagOf (s : State) (i : Nat) : Nat :=
  match s.hub.ops.find? (fun o => o.inst == i) with
  | some o => o.tag
  | none => 0

/-- The tag that an operation which begins and ends within one command holds (R34, R35; log entries 6 and 7). -/
def State.pulseTag (s : State) : Nat := freeTag s.hub.ops 4095 0

/-- An operation that begins and ends within one command holds a tag for its length, so only the peak can move (R35; log entry 7). -/
def State.tagPulse (s : State) (c : Nat) : State :=
  s.put (HUB_TAG_STAT.peak c) (Nat.max (s.get (HUB_TAG_STAT.in_use c) + 1) (s.get (HUB_TAG_STAT.peak c)))

/-- An operation of class `c` that begins and ends within one command: where no tag is available its requester waits, and nothing else
happens until its command comes again (R35; log entry 7). -/
def State.withTag (s : State) (c : Nat) (g : State → State) : State := if s.tagFree c then g (s.tagPulse c) else s.tagWait c

/-- Every operation that satisfies `sel` completes with an error response and releases its tag (R19, R39). -/
def State.failOps (s : State) (sel : Op → Bool) : State :=
  (s.hub.ops.filter sel).foldl (fun s o => (s.tagRelease o.inst).emit (.opDone o.tag o.inst o.port false)) s

end Sys2Proof.Machine
end

