-- ==== Sys2Proof/Machine/Mirror.lean ====
section
/-! DEFINITION. Mirror position and azimuth (R63, R64). -/

namespace Sys2Proof.Machine

/-- Device-time units in a microsecond and in a nanosecond (R165). -/
def usUnits : Nat := 65536000
def nsUnits : Nat := 65536

/-- The difference t1 - t0 of two device times, modulo 2^64. -/
def timeDiff (t1 t0 : Nat) : Nat := (t1 + 2 ^ 64 - t0 % 2 ^ 64) % 2 ^ 64

/-- A device time moved on by `d` units. -/
def timeAdd (t d : Nat) : Nat := (t + d) % 2 ^ 64

/-- Is device time `t` later than `a` by more than `d`? `a` is a time in the past, of any age below 2^64; `t` is near `now`. -/
def laterBy (now a d t : Nat) : Bool := decide ((d : Int) < (timeDiff now a : Nat) + sx 64 (timeDiff t now))

/-- The value in force for a shot at `t`, of a setting whose writes apply to shots later than 1.6 µs after them (R78, R121): `cur` is
its value now, `h` its writes, newest first, each with the value before it. -/
def inForce {α : Type} (now t : Nat) (cur : α) : List (α × Nat) → α
  | [] => cur
  | (old, a) :: h => if laterBy now a (1600 * nsUnits) t then cur else inForce now t old h

/-- The writes of a setting that a shot can still need, the newest ones: those of the last 2 s. -/
def recent {α : Type} (now : Nat) (h : List (α × Nat)) : List (α × Nat) :=
  h.filter (fun p => decide (timeDiff now p.2 ≤ 2000000 * usUnits))

/-- Stamps from `s` to `x`, both modulo 2^56 (R108). -/
def stampDiff (x s : Nat) : Nat := (x + 2 ^ 56 - s % 2 ^ 56) % 2 ^ 56

/-- The position source of R63: 1 quadrature, 2 SPI, 0 none. -/
def State.posSrc (s : State) : Nat := let p := s.get FIRE_MIRROR_CFG.pos_src; if p = 3 then 0 else p

/-- The azimuth, 20 bits, of a position that keeps 16 fraction bits (R63). -/
def State.azOfPos (s : State) (pos16 : Int) : Nat :=
  let v := (pos16 - (s.get FIRE_MIRROR_ZERO.zero * 65536 : Nat)) * sx 32 (s.get FIRE_MIRROR_SCALE.scale)
  toField 20 (Int.fdiv v (2 ^ 40))

/-- Position at `t`, 16 fraction bits, on the line through two samples (R63). -/
def posLine (a b : Nat × Int) (t : Nat) : Int :=
  let dt := timeDiff b.1 a.1
  a.2 * 65536 + roundHalfEven ((b.2 - a.2) * 65536 * sx 64 (timeDiff t a.1)) (Nat.max 1 dt)

/-- The pair of consecutive samples, newest first in the list, that brackets `t`: the older and the newer one (R64). -/
def bracket (t : Nat) : List PosSample → Option (PosSample × PosSample)
  | b :: a :: r =>
    if modGe 64 t a.time then (if modGe 64 t b.time then none else some (a, b)) else bracket t (a :: r)
  | _ => none

/-- The position at `t` on the line through two consecutive samples, 16 fraction bits, formed on the unwrapped count of a quadrature
encoder that the index reset between them: the counts latched at the resets are added to the later sample, and those of the resets up
to `t` are taken off again (R63). -/
def PosSample.lineTo (a b : PosSample) (quad : Bool) (t : Nat) : Int :=
  let l := if quad then b.index else []
  let add := (l.map (fun p => p.2)).sum
  let off := ((l.filter (fun p => modGe 64 t p.1)).map (fun p => p.2)).sum
  posLine (a.time, (a.pos : Int)) (b.time, (b.pos + add : Nat)) t - (off * 65536 : Nat)

/-- The interpolated position at `t` (R63), between two samples at most gap_max_us apart (R64). -/
def State.posAt (s : State) (t : Nat) : Option Int :=
  match bracket t s.fire.samples with
  | none => none
  | some (a, b) =>
    if Nat.max 1 (s.get FIRE_MIRROR_CFG.gap_max_us) * usUnits < timeDiff b.time a.time then none
    else some (a.lineTo b (s.posSrc == 1) t)

/-- The azimuth of the phase model at `t` (R64): for a polygon linear at the speed between the last two samples; for a resonant mirror
sinusoidal with the amplitude, frequency and phase last measured, which are free values as the sine is (log entry 11). -/
def State.azModel (s : State) (t : Nat) : Nat :=
  if s.get FIRE_MIRROR_CFG.kind = 1 then
    match s.fire.samples with
    | b :: _ =>
      let turn := ((Config.memsPhase b.time b.pos).toNat + (Config.memsFrequency b.time b.pos).toNat * timeDiff t b.time) % 2 ^ 48
      toField 20 (roundHalfEven ((Config.memsAmplitude b.time b.pos).toNat * (Config.sine turn).toInt) (2 ^ 20))
    | [] => (Config.unmeasuredAzimuth t).toNat
  else
    match s.fire.samples with
    | b :: a :: _ => s.azOfPos (a.lineTo b (s.posSrc == 1) t)
    | _ => (Config.unmeasuredAzimuth t).toNat

/-- The azimuth of a shot at `t`, and whether the model gave it (R63, R64). -/
def State.azAt (s : State) (t : Nat) : Nat × Bool :=
  if s.posSrc = 0 then (0, false)
  else
    match s.posAt t with
    | some p => (s.azOfPos p, false)
    | none => (s.azModel t, true)

/-- The azimuth predicted by the phase model at `t` (R66). -/
def State.azPredict (s : State) (t : Nat) : Nat := if s.posSrc = 0 then 0 else s.azModel t

/-- The mean of a cell's azimuths, formed across the wrap (R64). -/
def azMean : List Nat → Nat
  | [] => 0
  | a :: l =>
    let d := ((a :: l).map (fun x => sx 20 (x + 2 ^ 20 - a % 2 ^ 20))).sum
    toField 20 ((a : Int) + roundHalfEven d (l.length + 1))

end Sys2Proof.Machine
end

