-- ==== Sys2Proof/Machine/TileOps.lean ====
section
/-! DEFINITION. The tile's shared operations: channels and their TDCs, accumulation (R108 to R112, R120, R121), drops,
seals and the hand-off queue (R122 to R126). -/

namespace Sys2Proof.Machine

def State.tile (s : State) (t : Nat) : TileSt := s.tiles.getD t TileSt.init
def State.setTile (s : State) (t : Nat) (x : TileSt) : State := { s with tiles := s.tiles.set t x }
def TileSt.chan (x : TileSt) (c : Nat) : ChanSt := tabGet (fun _ => ChanSt.init) x.chans c
def TileSt.setChan (x : TileSt) (c : Nat) (y : ChanSt) : TileSt :=
  { x with chans := tabSet (fun _ => ChanSt.init) x.chans c y }
def State.chan (s : State) (t c : Nat) : ChanSt := (s.tile t).chan c
def State.setChan (s : State) (t c : Nat) (y : ChanSt) : State := s.setTile t ((s.tile t).setChan c y)

/-- Is tile `t` isolated or unpowered (R39)? -/
def State.tileOff (s : State) (t : Nat) : Bool :=
  s.hub.isolated.any (fun d => match d with | .tile u => u.val == t | _ => false)

/-- Bit `i` of an array of 32-bit registers with the given first address. -/
def State.bitAt (s : State) (base i : Nat) : Bool := fieldOf (s.reg (base + 4 * (i / 32))) (i % 32) 1 == 1

/-- Sets or clears bit `i` of an array of 32-bit registers. -/
def State.setBitAt (s : State) (base i : Nat) (b : Bool) : State :=
  let a := base + 4 * (i / 32)
  s.setReg a (withField (s.reg a) (i % 32) 1 (bit b))

/-- Is TDC `n` of tile `t` failed (R97)? -/
def State.tdcFailed (s : State) (t n : Nat) : Bool := s.bitAt (TILE_TDC_FAIL.addr t 0) n

/-- The spare that serves target `c` of tile `t`, if one does (R95, R98). -/
def State.spareOf (s : State) (t c : Nat) : Option Nat :=
  (List.range 16).find? (fun k => s.flag (TILE_SPARE_MAP.valid t k) && s.get (TILE_SPARE_MAP.target t k) == c)

/-- The TDC of R86 that serves channel `c` (0 to 259) of tile `t`: a mapped spare, else the channel's own. -/
def State.tdcOf (s : State) (t c : Nat) : Nat :=
  match s.spareOf t c with
  | some k => 256 + k
  | none => if c < 256 then c else 16 + c

/-- Has channel `c` of tile `t` a working TDC (R82, R97)? -/
def State.tdcWorks (s : State) (t c : Nat) : Bool := !s.tdcFailed t (s.tdcOf t c)

/-- Is a channel enabled for a shot at `t`, of whose enable bit `cur` is the value now (R78, R84)? A rise opens no window for 20 µs. -/
def enabledFor (now t : Nat) (cur : Bool) : List (Bool × Nat) → Bool
  | [] => cur
  | (old, a) :: h =>
    if laterBy now a (1600 * nsUnits) t then cur && (old || laterBy now a (20 * usUnits - 1) t) else enabledFor now t old h

/-- Is channel `c` of tile `t` enabled for a shot at `time` (R78, R84)? Reference channels take no enable. -/
def State.chanEnabled (s : State) (t c time : Nat) : Bool :=
  decide (256 ≤ c) || enabledFor s.now time (s.bitAt (TILE_CH_EN.addr t 0) c) (s.chan t c).enHist

/-- The THR word of a channel in force for a shot at `time` (R78). -/
def State.thrFor (s : State) (t c time : Nat) : Nat :=
  let a := if c < 256 then TILE_THR_CH.addr t c else TILE_THR_REF.addr t (c - 256)
  inForce s.now time (s.reg a).toNat (s.chan t c).thrHist

/-- Does a stamp fall in the receive window of a shot whose S is `s`, 8.192 µs long (R82, R108)? -/
def inRx (s lead : Nat) : Bool := decide (stampDiff lead s < 2097152)

/-- The buffer of a channel that serves cell `id` and is not sealed: 0 or 1. -/
def ChanSt.bufOf (c : ChanSt) (id : Nat) : Option Nat :=
  if c.buf0.cell = some id ∧ ¬ c.buf0.isSealed then some 0
  else if c.buf1.cell = some id ∧ ¬ c.buf1.isSealed then some 1
  else none

def ChanSt.buf (c : ChanSt) (i : Nat) : HistBuf := if i = 0 then c.buf0 else c.buf1
def ChanSt.setBuf (c : ChanSt) (i : Nat) (b : HistBuf) : ChanSt := if i = 0 then { c with buf0 := b } else { c with buf1 := b }

/-- A sparse table of counts. -/
def cntGet (m : List (Nat × Nat)) (k : Nat) : Nat := tabGet (fun _ => 0) m k
def cntSet (m : List (Nat × Nat)) (k v : Nat) : List (Nat × Nat) := tabSet (fun _ => 0) m k v

/-- A coarse update of a buffer at aligned time `x` (R108, R109). -/
def HistBuf.coarseAdd (b : HistBuf) (x : Nat) : HistBuf :=
  let i := x / 512
  let n := cntGet b.coarse i
  let r := { b.rep with total := b.rep.total + 1, satBins := b.rep.satBins + bit (n == 65534) }
  { b with coarse := cntSet b.coarse i (satAdd 65535 n 1), rep := r }

/-- The zoom window with the lowest index that aligned time `x` hits (R120). -/
def zoomHit (x : Nat) : List Nat → Nat → Option (Nat × Nat)
  | [], _ => none
  | w :: l, i => if 16 * w ≤ x ∧ x < 16 * w + 1024 then some (i, x - 16 * w) else zoomHit x l (i + 1)

/-- The 32 bits of a stamp (R121). -/
def stampWord (off win : Nat) (e : TdcEvent) : Nat :=
  off + win * 2 ^ 10 + e.tot % 2 ^ 14 * 2 ^ 12 + bit e.low * 2 ^ 26 + bit e.sat * 2 ^ 27

/-- Puts the stamp of shot `i` behind those of the same and of earlier shots (R121). -/
def stampInsert (i w : Nat) : List (Nat × Nat) → List (Nat × Nat)
  | [] => [(i, w)]
  | p :: l => if i < p.1 then (i, w) :: p :: l else p :: stampInsert i w l

/-- A fine update and the stamp of an event of shot `i` that hits window `w` at offset `off`; `kept` events of the same shot hit a
window before (R92, R120). Each of the three cases in which no stamp is kept counts by itself (log entry 179). -/
def HistBuf.fineAdd (b : HistBuf) (stampsEn : Bool) (w off kept i : Nat) (e : TdcEvent) : HistBuf :=
  let k := 64 * w + off / 16
  let n := cntGet b.fine k
  let full := decide (256 ≤ b.stamps.length)
  let beyond := decide (8 ≤ kept)
  { b with
    fine := cntSet b.fine k (satAdd 65535 n 1)
    stamps := if stampsEn && !full && !beyond then stampInsert i (stampWord off w e) b.stamps else b.stamps
    rep := { b.rep with fineSat := b.rep.fineSat || decide (65534 ≤ n), excess := b.rep.excess + bit beyond,
                        stampLost := b.rep.stampLost + bit full, stampFull := b.rep.stampFull || full } }

/-- The event as the tables of temperature `x` stamp it (R88). -/
def TdcEvent.under (e : TdcEvent) (x : Int) : TdcEvent :=
  match e.tables.find? (fun p => p.1 == x) with
  | some p => { e with lead := p.2.1, tot := p.2.2 }
  | none => e

/-- The event as a cell of the channel sees it. -/
def ChanSt.eventFor (c : ChanSt) (e : TdcEvent) (cell : Nat) : TdcEvent :=
  match c.bufOf cell with
  | some i => e.under (c.buf i).table
  | none => e

/-- Does the event fall in the window? -/
def ChanSt.hits (c : ChanSt) (e : TdcEvent) (w : RxWin) : Bool := inRx w.s (c.eventFor e w.cell).lead

/-- The 32-byte words of one tile's SRAM, those of a channel's buffer and those of all channel buffers, which come first; its 512-byte rows,
and those of the channel buffers (R110, R340; log entry 154). -/
def tileWords : Nat := 165888
def bufWords : Nat := 304
def chanWords : Nat := 155648
def tileRows : Nat := 10368
def chanRows : Nat := 9728

/-- The word address of a byte of a channel's buffer in tile SRAM (R110, log entry 154): tile, channel, buffer and 32-byte word. -/
def sramWord (t c buf byte : Nat) : Nat := tileWords * t + bufWords * (2 * c + buf) + byte / 32

/-- One window of the channel sees the event (R108, R120): the channel, and the update cycles in eighths (R112). -/
def ChanSt.winEvent (c : ChanSt) (cells : List TileCell) (e0 : TdcEvent) (w : RxWin) : ChanSt × RxWin × Nat :=
  let e := c.eventFor e0 w.cell
  if inRx w.s e.lead then
    match c.bufOf w.cell with
    | none => (c, w, 0)
    | some i =>
      let b := c.buf i
      if b.rep.drop ≠ 0 then (c, w, 0)
      else
        let x := stampDiff e.lead w.s
        let b1 := b.coarseAdd x
        let hit := if w.zoom then zoomHit x b.zoomWins 0 else none
        match hit with
        | none => (c.setBuf i b1, w, 8)
        | some (z, off) =>
          let en := (cells.find? (fun k => k.id == w.cell)).elim false (fun k => k.stampsEn)
          let b2 := b1.fineAdd en z off w.kept w.idx e
          (c.setBuf i b2, { w with kept := w.kept + 1 }, if b2.stamps.length = b1.stamps.length then 16 else 17)
  else (c, w, 0)

/-- Every window of the channel sees the event. -/
def ChanSt.allWins (c : ChanSt) (cells : List TileCell) (e : TdcEvent) : List RxWin → ChanSt × List RxWin × Nat
  | [] => (c, [], 0)
  | w :: l =>
    let r := c.winEvent cells e w
    let q := r.1.allWins cells e l
    (q.1, r.2.1 :: q.2.1, r.2.2 + q.2.2)

/-- The cells whose windows hold the event count its sat bit once each (R125). -/
def ChanSt.countSat (c : ChanSt) (e : TdcEvent) (ids : List Nat) : ChanSt :=
  if e.sat then
    ids.foldl (fun c id => match c.bufOf id with
      | some i => let b := c.buf i; c.setBuf i { b with rep := { b.rep with sat := b.rep.sat + 1 } }
      | none => c) c
  else c

/-- The update-port use of bank `b` of tile `t` over the last 1 ms, in 1/256 of all cycles (R111). -/
def State.bankUtil (s : State) (t b : Nat) : Nat :=
  let l := (tabGet (fun _ => []) (s.tile t).load b).filter (fun p => decide (timeDiff s.now p.1 ≤ 1000 * usUnits))
  Nat.min 255 ((l.map (fun p => p.2)).sum * 256 / 8000000)

/-- The row of a tile SRAM word: 512 bytes, 16 words (R340). -/
def sramRow (word : Nat) : Nat := word / 16

/-- The SRAM bank of a row (R110; log entry 154). -/
def rowBank (row : Nat) : Nat := let r := row % tileRows; if r < chanRows then r / 38 % 16 else (r - chanRows) / 40

/-- Spare rows of bank `b` of a tile that repairs have used (R340). -/
def TileSt.bankRepairs (x : TileSt) (b : Nat) : Nat := (x.repaired.filter (fun r => rowBank r == b)).length

/-- A marked row finds no spare in its bank (R340, R396). -/
def State.repairExhausted (s : State) (t : Nat) : State :=
  if s.flag (TILE_SRAM_REPAIR.exhausted t) then s
  else (s.setFlag (TILE_SRAM_REPAIR.exhausted t)).raiseInst (Ev.sramRepairExhausted t) t

/-- A row is marked for repair, once; with no spare free it stays in use, and exhausted sets (R340). -/
def State.markRow (s : State) (t row : Nat) : State :=
  let x := s.tile t
  if x.marked.contains row then s
  else (s.setTile t { x with marked := x.marked ++ [row] }).when (decide (8 ≤ x.bankRepairs (rowBank row))) (fun s => s.repairExhausted t)

/-- A read of a word of tile SRAM by reader `port`, under `tag` or 0 (R31, R32, R34, R114, R340): a row that has had ce_thr correctable
errors, or an uncorrectable one, is marked for repair. -/
def State.sramRead (s : State) (t word port tag : Nat) (e : Ecc) : Ecc × State :=
  let r := s.w256Read ⟨.tileSram, word, (Config.portId port).toNat, tag, some t, false⟩ e
  let x := r.2.tile t
  let row := sramRow word
  match r.1 with
  | .good => r
  | .corrected _ =>
    let n := cntGet x.rowCe row + 1
    let s1 := r.2.setTile t { x with rowCe := cntSet x.rowCe row n }
    (r.1, s1.when (decide (Nat.max 1 (s.get (TILE_SRAM_REPAIR.ce_thr t)) ≤ n)) (fun s => s.markRow t row))
  | .bad _ => (r.1, (r.2.markRow t row).setFlag (TILE_HIST_STAT.sram_ue_seen t))

/-- A channel's open cell `id` is dropped (R126): its buffer takes no further updates, its windows on the cell close. -/
def State.dropChan (s : State) (t c id reason : Nat) : State :=
  let x := s.tile t
  let ch := x.chan c
  match ch.bufOf id with
  | none => s
  | some i =>
    let b := ch.buf i
    if b.rep.drop ≠ 0 then s
    else
      let ch1 := { ch.setBuf i { b with rep := { b.rep with drop := reason } } with
        wins := ch.wins.filter (fun w => !(w.cell == id)) }
      let first := !x.cells.any (fun k => k.id == id && k.counted)
      let x1 := { (x.setChan c ch1) with cells := x.cells.map (fun k => if k.id = id then { k with counted := true } else k) }
      ((s.setTile t x1).bump (TILE_HIST_CNT.dropped t)).raiseIf first (Ev.cellDropped t) t

/-- The words that the event's coarse and fine updates read (R110, R120): cell, buffer and word. -/
def ChanSt.eventWords (ch : ChanSt) (t c : Nat) (e : TdcEvent) : List (Nat × Nat × Nat) :=
  (ch.wins.filter (ch.hits e)).flatMap (fun w =>
    match ch.bufOf w.cell with
    | some i =>
      let x := stampDiff (ch.eventFor e w.cell).lead w.s
      let fine := match (if w.zoom then zoomHit x (ch.buf i).zoomWins 0 else none) with
        | some (z, off) => [(w.cell, i, sramWord t c i (8192 + 128 * z + 2 * (off / 16)))]
        | none => []
      (w.cell, i, sramWord t c i (2 * (x / 512))) :: fine
    | none => [])

/-- A record dropped for reason `n` keeps its report only (R124). -/
def ChanRec.dropped (r : ChanRec) (n : Nat) : ChanRec := { r with rep := { r.rep with drop := n }, coarse := [], fine := [], stamps := [] }

/-- The record that a channel's sealed cell `id` waits with in the hand-off queue is changed by `g`. -/
def State.onRecord (s : State) (t c id : Nat) (g : ChanRec → ChanRec) : State :=
  let x := s.tile t
  s.setTile t { x with outq := x.outq.map (fun r => if r.chan = c ∧ r.cell.id = id then g r else r) }

/-- A sealed cell of a channel is dropped before its record has left (R114, R126). -/
def State.dropSealed (s : State) (t c id reason : Nat) : State :=
  match (s.tile t).outq.find? (fun r => r.chan == c && r.cell.id == id && r.rep.drop == 0) with
  | none => s
  | some r =>
    let s1 := s.onRecord t c id (fun r => r.dropped reason)
    let x := s1.tile t
    let s2 := s1.setTile t { x with outq := x.outq.map (fun y => if y.cell.id = id then { y with raised := true } else y) }
    (s2.bump (TILE_HIST_CNT.dropped t)).raiseIf (!r.raised) (Ev.cellDropped t) t

/-- The cell in buffer `i` of a channel, active or sealed, is dropped for an uncorrectable word (R114). -/
def State.dropBuf (s : State) (t c i : Nat) : State :=
  let b := (s.chan t c).buf i
  match b.cell with
  | some id => if b.isSealed then s.dropSealed t c id 3 else s.dropChan t c id 3
  | none => s

/-- A word in buffer `i` of a channel has been corrected (R125). -/
def State.bufCorrected (s : State) (t c i : Nat) : State :=
  let ch := s.chan t c
  let b := ch.buf i
  let s1 := s.setChan t c (ch.setBuf i { b with rep := { b.rep with corrected := true } })
  match b.cell with
  | some id => if b.isSealed then s1.onRecord t c id (fun r => { r with rep := { r.rep with corrected := true } }) else s1
  | none => s1

/-- A word of buffer `i` of a channel is read by reader `port`, under `tag` or 0 (R114). -/
def State.scanWord (s : State) (t c i w port tag : Nat) (e : Ecc) : State :=
  let r := s.sramRead t w port tag e
  match r.1 with
  | .good => r.2
  | .corrected _ => r.2.bufCorrected t c i
  | .bad _ => r.2.dropBuf t c i

/-- The first `n` words of a buffer of the channel are read through the read port (R111). Of these, the words that an injection has damaged
are corrected, or drop the buffer's cell (R114); so is word `w` with the outcome `e`. -/
def State.bufScan (s : State) (t c i n w : Nat) (e : Ecc) : State :=
  let a := sramWord t c i 0
  let hurt := s.hub.injected.filter (fun p => decide (p.1 = W256Loc.tileSram.code ∧ a ≤ p.2.1 ∧ p.2.1 < a + n ∧ p.2.1 ≠ a + w))
  hurt.foldl (fun s p => s.scanWord t c i p.2.1 10 0 .good) (s.scanWord t c i (a + w) 10 0 e)

/-- The read port scans the coarse counters of a channel's buffer of cell `id` (R114, R116). -/
def State.chanScan (s : State) (t c id w : Nat) (e : Ecc) : State :=
  match (s.chan t c).bufOf id with
  | some i => s.bufScan t c i 256 w e
  | none => s

/-- The reads before the updates, from word `n` on: `x` tells the outcome of one of them; a word that cannot be corrected drops the channel's
cell (R114). -/
def State.eventReads (s : State) (t c : Nat) (x : WordEcc) : Nat → List (Nat × Nat × Nat) → State
  | _, [] => s
  | n, (_, i, w) :: l => (s.scanWord t c i w 10 0 (if n = x.word then x.ecc else .good)).eventReads t c x (n + 1) l

/-- The event at the front of a channel's queue is accumulated (R108 to R114, R120); `ecc` tells the outcome of the read of one of its
words. -/
def State.accumulate (s : State) (t c : Nat) (ecc : WordEcc) : State :=
  match (s.chan t c).queue with
  | [] => s
  | e :: q =>
    let words := (s.chan t c).eventWords t c e
    let s0 := s.eventReads t c ecc 0 words
    let x := s0.tile t
    let ch := x.chan c
    let r := { ch with queue := q }.allWins x.cells e ch.wins
    let ids := uniq ((ch.wins.filter (ch.hits e)).map (fun w => w.cell))
    let ch1 := { r.1 with wins := r.2.1 }.countSat e ids
    let b := c % 16
    let ld := (s0.now, r.2.2) :: (tabGet (fun _ => []) x.load b).filter (fun p => decide (timeDiff s0.now p.1 ≤ 1000 * usUnits))
    let x1 := { (x.setChan c ch1) with load := tabSet (fun _ => []) x.load b ld }
    let s2 := words.foldl (fun s p => s.w256Write .tileSram p.2.2) (s0.setTile t x1)
    let u := s2.bankUtil t b
    (s2.put (TILE_BANK_LOAD.util t b) u).put (TILE_BANK_LOAD.peak t b) (Nat.max u (s2.get (TILE_BANK_LOAD.peak t b)))

/-- Every queued event of a channel is accumulated; `n` bounds the queue. -/
def State.drain (s : State) (t c : Nat) : Nat → State
  | 0 => s
  | n + 1 => if (s.chan t c).queue.isEmpty then s else (s.accumulate t c ⟨0, .good⟩).drain t c n

/-- Every channel of tile `t` that holds something. -/
def State.busyChans (s : State) (t : Nat) : List Nat := (s.tile t).chans.map (fun p => p.1)

/-- Every queue of tile `t` is emptied into the histograms. -/
def State.drainTile (s : State) (t : Nat) : State := (s.busyChans t).foldl (fun s c => s.drain t c 16) s

/-- The cells in which a channel has an unsealed buffer. -/
def ChanSt.openCells (c : ChanSt) : List Nat :=
  [c.buf0, c.buf1].filterMap (fun b => if b.isSealed then none else b.cell)

/-- Every open cell of a channel is dropped. -/
def State.dropChanAll (s : State) (t c reason : Nat) : State :=
  (s.chan t c).openCells.foldl (fun s id => s.dropChan t c id reason) s

/-- Every open cell of a tile is dropped, in the channels that hold a buffer for it at once, in the others as it is sealed (R126). -/
def State.dropTile (s : State) (t reason : Nat) : State :=
  let s1 := (s.busyChans t).foldl (fun s c => s.dropChanAll t c reason) s
  let x := s1.tile t
  s1.setTile t { x with cells := x.cells.map (fun k => if k.drop = 0 then { k with drop := reason } else k) }

/-- The zoom settings in force for a cell whose first shot has S = `time` (R121). -/
def State.zoomCfg (s : State) (t time : Nat) : Nat := inForce s.now time (s.reg (TILE_ZOOM_CFG.addr t)).toNat (s.tile t).zoomHist

/-- Nc of R115. -/
def ncOf (planned frac : Nat) : Nat := if frac = 0 then planned else Nat.max 1 (planned * frac / 16)

/-- A cell of N = `planned` as tile `t` sees it when its first shot has S = `time` (R115, R121). -/
def State.newTileCell (s : State) (t id planned time : Nat) (barred : Bool) : TileCell :=
  let z := s.zoomCfg t time
  let frac := bits z 0 4
  ⟨id, planned, ncOf planned frac, decide (frac ≠ 0), bits z 4 3 + 1, bits z 8 1 == 1, false, false, false, barred, 0⟩

/-- The tile's view of a cell that the generator has open; one without a notice in the tile is made now. -/
def State.tileCellOf (s : State) (t : Nat) (ci : CellInfo) : TileCell :=
  ((s.tile t).cells.find? (fun k => k.id == ci.id)).getD (s.newTileCell t ci.id ci.planned ci.firstS false)

/-- The channels of tile `t` that a channel-enable map of 192 bytes names (R44). -/
def mapChans (m : List Byte) (t : Nat) : List Nat := (List.range 256).filter (fun c => (m.getD (32 * t + c / 8) 0).getLsbD (c % 8))

/-- The azimuth of a cell's fired shots and whether the model gave part of it (R64); with pos_src 0b00 every cell has azimuth 0 (R63). Else
a cell without a fired shot has none, and takes a free value. -/
def State.cellAzimuth (s : State) (times : List Nat) : Nat × Bool × State :=
  match times with
  | [] => if s.posSrc = 0 then (0, false, s) else let r := s.fresh; (r.1 % 2 ^ 20, false, r.2)
  | _ => let l := times.map s.azAt; (azMean (l.map (fun p => p.1)), l.any (fun p => p.2), s)

/-- The index of the first entry of a cell that is a zoom shot of a channel whose windows were installed at `at` (R119), fired or not. -/
def zoomFirstOf (now : Nat) (times : List Nat) : Option Nat → Option Nat
  | none => none
  | some a => times.findIdx? (fun t => laterBy now a (1500 * nsUnits - 1) t)

/-- The losses of a channel while a cell was open. -/
def ChanSt.lossesOf (ch : ChanSt) (id : Nat) : Nat × Nat := ((ch.losses.find? (fun p => p.1 == id)).map (fun p => p.2)).getD (0, 0)

/-- What the seal makes of one channel of the cell's map (R122, R124, R125): the record, and the channel with its buffer handed to the read
port, where the histograms and stamps stay until they are sent. A channel that has joined no shot has a record too: dropped with the cell,
or with reason 6 where it waited for a buffer, else with n_used = 0 (R126, R162). -/
def ChanSt.sealAs (ch : ChanSt) (t c seq now : Nat) (m : CellMeta) (times : List Nat) (k : TileCell) : ChanSt × ChanRec :=
  let x := ch.lossesOf m.id
  let ch0 := { ch with losses := ch.losses.filter (fun p => !(p.1 == m.id)), waitCells := ch.waitCells.filter (fun i => !(i == m.id)) }
  match ch.bufOf m.id with
  | some i =>
    let b := ch.buf i
    let zf := (zoomFirstOf now times b.zoomAt).getD m.planned
    let r : ChanRec := ⟨t, c, seq, now, m, k.nc, !k.zoomOn, { b.rep with zoomFirst := some zf, qLost := x.1, deadLost := x.2, kept := b.stamps.length },
      b.zoomWins, [], [], [], false, false, false, false, false⟩
    ({ ch0.setBuf i { b with isSealed := true } with wins := ch.wins.filter (fun w => !(w.cell == m.id)) }, r)
  | none =>
    let waited := ch.waitCells.contains m.id
    (ch0, ⟨t, c, seq, now, m, k.nc, !k.zoomOn,
      { RepCnt.init with drop := if k.drop ≠ 0 then k.drop else if waited then 6 else 0, late := waited, zoomFirst := some m.planned, qLost := x.1, deadLost := x.2 },
      [], [], [], [], false, false, false, false, false⟩)

/-- Seals the channels of a list; answers the tile and the records in the order of the list. -/
def TileSt.sealChans (x : TileSt) (t seq now : Nat) (m : CellMeta) (times : List Nat) (k : TileCell) : List Nat → TileSt × List ChanRec
  | [] => (x, [])
  | c :: l =>
    let r := (x.chan c).sealAs t c seq now m times k
    let q := (x.setChan c r.1).sealChans t seq now m times k l
    (q.1, r.2 :: q.2)

/-- Marks the last record. -/
def markLast : List ChanRec → List ChanRec
  | [] => []
  | [r] => [{ r with last := true }]
  | r :: l => r :: markLast l

/-- A record that comes with zoom windows and no zoom shot (R119). -/
def ChanRec.zoomLate (r : ChanRec) : Bool := !r.zoomOff && !r.wins.isEmpty && r.rep.zoomFirst == some r.cell.planned

/-- The channels of the cell's map in tile `t`, if one of them is enabled (R122). -/
def State.cellChans (s : State) (t : Nat) (ci : CellInfo) : List Nat :=
  let l := mapChans ci.map t
  if l.any (fun c => s.bitAt (TILE_CH_EN.addr t 0) c) then l else []

/-- The cell is sealed in tile `t` (R122), which has a channel in its map enabled: records go to the hand-off queue, cell_seq moves on, and
the seal's events are raised (R119, R123, R125, R126). -/
def State.sealTile (s0 : State) (t : Nat) (ci : CellInfo) (m : CellMeta) : State :=
  let s := s0.drainTile t
  let x := s.tile t
  let k := s.tileCellOf t ci
  let seq := s.get (TILE_HIST_STAT.cell_seq t)
  let r := x.sealChans t seq s.now m ci.entryS k (s.cellChans t ci)
  let d6 := r.2.any (fun r => r.rep.drop == 6)
  let nobuf := ((s.cellChans t ci).filter (fun c => (x.chan c).bufOf ci.id == none &&
    (!(k.drop == 0) || (x.chan c).waitCells.contains ci.id))).length
  let recs := (markLast r.2).map (fun r => { r with raised := k.counted || decide (0 < nobuf) })
  let x1 := { r.1 with cells := r.1.cells.filter (fun k => !(k.id == ci.id)), outq := r.1.outq ++ recs, rest := [] }
  let s1 := s.setTile t x1
  let s2 := s1.when (!recs.isEmpty) (fun s => s.put (TILE_HIST_STAT.cell_seq t) (seq + 1))
  let s3 := s2.put (TILE_HIST_CNT.sealed t) (s2.get (TILE_HIST_CNT.sealed t) + recs.length)
  let missed := recs.any ChanRec.zoomLate
  let s4 := (s3.when missed (fun s => s.setFlag (TILE_HIST_STAT.zoom_missed_seen t))).raiseIf missed (Ev.zoomMissed t) t
  let ql := recs.any (fun r => decide (0 < r.rep.qLost))
  let s5 := (s4.when ql (fun s => s.setFlag (TILE_HIST_STAT.q_loss_seen t))).raiseIf ql (Ev.queueLoss t) t
  let s6 := s5.put (TILE_HIST_CNT.dropped t) (satAdd 65535 (s5.get (TILE_HIST_CNT.dropped t)) nobuf)
  let s7 := (s6.when d6 (fun s => s.setFlag (TILE_HIST_STAT.late_join_seen t))).raiseIf (d6 && !k.lateRaised) (Ev.lateJoin t) t
  s7.raiseIf (decide (0 < nobuf) && !k.counted) (Ev.cellDropped t) t

/-- The mean of device times, rounded with ties to even (R160); the times are taken as they follow the first one, across a wrap. -/
def timeMean : List Nat → Nat
  | [] => 0
  | a :: l =>
    let n := l.length + 1
    let d := ((a :: l).map (fun x => timeDiff x a)).sum
    (roundHalfEven ((n * a + d : Nat) : Int) n).toNat % 2 ^ 64

/-- Was the time base warm at `t`, a time since the last time step (R161, R170)? Every change of the state after `t` turns it over. -/
def State.warmAt (s : State) (t : Nat) : Bool :=
  s.flag TIME_STAT.warm != decide ((s.time.warmLog.filter (fun u => decide (0 < laterThan u t))).length % 2 = 1)

/-- Does the cell carry not-warm: was the time base not warm at its last shot (R161, R170)? -/
def State.cellCold (s : State) (ci : CellInfo) : Bool := ci.cold.getD (!s.warmAt (ci.entryS.getLast?.getD s.now))

/-- The cell data that its records carry; the first seal forms the azimuth, with model_used and its event (R64). A cell without a
fired shot has no mean S: a free value. -/
def State.cellMeta (s : State) (ci : CellInfo) : CellMeta × State :=
  let none' := ci.times.isEmpty
  let r := match ci.az with
    | some a => (a.1, a.2, s)
    | none => s.cellAzimuth ci.times
  let f := if none' then r.2.2.fresh else (timeMean ci.times, r.2.2)
  let m : CellMeta := ⟨ci.id, ci.bank, ci.segset, ci.firstEntry, ci.epoch, ci.planned, ci.times.length, ci.firstS, r.1, r.2.1,
    none', f.1, s.cellCold ci, ci.span, ci.dSum, ci.dMin, ci.dMax, ci.frame⟩
  let first := ci.sealedBy.isEmpty && r.2.1
  (m, (f.2.when first (fun s => s.setFlag FIRE_MIRROR_STAT.model_used)).raiseIf first Ev.mirrorModelAzimuth 0)

/-- Tile `t` has sealed cell `id`; a cell that every tile has sealed is forgotten. -/
def State.noteSealed (s : State) (t id : Nat) (m : CellMeta) : State :=
  let l := s.fire.cells.map (fun c => if c.id = id then { c with sealedBy := t :: c.sealedBy, az := some (m.azimuth, m.azModel) } else c)
  { s with fire := { s.fire with cells := l.filter (fun c => decide (c.sealedBy.length < 6)) } }

/-- The hub keeps what it owes the safety channels for the cell (R281): tile `t` has sealed it, with records or without. -/
def State.noteClose (s : State) (t : Nat) (m : CellMeta) (recs : Bool) : State :=
  let e := s.echo
  let l := if e.closes.any (fun c => c.cell.id == m.id) then e.closes else e.closes ++ [⟨m, List.range 6, []⟩]
  { s with echo := { e with closes := l.map (fun c => if c.cell.id = m.id then
      { c with unsealed := c.unsealed.filter (fun u => !(u == t)), waiting := if recs then c.waiting ++ [t] else c.waiting } else c) } }

/-- A tile that makes no records for a cell: the hub holds one missing record for each channel of the cell's map (R162), with cause 9
for an isolated tile (R39), and for a tile with none of those channels enabled one that was not dropped, which has cause 8. The spec names
no cell_seq for it: a free value (log entry 180). -/
def State.missingCell (s : State) (t drop : Nat) (ci : CellInfo) (m : CellMeta) : State :=
  let r := s.fresh
  let l := (mapChans ci.map t).map (fun c =>
    (⟨t, c, r.1 % 65536, s.now, m, m.planned, false, { RepCnt.init with drop := drop, zoomFirst := some m.planned }, [], [], [], [],
      false, true, true, false, true⟩ : ChanRec))
  let s1 := { r.2 with hist := { r.2.hist with store := r.2.hist.store ++ markLast l } }
  s1.noteClose t m (!l.isEmpty)

/-- The cell leaves a tile that sends no packet for it. -/
def State.cellGone (s : State) (t id : Nat) : State :=
  let x := s.tile t
  let out := fun (c : ChanSt) => { c with losses := c.losses.filter (fun p => !(p.1 == id)), waitCells := c.waitCells.filter (fun i => !(i == id)) }
  s.setTile t { x with cells := x.cells.filter (fun k => !(k.id == id)),
                       chans := x.chans.foldl (fun l p => tabSet (fun _ => ChanSt.init) l p.1 (out p.2)) [] }

/-- Seals cell `ci` in tile `t`. -/
def State.sealCell (s : State) (t : Nat) (ci : CellInfo) : State :=
  let r := s.cellMeta ci
  let s1 := if s.tileOff t then r.2.missingCell t 9 ci r.1
    else if (s.cellChans t ci).isEmpty then (r.2.missingCell t 0 ci r.1).cellGone t ci.id
    else (r.2.sealTile t ci r.1).noteClose t r.1 true
  s1.noteSealed t ci.id r.1

/-- Firing is killed, or the tile is sliced out: every open cell of tile `t` is dropped and sealed at once (R126, reasons 5
and 7). -/
def State.killCells (s : State) (t reason : Nat) : State :=
  let x := s.tile t
  let new := (s.fire.cells.filter (fun c => !c.sealedBy.contains t && !x.cells.any (fun k => k.id == c.id))).map (s.tileCellOf t)
  let s1 := (s.setTile t { x with cells := x.cells ++ new }).dropTile t reason
  (s1.fire.cells.filter (fun c => !c.sealedBy.contains t)).foldl (fun s c => s.sealCell t c) s1

/-- Are the inputs of tile `t` disconnected from their pins, for an offset calibration (R385; log entry 219)? -/
def State.inputsTied (s : State) (t : Nat) : Bool :=
  s.cal.job.elim false (fun j => decide (bits j.1 t 1 = 1 ∧ j.2.1 % 2 = 1))

end Sys2Proof.Machine
end

