-- ==== Sys2Proof/Machine/Isolate.lean ====
section
/-! DEFINITION. Isolated and unpowered domains as register accesses meet them (R39). -/

namespace Sys2Proof.Machine

/-- The domain that can be off and whose registers address `a` falls in (R38, R405). Of the DRAM channels these are MEM_CH_m_INFO,
MEM_CH_m_REF and MEM_CH_m_ERR. -/
def domainAt (a : Nat) : Option Domain :=
  if 0x400000 ≤ a ∧ a < 0xA00000 then some (.tile (Fin.ofNat 6 ((a - 0x400000) / 0x100000)))
  else if 0xD00000 ≤ a ∧ a < 0xD40000 then some (.eth (Fin.ofNat 4 ((a - 0xD00000) / 0x10000)))
  else if 0xD80000 ≤ a ∧ a < 0xE00000 then some .twn
  else if MEM_CH_INFO.addr 0 ≤ a ∧ a < MEM_CH_INFO.addr 4 then some (.ddr (Fin.ofNat 4 ((a - MEM_CH_INFO.addr 0) / 4)))
  else if MEM_CH_REF.addr 0 ≤ a ∧ a < MEM_CH_REF.addr 4 then some (.ddr (Fin.ofNat 4 ((a - MEM_CH_REF.addr 0) / 4)))
  else if MEM_CH_ERR.addr 0 ≤ a ∧ a < MEM_CH_ERR.addr 4 then some (.ddr (Fin.ofNat 4 ((a - MEM_CH_ERR.addr 0) / 8)))
  else none

/-- The instance that isolated-access carries (R398): tile, port or channel. -/
def domainInst : Domain → Nat
  | .clb => 0
  | .eth p => p
  | .twn => 0
  | .ddr m => m
  | .tile t => t

/-- Does address `a` fall in a domain that is off or isolated? -/
def State.isoAt (s : State) (a : Nat) : Bool :=
  match domainAt a with
  | some d => s.isOff d
  | none => false

/-- An access to an isolated domain raises isolated-access (R39). -/
def State.isoAccess (s : State) (a : Nat) : State :=
  match domainAt a with
  | some d => s.raiseInst Ev.isolatedAccess (domainInst d)
  | none => s

/-- A write of the register at `a`: dropped where its domain is off or isolated (R39). -/
def State.onReg (s : State) (a : Nat) (g : State → State) : State := if s.isoAt a then s.isoAccess a else g s

end Sys2Proof.Machine
end

