-- ==== Sys2Proof/Machine/DevMem.lean ====
section
/-! DEFINITION. Where a device memory address stands (R225 to R231, R246, R247), and the reads and writes of device memory with
its W256 words (R228, R31, R32). -/

namespace Sys2Proof.Machine

/-- Channel (as a place in the map), bank and row of stripe `x` (R231). -/
def stripePlace (order c q x : Nat) : Nat × Nat × Nat :=
  let rows := fun (s2 : Nat) => let row := s2 / 16; (Nat.xor (s2 % 16) (row % 16), row)
  if order = 1 then (x / 15 % c, rows (x / 15 / c))
  else if order = 2 then (x / q, rows (x % q / 15))
  else (x % c, rows (x / c / 15))

/-- The stripe in its row of stripe `x` (R231): 0 to 14. -/
def stripeInRow (order c q x : Nat) : Nat :=
  if order = 1 then x % 15 else if order = 2 then x % q % 15 else x / c % 15

/-- The bytes in its row of the 16 check bits of word `w` of the row's stripe `k`, low byte first (R227): word 8 (k mod 4) + w of check
chunk k ÷ 4. Bytes 4,080 to 4,095 hold 0. -/
def checkPlace (k w : Nat) : Nat := 3840 + 64 * (k / 4) + 2 * (8 * (k % 4) + w)

/-- Stripes of the channel at place `r` below stripe `x`. -/
def stripesBelow (order c q r x : Nat) : Nat :=
  if order = 1 then 15 * ((x / 15 + c - 1 - r) / c) + (if x / 15 % c = r then x % 15 else 0)
  else if order = 2 then Nat.min q (x - r * q)
  else (x + c - 1 - r) / c

/-- The `k`-th stripe, from 0 in ascending order, that is on no stripe of the channel at place `r`. -/
def survivorAt (order c q r k : Nat) : Nat :=
  let skip := fun (j : Nat) => if r ≤ j then j + 1 else j
  if order = 1 then 15 * (k / 15 / (c - 1) * c + skip (k / 15 % (c - 1))) + k % 15
  else if order = 2 then skip (k / q) * q + k % q
  else k / (c - 1) * c + skip (k % (c - 1))

/-- The first stripe at or after `x` on the channel at place `r`. -/
def nextStripe (order c q r x : Nat) : Nat :=
  if order = 1 then if x / 15 % c = r then x else 15 * (x / 15 + (r + c - x / 15 % c) % c)
  else if order = 2 then if x < r * q then r * q else if x < (r + 1) * q then x else c * q
  else x + (r + c - x % c) % c

def State.memOrder (s : State) : Nat := s.get MEM_CTL.map_order

/-- Stripes of the usable extent (R246). -/
def State.memStripes (s : State) : Nat := s.get MEM_EXTENT.extent / 256

/-- The stripe whose place holds the data of stripe `x`: a stripe that migration has moved stands in a surviving channel at
or above the new extent, both taken in ascending order (R246, R247). -/
def State.stripeHome (s : State) (x : Nat) : Nat :=
  let o := s.memOrder
  let c := s.mem.chs.length
  let q := s.mem.stripes
  match s.mem.retIx with
  | none => x
  | some r =>
    if (stripePlace o c q x).1 = r ∧ 256 * x < s.get MEM_RETIRE_PTR.ptr then
      let n := s.memStripes
      survivorAt o c q r (stripesBelow o c q r x + (n - stripesBelow o c q r n))
    else x

/-- Channel number, bank and row that hold device memory address `d`. -/
def State.memPlace (s : State) (d : Nat) : Nat × Nat × Nat :=
  let p := stripePlace s.memOrder s.mem.chs.length s.mem.stripes (s.stripeHome (d / 256))
  (s.mem.chs.getD p.1 0, p.2)

/-- The stripe in its row that holds device memory address `d`. -/
def State.memStripeInRow (s : State) (d : Nat) : Nat :=
  stripeInRow s.memOrder s.mem.chs.length s.mem.stripes (s.stripeHome (d / 256))

/-- The byte of its row that holds device memory address `d` (R227, R231). -/
def State.memRowByte (s : State) (d : Nat) : Nat := 256 * s.memStripeInRow d + d % 256

/-- The byte of its row that holds the low check byte of the word at `d` (R227). -/
def State.memCheckByte (s : State) (d : Nat) : Nat := checkPlace (s.memStripeInRow d) (d % 256 / 32)

/-- Does device memory hold the `n` bytes from `d` (R246, R249)? -/
def State.memHas (s : State) (d n : Nat) : Bool :=
  s.flag MEM_STAT.mem_active && decide (d + n ≤ s.get MEM_EXTENT.extent)

/-- A channel's error counts follow a W256 outcome (R245). -/
def State.chErr (s : State) (m : Nat) (e : Ecc) : State :=
  match e with
  | .good => s
  | .corrected _ =>
    let s1 := s.bump (MEM_CH_ERR.ce_count m)
    { s1 with mem := { s1.mem with ceSec := s1.mem.ceSec.set m (s1.mem.ceSec.getD m 0 + 1) } }
  | .bad _ => s.bump (MEM_CH_ERR.ue_count m)

/-- A read of the 32-byte word that holds `d`, through memory port `port` with a tag (R31, R32). -/
def State.devReadWord (s : State) (d port tag : Nat) (e : Ecc) : Ecc × State :=
  let m := (s.memPlace d).1
  let r := s.w256Read ⟨.devMem, d / 32 * 32, (Config.portId port).toNat, tag, some m, false⟩ e
  (r.1, r.2.chErr m r.1)

/-- Reads of `n` words from the word that holds `d`; the sender's outcome applies to the first; the worst outcome is answered. -/
def State.devReadWords (s : State) (d port tag : Nat) (e : Ecc) : Nat → Bool × State
  | 0 => (true, s)
  | n + 1 =>
    let r := s.devReadWord d port tag e
    let t := r.2.devReadWords (d + 32) port tag .good n
    (t.1 && (match r.1 with | .bad _ => false | _ => true), t.2)

/-- A read of `n` bytes from `d`: whether every word was correctable, and the state. -/
def State.devRead (s : State) (d n port tag : Nat) (e : Ecc) : Bool × State :=
  s.devReadWords d port tag e ((d + n + 31) / 32 - d / 32)

/-- A write of bytes to the words of device memory from `w` on, which `d` and the bytes after it reach: a write that covers a whole
word needs no read; any other reads its word first, and is lost where it is uncorrectable (R228, R32). Answers whether all were
stored. -/
def State.devWriteWords (s : State) (d port tag : Nat) (l : List Byte) (w : Nat) : Nat → Bool × State
  | 0 => (true, s)
  | n + 1 =>
    let lo := Nat.max d w
    let part := (l.drop (lo - d)).take (w + 32 - lo)
    let r : Ecc × State := if part.length = 32 then (.good, s) else s.devReadWord w port tag .good
    let ok := match r.1 with
      | .bad _ => false
      | _ => true
    let s1 := if ok then let s1 := r.2.w256Write .devMem w; { s1 with devMem := memStore s1.devMem lo part } else r.2
    let q := s1.devWriteWords d port tag l (w + 32) n
    (ok && q.1, q.2)

/-- A write of bytes to device memory from `d` on, and whether it met no uncorrectable word; one that does not lie within the usable
extent is refused (R248, R249). -/
def State.devStore (s : State) (d port tag : Nat) (l : List Byte) : Bool × State :=
  if s.memHas d l.length then s.devWriteWords d port tag l (d / 32 * 32) ((d + l.length + 31) / 32 - d / 32) else (true, s)

def State.devWrite (s : State) (d port tag : Nat) (l : List Byte) : State := (s.devStore d port tag l).2

def MemSt.queue (x : MemSt) (k : Nat) : List MemReq := tabGet (fun _ => []) x.queues k
def MemSt.setQueue (x : MemSt) (k : Nat) (l : List MemReq) : MemSt := { x with queues := tabSet (fun _ => []) x.queues k l }

/-- A memory request whose tag is gone leaves the controller and its place in the quota (R37, R39, R234). -/
def State.memDrop (s : State) (i : Nat) : State :=
  let mine := fun (r : MemReq) => decide (r.inst = some i)
  let all := s.mem.flight ++ (s.mem.queues.map (fun q => q.2)).flatten
  match all.find? mine with
  | none => s
  | some r =>
    let x := s.mem.queues.foldl (fun (x : MemSt) q => x.setQueue q.1 (q.2.filter (fun r => !mine r)))
      { s.mem with flight := s.mem.flight.filter (fun r => !mine r) }
    ({ s with mem := x }).put (MEM_PORT_STAT.in_use r.port) (s.get (MEM_PORT_STAT.in_use r.port) - 1)

/-- Is an event that is raised at most once per `span` due again? -/
def dueAgain (last : Option Nat) (now span : Nat) : Bool :=
  match last with
  | none => true
  | some u => decide (span ≤ (now + 2 ^ 64 - u % 2 ^ 64) % 2 ^ 64)

/-- 1 ms in units of 2^-16 ns. -/
def oneMs : Nat := 65536000000

/-- mem-extent-violation, once per 1 ms (R248). -/
def State.extentViolation (s : State) : State :=
  if dueAgain s.mem.extentAt s.now oneMs then
    ({ s with mem := { s.mem with extentAt := some s.now } }).raise Ev.memExtentViolation 0 0
  else s

end Sys2Proof.Machine
end

