-- ==== Sys2Proof/Machine/Rings.lean ====
section
/-! DEFINITION. Submission, completion and point rings: configuration, doorbells, completions, point packets, notices and
flushes (R184, R189 to R211). -/

namespace Sys2Proof.Machine

def State.sq (s : State) (n : Nat) : SqSt := tabGet (fun _ => SqSt.init) s.host.sq n
def State.cq (s : State) (n : Nat) : CqSt := tabGet (fun _ => CqSt.init) s.host.cq n
def State.pr (s : State) (n : Nat) : PrSt := tabGet (fun _ => PrSt.init) s.host.pr n
def State.setSq (s : State) (n : Nat) (x : SqSt) : State :=
  { s with host := { s.host with sq := tabSet (fun _ => SqSt.init) s.host.sq n x } }
def State.setCq (s : State) (n : Nat) (x : CqSt) : State :=
  { s with host := { s.host with cq := tabSet (fun _ => CqSt.init) s.host.cq n x } }
def State.setPr (s : State) (n : Nat) (x : PrSt) : State :=
  { s with host := { s.host with pr := tabSet (fun _ => PrSt.init) s.host.pr n x } }

/-- The value a doorbell page's word reads as: the last value it accepted (R188). -/
def State.doorbell (s : State) (page : Nat) : Nat := tabGet (fun _ => 0) s.host.doorbells page
def State.setDoorbell (s : State) (page v : Nat) : State :=
  { s with host := { s.host with doorbells := tabSet (fun _ => 0) s.host.doorbells page v } }

/-- (a - b) mod size: the way from index b to index a. -/
def ringDist (size a b : Nat) : Nat := (a + size - b % size) % size

def State.sqSize (s : State) (n : Nat) : Nat := 2 ^ s.get (RING_SQ_CFG.size_log2 n)
def State.cqSize (s : State) (n : Nat) : Nat := 2 ^ s.get (RING_CQ_CFG.size_log2 n)
def State.prSize (s : State) (n : Nat) : Nat := 2 ^ s.get (RING_PR_CFG.size_log2 n)

/-- Entries between head and the accepted tail of a submission ring. -/
def State.sqLevel (s : State) (n : Nat) : Nat := ringDist (s.sqSize n) (s.sq n).tail (s.get (RING_SQ_STAT.head n))
/-- Entries the host has not returned (R202). -/
def State.cqLevel (s : State) (n : Nat) : Nat := ringDist (s.cqSize n) (s.get (RING_CQ_STAT.tail n)) (s.cq n).head

/-- The tags of an SQ's fetched descriptors go back (R192, R204). -/
def State.dropDescs (s : State) (l : List Desc) : State :=
  l.foldl (fun (s : State) d => s.tagRelease d.inst)
    { s with host := { s.host with ends := s.host.ends.filter (fun i => !l.any (fun d => d.inst == i)) } }

/-- Disabling an SQ discards its contents without completions (R192). -/
def State.sqDisable (s : State) (n : Nat) : State :=
  let s1 := (s.dropDescs (s.sq n).descs).setSq n SqSt.init
  (((s1.clearFlag (RING_SQ_CFG.enable n)).put (RING_SQ_STAT.in_flight n) 0).clearFlag (RING_SQ_CTL.flush n)).clearFlag
    (RING_SQ_STAT.flushing n)

def State.cqDisable (s : State) (n : Nat) : State :=
  (s.setCq n CqSt.init).clearFlag (RING_CQ_CFG.enable n)

/-- The level register of a point ring follows its indices, with the watermark of R210. -/
def State.prLevel (s : State) (n : Nat) : State :=
  let old := s.get (RING_PR_STAT.level n)
  let new := ringDist (s.prSize n) (s.get (RING_PR_HEAD.index n)) (s.get (RING_PR_TAIL.index n))
  let wm := s.get (RING_PR_WM.wm_level n)
  let rise := decide (0 < wm) && decide (old < wm) && decide (wm ≤ new)
  let s1 := s.put (RING_PR_STAT.level n) new
  (s1.when rise (fun s => s.setFlag (RING_PR_STAT.wm n))).raiseIf rise Ev.pointRingWatermark n

def State.prDisable (s : State) (n : Nat) : State :=
  let s1 := (s.clearFlag (RING_PR_CFG.enable n)).setPr n { s.pr n with unnoticed := 0, headMoved := false, fullNow := false }
  ((s1.put (RING_PR_HEAD.index n) 0).put (RING_PR_TAIL.index n) 0).prLevel n

/-- The size bounds of R191, and the other conditions of a valid configuration (R192). -/
def State.ringValid (s : State) : RingSel → Bool
  | .sq n => let k := s.get (RING_SQ_CFG.size_log2 n)
             decide (4 ≤ k ∧ k ≤ 16) && s.flag (RING_CQ_CFG.enable (s.get (RING_SQ_CFG.cq n)))
  | .cq n => let k := s.get (RING_CQ_CFG.size_log2 n)
             decide (4 ≤ k ∧ k ≤ 16)
  | .pr n => let k := s.get (RING_PR_CFG.size_log2 n)
             decide (11 ≤ k ∧ k ≤ 28) && (s.flag (RING_PR_CFG.loc n) || s.flag RING_LINK_STAT.cxl_mem_en)

/-- Enabling sets producer and consumer indices to 0 (R192); a CQ's first pass carries phase 1 (R202). The completion of a failed
fetch that is still to be written stays with its SQ (R193). -/
def State.ringStart (s : State) : RingSel → State
  | .sq n => (s.setSq n { SqSt.init with descs := (s.sq n).descs }).put (RING_SQ_STAT.head n) 0
  | .cq n => ((s.setCq n CqSt.init).put (RING_CQ_STAT.tail n) 0).put (RING_CQ_STAT.phase n) 1
  | .pr n => ((s.put (RING_PR_HEAD.index n) 0).put (RING_PR_TAIL.index n) 0).prLevel n

def ringEnable : RingSel → FRef
  | .sq n => RING_SQ_CFG.enable n
  | .cq n => RING_CQ_CFG.enable n
  | .pr n => RING_PR_CFG.enable n

def ringIndex : RingSel → Nat
  | .sq n => n
  | .cq n => n
  | .pr n => n

def ringDisable (s : State) : RingSel → State
  | .sq n => s.sqDisable n
  | .cq n => s.cqDisable n
  | .pr n => s.prDisable n

/-- The bits of a CFG register that exist (R8). -/
def ringCfgMask : RingSel → Nat
  | .sq _ => 0xFFFF7F7F
  | .cq _ => 0x00007F3F
  | .pr _ => 0x00007F7F

/-- Credit of an SQ is written (R199): below in_flight it sets credit_cut and raises sq-credit-cut. -/
def State.sqCredit (s : State) (n v : Nat) : State :=
  let s1 := s.put (RING_SQ_CFG.credit_m1 n) v
  let cut := decide (v + 1 < s.get (RING_SQ_STAT.in_flight n))
  (s1.when cut (fun s => s.setFlag (RING_SQ_STAT.credit_cut n))).raiseIf cut Ev.sqCreditCut n

/-- A CFG write of a ring (R192). -/
def State.ringCfgWrite (s : State) (r : RingSel) (v : Word32) : State :=
  let e := ringEnable r
  if s.flag e then
    let s1 := match r with
      | .sq n => s.sqCredit n (v.toNat / 2 ^ 24)
      | _ => s
    if v.toNat / 32 % 2 = 0 then ringDisable s1 r else s1
  else
    let want := v.toNat / 32 % 2 == 1
    let s1 := s.setReg e.addr (BitVec.ofNat 64 (Nat.land v.toNat (ringCfgMask r - 32)))
    if want then
      if s1.ringValid r then (s1.setFlag e).ringStart r else s1.raiseInst Ev.ringConfigRejected (ringIndex r)
    else s1

/-- An SQ doorbell write (R188, R193). -/
def State.sqDoorbell (s : State) (n : Nat) (v : Word32) : State :=
  let bad := (s.setFlag (RING_SQ_STAT.bad_db n)).raiseInst Ev.doorbellInvalid n
  if s.flag (RING_SQ_CFG.enable n) then
    let size := s.sqSize n
    let q := s.sq n
    if ringDist size v.toNat q.tail ≤ size - 1 - s.sqLevel n then
      (s.setSq n { q with tail := v.toNat % size }).setDoorbell n v.toNat
    else bad
  else bad

/-- A CQ doorbell write: entries go back up to the ones that stand in the ring (R202; log entry 8). -/
def State.cqDoorbell (s : State) (n : Nat) (v : Word32) : State :=
  let bad := (s.setFlag (RING_CQ_STAT.bad_db n)).raiseInst Ev.doorbellInvalid n
  if s.flag (RING_CQ_CFG.enable n) then
    let size := s.cqSize n
    let q := s.cq n
    let d := ringDist size v.toNat q.head
    if d ≤ s.cqLevel n then
      (s.setCq n { q with head := v.toNat % size, fullNow := q.fullNow && d == 0 }).setDoorbell (128 + n) v.toNat
    else bad
  else bad

/-- A point-ring doorbell write: accepted on the way from the present tail to head, inclusive (R206). -/
def State.prDoorbell (s : State) (n : Nat) (v : Word32) : State :=
  let bad := (s.setFlag (RING_PR_STAT.bad_db n)).raiseInst Ev.doorbellInvalid n
  if s.flag (RING_PR_CFG.enable n) && !(List.range 4).any (fun x =>
      s.flag (ETH_EXP_CFG.enable x) && s.get (ETH_EXP_CFG.ring x) == n) then
    let size := s.prSize n
    let d := ringDist size v.toNat (s.get (RING_PR_TAIL.index n))
    if d ≤ s.get (RING_PR_STAT.level n) then
      let s1 := (s.put (RING_PR_TAIL.index n) (v.toNat % size)).setPr n
        { s.pr n with fullNow := (s.pr n).fullNow && d == 0 }
      (s1.setDoorbell (256 + n) v.toNat).prLevel n
    else bad
  else bad

/-- Widths and rates the link supports (R184): x1, x4 and x8; speed codes 1 (2.5 GT/s) to 6 (64 GT/s). -/
def linkShape (width speed : Nat) : Bool := (width == 1 || width == 4 || width == 8) && decide (1 ≤ speed ∧ speed ≤ 6)

/-- The link trains (R184, R190, R224). -/
def State.linkTrain (s : State) (cxl : Bool) (width speed : Nat) (cxlMem : Bool) : State :=
  let degraded := !(width == 8 && speed == 6)
  let s1 := ((s.put RING_LINK_STAT.proto (if cxl then 2 else 1)).put RING_LINK_STAT.width width).put RING_LINK_STAT.speed speed
  let s2 := (s1.put RING_LINK_STAT.cxl_mem_en (bit (cxl && cxlMem))).put RING_LINK_STAT.degraded (bit degraded)
  let s3 := { s2 with host := { s2.host with linkUp := true } }
  (s3.raise Ev.linkUp 0 0).raiseIf degraded Ev.linkDegraded 0

/-- Every SQ and CQ is disabled, and every point ring that satisfies `sel` (R189, R190); the completion of a failed fetch of an SQ that
is disabled already goes with the others. -/
def State.disableRings (s : State) (sel : State → Nat → Bool) : State :=
  let s1 := (List.range 128).foldl (fun s n =>
    if s.flag (RING_SQ_CFG.enable n) || !(s.sq n).descs.isEmpty then s.sqDisable n else s) s
  let s2 := (List.range 128).foldl (fun s n => if s.flag (RING_CQ_CFG.enable n) then s.cqDisable n else s) s1
  (List.range 32).foldl (fun s n => if s.flag (RING_PR_CFG.enable n) && sel s n then s.prDisable n else s) s2

/-- What a function-level reset leaves of the point rings: whether the next export frame tells of a dropped packet (R189, R268). -/
def prKept (l : List (Nat × PrSt)) : List (Nat × PrSt) :=
  (l.filter (fun p => p.2.lossNext)).map (fun p => (p.1, { PrSt.init with lossNext := true }))

/-- A function-level reset (R189, R404): rings, the RING block but for the link and the event ring's present view, the BAR2
registers and the pop windows' holding copies. -/
def State.funcReset (s : State) : State :=
  let s1 := s.disableRings (fun _ _ => true)
  let link := s1.reg RING_LINK_STAT.addr
  let lvl := s1.get RING_EV_STAT.level
  let seq := s1.get RING_EV_STAT.next_seq
  let s2 := (s1.resetRange 0xB00000 0xC00000).resetRange 0x1000000 0x1010000
  let s3 := ((s2.setReg RING_LINK_STAT.addr link).setFlag RING_LINK_STAT.flr_seen)
  let s4 := (s3.put RING_EV_STAT.level lvl).put RING_EV_STAT.next_seq seq
  let s5 := { s4 with host := { HostSt.init with sbAddr := s4.host.sbAddr, linkUp := s4.host.linkUp, doorbells := s4.host.doorbells,
                                                 pr := prKept s4.host.pr },
                      ev := { s4.ev with hold := List.replicate 5 (List.replicate 32 0) } }
  s5.raise Ev.flr 0 0

/-- The fields of a descriptor held as one little-endian number (R194). -/
def Desc.byte (d : Desc) (i n : Nat) : Nat := bits d.words (8 * i) (8 * n)
def Desc.opcode (d : Desc) : Nat := d.byte 0 1
def Desc.fence (d : Desc) : Bool := bits d.words 8 1 == 1
def Desc.quiet (d : Desc) : Bool := bits d.words 9 1 == 1
def Desc.notify (d : Desc) : Bool := bits d.words 10 1 == 1
def Desc.cid (d : Desc) : Nat := d.byte 2 2
def Desc.len (d : Desc) : Nat := d.byte 4 4
def Desc.src (d : Desc) : Nat := d.byte 8 8
def Desc.dst (d : Desc) : Nat := d.byte 16 8

/-- Does a descriptor move data between the device and host memory (R196)? -/
def Desc.hostSide (d : Desc) : Bool :=
  (decide (d.opcode = 1) && (decide (d.byte 24 1 = 0) || decide (d.byte 25 1 = 0))) || (decide (d.opcode = 2) && decide (d.byte 32 1 = 0))

/-- Is a COPY or FILL under way? -/
def Desc.isMoving (d : Desc) : Bool :=
  match d.st with
  | .moving _ => true
  | _ => false

/-- completion-error for the descriptors of SQ `n` that end internally with host memory error (R190, R201). -/
def State.hostErrors (s : State) (n : Nat) (l : List Desc) : State :=
  (l.filter (fun d => d.isMoving && d.hostSide)).foldl (fun (s : State) _ => s.raiseInst Ev.completionError n) s

/-- The link is lost (R190): executing descriptors that touch host memory end with host memory error, and none writes a completion. -/
def State.linkLose (s : State) : State :=
  let s0 := s.host.sq.foldl (fun (s : State) p => s.hostErrors p.1 p.2.descs) s
  let s1 := s0.disableRings (fun s n => s.flag (RING_PR_CFG.loc n))
  let s2 := ((s1.put RING_LINK_STAT.proto 0).put RING_LINK_STAT.width 0).put RING_LINK_STAT.speed 0
  let s3 := ((s2.put RING_LINK_STAT.cxl_mem_en 0).put RING_LINK_STAT.degraded 0).setFlag RING_LINK_STAT.down_seen
  ({ s3 with host := { s3.host with linkUp := false } }).raise Ev.linkDown 0 0

/-- The bytes that R198 charges a descriptor: COPY and FILL their length, every other opcode 64. -/
def descCost (words : Nat) : Nat := if bits words 0 8 = 1 ∨ bits words 0 8 = 2 then bits words 32 32 else 64

/-- The address of entry `i` of an SQ in host memory. -/
def State.sqEntry (s : State) (n i : Nat) : Nat := s.get (RING_SQ_BASE.base n) * 4096 + 64 * i

/-- May SQ `n` have its next descriptor fetched (R193, R197, R204)? It holds at most as many as its credit (log entry 9). -/
def State.sqReady (s : State) (n : Nat) : Bool :=
  s.flag (RING_SQ_CFG.enable n) && !s.flag (RING_SQ_STAT.flushing n) && decide (0 < s.sqLevel n) &&
    decide ((s.sq n).descs.length < s.get (RING_SQ_CFG.credit_m1 n) + 1) &&
    !(s.sq n).descs.any (fun d => match d.st with | .waiting _ => true | _ => false)

/-- The first of `l` at or after `from`, in rotation. -/
def rotPick (l : List Nat) (start : Nat) : Option Nat :=
  match l.find? (fun n => decide (start ≤ n)) with
  | some n => some n
  | none => l.head?

/-- The weight of an SQ: 0 is used as 1. -/
def State.sqWeight (s : State) (n : Nat) : Nat := Nat.max 1 (s.get (RING_SQ_CFG.weight n))

/-- What the next descriptor of SQ `n` is charged (R198). -/
def State.sqCost (s : State) (n : Nat) : Nat := descCost (memNat s.hostMem (s.sqEntry n (s.get (RING_SQ_STAT.head n))) 64)

/-- Rounds of R198 until some ready normal SQ can pay for its next descriptor: the least number over the ready rings. -/
def State.sqRounds (s : State) (l : List Nat) : Nat :=
  (l.map (fun n => ((s.sqCost n : Int) - (s.sq n).deficit + (s.sqWeight n * 4096 - 1 : Nat)).toNat / (s.sqWeight n * 4096))).foldl Nat.min
    (2 ^ 32)

/-- The SQ that the ring engine serves next (R198): a ready high-priority ring in rotation, else a ready normal ring by
deficit round robin; the state with the quanta given (log entry 9). -/
def State.sqPick (s : State) : Option Nat × State :=
  let ready := (List.range 128).filter (fun n => s.sqReady n)
  let high := ready.filter (fun n => s.flag (RING_SQ_CFG.prio n))
  let normal := ready.filter (fun n => !s.flag (RING_SQ_CFG.prio n))
  match rotPick high ((s.host.lastHigh + 1) % 128) with
  | some n => (some n, s)
  | none =>
    let r := s.sqRounds normal
    let s1 := normal.foldl (fun s n =>
      s.setSq n { s.sq n with deficit := (s.sq n).deficit + ((r * s.sqWeight n * 4096 : Nat) : Int) }) s
    (rotPick (normal.filter (fun n => decide ((s.sqCost n : Int) ≤ (s1.sq n).deficit))) s.host.lastSq, s1)

/-- The descriptor with tag instance `inst` has ended, after all that ended before (R202). -/
def State.descEnded (s : State) (inst : Nat) : State := { s with host := { s.host with ends := s.host.ends ++ [inst] } }

/-- The descriptor that stands for a failed fetch: cid 0xFFFF (R200). -/
def failedDesc (inst : Nat) : Desc := ⟨0xFFFF0000, inst, .done 6 0, false⟩

/-- The ring engine fetches a descriptor (R193, R198); one that has nothing left to fetch keeps no deficit. -/
def State.descFetch (s : State) (ok : Bool) : State :=
  match s.sqPick with
  | (none, _) => s
  | (some n, s1) =>
    let inst := s1.hub.nextInst
    let h := s1.get (RING_SQ_STAT.head n)
    let w := memNat s1.hostMem (s1.sqEntry n h) 64
    let high := s1.flag (RING_SQ_CFG.prio n)
    let s3 := { s1 with host := { s1.host with lastSq := if high then s1.host.lastSq else n,
                                               lastHigh := if high then n else s1.host.lastHigh },
                        hub := { s1.hub with nextInst := inst + 1 } }
    let q := s3.sq n
    if ok then
      let paid : Int := if high then q.deficit else q.deficit - (descCost w : Nat)
      ((s3.setSq n { q with descs := q.descs ++ [⟨w, inst, .fetched, false⟩], deficit := if s1.sqLevel n = 1 then 0 else paid }).put
        (RING_SQ_STAT.head n) ((h + 1) % s3.sqSize n)).hubWrite (descBuf inst) 64
    else
      let s4 := (((s3.dropDescs q.descs).setSq n { SqSt.init with descs := [failedDesc inst] }).put (RING_SQ_STAT.in_flight n) 0).descEnded
        inst
      ((s4.setFlag (RING_SQ_STAT.fetch_err n)).clearFlag (RING_SQ_CFG.enable n)).raiseInst Ev.descriptorFetchError n

/-- The CQ that SQ `n` completes into. -/
def State.sqCq (s : State) (n : Nat) : Nat := s.get (RING_SQ_CFG.cq n)

/-- The 16 bytes of a completion entry (R200). -/
def cqEntry (cid head result sq status phase : Nat) : List Byte :=
  toLE 2 cid ++ toLE 2 head ++ toLE 4 result ++ toLE 1 (sq % 128) ++ toLE 1 status ++ toLE 5 0 ++ toLE 1 phase

/-- The CQ's notice (R203). -/
def State.cqNotice (s : State) (c : Nat) : State :=
  if s.flag (RING_CQ_CFG.irq_en c) then
    (s.setCq c { s.cq c with unnoticed := 0 }).emit (.msix (s.get (RING_CQ_CFG.vector c)))
  else s

/-- Has CQ `c` room for an entry (R191, R202)? A disabled ring takes none. -/
def State.cqRoom (s : State) (c : Nat) : Bool :=
  s.flag (RING_CQ_CFG.enable c) && decide (s.cqLevel c < s.cqSize c - 1)

/-- A CQ becomes full: full_seen sets and cq-full is raised once for each filling (R202). -/
def State.cqFull (s : State) (c : Nat) : State :=
  let first := !(s.cq c).fullNow
  ((s.setFlag (RING_CQ_STAT.full_seen c)).setCq c { s.cq c with fullNow := true }).raiseIf first Ev.cqFull c

/-- An entry goes into CQ `c`, which has room (R202, R203). -/
def State.cqWrite (s : State) (c : Nat) (cid sq result status : Nat) (notify : Bool) : State :=
  let t := s.get (RING_CQ_STAT.tail c)
  let ph := s.get (RING_CQ_STAT.phase c)
  let e := cqEntry cid (s.get (RING_SQ_STAT.head sq)) result sq status ph
  let s1 := { s with hostMem := memStore s.hostMem (s.get (RING_CQ_BASE.base c) * 4096 + 16 * t) e }
  let t' := (t + 1) % s.cqSize c
  let s2 := (s1.put (RING_CQ_STAT.tail c) t').put (RING_CQ_STAT.phase c) (if t' = 0 then 1 - ph else ph)
  let un := (s2.cq c).unnoticed + 1
  let s3 := s2.setCq c { s2.cq c with unnoticed := un }
  let s4 := s3.when (s3.cqLevel c == s3.cqSize c - 1) (fun s => s.cqFull c)
  if notify || decide (Nat.max 1 (s.get (RING_CQ_MOD.ent_thresh c)) ≤ un) then s4.cqNotice c else s4

/-- Is the descriptor done, and with what? -/
def Desc.result? (d : Desc) : Option (Nat × Nat) :=
  match d.st with
  | .done status result => some (status, result)
  | _ => none

/-- Does descriptor `d` end without a completion entry: with success, and quiet set (R194)? -/
def Desc.silent (d : Desc) : Bool := d.quiet && (match d.result? with | some (status, _) => decide (status = 0) | none => false)

/-- Is the descriptor with tag instance `i` one whose entry goes into CQ `c`? -/
def State.endsInto (s : State) (c i : Nat) : Bool :=
  s.host.sq.any (fun p => decide (s.sqCq p.1 = c) && p.2.descs.any (fun d => d.inst == i && !d.silent))

/-- May descriptor `d`, which has ended and completes into CQ `c`, complete now: there is room, and every descriptor that ended before it
has its entry (R202)? -/
def State.mayComplete (s : State) (c : Nat) (d : Desc) : Bool :=
  d.silent || (s.cqRoom c && s.host.ends.find? (fun i => s.endsInto c i) == some d.inst)

/-- The descriptor of SQ `n` that completes next: of those that have ended, in the order in which they ended, the first that may. -/
def State.nextComplete (s : State) (n : Nat) : Option Desc :=
  (s.host.ends.filterMap (fun i => (s.sq n).descs.find? (fun d => d.inst == i))).find? (fun d => s.mayComplete (s.sqCq n) d)

/-- A completed descriptor of SQ `n` is written to its CQ once there is room, and gives back tag and credit (R199, R202). -/
def State.descComplete (s : State) (n : Nat) : State :=
  match s.nextComplete n with
  | none => s
  | some d =>
    match d.result? with
    | none => s
    | some (status, result) =>
      let c := s.sqCq n
      let s1 := if d.silent then s else s.cqWrite c d.cid n result status d.notify
      let s2 := (s1.dropDescs [d]).put (RING_SQ_STAT.in_flight n) (s1.get (RING_SQ_STAT.in_flight n) - bit d.started)
      let s3 := s2.setSq n { s2.sq n with descs := (s2.sq n).descs.filter (fun x => !(x.inst == d.inst)) }
      s3.raiseIf (!(status == 0) && !(status == 0xB)) Ev.completionError n

/-- tmo_us has passed since the first entry not yet noticed (R203). -/
def State.cqTimer (s : State) (c : Nat) : State :=
  if 0 < s.get (RING_CQ_MOD.tmo_us c) ∧ 0 < (s.cq c).unnoticed then s.cqNotice c else s

/-- A write of flush = 1 to an SQ (R204). A COPY or FILL under way goes on to its next 64-byte boundary; a second write while the first
flush runs does nothing. -/
def State.sqFlush (s : State) (n : Nat) : State :=
  if s.flag (RING_SQ_CFG.enable n) && !s.flag (RING_SQ_STAT.flushing n) then
    let q := s.sq n
    let started := q.descs.filter (fun d => !decide (d.st = .fetched))
    let unstarted := q.descs.filter (fun d => decide (d.st = .fetched))
    let now := started.filter (fun d => !d.result?.isSome && !d.isMoving)
    let ended := started.map (fun d => if now.contains d then { d with st := .done 5 0 } else d)
    let s1 := now.foldl (fun (s : State) d => s.descEnded d.inst) (s.dropDescs unstarted)
    let s2 := s1.setSq n { q with descs := ended, discarded := unstarted.length }
    (s2.setFlag (RING_SQ_CTL.flush n)).setFlag (RING_SQ_STAT.flushing n)
  else s

/-- Nothing of the flushed SQ executes any more: the flush completion is written, with the descriptors between head and the accepted tail
among the discarded, and head moves to tail (R204). -/
def State.sqFlushDone (s : State) (n : Nat) : State :=
  let q := s.sq n
  let c := s.sqCq n
  if s.flag (RING_SQ_STAT.flushing n) && q.descs.isEmpty then
    if s.cqRoom c then
      let s1 := s.cqWrite c 0xFFFF n (q.discarded + s.sqLevel n) 0xB false
      let s2 := (s1.setSq n { q with discarded := 0 }).put (RING_SQ_STAT.head n) q.tail
      (s2.clearFlag (RING_SQ_CTL.flush n)).clearFlag (RING_SQ_STAT.flushing n)
    else s
  else s

/-- Writes the head word of a point ring (R208). -/
def State.headWord (s : State) (n : Nat) : State :=
  let p := s.pr n
  let w := s.get (RING_PR_HEAD.index n) + p.flushGen % 65536 * 2 ^ 32 + bit p.truncNext * 2 ^ 48
  let a := s.get (RING_PR_WB.address n) * 8
  if a = 0 then s.setPr n { p with headMoved := false }
  else
    let s1 := s.setPr n { p with headMoved := false, truncNext := false }
    { s1 with hostMem := memStore s1.hostMem a (toLE 8 w) }

/-- A point ring's notice, behind the head word it follows (R208, R209). -/
def State.prNotice (s : State) (n : Nat) : State :=
  let s1 := s.headWord n
  (s1.setPr n { s1.pr n with unnoticed := 0 }).emit (.msix (s.get (RING_PR_CFG.vector n)))

/-- The level limit of a point ring (R206): quota, held to size - 1; 0 stands for size - 1. -/
def State.prLimit (s : State) (n : Nat) : Nat :=
  let q := s.get (RING_PR_QUOTA.quota n)
  if q = 0 then s.prSize n - 1 else Nat.min q (s.prSize n - 1)

/-- Stores one record of a point ring at index `i` (R205). -/
def State.prStore (s : State) (n i : Nat) (rec : List Byte) : State :=
  let a := s.get (RING_PR_BASE.base n) * 4096 + 32 * i
  if s.flag (RING_PR_CFG.loc n) then { s with hostMem := memStore s.hostMem a rec }
  else s.devWrite a 0 s.pulseTag rec

/-- Stores the records of a packet from index `i` on. -/
def State.prStoreAll (s : State) (n i : Nat) : List (List Byte) → State
  | [] => s
  | r :: t => (s.prStore n i r).prStoreAll n ((i + 1) % s.prSize n) t

/-- A packet meets a ring it does not fit: it is dropped whole (R206). -/
def State.prDrop (s : State) (n : Nat) : State :=
  let first := !(s.pr n).fullNow
  let s1 := (s.bump (RING_PR_CNT.dropped_full n)).setFlag (RING_PR_STAT.full_seen n)
  (s1.setPr n { s1.pr n with fullNow := true, lossNext := true }).raiseIf first Ev.pointRingFull n

/-- The export that is enabled for ring `n` (R267). -/
def State.exportOf (s : State) (n : Nat) : Option Nat :=
  (List.range 4).find? (fun x => s.flag (ETH_EXP_CFG.enable x) && s.get (ETH_EXP_CFG.ring x) == n)

/-- The level of an exported ring, `old` before, reaches 3/4 of its size (R267). -/
def State.backlog (s : State) (n old : Nat) : State :=
  match s.exportOf n with
  | some x => s.raiseIf (decide (4 * old < 3 * s.prSize n ∧ 3 * s.prSize n ≤ 4 * s.get (RING_PR_STAT.level n))) Ev.exportBacklog
      (s.get (ETH_EXP_CFG.port x))
  | none => s

/-- The point writer writes a packet to ring `n` (R205 to R209); `held` says that the store of writes waiting for link
credit is full. -/
def State.prPacket (s : State) (n : Nat) (recs : List (List Byte)) (held : Bool) : State :=
  if s.flag (RING_PR_CFG.enable n) then
    if s.get (RING_PR_STAT.level n) + recs.length ≤ s.prLimit n ∧ ¬(s.flag (RING_PR_CFG.loc n) ∧ held) then
      let h := s.get (RING_PR_HEAD.index n)
      let s1 := (s.prStoreAll n h recs).put (RING_PR_HEAD.index n) ((h + recs.length) % s.prSize n)
      let s2 := (s1.incr (RING_PR_CNT.packets n)).prLevel n
      let un := (s2.pr n).unnoticed + 1
      let s3 := (s2.setPr n { s2.pr n with unnoticed := un, headMoved := true, fullNow := false }).backlog n (s.get (RING_PR_STAT.level n))
      if s3.flag (RING_PR_CFG.irq_en n) && decide (Nat.max 1 (s3.get (RING_PR_MOD.pkt_thresh n)) ≤ un) then s3.prNotice n else s3
    else s.prDrop n
  else (s.bump (RING_PR_CNT.dropped_full n)).setPr n { s.pr n with lossNext := true }

/-- tmo_us has passed since the first packet not yet noticed (R209). -/
def State.prTimer (s : State) (n : Nat) : State :=
  if s.flag (RING_PR_CFG.irq_en n) && decide (0 < s.get (RING_PR_MOD.tmo_us n)) && decide (0 < (s.pr n).unnoticed) then s.prNotice n
  else s

/-- A quota write (R207); one that makes room ends the filling of R206. -/
def State.prQuota (s : State) (n : Nat) (v : Nat) : State :=
  let s1 := s.put (RING_PR_QUOTA.quota n) v
  let cut := decide (s1.prLimit n < s1.get (RING_PR_STAT.level n))
  let room := decide (s1.get (RING_PR_STAT.level n) < s1.prLimit n)
  let s1 := s1.setPr n { s1.pr n with fullNow := (s1.pr n).fullNow && !room }
  (s1.when cut (fun s => s.setFlag (RING_PR_STAT.quota_cut n))).raiseIf cut Ev.pointQuotaCut n

/-- The point writer's output without the packet at its front, if that is one for ring `n` (R211). -/
def State.prAbandon (s : State) (n : Nat) : Bool × State :=
  match s.echo.out with
  | (m, _) :: l => if m = n then (true, { s with echo := { s.echo with out := l } }) else (false, s)
  | [] => (false, s)

/-- A write of flush = 1 to a point ring (R211); `partly` says that the point writer has begun to write its present packet, which is
abandoned where it is one of this ring. -/
def State.prFlush (s : State) (n : Nat) (partly : Bool) : State :=
  if s.flag (RING_PR_CFG.enable n) then
    let r := if partly then s.prAbandon n else (false, s)
    let s1 := (r.2.put (RING_PR_TAIL.index n) (s.get (RING_PR_HEAD.index n))).prLevel n
    let s2 := s1.when r.1 (fun s => s.bump (RING_PR_CNT.truncated n))
    let p := s2.pr n
    (s2.setPr n { p with flushGen := (p.flushGen + 1) % 65536, truncNext := p.truncNext || r.1, fullNow := false }).raiseInst
      Ev.pointRingFlushed n
  else s

/-- The commands of this file. -/
def execLinkUp (cxl : Bool) (width : Fin 16) (speed : Fin 16) (cxlMem : Bool) (s : State) : Res :=
  .next (if linkShape width speed then s.linkTrain cxl width speed cxlMem else s)
def execLinkDown (s : State) : Res := .next s.linkLose
def execFlr (s : State) : Res := .next s.funcReset
def execRingCfgWrite (r : RingSel) (v : Word32) (s : State) : Res := .next (s.ringCfgWrite r v)
def execSqDoorbell (n : Fin 128) (v : Word32) (s : State) : Res := .next (s.sqDoorbell n v)
def execCqDoorbell (n : Fin 128) (v : Word32) (s : State) : Res := .next (s.cqDoorbell n v)
def execPrDoorbell (n : Fin 32) (v : Word32) (s : State) : Res := .next (s.prDoorbell n v)
def execDescriptorFetch (ok : Bool) (s : State) : Res := .next (s.descFetch ok)
def execDescriptorComplete (n : Fin 128) (s : State) : Res := .next (s.descComplete n)
def execCqNoticeTimer (n : Fin 128) (s : State) : Res := .next (s.cqTimer n)
def execSqFlush (n : Fin 128) (s : State) : Res := .next (s.sqFlush n)
def execSqFlushDone (n : Fin 128) (s : State) : Res := .next (s.sqFlushDone n)
def execPrQuotaWrite (n : Fin 32) (v : BitVec 28) (s : State) : Res := .next (s.prQuota n v.toNat)
/-- At least every 100 µs while head is moving (R208). -/
def execHeadWordWrite (n : Fin 32) (s : State) : Res := .next (if (s.pr n).headMoved then s.headWord n else s)
def execPrNoticeTimer (n : Fin 32) (s : State) : Res := .next (s.prTimer n)
def execPrFlush (n : Fin 32) (partly : Bool) (s : State) : Res := .next (s.prFlush n partly)
/-- A read of the pop window (R212): with byte 0 it pops; the read returns the bytes it covers. -/
def execEventPop (p : Port) (off : Fin 32) (len : Fin 33) (s : State) : Res := .next <| s.viaPort p fun s =>
  let s1 := if off.val = 0 ∧ 0 < len.val then s.evPop p else s
  s1.emit (.popData p (((s1.ev.hold.getD (portIx p) []).drop off).take len))
/-- The waiting overflow record enters once a pop has freed a slot (R403). -/
def execOverflowRecordEnter (s : State) : Res :=
  .next (match s.ev.waiting with
    | none => s
    | some r =>
      if s.ev.ring.length < 1024 then
        (({ s with ev := { s.ev with waiting := none } }).evInsert r (s.get (EVT_SRC_CFG.vector r.src)) true).raiseWatermark
      else s)

end Sys2Proof.Machine
end

