-- ==== Sys2Proof/Machine/Modes.lean ====
section
/-! DEFINITION. Operating modes, the stop of firing, safety grants and the safety fault: the operations that many commands
share (R50, R278 to R295, R300 to R302). -/

namespace Sys2Proof.Machine

/-- The present mode (R300). -/
def State.mode (s : State) : Nat := s.get HUB_MODE_STAT.mode

/-- SCAN-PAIRED, SCAN-SOLO, SCAN-SLICED and HANDOVER (R285). -/
def isScan (m : Nat) : Bool := decide (5 ≤ m ∧ m ≤ 8)

/-- The modes in which the generator fires (R50). -/
def modeFires (m : Nat) : Bool := isScan m || decide (m = 4) || decide (m = 11)

/-- A little-endian number of `n` bytes at byte `i` of a safety table (R282). -/
def tblNat (l : List Byte) (i n : Nat) : Nat := ofLE ((l.drop i).take n)

/-- Byte `i` of a list of bytes. -/
def tblByte (l : List Byte) (i : Nat) : Nat := (l.getD i 0).toNat

/-- The first byte of zone entry `z` of set `k` (R282, R283). -/
def zoneAt (k z : Nat) : Nat := 64 + 4640 * k + 32 + 144 * z

/-- A channel of the safety function. -/
def State.chanOf (s : State) : SafSel → SafChan
  | .sp => s.saf.sp
  | .snf => s.saf.snf

def State.setChanOf (s : State) (c : SafSel) (x : SafChan) : State :=
  match c with
  | .sp => { s with saf := { s.saf with sp := x } }
  | .snf => { s with saf := { s.saf with snf := x } }

/-- One zone of a channel. -/
def SafChan.zone (c : SafChan) (k z : Nat) : ZoneSt := tabGet (fun _ => ZoneSt.init) c.zones (32 * k + z)

/-- A time in milliseconds, in units of device time. -/
def msUnits (n : Nat) : Nat := n * 1000 * usUnits

/-- switch_ms of a table (R282). -/
def tblSwitch (l : List Byte) : Nat := tblNat l 14 2

/-- The spans from the one at device time `t` on, newest first (R286). -/
def spansAt (t : Nat) : List ZoneSpan → List ZoneSpan
  | [] => []
  | [x] => [x]
  | x :: l => if modGe 64 t x.start then x :: l else spansAt t l

/-- The spans that a cell can still need once device time has gone on by `d`: a cell's shots lie within the last minute (log entry 190). -/
def keepSpans (now d : Nat) : List ZoneSpan → List ZoneSpan
  | [] => []
  | x :: l => if laterThan now x.start + (d : Int) ≤ ((msUnits 60000 : Nat) : Int) then x :: keepSpans now d l else [x]

/-- The zones of a channel without the occupied evaluations that no window reaches any more once device time has gone on by `d` (R284): the
longest window is 65.535 s. -/
def zonesAge (now d : Nat) (l : List (Nat × ZoneSt)) : List (Nat × ZoneSt) :=
  l.foldl (fun m p => tabSet (fun _ => ZoneSt.init) m p.1
    { p.2 with occTimes := p.2.occTimes.filter (fun u => decide (laterThan now u + (d : Int) ≤ ((msUnits 200000 : Nat) : Int))) }) []

/-- What a channel holds of the past, once device time has gone on by `d`. -/
def SafChan.age (now d : Nat) (x : SafChan) : SafChan :=
  { x with zones := zonesAge now d x.zones, olds := x.olds.map (fun o => { o with zones := zonesAge now d o.zones }), stepped := [] }

/-- Times of long ago go, before the modular comparison of R165 would take them for times to come: device time goes on by `d`. -/
def State.marksAge (s : State) (d : Nat) : State :=
  let young := fun (u : Nat) => decide (laterThan s.now u + (d : Int) ≤ ((msUnits 60000 : Nat) : Int))
  { s with
    time := { s.time with warmLog := s.time.warmLog.filter young }
    saf := { s.saf with spans := keepSpans s.now d s.saf.spans, sp := s.saf.sp.age s.now d, snf := s.saf.snf.age s.now d,
                        blindAt := s.saf.blindAt.filter young } }

/-- The first shots of the cells that are fired and whose markers are still to come, and of those that wait in a channel (R281). -/
def State.openFirsts (s : State) (x : SafChan) : List Nat :=
  uniq (s.fire.cells.map (fun c => c.firstS) ++ s.echo.closes.map (fun c => c.cell.tFirst) ++ x.closed.map (fun c => c.firstShot))

/-- A channel keeps, for the cells fired before a time step, the spans that they belong to (R286). -/
def State.stepPins (s : State) (x : SafChan) : SafChan :=
  let l := (s.openFirsts x).filter (fun t => !x.stepped.any (fun p => p.1 == t))
  { x with stepped := ((l.map (fun t => (t, spansAt t s.saf.spans))) ++ x.stepped).take 64 }

/-- What cells fired before a time step by `d` still need is settled before it (R168, R170, R286), and the boundaries move with the time
scale, so that the cells fired after it lie behind them (log entry 212). -/
def State.marksStep (s : State) (d : Int) : State :=
  { s with
    fire := { s.fire with cells := s.fire.cells.map (fun c => { c with cold := some (s.cellCold c) }) }
    time := { s.time with warmLog := [] }
    saf := { s.saf with spans := s.saf.spans.map (fun x => { x with start := toField 64 ((x.start : Int) + d) }),
                        sp := s.stepPins s.saf.sp, snf := s.stepPins s.saf.snf } }

/-- The sets that are evaluated at device time `t` of the first span: its own, and through each overlap of `win` ms the one before (R286). -/
def overlapSets (t win : Nat) : List ZoneSpan → List Nat
  | [] => []
  | [x] => [x.set]
  | x :: y :: l => x.set :: (if x.gen = y.gen ∧ timeDiff t x.start < msUnits win then overlapSets t win (y :: l) else [])

/-- The sets being evaluated (R286): the active one, and during the overlap the old one too. -/
def State.setsNow (s : State) : List Nat :=
  let a := s.get SAF_STAT.active_set
  match s.saf.spans with
  | x :: y :: l =>
    if s.flag SAF_STAT.switching && decide (x.gen = y.gen) then uniq (a :: overlapSets s.now (tblSwitch s.saf.snf.table) (y :: l)) else [a]
  | _ => [a]

/-- Is a protective zone bound to the pair violated in a set being evaluated (R285)? -/
def State.zoneHolds (s : State) (c : SafSel) (p : Pair) : Bool :=
  let x := s.chanOf c
  s.setsNow.any (fun k => (List.range (tblByte x.table (64 + 4640 * k))).any (fun z =>
    let kind := tblByte x.table (zoneAt k z)
    decide (kind % 2 = 1) && decide (bits kind (match p with | .a => 1 | .b => 2) 1 = 1) && (x.zone k z).viol))

/-- Every receive connection that the pair binds is Open (R285), by a frame that the channels have accepted too (R287). -/
def State.qslOpen (s : State) (c : SafSel) (p : Pair) : Bool :=
  let m := tblByte (s.chanOf c).table (match p with | .a => 30 | .b => 31)
  (List.range 8).all (fun i => decide (bits m i 1 = 0) || (decide (s.get (QSL_RX_STAT.state i) = 2) && s.saf.qslTaken.getD i false))

/-- The conditions of R285 for a channel's grant of a pair, but for the restart delay; in PILOT-LIGHT those of R315. -/
def State.grantCond (s : State) (c : SafSel) (p : Pair) : Bool :=
  let base := !s.saf.latched && !s.flag SAF_STAT.lockout && !(s.chanOf c).table.isEmpty && s.qslOpen c p
  if s.mode = 9 then
    base && decide (p = .a) && (match c with | .snf => !s.snf.pilotOccupied | .sp => s.snf.pilotMsg)
  else
    base && isScan s.mode && decide (s.get SAF_STAT.active_set < tblByte (s.chanOf c).table 1) && !s.zoneHolds c p

/-- The register bit of a grant. -/
def grantBit (c : SafSel) (p : Pair) : FRef :=
  match c, p with
  | .sp, .a => SAF_STAT.sp_grant_a
  | .sp, .b => SAF_STAT.sp_grant_b
  | .snf, .a => SAF_STAT.snf_grant_a
  | .snf, .b => SAF_STAT.snf_grant_b

def permBit : Pair → FRef
  | .a => SAF_STAT.perm_a
  | .b => SAF_STAT.perm_b

def pairIx : Pair → Nat
  | .a => 0
  | .b => 1

/-- Is the pair on: both channels grant it and the permission clock holds its switch (R278, R279)? -/
def State.permOn (s : State) (p : Pair) : Bool :=
  s.flag (grantBit .sp p) && s.flag (grantBit .snf p) && !s.saf.clockStopped.getD (pairIx p) false && !s.saf.latched

/-- The test-pulse phase of a pair's outputs starts (R291, R298). -/
def State.pulseStart (s : State) (p : Pair) : State :=
  { s with saf := { s.saf with pulse := (s.saf.pulse.set (2 * pairIx p) false).set (2 * pairIx p + 1) false } }

/-- The event of a pair's outputs going off (R291). -/
def offEvent : Pair → Nat
  | .a => Ev.outputAOff
  | .b => Ev.outputBOff

/-- A pair follows its grants: each fall raises its event, each rise starts the test-pulse phase. -/
def State.permUpdate (s : State) (p : Pair) : State :=
  let on := s.permOn p
  let was := s.flag (permBit p)
  ((s.put (permBit p) (bit on)).when (on && !was) (fun s => s.pulseStart p)).raiseIf (was && !on) (offEvent p) 0

/-- A channel's grant of a pair is withdrawn when a condition of it no longer holds (R285). -/
def State.grantRecheck (s : State) (c : SafSel) (p : Pair) : State := if s.grantCond c p then s else s.clearFlag (grantBit c p)

/-- Every grant is held to its conditions, and the pairs follow. -/
def State.grantsCheck (s : State) : State :=
  let s1 := (((s.grantRecheck .sp .a).grantRecheck .sp .b).grantRecheck .snf .a).grantRecheck .snf .b
  (s1.permUpdate .a).permUpdate .b

/-- Every grant is withdrawn. -/
def State.grantsDrop (s : State) : State :=
  let s1 := (((s.clearFlag SAF_STAT.sp_grant_a).clearFlag SAF_STAT.sp_grant_b).clearFlag SAF_STAT.snf_grant_a).clearFlag
    SAF_STAT.snf_grant_b
  (s1.permUpdate .a).permUpdate .b

/-- Lock-out, in SAF_STAT and in its copy in HUB_MODE_STAT (R294, R302). -/
def State.setLockout (s : State) (b : Bool) : State := (s.put SAF_STAT.lockout (bit b)).put HUB_MODE_STAT.lockout (bit b)

/-- FIRE drives SYNC_OUT with a pulse at `t` while it owns the pin (R51). -/
def State.syncOutPulse (s : State) (t : Nat) : State := if s.holds 1 0x02 then s.emit (.syncOut t) else s

/-- The entries' pulses whose S has come are driven, in their order (R51; log entry 206). -/
def State.syncFlush (s : State) : State :=
  let came := fun (t : Nat) => modGe 64 s.now t
  let s1 := { s with fire := { s.fire with syncDue := s.fire.syncDue.filter (fun t => !came t) } }
  (s.fire.syncDue.filter came).foldl State.syncOutPulse s1

/-- The generator is off: firing has stopped, no claim on SYNC_OUT (R50, R409); pulses whose S has not come are not driven (R51). -/
def State.fireOff (s0 : State) : State :=
  let s := s0.syncFlush
  let f := s.fire
  let s1 := { s with fire := { f with engaged := false, stopReq := false, validRun := false, enumerating := false,
                                      firstFrame := false, latch := none, latchUsed := false, startNow := none,
                                      phase := .off, startPending := false, oldBuf := none, syncDue := [] } }
  let s2 := ((s1.clearFlag FIRE_FRAME_CTL.run).clearFlag FIRE_FRAME_STAT.running).clearFlag FIRE_FRAME_STAT.start_latched
  s2.unclaim 1 0x02

/-- A cell is open from its first entry until every entry has been noticed or suppressed (R45). -/
def State.cellOpen (s : State) : Bool := s.fire.cells.any (fun c => decide (c.seen < c.planned))

/-- The stop at a boundary is decided (R50, R429): nothing more is committed, and firing lasts until the boundary. -/
def State.fireStop (s : State) : State :=
  let s1 := { s with fire := { s.fire with stopReq := false, latch := none, latchUsed := false, startNow := none, phase := .stopping } }
  s1.clearFlag FIRE_FRAME_STAT.start_latched

/-- Firing is asked to stop (R50, R302): with no frame in progress or committed to it is over at once; otherwise it stops at the next
boundary. -/
def State.stopAsk (s : State) : State :=
  match s.fire.phase with
  | .off => s.fireOff
  | .waiting => if s.flag FIRE_FRAME_STAT.running then { s with fire := { s.fire with stopReq := true } } else s.fireOff
  | .frame => { s with fire := { s.fire with stopReq := true } }
  | .stopping => s

/-- No strobe is placed later than 1 µs after the detection (R50): shots that have not fired go, and every open cell is
dropped with reason 5 (R126). -/
def State.fireKill (s : State) : State :=
  let s1 := s.fireOff
  let s2 := { s1 with fire := { s1.fire with committed := [], shots := s1.fire.shots.filter (fun (x : Shot) => !x.unstruck) } }
  let s3 := (List.range 6).foldl (fun s t => s.killCells t 5) s2
  { s3 with fire := { s3.fire with cells := [] } }

/-- Firing of every kind ends at once (R50): shots that are committed to and cells that are open go with it. -/
def State.fireHalt (s : State) : State :=
  if s.fire.engaged ∨ s.fire.pending ∨ s.cellOpen then s.fireKill else s.clearFlag FIRE_FRAME_CTL.run

/-- The descriptor of SQ `n` with tag instance `inst`. -/
def State.descOf (s : State) (n inst : Nat) : Option Desc := (s.sq n).descs.find? (fun d => d.inst == inst)

/-- That descriptor shows as ended, with a status and a result. -/
def State.descMark (s : State) (n inst status result : Nat) : State :=
  let q := s.sq n
  s.setSq n { q with descs := q.descs.map (fun d => if d.inst = inst then { d with st := .done status result } else d) }

/-- A descriptor that has not ended ends, with a status and a result (R200, R201). What its tag still waits for is its completion, or, of a
REG_WRITE, the responses to its writes (R202; log entry 222). -/
def State.descEnd (s : State) (n inst status result : Nat) : State :=
  match s.descOf n inst with
  | none => s
  | some d =>
    if d.result?.isSome then s
    else
      let s1 := (s.descMark n inst status result).descEnded inst
      if d.opcode = 3 then s1
      else { s1 with hub := { s1.hub with ops := s1.hub.ops.map (fun o => if o.inst = inst then { o with target := .host } else o) } }

/-- The bytes that a move has made before this turn. -/
def Desc.moved (d : Desc) : Nat :=
  match d.st with
  | .moving m => m
  | _ => 0

/-- Does descriptor `d` still wait for a response (R37): it executes, or it is a REG_WRITE whose writes are out (log entry 222)? -/
def Desc.outstanding (d : Desc) : Bool :=
  match d.st with
  | .fetched => false
  | .done status _ => decide (d.opcode = 3) && decide (status = 0)
  | _ => true

/-- The operation `o` fails with `status`: where it is a descriptor's that waits for a response, the descriptor ends so (R201). -/
def State.descFail (s : State) (status : Nat) (o : Op) : State :=
  if o.cls = 0 then
    match s.descOf o.port o.inst with
    | some d =>
      if d.result?.isSome then (if d.outstanding then s.descMark o.port o.inst status 0 else s)
      else s.descEnd o.port o.inst status d.moved
    | none => s
  else s

/-- A request for STANDBY that ends as denied no longer asks firing to stop; a write of run = 0 still does (R50, R301). -/
def State.requestDrop (s : State) : State :=
  { s with fire := { s.fire with stopReq := s.fire.stopReq && !s.flag FIRE_FRAME_CTL.run } }

/-- The mode request in progress ends (R301): `denied` with the mode that holds. -/
def State.modeReqEnd (s : State) (denied : Bool) : State :=
  let s1 := (s.clearFlag HUB_MODE_STAT.req_busy).put HUB_MODE_REQ.result s.mode
  let s2 := s1.when denied (fun s => s.requestDrop.setFlag HUB_MODE_REQ.denied)
  match s2.boot.modeReqBy with
  | none => s2
  | some (n, inst) =>
    ({ s2 with boot := { s2.boot with modeReqBy := none } }).descEnd n inst (if denied then 8 else 0) s2.mode

/-- The state of the pad selector in a mode while it is not blanked (R15). -/
def modeSel (m : Nat) : PadSel := if m = 9 then .snuffer else .hub

/-- Is the device that enters a SCAN mode now the one that leads (R325)? A peer that is in a SCAN mode already was first; one of which a
single heartbeat has said so enters together with this device, and then unit 0 leads (DEDUCED, log entry 224). -/
def State.leads (s : State) : Bool :=
  if s.twn.peer.elim false (fun h => isScan h.mode) && s.flag TWN_STAT.hb_valid then
    decide (s.twn.peerHbs ≤ 1) && !s.flag TWN_STAT.unit
  else true

/-- A handover ends with its mode; one that has switched changes the active cluster (R336, R337). -/
def State.handoverLeave (s : State) : State :=
  let act := s.get HUB_HO_STAT.active
  let act1 := if s.boot.hoStep = 4 then 1 - act else act
  ((({ s with boot := { s.boot with hoStep := 0 } }).put HUB_HO_STAT.active act1).clearFlag HUB_HO_STAT.busy).clearFlag HUB_HO_CTL.start

/-- A slice ends with its mode (R338). -/
def State.sliceLeave (s : State) : State :=
  (({ s with boot := { s.boot with sliceTile := none, sliceStep := 0 } }).clearFlag HUB_SLICE_STAT.busy).clearFlag HUB_SLICE_CTL.start

/-- What ends with the mode `old` that is left (R302). -/
def State.leaveService (s : State) (old : Nat) : State :=
  if old = 8 then s.handoverLeave else if old = 7 then s.sliceLeave else s

/-- The mode register at a change to mode `m`: last_mode and base_mode follow (R302). -/
def State.modeWrite (s : State) (m : Nat) : State :=
  let old := s.mode
  let base := if m = 7 ∨ m = 8 then (if old = 5 ∨ old = 6 then old else s.get HUB_MODE_STAT.base_mode) else 0
  ((s.put HUB_MODE_STAT.last_mode old).put HUB_MODE_STAT.mode m).put HUB_MODE_STAT.base_mode base

/-- The phase leader of a device that enters SCAN-PAIRED: the device that entered a SCAN mode first (R325, R328). -/
def State.modeLead (s : State) (old m : Nat) : State :=
  let s1 := if isScan m && !isScan old then { s with twn := { s.twn with scanHbs := 0, lead := s.leads } } else s
  if m = 5 ∧ old ≠ 7 ∧ old ≠ 8 then s1.put TWN_STAT.leader (bit s1.twn.lead) else s1

/-- PILOT-LIGHT is left: its cause is no longer shown (R312). -/
def State.modePilot (s : State) (old : Nat) : State :=
  if old = 9 then (s.clearFlag HUB_MODE_STAT.pilot_by_req).put HUB_MODE_STAT.pilot_cause 0 else s

/-- A state of the pad selector by number. -/
def padSelOf (n : Nat) : PadSel := if n % 3 = 0 then .hub else if n % 3 = 1 then .snuffer else .blanked

/-- The state of the pad selector in mode `m` while it is not blanked (R15); in FACTORY the factory program sets it, and the spec does not
say to which state: a free one (log entry 174). -/
def State.selFor (s : State) (m : Nat) : PadSel := if m = 11 then padSelOf s.fresh.1 else modeSel m

/-- The counter of free values after the selector has followed mode `m`. -/
def State.ctrFor (s : State) (m : Nat) : Nat := if m = 11 then s.fresh.2.freeCtr else s.freeCtr

/-- The pad selector follows the mode unless it is blanked (R15). -/
def State.modeSnuffer (s : State) (m : Nat) : State :=
  let sel := if s.snf.sel = .blanked then .blanked else s.selFor m
  { s with snf := { s.snf with sel := sel, pilotOn := s.snf.pilotOn && decide (m = 9) }, freeCtr := s.ctrFor m }

/-- Firing that the new mode does not allow ends (R50). -/
def State.modeFire (s : State) (m : Nat) : State := if modeFires m then s else s.fireHalt

/-- The mode changes (R300, R302): the mode register, then what ends with the old mode, the leader, the pad selector and firing, and
the grants are held to the new mode. -/
def State.enterMode (s : State) (m : Nat) : State :=
  let old := s.mode
  let s1 := (s.modeWrite m).leaveService (if m = old then 0 else old)
  ((((s1.modeLead old m).modePilot old).modeSnuffer m).modeFire m).grantsCheck

/-- A transition that no request made: it wins over a request in progress (R301). -/
def State.autoMode (s : State) (m : Nat) : State :=
  let s1 := s.enterMode m
  if s1.flag HUB_MODE_STAT.req_busy then s1.modeReqEnd true else s1

/-- PILOT-LIGHT is entered (R312, R313): hub strobes stop, Snuffer is connected and pulses TAPER_SYNC. -/
def State.enterPilot (s : State) (cause : Nat) (byReq : Bool) : State :=
  let s1 := if byReq then s.enterMode 9 else s.autoMode 9
  let s2 := (s1.put HUB_MODE_STAT.pilot_cause cause).put HUB_MODE_STAT.pilot_by_req (bit byReq)
  let s3 := { s2 with snf := { s2.snf with pilotOn := true, pilotBank := 0, pilotSeq := 0, pilotFails := 0, pilotAwait := false,
                                           pilotOccupied := true, pilotMsg := false } }
  (s3.emit (.taperSync true)).grantsCheck

/-- The first cause since the last accepted reset is kept with its time; later ones are counted (R293). -/
def State.faultNote (s : State) (cause info : Nat) : State :=
  if s.saf.latched then s.bump SAF_FAULT.later
  else (((s.put SAF_FAULT.cause cause).put SAF_FAULT.info info).put SAF_FAULT.later 0).put SAF_FAULT_TIME.time s.now

/-- SAFE is entered from every mode that R302 allows. -/
def State.faultMode (s : State) : State := if (1 ≤ s.mode ∧ s.mode ≤ 9) ∨ s.mode = 11 then s.autoMode 10 else s

/-- A fault of R293: both grants go, SAFE is entered from every mode that R302 allows, firing stops, the pad selector is
blanked and lock-out sets. -/
def State.safetyFault (s : State) (cause info : Nat) : State :=
  let s1 := s.faultNote cause info
  let s2 := { s1 with saf := { s1.saf with latched := true, lorAccepted := false }, snf := { s1.snf with sel := .blanked } }
  (((s2.setLockout true).grantsDrop).faultMode).raise Ev.safetyFault (cause + 256 * info) 0

/-- The conditions under which a solo device rejoins (R328). -/
def State.mayRejoin (s : State) : Bool :=
  s.flag TWN_STAT.hb_valid && s.flag TWN_STAT.epoch_match && s.twn.peer.elim false (fun h => isScan h.mode)

/-- Is a request for `target` allowed by the transition table (R301, R302)? -/
def State.modeAllowed (s : State) (target : Nat) : Bool :=
  let m := s.mode
  let locked := s.flag TIME_STAT.rpll_locked
  let free := !s.flag SAF_STAT.lockout
  if m = 3 then
    (decide (target = 4) && locked) || (decide (target = 6) && locked && free) ||
      (decide (target = 5) && locked && free && s.flag TWN_STAT.hb_valid)
  else if m = 4 then decide (target = 3)
  else if isScan m then
    decide (target = 3) || decide (target = 9) || (decide (m = 6) && decide (target = 5) && s.mayRejoin)
  else if m = 9 then decide (target = 3) && s.flag HUB_MODE_STAT.pilot_by_req
  else false

/-- Modes that no request enters (R301). -/
def modeBarred (t : Nat) : Bool := decide (t ≤ 2) || decide (t = 7) || decide (t = 8) || decide (t = 10) || decide (12 ≤ t)

/-- The outcome of a mode request. -/
inductive ReqOutcome where
  | done | denied | pending
  deriving DecidableEq, Repr

/-- A mode request from a firing mode to STANDBY waits for the next cell boundary; with no cell open and no shot to come the change is
made at once (R302). -/
def State.toStandby (s : State) : ReqOutcome × State :=
  if (s.fire.engaged && s.cellOpen) || s.fire.pending then (.pending, (s.setFlag HUB_MODE_STAT.req_busy).stopAsk)
  else (.done, (if s.fire.engaged then s.fireOff else s).enterMode 3)

/-- A mode request (R301); `who` names the descriptor that makes it. -/
def State.requestMode (s : State) (target : Nat) (who : Option (Nat × Nat)) : ReqOutcome × State :=
  if s.flag HUB_MODE_STAT.req_busy ∨ s.boot.hoWait = true ∨ modeBarred target then (.denied, s)
  else if target = s.mode then (.done, s)
  else if s.modeAllowed target then
    let r := if target = 3 then s.toStandby
      else if target = 9 then (.done, s.enterPilot 1 true)
      else (.done, (s.enterMode target).raiseIf (decide (s.mode = 6)) Ev.twinRejoined 0)
    match r.1 with
    | .pending => (.pending, { r.2 with boot := { r.2.boot with modeReqBy := who } })
    | o => (o, r.2)
  else (.denied, s)

end Sys2Proof.Machine
end

