-- ==== Sys2Proof/Machine/SafTable.lean ====
section
/-! DEFINITION. The safety table (R282, R283): its fields, the checks of R289 and the exact geometry of zones (R284). -/

namespace Sys2Proof.Machine

/-- Header fields of the safety table (R282). -/
def tblSets (t : List Byte) : Nat := tblByte t 1
def tblId (t : List Byte) : Nat := tblNat t 4 4
def tblLength (t : List Byte) : Nat := tblNat t 8 4
def tblSrc (t : List Byte) : Nat := tblByte t 12
def tblArg (t : List Byte) : Nat := tblByte t 13
def tblDciMode (t : List Byte) (n : Nat) : Nat := tblByte t (16 + n)
def tblDciDisc (t : List Byte) (n : Nat) : Nat := tblByte t (20 + n)
def tblBlind (t : List Byte) : Nat := tblByte t 32
def tblTwin (t : List Byte) : Bool := tblByte t 33 == 1
def tblCrc (t : List Byte) : Nat := tblNat t 60 4
/-- Zones of set `k` (R282). -/
def tblZones (t : List Byte) (k : Nat) : Nat := tblByte t (64 + 4640 * k)

/-- CRC-32 as in IEEE 802.3 (R282): reflected, initial 0xFFFF_FFFF, final inversion. -/
def crc32 (l : List Byte) : Nat := 0xFFFFFFFF - crcDown 0xEDB88320 0xFFFFFFFF l

/-- The bytes are all 0. -/
def allZero (l : List Byte) : Bool := l.all (fun b => b == 0)

/-- Fields of a zone entry (R283). -/
structure Zone where
  kind : Nat
  minPts : Nat
  persist : Nat
  banks : Nat
  win : Nat
  verts : List (Int × Int)
  deriving DecidableEq, Repr

/-- The vertices as (azimuth, range) (R283). -/
def zoneVerts (e : List Byte) : Nat → Nat → List (Int × Int)
  | _, 0 => []
  | v, n + 1 => (sx 20 (bits (tblNat e (16 + 8 * v) 8) 24 20), (bits (tblNat e (16 + 8 * v) 8) 0 24 : Nat)) :: zoneVerts e (v + 1) n

/-- The zone of an entry of 144 bytes. -/
def zoneOf (e : List Byte) : Zone :=
  ⟨tblByte e 0, tblByte e 1, tblByte e 2, tblNat e 4 8, tblNat e 12 2, zoneVerts e 0 (tblByte e 3)⟩

/-- The 144 bytes of zone `z` of set `k`. -/
def zoneBytes (t : List Byte) (k z : Nat) : List Byte := (t.drop (zoneAt k z)).take 144

/-- Zone `z` of set `k`. -/
def tblZone (t : List Byte) (k z : Nat) : Zone := zoneOf (zoneBytes t k z)

def Zone.protective (z : Zone) : Bool := z.kind % 2 == 1
def Zone.binds (z : Zone) (p : Pair) : Bool := bits z.kind (match p with | .a => 1 | .b => 2) 1 == 1
def Zone.countGated (z : Zone) : Bool := bits z.kind 3 1 == 1

/-- Twice the signed area of the triangle `a b c`. -/
def orient (a b c : Int × Int) : Int := (b.1 - a.1) * (c.2 - a.2) - (b.2 - a.2) * (c.1 - a.1)

/-- `p`, on the line through `a` and `b`, lies between them or on one of them. -/
def onSeg (a b p : Int × Int) : Bool :=
  decide (min a.1 b.1 ≤ p.1 ∧ p.1 ≤ max a.1 b.1 ∧ min a.2 b.2 ≤ p.2 ∧ p.2 ≤ max a.2 b.2)

/-- Two segments have a point in common. -/
def segMeet (a b c d : Int × Int) : Bool :=
  let o1 := (orient a b c).sign
  let o2 := (orient a b d).sign
  let o3 := (orient c d a).sign
  let o4 := (orient c d b).sign
  (decide (o1 ≠ o2) && decide (o3 ≠ o4)) || (decide (o1 = 0) && onSeg a b c) || (decide (o2 = 0) && onSeg a b d) ||
    (decide (o3 = 0) && onSeg c d a) || (decide (o4 = 0) && onSeg c d b)

/-- The edges of the closed chain, the last vertex joined to the first (R283). -/
def polyEdges (vs : List (Int × Int)) : List ((Int × Int) × (Int × Int)) :=
  match vs with
  | [] => []
  | v :: _ => vs.zip (vs.tail ++ [v])

/-- No vertex is repeated. -/
def distinctVerts : List (Int × Int) → Bool
  | [] => true
  | v :: l => !l.contains v && distinctVerts l

/-- Two consecutive edges meet only at their shared vertex: they do not fold back (R283). -/
def noFold (e f : (Int × Int) × (Int × Int)) : Bool :=
  let p := e.1
  let q := e.2
  let r := f.2
  decide (orient p q r ≠ 0) || decide ((p.1 - q.1) * (r.1 - q.1) + (p.2 - q.2) * (r.2 - q.2) < 0)

/-- A polygon is simple (R283). -/
def polySimple (vs : List (Int × Int)) : Bool :=
  let es := polyEdges vs
  let n := es.length
  let o : Int × Int := (0, 0)
  let at' := fun i => es.getD i (o, o)
  distinctVerts vs && (List.range n).all (fun i => noFold (at' i) (at' ((i + 1) % n))) &&
    (List.range n).all (fun i => (List.range n).all (fun j =>
      !(decide (i + 2 ≤ j) && !(i == 0 && j + 1 == n)) || !segMeet (at' i).1 (at' i).2 (at' j).1 (at' j).2))

/-- The azimuths span less than 180 degrees (R283): half of 2^20 units. -/
def polySpan (vs : List (Int × Int)) : Bool :=
  vs.all (fun a => vs.all (fun b => decide (a.1 - b.1 < 524288)))

/-- An edge has a point at azimuth `x` whose range lies in [lo, hi]. -/
def edgeHits (x lo hi : Int) (e : (Int × Int) × (Int × Int)) : Bool :=
  let a := if e.1.1 ≤ e.2.1 then e.1 else e.2
  let b := if e.1.1 ≤ e.2.1 then e.2 else e.1
  let d := b.1 - a.1
  if d = 0 then decide (a.1 = x ∧ min a.2 b.2 ≤ hi ∧ lo ≤ max a.2 b.2)
  else
    let y := a.2 * d + (b.2 - a.2) * (x - a.1)
    decide (a.1 ≤ x ∧ x ≤ b.1 ∧ lo * d ≤ y ∧ y ≤ hi * d)

/-- The half line from (x, y) towards greater range crosses the edge. -/
def edgeAbove (x y : Int) (e : (Int × Int) × (Int × Int)) : Bool :=
  let a := if e.1.1 ≤ e.2.1 then e.1 else e.2
  let b := if e.1.1 ≤ e.2.1 then e.2 else e.1
  decide (a.1 ≤ x ∧ x < b.1 ∧ y * (b.1 - a.1) < a.2 * (b.1 - a.1) + (b.2 - a.2) * (x - a.1))

/-- Some range in [r - m, r + m] at azimuth `x` lies inside the polygon or on its boundary (R284). -/
def polyHits (vs : List (Int × Int)) (x r m : Int) : Bool :=
  let es := polyEdges vs
  es.any (edgeHits x (r - m) (r + m)) || decide ((es.filter (edgeAbove x (r - m))).length % 2 = 1)

/-- A zone entry passes the range checks of R283. -/
def zoneFieldsOk (e : List Byte) : Bool :=
  let n := tblByte e 3
  decide (tblByte e 0 < 16) && (decide (tblByte e 0 % 2 = 1) || decide (bits (tblByte e 0) 1 2 = 0)) &&
    decide (1 ≤ tblByte e 1) && decide (1 ≤ tblByte e 2 ∧ tblByte e 2 ≤ 8) && decide (3 ≤ n ∧ n ≤ 16) &&
    decide (1 ≤ tblNat e 12 2) && decide (tblNat e 14 2 = 0) && allZero ((e.drop (16 + 8 * n)).take (128 - 8 * n)) &&
    (List.range n).all (fun v => decide (tblNat e (16 + 8 * v) 8 < 2 ^ 44))

/-- A zone set passes the range checks of R282 and R283. -/
def setFieldsOk (t : List Byte) (k : Nat) : Bool :=
  let b := 64 + 4640 * k
  let n := tblByte t b
  decide (n ≤ 32) && allZero ((t.drop (b + 1)).take 31) && allZero ((t.drop (b + 32 + 144 * n)).take (4608 - 144 * n)) &&
    (List.range n).all (fun z => zoneFieldsOk (zoneBytes t k z))

/-- Input `n` of the header passes the range checks of R282. -/
def dciFieldsOk (t : List Byte) (n : Nat) : Bool :=
  let m := tblDciMode t n
  let d := tblDciDisc t n
  decide (m < 4) && (if m % 2 = 1 then decide (1 ≤ d ∧ d ≤ 100) else decide (m = 0 ∧ d = 0))

/-- The header passes the range checks of R282. -/
def headFieldsOk (t : List Byte) : Bool :=
  decide (1 ≤ tblSets t ∧ tblSets t ≤ 16) && decide (tblNat t 2 2 = 0) &&
    decide ((tblSrc t = 0 ∧ tblArg t ≤ 15) ∨ (tblSrc t = 1 ∧ tblArg t = 0) ∨ (tblSrc t = 2 ∧ tblArg t ≤ 7)) &&
    decide (tblSwitch t ≤ 5000) && (List.range 4).all (dciFieldsOk t) &&
    decide (100 ≤ tblNat t 24 2 ∧ tblNat t 24 2 ≤ 500) && decide (10 ≤ tblNat t 26 2 ∧ tblNat t 26 2 ≤ 1000) &&
    decide (tblNat t 28 2 ≤ 10000) && decide (tblByte t 33 ≤ 1) && allZero ((t.drop 34).take 26)

/-- Every polygon of the table is simple and spans less than 180 degrees (R283). -/
def polysOk (t : List Byte) : Bool :=
  (List.range (tblSets t)).all (fun k => (List.range (tblZones t k)).all (fun z =>
    polySimple (tblZone t k z).verts && polySpan (tblZone t k z).verts))

/-- The CRC of the header is the one of the table, its own four bytes taken as 0 (R282). -/
def crcOk (t : List Byte) : Bool :=
  decide (crc32 (t.take 60 ++ [0, 0, 0, 0] ++ t.drop 64) = tblCrc t)

/-- The err of a channel's check of its copy (R289), the lowest that applies; 0 when it passes. Log entry 20. -/
def tblCheck (t : List Byte) : Nat :=
  if ¬(tblByte t 0 = 1 ∧ tblLength t = 64 + 4640 * tblSets t ∧ t.length = tblLength t) then 1
  else if ¬crcOk t then 2
  else if ¬(headFieldsOk t ∧ (List.range (tblSets t)).all (setFieldsOk t)) then 3
  else if ¬polysOk t then 4
  else 0

/-- What a channel copies from the staging area (R289, R219): the length the header names, at least the header and no more
than the staging area holds. -/
def State.stageCopy (s : State) : List Byte :=
  memBytes s.ztStage 0 (clampN 64 1048576 (memNat s.ztStage 8 4))

end Sys2Proof.Machine
end

