-- ==== Sys2Proof/Machine/Saf.lean ====
section
/-! DEFINITION. The safety function (R278 to R295, R298, R299, R417): summaries, zone evaluation, verdicts, zone sets, the
commit of a table, safety inputs and outputs, and the reset by LOR_REQ. -/

namespace Sys2Proof.Machine

/-- The two pairs. -/
def bothPairs : List Pair := [.a, .b]

/-- Does a frame run (R286)? -/
def State.frameRuns (s : State) : Bool := s.flag FIRE_FRAME_STAT.running

/-- SAF_ZONE_STAT shows the zones of the active set (R297). -/
def State.zoneShow (s : State) (c : SafSel) : State :=
  let x := s.chanOf c
  let k := s.get SAF_STAT.active_set
  let n := if k < tblSets x.table then tblZones x.table k else 0
  let v := (List.range n).foldl (fun v z => v + bit (x.zone k z).occ * 4 ^ z + 2 * bit (x.zone k z).viol * 4 ^ z) 0
  s.setReg SAF_ZONE_STAT.addr (BitVec.ofNat 64 v)

/-- Fields of a safety summary held as a little-endian number of 32 bytes (R281). -/
def sumChannel (x : Nat) : Nat := bits x 0 11
def sumBank (x : Nat) : Nat := bits x 16 6
def sumAzimuth (x : Nat) : Nat := bits x 32 20
def sumMissing (x : Nat) : Bool := bits x 27 1 == 1
def sumNotWarm (x : Nat) : Bool := bits x 28 1 == 1
/-- The echoes of a summary as (range, gate). -/
def sumEchoes (x : Nat) : List (Nat × Bool) :=
  (List.range (Nat.min 4 (bits x 24 3))).map (fun e => (bits x (64 + 48 * e) 24, bits x (88 + 48 * e) 1 == 1))

/-- The margin of a summary (R284, R170), in units of 0.25 mm. -/
def State.sumMargin (s : State) (x : Nat) : Nat := if sumNotWarm x then s.get TIME_WARM_CFG.zone_margin * 40 else 0

/-- How many echoes of a cell lie in a zone (R284). -/
def State.zonePoints (s : State) (z : Zone) (c : ClosedCell) : Nat :=
  (c.sums.map (fun x =>
    if sumMissing x then 0
    else ((sumEchoes x).filter (fun e =>
      (!e.2 || z.countGated) && polyHits z.verts (sx 20 c.azimuth) (e.1 : Int) (s.sumMargin x : Int))).length)).sum

/-- Is the cell blind (R288)? -/
def cellBlind (t : List Byte) (c : ClosedCell) : Bool := decide (tblBlind t < (c.sums.filter sumMissing).length)

/-- Does the twin cover a blind evaluation of a zone (R288): a valid heartbeat of a device that scans, and that grants every
pair the zone binds under the same table? -/
def State.twinCovers (s : State) (t : List Byte) (z : Zone) : Bool :=
  match s.twn.peer with
  | none => false
  | some h => tblTwin t && s.flag TWN_STAT.hb_valid && isScan h.mode && decide (h.tableId = tblId t ∧ h.crc = tblCrc t) &&
      (!z.binds .a || h.grantA) && (!z.binds .b || h.grantB)

/-- A time put into a list of times, latest first. -/
def lateInsert (t : Nat) : List Nat → List Nat
  | [] => [t]
  | u :: l => if laterThan u t ≤ 0 then t :: u :: l else u :: lateInsert t l

/-- The occupied evaluations that can still count (R284): interleaved cells do not close in the order of their first shots, so twice the
window is kept. -/
def inWindow (win : Nat) (l : List Nat) : List Nat :=
  l.filter (fun u => decide (laterThan (l.headD u) u ≤ ((2 * msUnits win : Nat) : Int)))

/-- Do `n` times of a list, the new one `t` among them, lie within `win` ms? -/
def closeTimes (n win t : Nat) : List Nat → Bool
  | [] => false
  | a :: l => (match (a :: l)[n - 1]? with
    | some u => decide (laterThan a u ≤ ((msUnits win : Nat) : Int)) && decide (0 ≤ laterThan a t) && decide (0 ≤ laterThan t u)
    | none => false) || closeTimes n win t l

/-- A zone after an evaluation at `t` (R284): violated once it is the last of persist occupied evaluations to fall within a window; clear
at the first evaluation after which the window has passed without one. -/
def ZoneSt.evaluate (x : ZoneSt) (z : Zone) (t : Nat) (occ : Bool) : ZoneSt :=
  let l := if occ then inWindow z.win (lateInsert t x.occTimes) else x.occTimes
  let last := l.head?.elim true (fun u => decide (((msUnits z.win : Nat) : Int) ≤ laterThan t u))
  { occTimes := l, occ := occ,
    viol := if occ then x.viol || closeTimes z.persist z.win t l else x.viol && !last }

/-- One zone of one set meets a cell of a bank in its mask; answers the zones and the verdicts. -/
def State.zoneStep (s : State) (t : List Byte) (c : ClosedCell) (k : Nat)
    (acc : List (Nat × ZoneSt) × List ZoneVerdict) (i : Nat) : List (Nat × ZoneSt) × List ZoneVerdict :=
  let z := tblZone t k i
  let old := tabGet (fun _ => ZoneSt.init) acc.1 (32 * k + i)
  if bits z.banks c.bank 1 = 1 then
    let occ := decide (z.minPts ≤ s.zonePoints z c) || (cellBlind t c && !s.twinCovers t z)
    let new := old.evaluate z c.firstShot occ
    (tabSet (fun _ => ZoneSt.init) acc.1 (32 * k + i) new,
      acc.2 ++ [⟨k, i, occ, new.viol, new.viol && !old.viol, z.protective⟩])
  else (acc.1, acc.2 ++ [⟨k, i, old.occ, old.viol, false, z.protective⟩])

/-- A cell meets the zones of the given sets of a table. -/
def State.evalSets (s : State) (t : List Byte) (zones : List (Nat × ZoneSt)) (c : ClosedCell) (sets : List Nat) :
    List (Nat × ZoneSt) × List ZoneVerdict :=
  sets.foldl (fun acc k => (List.range (if k < tblSets t then tblZones t k else 0)).foldl (s.zoneStep t c k) acc) (zones, [])

/-- The spans of a cell: those from the boundary before its first shot on (R286), kept where a time step came after it. -/
def State.cellSpans (s : State) (x : SafChan) (c : ClosedCell) : List ZoneSpan :=
  match x.stepped.find? (fun p => p.1 == c.firstShot) with
  | some p => p.2
  | none => spansAt c.firstShot s.saf.spans

/-- The number of the table that a cell is evaluated under (R286). -/
def State.cellGen (s : State) (x : SafChan) (c : ClosedCell) : Nat := ((s.cellSpans x c).head?.map (fun x => x.gen)).getD s.saf.gen

/-- Was the cell fired before the boundary that swapped the table in use (R286, R289)? -/
def State.cellOld (s : State) (x : SafChan) (c : ClosedCell) : Bool := !decide (s.cellGen x c = s.saf.gen)

/-- The sets that a cell is evaluated under (R286): they hang on its first shot, so that both channels take the same whenever each comes to
it (log entry 190). -/
def State.cellSets (s : State) (x : SafChan) (t : List Byte) (c : ClosedCell) : List Nat :=
  uniq (overlapSets c.firstShot (tblSwitch t) (s.cellSpans x c))

/-- The hub SRAM address that the model gives the safety processor's copy of the table with number `g` (R29; log entry 29). -/
def zoneMem (g : Nat) : Nat := 2 ^ 49 + 2 ^ 20 * (g % 8)

/-- The safety processor loads `n` bytes of its copy of the table with number `g` (R29, R31, R34). -/
def State.zoneLoad (s : State) (g n : Nat) : State := s.hubScan 36 0 (zoneMem g) n

/-- A word of that copy is uncorrectable: the load ends in a synchronous bus error (R32). -/
def State.zoneBad (s : State) (g n : Nat) : Bool := s.hubBad (zoneMem g) n

/-- A channel's copy of the table with number `g`, and its zones. -/
def SafChan.old (x : SafChan) (g : Nat) : OldTable := (x.olds.find? (fun o => o.gen == g)).getD ⟨g, [], []⟩

/-- A channel withdraws its grants of the pairs that a violated protective zone of an evaluated cell binds (R285). -/
def State.withdraw (s : State) (c : SafSel) (t : List Byte) (v : List ZoneVerdict) : State :=
  bothPairs.foldl (fun s p =>
    if v.any (fun x => x.viol && x.protective && (tblZone t x.set x.zone).binds p) then s.clearFlag (grantBit c p) else s) s

/-- zone-blind, at most once per 1 ms (R288), with the first zone that is evaluated (log entry 21). -/
def State.zoneBlind (s : State) (t : List Byte) (c : ClosedCell) (v : List ZoneVerdict) : State :=
  match v.find? (fun x => bits (tblZone t x.set x.zone).banks c.bank 1 == 1) with
  | none => s
  | some x =>
    let late := s.saf.blindAt.elim true (fun u => decide (msUnits 1 ≤ timeDiff s.now u))
    if cellBlind t c && late then
      ({ s with saf := { s.saf with blindAt := some s.now } }).raise Ev.zoneBlind (x.set % 16 + 256 * x.zone) 0
    else s

/-- The table that a channel evaluates a cell under, with the zones it keeps for it (R286). -/
def State.cellTable (s : State) (x : SafChan) (cell : ClosedCell) : List Byte × List (Nat × ZoneSt) :=
  if s.cellOld x cell then ((x.old (s.cellGen x cell)).table, (x.old (s.cellGen x cell)).zones) else (x.table, x.zones)

/-- A channel judges a cell it has taken off its list (R284 to R286, R288). -/
def State.zoneJudge (s : State) (c : SafSel) (cell : ClosedCell) : State :=
  let x := s.chanOf c
  let g := s.cellGen x cell
  let t := (s.cellTable x cell).1
  let r := s.evalSets t (s.cellTable x cell).2 cell (s.cellSets x t cell)
  let y := if s.cellOld x cell then { x with olds := x.olds.map (fun o => if o.gen = g then { o with zones := r.1 } else o) }
    else { x with zones := r.1 }
  let s0 := { s with saf := { s.saf with spans := keepSpans s.now 0 s.saf.spans } }
  let s1 := s0.setChanOf c { y with verdicts := y.verdicts ++ [⟨cell.bank, cell.firstShot, r.2⟩] }
  let s2 := if t.isEmpty then s1 else
    ((s1.zoneBlind t cell r.2).put SAF_STAT.margin (bit (cell.sums.any sumNotWarm))).zoneShow c
  (s2.withdraw c t r.2).grantsCheck

/-- The cell has been taken: its spans are no longer needed. -/
def State.zoneTaken (s : State) (c : SafSel) (cell : ClosedCell) (rest : List ClosedCell) : State :=
  let x := s.chanOf c
  s.setChanOf c { x with closed := rest, stepped := x.stepped.filter (fun p => !(p.1 == cell.firstShot)) }

/-- A channel evaluates the oldest cell it has been told is closed (R281). The safety processor reads the table from hub SRAM (R29, R31);
where a word is uncorrectable the load fails (R32), and it has no verdict on the cell (log entry 213). -/
def State.zoneEvaluate (s : State) (c : SafSel) : State :=
  let x := s.chanOf c
  match x.closed with
  | [] => s
  | cell :: rest =>
    let g := s.cellGen x cell
    let n := (s.cellTable x cell).1.length
    let s1 := s.when (decide (c = .sp)) (fun s => s.zoneLoad g n)
    if c = .sp ∧ s.zoneBad g n then s1.zoneTaken c cell rest else (s1.zoneJudge c cell).zoneTaken c cell rest

/-- The events of a common verdict (R299). -/
def State.verdictEvents (s : State) (l : List ZoneVerdict) : State :=
  l.foldl (fun s x => s.raiseIf x.rise (if x.protective then Ev.protectiveZoneViolated else Ev.warningZoneViolated)
    (x.set % 16 + 256 * x.zone)) s

/-- The channels exchange their oldest verdicts (R280). -/
def State.verdictExchange (s : State) : State :=
  match s.saf.sp.verdicts, s.saf.snf.verdicts with
  | a :: ra, b :: rb =>
    let s1 := { s with saf := { s.saf with sp := { s.saf.sp with verdicts := ra }, snf := { s.saf.snf with verdicts := rb } } }
    if a = b then s1.verdictEvents a.zones else s1.safetyFault 0x01 0
  | _, _ => s

/-- restart_ms has passed since the last grant condition of a pair became true (R285). -/
def State.restartDone (s : State) (c : SafSel) (p : Pair) : State :=
  if s.grantCond c p ∧ (c = .sp ∨ s.snf.powered) then
    let s1 := s.setFlag (grantBit c p)
    let s2 := match c with
      | .sp => { s1 with saf := { s1.saf with clockStopped := s1.saf.clockStopped.set (pairIx p) false } }
      | .snf => s1
    s2.permUpdate p
  else s

/-- A permission clock has stood at one level for 2 µs (R279). -/
def State.clockStop (s : State) (p : Pair) : State :=
  let granted := s.flag (grantBit .sp p)
  let s1 := ({ s with saf := { s.saf with clockStopped := s.saf.clockStopped.set (pairIx p) true } }).permUpdate p
  if granted then s1.safetyFault 0x04 0 else s1

/-- The set index that the table's source selects (R286); of a receive connection it is that of the last payload the channels accepted
(R287). -/
def State.setIndex (s : State) : Nat :=
  let t := s.saf.snf.table
  if tblSrc t = 0 then tblArg t
  else if tblSrc t = 1 then s.get SAF_DCI_STAT.agreed
  else s.saf.qslIndex.getD (tblArg t % 8) 0

/-- A new set index takes effect at the boundary `b` (R286, R299). -/
def State.setApply (s : State) (k b : Nat) : State :=
  let t := s.saf.snf.table
  let s1 := { s with saf := { s.saf with nextSet := none, spans := ⟨b, k, s.saf.gen⟩ :: keepSpans s.now 0 s.saf.spans } }
  let s2 := ((s1.put SAF_STAT.active_set k).put SAF_STAT.switching (bit (decide (0 < tblSwitch t)))).raise Ev.zoneSetChanged (k % 16) 0
  ((s2.raiseIf (decide (tblSets t ≤ k)) Ev.zoneSetInvalid (k % 16)).zoneShow .sp).grantsCheck

/-- Both channels report the same index (R286): a change waits for the next boundary that is decided, or applies from the next
cell fired where no frame runs. -/
def State.setAgree (s : State) : State :=
  let k := s.setIndex
  if s.saf.snf.table.isEmpty then s
  else if k = s.get SAF_STAT.active_set then { s with saf := { s.saf with nextSet := none } }
  else if s.frameRuns then { s with saf := { s.saf with nextSet := some k } }
  else s.setApply k s.now

/-- switch_ms after the boundary (R286): the overlap of the newest boundary ends then. -/
def State.switchEnd (s : State) : State :=
  let over_ := match s.saf.spans with
    | x :: _ => decide (((msUnits (tblSwitch s.saf.snf.table) : Nat) : Int) ≤ laterThan s.now x.start)
    | [] => true
  if over_ then ({ s.clearFlag SAF_STAT.switching with saf := { s.saf with spans := keepSpans s.now 0 s.saf.spans } }).grantsCheck else s

/-- The filtered level of contact `i` (R290): SAF_DCI_STAT.contacts bit 2n for DCI_nA, 2n + 1 for DCI_nB. -/
def State.contact (s : State) (i : Nat) : Bool := bits (s.get SAF_DCI_STAT.contacts) i 1 == 1

/-- Input `n` reads closed, or open, when its contacts are consistent (R290). -/
def State.dciLevel (s : State) (t : List Byte) (n : Nat) : Option Bool :=
  let a := s.contact (2 * n)
  let b := s.contact (2 * n + 1) != (bits (tblDciMode t n) 1 1 == 1)
  if a = b then some a else none

/-- Bit `n` of a field. -/
def State.putBit (s : State) (f : FRef) (n : Nat) (b : Bool) : State :=
  let v := s.get f
  s.put f (v - bits v n 1 * 2 ^ n + bit b * 2 ^ n)

/-- An input's agreed state and discrepancy window follow its filtered contacts (R290). -/
def State.dciEval (s : State) (n : Nat) : State :=
  let t := s.saf.snf.table
  if t.isEmpty ∨ tblDciMode t n % 2 = 0 then s
  else
    match s.dciLevel t n with
    | some v =>
      let s1 := { (s.putBit SAF_DCI_STAT.pending n false) with saf := { s.saf with dciBad := s.saf.dciBad.set n false } }
      if v = (bits (s.get SAF_DCI_STAT.agreed) n 1 == 1) then s1
      else (s1.putBit SAF_DCI_STAT.agreed n v).raise Ev.safetyInputChange n 0
    | none => if s.saf.dciBad.getD n false then s else s.putBit SAF_DCI_STAT.pending n true

/-- The filtered level after a sample: three equal samples in a row set it (R290). -/
def filterLevel (l : Contact) (was : Bool) : Bool :=
  match l with
  | [a, b, c] => if a = b ∧ b = c then a else was
  | _ => was

/-- Snuffer samples the eight contacts (R290). -/
def State.dciSample (s : State) (v : BitVec 8) : State :=
  if s.snf.powered = false then s else
  let l := (List.range 8).map (fun i => (v.getLsbD i :: (s.saf.contacts.getD i [])).take 3)
  let lv := (List.range 8).map (fun i => filterLevel (l.getD i []) (s.contact i))
  let s1 := { (s.put SAF_DCI_STAT.contacts (ofBits lv)) with saf := { s.saf with contacts := l } }
  (List.range 4).foldl (fun s n => s.dciEval n) s1

/-- A discrepancy window runs out (R290); `second` says that the second contact follows in the cycle that decides it, and
R181 lets it win. -/
def State.dciExpire (s : State) (n : Nat) (second : Bool) : State :=
  if bits (s.get SAF_DCI_STAT.pending) n 1 = 1 ∧ tblDciMode s.saf.snf.table n % 2 = 1 ∧ second = false then
    let s1 := s.putBit SAF_DCI_STAT.pending n false
    ({ s1 with saf := { s1.saf with dciBad := s1.saf.dciBad.set n true } }).safetyFault 0x08 n
  else s

/-- The inputs take their state at a swap from table `old` (R290). -/
def State.dciSwap (s : State) (old : List Byte) (n : Nat) : State :=
  let t := s.saf.snf.table
  let m := tblDciMode t n
  let was := if old.isEmpty then 0 else tblDciMode old n
  if m % 2 = 1 ∧ was = m then s
  else
    let v := s.dciLevel t n
    let on := decide (m % 2 = 1)
    let s1 := { s with saf := { s.saf with dciBad := s.saf.dciBad.set n false } }
    (s1.putBit SAF_DCI_STAT.agreed n (on && v.getD false)).putBit SAF_DCI_STAT.pending n (on && v.isNone)

/-- The phase of a commit returns to idle with an err (R289). -/
def State.ztEnd (s : State) (err : Nat) : State :=
  let s1 := ((s.put SAF_ZT_STAT.phase 0).clearFlag SAF_ZT_STAT.sp_ok).clearFlag SAF_ZT_STAT.snf_ok
  let s2 := (s1.put SAF_ZT_STAT.err err).when (decide (err ≠ 0)) (fun s => s.setFlag SAF_ZT_STAT.fail_seen)
  (s2.clearFlag SAF_ZT_CTL.prepare).clearFlag SAF_ZT_CTL.commit

/-- A write of prepare = 1 (R289): each channel takes its copy of the staging area; while the phase is not idle it aborts. With an
uncorrectable word in the staging area there is no copy, and the check finds no format (R32; log entry 192). -/
def State.ztPrepare (s : State) : State :=
  if s.get SAF_ZT_STAT.phase = 0 then
    let n := s.stageCopy.length
    let l := if s.hubBad 0x300000000 n then [] else s.stageCopy
    let s0 := (s.hubScan 6 0 0x300000000 n).hubWrite (zoneMem (s.saf.gen + 1)) l.length
    let s1 := { s0 with saf := { s0.saf with sp := { s0.saf.sp with next := l }, snf := { s0.saf.snf with next := l } } }
    let s2 := ((s1.put SAF_ZT_STAT.phase 1).put SAF_ZT_STAT.err 0).setFlag SAF_ZT_CTL.prepare
    (s2.clearFlag SAF_ZT_STAT.sp_ok).clearFlag SAF_ZT_STAT.snf_ok
  else s.ztEnd 6

/-- A failed commit: idle with err, and zone-commit-failed (R289). -/
def State.ztFail (s : State) (err : Nat) : State := (s.ztEnd err).raise Ev.zoneCommitFailed 0 0

/-- Does the channel run: Snuffer under its supply (R417), the safety processor always? -/
def State.chanAlive (s : State) : SafSel → Bool
  | .sp => true
  | .snf => s.snf.powered

def okBit : SafSel → FRef
  | .sp => SAF_ZT_STAT.sp_ok
  | .snf => SAF_ZT_STAT.snf_ok

/-- The err of a channel's check (R289): the safety processor reads its copy from hub SRAM, and with an uncorrectable word in it (R32) no
check word comes out right (log entry 213). -/
def State.ztCheck (s : State) (c : SafSel) : Nat :=
  let l := (s.chanOf c).next
  if c = .sp ∧ s.zoneBad (s.saf.gen + 1) l.length then 2 else tblCheck l

/-- A channel ends its check (R289). -/
def State.ztChecked (s0 : State) (c : SafSel) : State :=
  if s0.get SAF_ZT_STAT.phase = 1 ∧ s0.chanAlive c then
    let e := s0.ztCheck c
    let s := s0.when (decide (c = .sp)) (fun s => s.zoneLoad (s.saf.gen + 1) s.saf.sp.next.length)
    if e = 0 then
      let s1 := s.setFlag (okBit c)
      if s1.flag SAF_ZT_STAT.sp_ok && s1.flag SAF_ZT_STAT.snf_ok then
        if tblCrc s1.saf.sp.next = tblCrc s1.saf.snf.next then (s1.put SAF_ZT_STAT.phase 2).clearFlag SAF_ZT_CTL.prepare
        else s1.ztFail 5
      else s1
    else s.ztFail e
  else s0

/-- May a committing device swap: not while pair_commit makes it wait for its peer (R341)? A peer that reports the same table active has
swapped already. -/
def State.ztMaySwap (s : State) : Bool :=
  if s.flag TWN_CTL.pair_commit && s.flag TWN_STAT.hb_valid then
    match s.twn.peer with
    | none => false
    | some h =>
      let crc := tblCrc s.saf.snf.next
      decide (2 ≤ h.tablePhase ∧ h.readyCrc = crc) || decide (h.tableId = tblId s.saf.snf.next ∧ h.crc = crc)
  else true

/-- Both channels swap to the new table at the boundary `b` (R286, R289, R290). -/
def State.ztSwap (s : State) (b : Nat) : State :=
  let old := s.saf.snf.table
  let g := s.saf.gen + 1
  let upd := fun (x : SafChan) => { x with table := x.next, next := [], zones := [], olds := ⟨s.saf.gen, x.table, x.zones⟩ :: x.olds.take 3 }
  let s1 := { s with saf := { s.saf with sp := upd s.saf.sp, snf := upd s.saf.snf, nextSet := none, gen := g },
                     twn := { s.twn with epoch := (s.twn.epoch + 1) % 2 ^ 32 } }
  let t := s1.saf.snf.table
  let s2 := ((s1.ztEnd 0).put SAF_ZT_ACTIVE.table_id (tblId t)).put SAF_ZT_ACTIVE.crc (tblCrc t)
  let s3 := ((List.range 4).foldl (fun s n => s.dciSwap old n) s2).clearFlag SAF_STAT.switching
  let k := s3.setIndex
  let was := s3.get SAF_STAT.active_set
  let s3 := { s3 with saf := { s3.saf with spans := ⟨b, k, g⟩ :: keepSpans s.now 0 s.saf.spans } }
  let s4 := (s3.put SAF_STAT.active_set k).raiseIf (decide (k ≠ was)) Ev.zoneSetChanged (k % 16)
  let s5 := s4.raiseIf (decide (tblSets t ≤ k)) Ev.zoneSetInvalid (k % 16)
  ((s5.raise Ev.zoneCommitDone 0 0).zoneShow .sp).grantsCheck

/-- A committed table swaps now if no frame runs: it applies from the next cell fired (R289, R341). -/
def State.ztIdleSwap (s : State) : State :=
  if s.get SAF_ZT_STAT.phase = 3 ∧ ¬ s.frameRuns then s.ztSwap s.now else s

/-- A write of commit = 1 (R289): ignored unless the phase is ready. A device that waits for its peer stays in ready with
commit set (R341). -/
def State.ztCommit (s : State) : State :=
  if s.get SAF_ZT_STAT.phase = 2 then
    let s1 := s.setFlag SAF_ZT_CTL.commit
    if s1.ztMaySwap then (s1.put SAF_ZT_STAT.phase 3).ztIdleSwap else s1
  else s

/-- A write of abort = 1 (R289). -/
def State.ztAbort (s : State) : State := if s.get SAF_ZT_STAT.phase = 0 then s else s.ztEnd 6

/-- What the decision point of a cell boundary at `b` changes in the safety function (R286, R289, R429). -/
def State.safBoundary (s : State) (b : Nat) : State :=
  if s.get SAF_ZT_STAT.phase = 3 then s.ztSwap b
  else
    match s.saf.nextSet with
    | some k => s.setApply k b
    | none => s

/-- Each second each channel checks the CRC of its copy again (R293); the safety processor's loads find what hub SRAM has lost (R31, R32). -/
def State.tableRecheck (s : State) (c : SafSel) (ok : Bool) : State :=
  let t := (s.chanOf c).table
  let bad := !ok || (decide (c = .sp) && s.zoneBad s.saf.gen t.length)
  let s1 := s.when (decide (c = .sp)) (fun s => s.zoneLoad s.saf.gen t.length)
  if bad && !t.isEmpty then s1.safetyFault 0x0D 0 else s1

/-- Output `i` (SOP_A1, SOP_A2, SOP_B1, SOP_B2): its pair. -/
def outPair (i : Nat) : Pair := if i < 2 then .a else .b

/-- Is output `i` commanded on (R278, R291)? -/
def State.outOn (s : State) (i : Nat) : Bool := s.flag (permBit (outPair i)) && !s.saf.pulse.getD i false

/-- An output of an on pair begins or ends its test pulse (R291). -/
def State.testPulse (s : State) (i : Nat) (off : Bool) : State :=
  if s.flag (permBit (outPair i)) then { s with saf := { s.saf with pulse := s.saf.pulse.set i off } } else s

/-- Is output `i` read at the wrong level while its level has settled (R291)? -/
def State.readbackBad (s : State) (level settled : BitVec 4) (i : Nat) : Bool :=
  settled.getLsbD i && (level.getLsbD i != s.outOn i)

/-- Snuffer reads its outputs back (R291); `settled` names the outputs whose last change lies 100 µs or more back. -/
def State.readback (s : State) (level settled : BitVec 4) : State :=
  let s1 := s.put SAF_STAT.readback level.toNat
  let a := s.readbackBad level settled 0 || s.readbackBad level settled 1
  let b := s.readbackBad level settled 2 || s.readbackBad level settled 3
  let s2 := if a then s1.safetyFault 0x06 0 else s1
  if b then s2.safetyFault 0x07 0 else s2

/-- A rejected reset (R295). -/
def State.lorReject (s : State) : State := (s.bump SAF_LOR_CNT.rejected).raise Ev.lorRejected 0 0

/-- Causes that need PORST_N with Snuffer's supply cycled (R295). -/
def causeHard (c : Nat) : Bool := decide (c = 0x03 ∨ c = 0x05 ∨ c = 0x0F)

/-- A fault condition that the state itself shows as present (R295): an input whose contacts are still inconsistent, a
failing block left by START-TEST (R310), a temperature class in shutdown (R367) or an RPLL out of lock (R24). -/
def State.faultPresent (s : State) : Bool :=
  s.saf.dciBad.any (fun b => b) || s.saf.bistCond || (List.range 4).any (fun k => s.get (THM_STAT.state k) == 3) ||
    s.thm.snfHeld.any (fun b => b) || (s.saf.latched && !s.flag TIME_STAT.rpll_locked)

/-- LOR_REQ falls (R295): high times as the two channels measured them, in ms, and whether a fault condition that no register
shows is present at the edge or detected in its cycle. -/
def State.lorFall (s : State) (spMs snfMs : Nat) (present : Bool) : State :=
  let s1 := { s with saf := { s.saf with lorHigh := false } }
  if s.saf.lorIgnored ∨ ¬ s.saf.lorHigh ∨ ¬ s.snf.powered then s1
  else if 300 ≤ spMs ∧ spMs ≤ 5000 ∧ 300 ≤ snfMs ∧ snfMs ≤ 5000 ∧ ¬ present ∧ ¬ s.faultPresent ∧
      ¬ (s.saf.latched ∧ causeHard (s.get SAF_FAULT.cause)) then
    let s2 := s1.incr SAF_LOR_CNT.accepted
    if s.flag SAF_STAT.lockout then { s2 with saf := { s2.saf with lorAccepted := true } } else s2
  else s1.lorReject

/-- LOR_REQ has been high for 5 s (R295). -/
def State.lorLong (s : State) : State :=
  if s.saf.lorHigh ∧ ¬ s.saf.lorIgnored then ({ s with saf := { s.saf with lorIgnored := true } }).lorReject else s

/-- 1 ms after an accepted edge (R295). -/
def State.lockoutClear (s : State) : State :=
  if s.saf.lorAccepted ∧ s.snf.powered then
    let s1 := { s with saf := { s.saf with lorAccepted := false, latched := false }, snf := { s.snf with sel := s.selFor s.mode },
                       freeCtr := s.ctrFor s.mode }
    let s2 := (s1.setLockout false).raise Ev.lockoutCleared 0 0
    (if s2.mode = 10 then s2.autoMode 3 else s2).grantsCheck
  else s

/-- The safety tables of both channels are gone, with everything that rests on them (R289). -/
def State.tablesGone (s : State) : State :=
  let s1 := { s with saf := { s.saf with sp := SafChan.init, snf := SafChan.init, nextSet := none,
                                         spans := [⟨0, 0, s.saf.gen⟩], blindAt := none, dciBad := List.replicate 4 false } }
  let s2 := ((s1.resetReg SAF_ZT_STAT.phase.addr).resetReg SAF_ZT_ACTIVE.crc.addr).resetReg SAF_ZT_CTL.prepare.addr
  let s3 := (s2.put SAF_DCI_STAT.agreed 0).put SAF_DCI_STAT.pending 0
  (((s3.put SAF_STAT.active_set 0).clearFlag SAF_STAT.switching).setReg SAF_ZONE_STAT.addr 0).grantsDrop

/-- What Snuffer had of its own temperature sensors goes with its supply, and the NVM write window is inhibited until it has taken three
samples again (R366, R369). -/
def State.snfTempsGone (s : State) : State :=
  let first := !s.flag THM_STAT.nvm_inhibit
  let s1 := { s with thm := { s.thm with nvmTaken := 0, nvmRun := 0, snfRuns := [0, 0], snfHeld := [false, false] } }
  (s1.setFlag THM_STAT.nvm_inhibit).raiseIf first Ev.thmNvmInhibit (32 + 256 * 2)

/-- Snuffer starts (R15, R294, R417): everything of PD_SNF is at its reset value, lock-out is set and the cause reads 0x0E. -/
def State.snufferStart (s : State) : State :=
  let s1 := s.tablesGone.snfTempsGone
  let s2 := ((s1.resetReg SAF_FAULT.cause.addr).resetReg SAF_FAULT_TIME.time.addr).resetReg SAF_LOR_CNT.accepted.addr
  let s3 := { s2 with snf := SnfSt.init,
                      saf := { SafSt.init with bistCond := s2.saf.bistCond } }
  ((s3.setLockout true).put SAF_DCI_STAT.contacts 0).put SAF_STAT.readback 0

/-- A safety summary reaches a channel (R281). -/
def execSafetySummary (c : SafSel) (v : Flit) (s : State) : Res :=
  let x := s.chanOf c
  .next (s.setChanOf c { x with sums := x.sums ++ [v.toNat] })

/-- A cell-close marker reaches a channel (R281): the summaries with its bank and azimuth are the cell's. -/
def execCellCloseMarker (c : SafSel) (bank : Fin 64) (azimuth : BitVec 20) (firstShot : Word64) (s : State) : Res :=
  let x := s.chanOf c
  let own := fun (v : Nat) => sumBank v == bank.val && sumAzimuth v == azimuth.toNat
  let mine := x.sums.filter own
  .next (s.setChanOf c { x with sums := x.sums.filter (fun v => !own v),
                                closed := x.closed ++ [⟨bank, azimuth.toNat, firstShot.toNat, mine⟩] })

def execZoneEvaluate (c : SafSel) (s : State) : Res := .next (s.zoneEvaluate c)
def execVerdictExchange (s : State) : Res := .next s.verdictExchange
/-- The response bound of R2 runs out without a verdict of channel `c` (R280); one that arrives in the deciding cycle counts
(R181). -/
def execVerdictTimeout (c : SafSel) (arrived : Bool) (s : State) : Res :=
  .next (if arrived || !(s.chanOf c).verdicts.isEmpty then s else s.safetyFault 0x02 0)
def execPermissionClockStop (p : Pair) (s : State) : Res := .next (s.clockStop p)
def execRestartDelay (c : SafSel) (p : Pair) (s : State) : Res := .next (s.restartDone c p)
def execZtPrepare (s : State) : Res := .next s.ztPrepare
def execZtChannelCheckDone (c : SafSel) (s : State) : Res := .next (s.ztChecked c)
def execZtCommit (s : State) : Res := .next s.ztCommit
def execZtAbort (s : State) : Res := .next s.ztAbort
def execTableRecheck (c : SafSel) (ok : Bool) (s : State) : Res :=
  .next (s.tableRecheck c ok)
def execZoneSetAgree (s : State) : Res := .next s.setAgree
def execZoneSwitchEnd (s : State) : Res := .next s.switchEnd
def execDciSample (contacts : BitVec 8) (s : State) : Res := .next (s.dciSample contacts)
def execDciDiscrepancyTimeout (n : Fin 4) (second : Bool) (s : State) : Res := .next (s.dciExpire n second)
def execTestPulse (output : Fin 4) (off : Bool) (s : State) : Res := .next (s.testPulse output off)
def execOutputReadback (level settled : BitVec 4) (s : State) : Res := .next (s.readback level settled)
/-- No digest for 3 ms (R292). -/
def execShadeDigestTimeout (s : State) : Res := .next (s.safetyFault 0x09 0)
/-- A pilot link silent for 100 µs: a fault while the hub fires (R293), but that of an isolated tile, which a slice takes out while the
other five scan, only moves Snuffer's pilot view (R338, R339; log entry 197); in PILOT-LIGHT Snuffer turns to the other tile (R314). -/
def execPilotLinkSilence (link : Fin 2) (s : State) : Res :=
  .next (if s.fire.engaged ∧ ¬ s.tileOff (2 + link) then s.safetyFault 0x0B link
    else { s with snf := { s.snf with pilotSilent := s.snf.pilotSilent.set link true } })
def execLorReqRise (s : State) : Res := .next { s with saf := { s.saf with lorHigh := true } }
def execLorReqFall (spMs snfMs : Word16) (present : Bool) (s : State) : Res := .next (s.lorFall spMs.toNat snfMs.toNat present)
def execLorReqLong (s : State) : Res := .next s.lorLong
def execLorReqRearm (s : State) : Res :=
  .next (if s.saf.lorHigh then s else { s with saf := { s.saf with lorIgnored := false } })
def execLockoutClear (s : State) : Res := .next s.lockoutClear
def execVsnfRise (s : State) : Res := .next s.snufferStart
def execVsnfOutOfRange (s : State) : Res := .next (s.safetyFault 0x0F 0)
def execVsafOutOfRange (s : State) : Res := .next (s.safetyFault 0x0F 1)
def execSafetyLockstepMismatch (s : State) : Res := .next (s.safetyFault 0x03 0)

end Sys2Proof.Machine
end

