-- ==== Sys2Proof/Machine/Frame.lean ====
section
/-! DEFINITION. The frame memory (R42 to R46): shot entries, segment sets, channel-enable maps and the validation of a
buffer. -/

namespace Sys2Proof.Machine

/-- The offset of buffer `b` in FIRE table space (R42). -/
def bufBase (b : Nat) : Nat := b * 0x40000

/-- Shot entry `i` of buffer `b` (R43). -/
def State.entryWord (s : State) (b i : Nat) : Nat := memNat s.fireTab (bufBase b + 8 * i) 8
def entBank (w : Nat) : Nat := bits w 0 6
def entSegset (w : Nat) : Nat := bits w 6 8
def entCurrent (w : Nat) : Nat := bits w 14 8
def entSlot (w : Nat) : Nat := bits w 22 6
def entFine (w : Nat) : Nat := bits w 28 12
def entInterval (w : Nat) : Nat := bits w 40 16
def entEnd (w : Nat) : Bool := bits w 56 1 == 1
def entSync (w : Nat) : Bool := bits w 57 1 == 1
def entNoRx (w : Nat) : Bool := bits w 58 1 == 1

/-- Segment-set entry `k` of buffer `b` (R44). -/
def State.segWord (s : State) (b k : Nat) : Nat := memNat s.fireTab (bufBase b + 0x20000 + 8 * k) 8
def segMask (w : Nat) : Nat := bits w 0 48
def segMap (w : Nat) : Nat := bits w 48 7
def segValid (w : Nat) : Bool := bits w 63 1 == 1

/-- Channel-enable map `m` of buffer `b` (R44). -/
def mapAddr (b m : Nat) : Nat := bufBase b + 0x20800 + 192 * m
def State.mapBytes (s : State) (b m : Nat) : List Byte := memBytes s.fireTab (mapAddr b m) 192

/-- FIRE table space, from its offset 0 (R42). -/
def fireBase : Nat := 0x200000000

/-- Bytes of FIRE table space are read by the generator (reader 33), validation (34) or Shade (35) (R29, R31, R34; log entry 30). -/
def State.fireScan (s : State) (port a n : Nat) : State := s.hubScan port 0 (fireBase + a) n

/-- Are they part of a word found uncorrectable (R32)? -/
def State.fireBad (s : State) (a n : Nat) : Bool := s.hubBad (fireBase + a) n

/-- The channel-enable map as the generator takes it: a word found uncorrectable enables no channel (R32; log entry 173). -/
def State.mapTaken (s : State) (b m : Nat) : List Byte :=
  let a := mapAddr b m
  (List.range 192).map (fun i => if s.fireBad (a + i) 1 then 0 else tabGet byteDefault s.fireTab (a + i))

/-- Two maps share a channel. -/
def mapsShare (a b : List Byte) : Bool := (a.zip b).any (fun p => !(p.1 &&& p.2 == 0))

/-- Is buffer `b` protected (R42)? The active buffer is until firing has stopped, and the one that a swap replaces until the boundary. -/
def State.bufProtected (s : State) (b : Nat) : Bool :=
  ((s.fire.engaged || s.fire.pending) && s.get FIRE_FRAME_STAT.active_buf == b) || s.fire.oldBuf == some b ||
    (s.flag FIRE_FRAME_CTL.swap_req && s.fire.swapBuf == b) ||
    (s.fire.validRun && s.fire.runBuf == b)

/-- A cell that validation has open: its segment set, its entries so far, its map. -/
structure OpenCell where
  bank : Nat
  segset : Nat
  count : Nat
  map : List Byte
  deriving DecidableEq, Repr

/-- Is the bank's driver and local bank shared with another enabled bank (R40)? -/
def State.bankShared (s : State) (b : Nat) : Bool :=
  (List.range 64).any (fun n => !(n == b) && s.flag (FIRE_BANK_CFG.enable n) &&
    s.get (FIRE_BANK_CFG.driver n) == s.get (FIRE_BANK_CFG.driver b) &&
    s.get (FIRE_BANK_CFG.local_bank n) == s.get (FIRE_BANK_CFG.local_bank b))

/-- Is the driver present (R61)? -/
def State.drvPresent (s : State) (d : Nat) : Bool := bits (s.get FIRE_TAPER_STAT.drv_present) d 1 == 1

/-- Code 0x2 of R46. -/
def State.bankBad (s : State) (b : Nat) : Bool :=
  !s.flag (FIRE_BANK_CFG.enable b) || !s.drvPresent (s.get (FIRE_BANK_CFG.driver b)) || s.bankShared b

/-- The checks of one entry (R46, step 3), in their order: a code, or the cells open after it. -/
def State.entryCheck (s : State) (buf span : Nat) (cells : List OpenCell) (w : Nat) : Nat ⊕ List OpenCell :=
  let b := entBank w
  let sw := s.segWord buf (entSegset w)
  let mine := cells.find? (fun c => c.bank == b)
  let others := cells.filter (fun c => !(c.bank == b))
  if s.bankBad b then .inl 2
  else if ¬ segValid sw ∨ segMask sw = 0 then .inl 3
  else if entInterval w < 250 ∨ entInterval w < span + 150 then .inl 4
  else
    match mine with
    | some c =>
      if c.segset ≠ entSegset w then .inl 6
      else if (entEnd w ∧ (c.count + 1 < 4 ∨ 1024 < c.count + 1)) ∨ c.count + 1 = 1025 then .inl 5
      else .inr (if entEnd w then others else { c with count := c.count + 1 } :: others)
    | none =>
      let m := s.mapBytes buf (segMap sw)
      if 16 ≤ others.length then .inl 6
      else if others.any (fun c => mapsShare c.map m) then .inl 7
      else if entEnd w then .inl 5
      else .inr (⟨b, entSegset w, 1, m⟩ :: others)

/-- Does validation meet an uncorrectable word at entry `i`: the entry's, its segment set's, or one of its map's (R32)? -/
def State.entryBad (s : State) (buf i : Nat) : Bool :=
  let k := entSegset (s.entryWord buf i)
  s.fireBad (bufBase buf + 8 * i) 8 || s.fireBad (bufBase buf + 0x20000 + 8 * k) 8 ||
    s.fireBad (mapAddr buf (segMap (s.segWord buf k))) 192

/-- The checks of the entries from `i` on, `n` of them left: (val_err, err_index) (R46); `bad` is the code of an entry that an
uncorrectable word is met at. -/
def State.entriesCheck (s : State) (buf span bad : Nat) : Nat → Nat → List OpenCell → Nat × Nat
  | 0, _, _ => (0, 0)
  | n + 1, i, cells =>
    if s.entryBad buf i then (bad, i)
    else
      match s.entryCheck buf span cells (s.entryWord buf i) with
      | .inl e => (e, i)
      | .inr l => if n = 0 ∧ ¬ l.isEmpty then (8, i) else s.entriesCheck buf span bad n (i + 1) l

/-- The validation of a buffer (R46): (val_err, err_index). -/
def State.frameCheck (s : State) (buf bad : Nat) : Nat × Nat :=
  let n := s.get (FIRE_FRAME_LEN.entries buf)
  if n = 0 ∨ 16384 < n then (1, 0)
  else if ¬ s.flag SHADE_CTL.lock then (9, 0)
  else s.entriesCheck buf (s.get FIRE_CODE_CFG.code_span_ns) bad n 0 []

/-- A buffer is validated (R46): (val_err, err_index), and the state after its words have been read (R31). An uncorrectable word is never
taken as good data (R32), so the validation fails there; the spec names no code for it: a free value from 1 to 9 (log entry 173). -/
def State.frameJudge (s : State) (buf : Nat) : (Nat × Nat) × State :=
  let r := s.fresh
  (s.frameCheck buf (1 + r.1 % 9), r.2.fireScan 34 (bufBase buf) 0x26800)

/-- The entries of the cell that entry `i` of bank `b` belongs to, from `i` to the one that closes it; `n` entries are left. -/
def State.cellSize (s : State) (buf b : Nat) : Nat → Nat → Nat
  | 0, _ => 0
  | n + 1, i =>
    let w := s.entryWord buf i
    if entBank w = b then (if entEnd w then 1 else 1 + s.cellSize buf b n (i + 1)) else s.cellSize buf b n (i + 1)

/-- The entry that closes the cell of bank `b` which is open at entry `i`; `n` entries are left. -/
def State.cellLast (s : State) (buf b : Nat) : Nat → Nat → Nat
  | 0, i => i
  | n + 1, i =>
    let w := s.entryWord buf i
    if entBank w = b ∧ entEnd w = true then i else s.cellLast buf b n (i + 1)

/-- One step of the code generator (R55). -/
def codeStep (x : Nat) : Nat := if x % 2 = 1 then Nat.xor (x / 2) 0x80200003 else x / 2

/-- `n` steps of the code generator. -/
def codeSteps : Nat → Nat → Nat
  | 0, x => x
  | n + 1, x => codeSteps n (codeStep x)

/-- `n` delays from a generator state (R55). -/
def codeList (span : Nat) : Nat → Nat → List Nat
  | 0, _ => []
  | n + 1, x => let y := codeSteps 32 x; y * (span + 1) / 2 ^ 32 :: codeList span n y

/-- The code table of a key and a span (R55). -/
def codeTable (key span : Nat) : List Nat := codeList span 64 (if key = 0 then 1 else key)

/-- The code table of the present key and a span. -/
def State.codesFor (s : State) (span : Nat) : List Nat := codeTable (s.get FIRE_CODE_KEY.key) span

end Sys2Proof.Machine
end

