-- ==== Sys2Proof/Machine/Fire.lean ====
section
/-! DEFINITION. The fire timing generator (R46 to R56, R429): run, validation, decision points, frames, start requests, the
mirror's index and position, and the prefetch of shots. -/

namespace Sys2Proof.Machine

/-- The later of two device times. -/
def laterOf (a b : Nat) : Nat := if modGe 64 b a then b else a

/-- Changes the generator's own state. -/
def State.onFire (s : State) (f : FireSt → FireSt) : State := { s with fire := f s.fire }

/-- Does the frame start without a request (R47)? -/
def State.freeRun (s : State) : Bool := let m := s.get FIRE_FRAME_CTL.start_mode; m == 0 || m == 3

/-- start_offset_ns, in units of device time (R47, R51). -/
def State.startOffset (s : State) : Nat := Nat.max 2500 (s.get FIRE_TIMING_CFG.start_offset_ns) * nsUnits

/-- The bytes 1 to 12 of a command frame (R59). -/
def taperFrame (driver type seq b3 mask current : Nat) : List Byte :=
  let l := toLE 1 (driver + 16 * type) ++ toLE 1 seq ++ toLE 1 b3 ++ toLE 6 mask ++ toLE 1 current
  l ++ toBE 2 (crcUp 16 0x1021 0xFFFF l)

/-- The hub's frame reaches the lane of driver `d`: the lane is enabled and the pad selector is in the hub state (R15). -/
def State.laneOn (s : State) (d : Nat) : Bool :=
  decide (s.snf.sel = .hub) && (if d < 8 then s.flag FIRE_TAPER_CFG.lane0_en else s.flag FIRE_TAPER_CFG.lane1_en)

/-- The hub sends a command frame to driver `d`. -/
def State.taperSend (s : State) (d type seq b3 mask current : Nat) : State :=
  if s.laneOn d then s.emit (.taper false (d / 8) (taperFrame d type seq b3 mask current)) else s

/-- The hub pulses TAPER_SYNC: every driver expects seq 0 again (R60). -/
def State.taperReset (s : State) : State :=
  (s.onFire (fun f => { f with seqs := List.replicate 16 0 })).emit (.taperSync false)

/-- Run rises (R50, R61): TAPER_SYNC, ENUM to all drivers, first_buf under validation once that is over. The buffer is the one that
first_buf names at the rise (R42). -/
def State.runRise (s : State) : State :=
  let s1 := (s.setFlag FIRE_FRAME_CTL.run).taperReset
  let s2 := (List.range 16).foldl (fun s d => s.taperSend d 3 0 0 0 0) s1
  (s2.clearFlag FIRE_FRAME_STAT.start_latched).onFire (fun f =>
    { f with engaged := true, stopReq := false, enumerating := true, validRun := true, runBuf := s.get FIRE_FRAME_CTL.first_buf,
             firstFrame := true, latch := none,
             latchUsed := false, startNow := none, phase := .off, startPending := false,
             frameEnd := timeAdd s.now (50 * usUnits) })

/-- A write of run = 1 (R50) in a mode that fires: it claims SYNC_OUT (R409). Before the decision of the boundary it cancels a stop that
run = 0 asked for; after it, it is a rise. A stop that a STANDBY request asks for stays (R302). -/
def State.runSet (s : State) : State :=
  if modeFires s.mode then
    let s1 := s.claim 1 0x02 0
    if s.flag FIRE_FRAME_CTL.run then s1
    else if s.fire.engaged ∧ s.fire.phase ≠ .stopping then
      (s1.setFlag FIRE_FRAME_CTL.run).onFire (fun f => { f with stopReq := s.flag HUB_MODE_STAT.req_busy })
    else s1.runRise
  else s

/-- A write of run = 0 (R48, R50). -/
def State.runClear (s : State) : State :=
  let s1 := ((s.clearFlag FIRE_FRAME_CTL.run).clearFlag FIRE_FRAME_STAT.start_latched).onFire (fun f =>
    { f with latch := none, latchUsed := false, startNow := none })
  if s1.fire.engaged then s1.stopAsk else s1

/-- The inactive buffer goes under validation for a swap (R46, R49). -/
def State.swapValidate (s : State) : State :=
  (s.clearFlag FIRE_FRAME_STAT.swap_pending).onFire (fun f =>
    { f with validSwap := true, swapBuf := 1 - s.get FIRE_FRAME_STAT.active_buf, swapLate := false })

/-- A write of swap_req = 1 (R46, R49): the inactive buffer is validated. -/
def State.swapReq (s : State) : State :=
  if s.flag FIRE_FRAME_CTL.swap_req then s
  else (s.setFlag FIRE_FRAME_CTL.swap_req).swapValidate.onFire (fun f => { f with swapEdge := none })

/-- A write of FIRE_FRAME_CTL that sets start_mode and swap_mode (R51, R409, R410). -/
def State.syncPinSelect (s : State) (start swap : Nat) : State :=
  if start = 1 ∨ swap = 1 then
    let s1 := s.claim 0 0x02 0
    let ok := s1.holds 0 0x02
    let s2 := if start = 1 ∧ ¬ ok then s1 else s1.put FIRE_FRAME_CTL.start_mode start
    if swap = 1 ∧ ¬ ok then s2 else s2.put FIRE_FRAME_CTL.swap_mode swap
  else ((s.unclaim 0 0x02).put FIRE_FRAME_CTL.start_mode start).put FIRE_FRAME_CTL.swap_mode swap

/-- Enumeration ends (R61). -/
def State.enumDone (s : State) (answered : Nat) : State :=
  if s.fire.enumerating then
    (s.put FIRE_TAPER_STAT.drv_present answered).onFire (fun f => { f with enumerating := false })
  else s

/-- A failed validation (R46). -/
def State.validFail (s : State) (err idx : Nat) : State :=
  ((s.put FIRE_FRAME_STAT.val_err err).put FIRE_FRAME_VAL.err_index idx).raise Ev.frameValidationFailed 0 0

/-- first_buf passes or fails after run rose (R46): a failure clears swap_req, with the swap that it asked for, and run. Where it is the buffer that a swap in progress was to bring, the swap is for the
other one, the inactive one now, which is validated in its place (R49; log entry 175). -/
def State.validRunDone (s : State) : State :=
  let b := s.fire.runBuf
  let r := s.frameJudge b
  let s1 := r.2
  if r.1.1 = 0 then
    let span := s.get FIRE_CODE_CFG.code_span_ns
    let s2 := ((s1.put FIRE_FRAME_STAT.val_err 0).put FIRE_FRAME_STAT.active_buf b).onFire (fun f =>
      { f with validRun := false, phase := .waiting, span := span, codes := s.codesFor span })
    s2.when (s.flag FIRE_FRAME_CTL.swap_req && s.fire.swapBuf == b) State.swapValidate
  else
    let s2 := ((s1.validFail r.1.1 r.1.2).clearFlag FIRE_FRAME_CTL.swap_req).clearFlag FIRE_FRAME_STAT.swap_pending
    (s2.onFire (fun f => { f with validSwap := false })).fireOff

/-- The mode that counts for pairing: the base mode in SCAN-SLICED and HANDOVER (R300). -/
def State.pairMode (s : State) : Nat := if s.mode = 7 ∨ s.mode = 8 then s.get HUB_MODE_STAT.base_mode else s.mode

/-- Swaps wait for the pair (R326). -/
def State.pairSwaps (s : State) : Bool := s.flag TWN_CTL.pair_swap && s.pairMode == 5

/-- The inactive buffer passes or fails (R46); FIRE_SWAP_TIME may have passed by then (R49): at the time itself it has (R165). Where the
generator is not engaged a swap that has passed stays pending until a later run's first frame has run (DEDUCED, log entry 43). -/
def State.validSwapDone (s : State) : State :=
  let r := s.frameJudge s.fire.swapBuf
  let s1 := r.2.onFire (fun f => { f with validSwap := false })
  if r.1.1 = 0 then
    let late := decide (s.get FIRE_FRAME_CTL.swap_mode = 2) && modGe 64 s.now (s.get FIRE_SWAP_TIME.time)
    let s2 := ((s1.put FIRE_FRAME_STAT.val_err 0).setFlag FIRE_FRAME_STAT.swap_pending).onFire (fun f =>
      { f with swapSpan := s.get FIRE_CODE_CFG.code_span_ns, swapLate := late })
    let both := s.pairSwaps && s.flag TWN_STAT.hb_valid && s.twn.peer.elim false (fun h => h.swapPending)
    let s2 := { s2 with twn := { s2.twn with pairHold := both } }
    (s2.when late (fun s => s.setFlag FIRE_FRAME_STAT.swap_late)).raiseIf late Ev.swapLate 0
  else (s1.validFail r.1.1 r.1.2).clearFlag FIRE_FRAME_CTL.swap_req

/-- A validation ends: that of first_buf goes first (R46). -/
def State.validDone (s : State) : State :=
  if s.fire.validRun ∧ ¬ s.fire.enumerating then s.validRunDone
  else if s.fire.validSwap then s.validSwapDone
  else s

/-- A swap takes effect (R49). -/
def State.swapTake (s : State) : State :=
  let s1 := (s.put FIRE_FRAME_STAT.active_buf s.fire.swapBuf).incr FIRE_FRAME_STAT.frame_epoch
  let s2 := (s1.clearFlag FIRE_FRAME_STAT.swap_pending).clearFlag FIRE_FRAME_CTL.swap_req
  let s3 := { s2 with twn := { s2.twn with pairHold := false, swapLead := false } }
  (s3.onFire (fun f => { f with span := f.swapSpan, codes := s.codesFor f.swapSpan, swapEdge := none, swapLate := false,
                                oldBuf := some (s.get FIRE_FRAME_STAT.active_buf) })).raise Ev.frameSwapped 0 0

/-- Is a swap due at a cell boundary inside a frame, at nominal time `b` (R49)? -/
def State.swapAtCell (s : State) (b : Nat) : Bool :=
  s.flag FIRE_FRAME_STAT.swap_pending && !s.pairSwaps &&
    (match s.get FIRE_FRAME_CTL.swap_mode with
     | 1 => s.fire.swapEdge.isSome && !(s.get FIRE_FRAME_CTL.start_mode == 1)
     | 2 => s.fire.swapLate || modGe 64 b (s.get FIRE_SWAP_TIME.time)
     | _ => false)

/-- Is a swap due at a frame start at `b` that the request at `edge` makes, if one does (R49)? With pair_swap the leader's waits
for the peer's pending swap, and the follower's for the leader's swap (R326). The first frame after run rises is first_buf's: no frame
has run whose end it would be (R46, R49). -/
def State.swapAtStart (s : State) (b : Nat) (edge : Option Nat) : Bool :=
  s.flag FIRE_FRAME_STAT.swap_pending && !s.fire.firstFrame &&
    (if s.pairSwaps then (if s.flag TWN_STAT.leader then s.twn.pairHold else s.twn.swapLead) else
     match s.get FIRE_FRAME_CTL.swap_mode with
     | 1 => match s.fire.swapEdge with
       | none => false
       | some e => if s.get FIRE_FRAME_CTL.start_mode = 1 then edge.elim false (fun x => modGe 64 x e) else true
     | 2 => s.fire.swapLate || modGe 64 b (s.get FIRE_SWAP_TIME.time)
     | _ => true)

/-- The code table that rekey asked for takes effect, with the span latched with the active buffer (R56). -/
def State.rekeyTake (s : State) : State :=
  match s.fire.nextKey with
  | none => s
  | some k =>
    ((s.clearFlag FIRE_CODE_CFG.rekey).onFire (fun f => { f with codes := codeTable k f.span, nextKey := none })).raise Ev.codeRekeyed 0 0

/-- A write of rekey = 1 (R56): at once where nothing fires. -/
def State.rekey (s : State) : State :=
  let s1 := (s.setFlag FIRE_CODE_CFG.rekey).onFire (fun f => { f with nextKey := some (s.get FIRE_CODE_KEY.key) })
  if s.fire.engaged then s1 else s1.rekeyTake

/-- The state of a segment (R70). -/
def segState (b i : Nat) : FRef := FIRE_SEG_STATE.seg b (i / 16) (i % 16)

/-- M of R71. -/
def State.diagM (s : State) : Nat := clampN 8 256 (s.get FIRE_DIAG_CFG.m)

def FireSt.segCnt (f : FireSt) (k : Nat) : SegCnt := tabGet (fun _ => ⟨0, 0, 0⟩) f.diag k
def State.setSegCnt (s : State) (k : Nat) (c : SegCnt) : State :=
  s.onFire (fun f => { f with diag := tabSet (fun _ => ⟨0, 0, 0⟩) f.diag k c })

/-- The segments that the valid segment sets of a buffer use, as one mask (R71); an uncorrectable entry counts for none (R32; log entry
173). -/
def State.usedMask (s : State) (buf : Nat) : Nat :=
  (List.range 256).foldl (fun m k =>
    let w := s.segWord buf k
    if segValid w && !s.fireBad (bufBase buf + 0x20000 + 8 * k) 8 then Nat.lor m (segMask w) else m) 0

/-- A segment that R71's pointer steps over: used, in an enabled bank, neither open nor short. -/
def State.diagSegment (s : State) (used k : Nat) : Bool :=
  decide (bits used (k % 48) 1 = 1) && s.flag (FIRE_BANK_CFG.enable (k / 48)) && decide (s.get (segState (k / 48) (k % 48)) < 2)

/-- The proof shots of a frame (R71): segments from the pointer on. -/
def State.proofPick (s : State) : List Nat :=
  let used := s.usedMask (s.get FIRE_FRAME_STAT.active_buf)
  let n := Nat.min (s.get FIRE_DIAG_CFG.proof_max) (s.get FIRE_TIMING_CFG.blind_len_us)
  let rot := (List.range 3072).map (fun i => (s.fire.diagPtr + i) % 3072)
  (rot.filter (fun k => s.diagSegment used k && decide ((s.fire.segCnt k).period < s.diagM))).take n

/-- Proof shots with their places in the blind slot (R71). -/
def State.proofShots (s : State) (t0 : Nat) : Nat → List Nat → List Committed
  | _, [] => []
  | i, k :: l =>
    ⟨0, 0, k / 48, 0, 2 ^ (k % 48), s.get FIRE_DIAG_CFG.diag_current, 0, 0, timeAdd t0 (i * usUnits),
      s.get FIRE_FRAME_STAT.active_buf, false, false, false, true, true⟩ :: s.proofShots t0 (i + 1) l

/-- The generator commits to a frame start at `t0` and to the proof shots of its blind slot (R47, R71, R429). -/
def State.commitStart (s : State) (t0 : Nat) : State :=
  let pick := s.proofPick
  let ps := s.proofShots t0 0 pick
  (s.fireScan 33 (bufBase (s.get FIRE_FRAME_STAT.active_buf) + 0x20000) 2048).onFire (fun f =>
    { f with phase := .frame, startPending := true, nextT0 := t0, entry := 0, frames := f.frames + 1,
             nominal := timeAdd t0 (s.get FIRE_TIMING_CFG.blind_len_us * usUnits),
             diagPtr := (pick.getLast?).elim f.diagPtr (fun k => (k + 1) % 3072), committed := f.committed ++ ps })

/-- The cell of bank `b` that entries are still committed to. -/
def FireSt.openCell (f : FireSt) (b : Nat) : Option CellInfo :=
  f.cells.find? (fun c => c.bank == b && decide (c.committed < c.planned))

/-- No cell is open between the last entry committed to and the next one (R45). -/
def FireSt.atBoundary (f : FireSt) : Bool := !f.cells.any (fun c => decide (c.committed < c.planned))

/-- A cell takes another entry at a nominal time in ns: its spacings (R144). -/
def CellInfo.entryAt (x : CellInfo) (t : Nat) : CellInfo :=
  let d := (t + 2 ^ 48 - x.nomLast) % 2 ^ 48
  if x.committed = 0 then { x with committed := 1, nomLast := t }
  else { x with committed := x.committed + 1, nomLast := t, dSum := x.dSum + d, dMax := Nat.max x.dMax d,
                dMin := if x.committed = 1 then d else Nat.min x.dMin d }

/-- The generator commits to the next entry (R43, R45, R52). A segment-set word found uncorrectable gives no segment, so the shot is
suppressed; with an uncorrectable entry the generator has no shot and no interval to go on with, and firing ends at once (R32; log entry
173). -/
def State.commitEntry (s0 : State) : State :=
  let buf := s0.get FIRE_FRAME_STAT.active_buf
  let ea := bufBase buf + 8 * s0.fire.entry
  let w := s0.entryWord buf s0.fire.entry
  let sa := bufBase buf + 0x20000 + 8 * entSegset w
  if s0.fireBad ea 8 then (s0.fireScan 33 ea 8).fireKill
  else
    let s := (s0.fireScan 33 ea 8).fireScan 33 sa 8
    let f := s.fire
    let n := s.get (FIRE_FRAME_LEN.entries buf)
    let b := entBank w
    let sw := s0.segWord buf (entSegset w)
    let new : CellInfo := ⟨f.nextCell, b, entSegset w, s0.mapTaken buf (segMap sw), s.cellSize buf b (n - f.entry) f.entry, f.entry,
      s.get FIRE_FRAME_STAT.frame_epoch, 0, 0, [], f.nominal, false, [], f.span, 0, 0, 0, 0, none, [],
      s.cellLast buf b (n - f.entry) f.entry, f.frames, none⟩
    let mine := f.openCell b
    let cell := mine.getD new
    let s1 := if mine.isSome then s else s.fireScan 33 (mapAddr buf (segMap sw)) 192
    let cells := if mine.isSome then f.cells else f.cells ++ [new]
    let mask := if s0.fireBad sa 8 then 0 else segMask sw
    let c : Committed := ⟨cell.id, cell.committed, b, entSegset w, mask, entCurrent w, f.codes.getD (entSlot w) 0,
      entFine w, f.nominal, buf, entEnd w, cell.committed == 0, entSync w, entNoRx w, false⟩
    let next := timeAdd f.nominal (entInterval w * nsUnits)
    let last := decide (n ≤ f.entry + 1)
    s1.onFire (fun f => { f with
      committed := f.committed ++ [c],
      cells := cells.map (fun x => if x.id = cell.id then x.entryAt (f.nominal / nsUnits) else x),
      nextCell := f.nextCell + (if mine.isSome then 0 else 1),
      entry := f.entry + 1, nominal := next,
      phase := if last then .waiting else .frame,
      frameEnd := if last then next else f.frameEnd })

/-- A start request at `t` (R48). One that comes between the end of a frame and the T0 that an earlier request has set is latched, as one
that comes while a frame runs: the spec does not say (log entry 176). -/
def State.startRequest (s : State) (t : Nat) : State :=
  if s.fire.engaged ∧ s.flag FIRE_FRAME_CTL.run then
    let f := s.fire
    if f.phase = .waiting ∧ ¬ s.frameRuns ∧ f.firstFrame = false ∧ f.startNow = none then
      s.onFire (fun f => { f with startNow := some t })
    else if f.latch = none then
      (s.setFlag FIRE_FRAME_STAT.start_latched).onFire (fun f => { f with latch := some t })
    else (s.setFlag FIRE_FRAME_STAT.start_overrun).raise Ev.startOverrun 0 0
  else s

/-- A follower's start requests are made at their times (R325). -/
def State.startsDue (s : State) : State :=
  (s.twn.starts.filter (fun t => modGe 64 s.now t)).foldl (fun (s : State) t => s.startRequest t)
    { s with twn := { s.twn with starts := s.twn.starts.filter (fun t => !modGe 64 s.now t) } }

/-- T0 of the next frame, and the request that starts it (R47, R48, R325). -/
def State.nextStart (s : State) : Option (Nat × Option Nat) :=
  if s.freeRun && !s.twn.following then some (s.fire.frameEnd, none)
  else
    match s.fire.startNow.orElse (fun _ => s.fire.latch) with
    | none => none
    | some e => some (laterOf s.fire.frameEnd (timeAdd e s.startOffset), some e)

/-- At a frame end the device begins or ceases to follow the leader (R325, R327, R328). -/
def State.phaseTake (s : State) : State :=
  let f := s.pairMode == 5 && s.flag TWN_STAT.hb_valid && !s.flag TWN_STAT.leader
  { s with twn := { s.twn with following := f, starts := if f then s.twn.starts else [] } }

/-- The decision point of a frame start (R429): stop, or swap, re-key and start. -/
def State.decideStart (s : State) : State :=
  let s := s.phaseTake
  if s.fire.stopReq then ((s.safBoundary s.fire.frameEnd).rekeyTake).fireStop
  else
    match s.nextStart with
    | none => s
    | some (t0, edge) =>
      let s1 := (s.safBoundary t0).rekeyTake
      let s2 := if s1.swapAtStart t0 edge then s1.swapTake else s1
      (s2.commitStart t0).onFire (fun f =>
        if f.startNow.isSome then { f with startNow := none } else { f with latchUsed := f.latch.isSome })

/-- The decision point of an entry (R429): at a cell boundary the frame may stop or be cut by a swap. -/
def State.decideEntry (s : State) : State :=
  if 0 < s.fire.entry ∧ s.fire.atBoundary then
    let s1 := (s.safBoundary s.fire.nominal).rekeyTake
    if s.fire.stopReq then s1.fireStop
    else if s1.swapAtCell s1.fire.nominal then s1.swapTake.commitStart s1.fire.nominal
    else s1.commitEntry
  else s.commitEntry

/-- A decision point (R429). -/
def State.decisionPoint (s : State) : State :=
  let s := s.startsDue
  match s.fire.phase with
  | .off => s
  | .waiting => s.decideStart
  | .frame => s.decideEntry
  | .stopping => s

/-- The index nearest to `target` among those after `lo` and before `hi`, as its signed distance; on a tie the earlier (R65). -/
def nearestIndex (target : Nat) (lo : Option Nat) (hi : Nat) : List Nat → Option Int
  | [] => none
  | t :: l =>
    let r := nearestIndex target lo hi l
    let ok := lo.elim true (fun x => modGe 64 t x && !(t == x)) && modGe 64 hi t && !(t == hi)
    let d := sx 64 (timeDiff t target)
    if ok then
      match r with
      | none => some d
      | some e => if d.natAbs < e.natAbs ∨ (d.natAbs = e.natAbs ∧ d < e) then some d else some e
    else r

/-- The frame in progress is judged when the next one starts (R65). -/
def State.judgeLock (s : State) : State :=
  let tgt := timeAdd s.fire.t0 (s.get FIRE_MIRROR_PHASE.phase_target * 10 * nsUnits)
  let tol := Nat.max 1 (s.get FIRE_MIRROR_PHASE.phase_tol) * usUnits
  let e := nearestIndex tgt s.fire.prevT0 s.fire.nextT0 s.fire.indexTimes
  let s1 := match e with
    | none => s
    | some d => s.put FIRE_MIRROR_STAT.phase_err (toField 24 (clampI (-8388608) 8388607 (Int.fdiv d 655360)))
  let good := e.elim false (fun d => decide (d.natAbs ≤ tol))
  if good then
    let n := Nat.min 8 (s1.fire.lockCount + 1)
    (s1.onFire (fun f => { f with lockCount := n })).when (decide (8 ≤ n)) (fun s => s.setFlag FIRE_MIRROR_STAT.locked)
  else
    let was := s1.flag FIRE_MIRROR_STAT.locked
    let s2 := (s1.onFire (fun f => { f with lockCount := 0 })).clearFlag FIRE_MIRROR_STAT.locked
    (s2.when was (fun s => s.setFlag FIRE_MIRROR_STAT.lock_lost)).raiseIf was Ev.mirrorLockLost 0

/-- A latched start request is consumed (R48). -/
def State.latchConsume (s : State) : State :=
  (s.clearFlag FIRE_FRAME_STAT.start_latched).onFire (fun f => { f with latch := none, latchUsed := false })

/-- The index events that a later judgement can need: those after `lo`; the newest one is kept for the period (R48, R65). -/
def indexKeep (lo : Nat) : List Nat → List Nat
  | [] => []
  | t :: l => t :: l.filter (fun x => modGe 64 x lo && !(x == lo))

/-- A frame starts at its T0 (R47, R51); the frame before it is judged, be it one of an earlier run (R65). -/
def State.frameStart (s : State) : State :=
  if s.fire.startPending then
    let t0 := s.fire.nextT0
    let s1 := if s.fire.hadFrame then s.judgeLock else s
    let s2 := if s1.fire.latchUsed then s1.latchConsume else s1
    let s3 := (s2.setFlag FIRE_FRAME_STAT.running).onFire (fun f =>
      { f with startPending := false, prevT0 := if f.hadFrame then some f.t0 else none, t0 := t0, firstFrame := false, hadFrame := true,
               oldBuf := none, indexTimes := if f.hadFrame then indexKeep f.t0 f.indexTimes else f.indexTimes })
    s3.syncFlush.syncOutPulse t0
  else s

/-- The overlap cross-check at a frame end (R334): the cells of the frame that ends are those of the last frame from now on. -/
def State.overlapJudge (s : State) : State :=
  let bad := decide (s.get TWN_OVL_CFG.ovl_frac * s.twn.matched < 256 * s.twn.disagreed)
  let n := s.fire.frames - bit s.fire.startPending
  let s1 := { s with twn := { s.twn with ovlPrev := if s.twn.ovlNow = n then s.twn.ovl else [], ovl := [], ovlEnded := n,
                                         matched := 0, disagreed := 0 } }
  if bad then (s1.setFlag TWN_STAT.ovl_seen).raise Ev.twinOverlapMismatch 0 0 else s1

/-- A frame ends (R48): a latched request is consumed; a stop whose boundary this is takes effect (R50). -/
def State.frameFinish (s : State) : State :=
  let s := s.startsDue
  if s.frameRuns then
    let s0 := (s.clearFlag FIRE_FRAME_STAT.running).overlapJudge
    let s1 := { s0 with twn := { s0.twn with lastFrameLen := timeDiff s.fire.frameEnd s.fire.t0 } }
    let s2 := match s1.fire.latch with
      | none => s1
      | some e =>
        if s1.fire.latchUsed then s1.latchConsume
        else if s1.fire.phase = .waiting then
          s1.latchConsume.onFire (fun f => { f with startNow := some e })
        else s1
    let s3 := if s2.fire.phase = .waiting ∧ s2.fire.stopReq then s2.decideStart else s2
    if s3.fire.phase = .stopping then s3.fireOff else s3
  else s

/-- A rising edge on SYNC_IN (R47, R49). -/
def State.syncInEdge (s : State) : State :=
  let t := s.now
  let want := s.get FIRE_FRAME_CTL.swap_mode == 1 && s.flag FIRE_FRAME_CTL.swap_req && s.fire.swapEdge.isNone
  let s1 := s.when want (fun s => s.onFire (fun f => { f with swapEdge := some t }))
  if s1.get FIRE_FRAME_CTL.start_mode = 1 ∧ ¬ s1.twn.following then s1.startRequest t else s1

/-- The position interface's index event (R63, R65): the count it latches just before the reset. -/
def State.mirrorIndex (s : State) (latch : Nat) : State :=
  let t := s.now
  let s1 := s.onFire (fun f => { f with
    indexLatch := (t, latch) :: f.indexLatch,
    indexPeriod := f.indexTimes.head?.elim f.indexPeriod (fun u => timeDiff t u),
    indexTimes := t :: f.indexTimes })
  if s1.get FIRE_FRAME_CTL.start_mode = 2 ∧ ¬ s1.twn.following then s1.startRequest t else s1

/-- No index for 1.5 times the last measured period in mode 0b10 (R48). It is missed only while the generator is engaged, and so waits for
it: the rule does not say what holds with run = 0 (DESIGN CHOICE, log entry 207). -/
def State.indexMissing (s : State) : State :=
  if s.get FIRE_FRAME_CTL.start_mode = 2 ∧ s.fire.engaged then
    (s.setFlag FIRE_MIRROR_STAT.index_missing).raise Ev.mirrorIndexMissing 0 0
  else s

/-- The position samples that a later azimuth can need: the newest, and back to the last one at or before `old`. -/
def samplesKeep (old : Nat) : List PosSample → List PosSample
  | [] => []
  | p :: l => if modGe 64 old p.time then [p] else p :: samplesKeep old l

/-- The earlier of two device times. -/
def earlierOf (a b : Nat) : Nat := if modGe 64 b a then a else b

/-- A position sample (R63): with no source selected there are none. Samples stay while a cell that no tile has sealed may need
them for the azimuth of a shot (R64). -/
def State.positionSample (s : State) (pos : Nat) : State :=
  if s.posSrc = 0 then s
  else
    let old := s.fire.cells.foldl (fun t c => earlierOf t c.firstS) s.now
    s.onFire (fun f => { f with samples := ⟨s.now, pos, f.indexLatch⟩ :: samplesKeep old f.samples, indexLatch := [] })

/-- The set bits of a mask among 48. -/
def maskBits (m : Nat) : List Nat := (List.range 48).filter (fun i => bits m i 1 == 1)

/-- The mask without the shorted segments of its bank (R70). -/
def State.shortRemoved (s : State) (b m : Nat) : Nat :=
  ((maskBits m).filter (fun i => !(s.get (segState b i) == 3))).foldl (fun x i => x + 2 ^ i) 0

/-- A shot of cell `id` has been noticed or suppressed. -/
def State.cellSeen (s : State) (id : Nat) (g : CellInfo → CellInfo) : State :=
  s.onFire (fun f => { f with cells := f.cells.map (fun c => if c.id = id then { g c with seen := c.seen + 1 } else c) })

/-- A shot is not fired, for any cause (R54). -/
def State.suppress (s : State) (c : Committed) : State := (s.incr FIRE_SHOT_STAT.suppressed).cellSeen c.cell id

/-- Step 1 of R54: an entry leaves the prefetch queue. S is computed (R52) and shorted segments go; an emptied mask suppresses
the shot (R70). The entry's SYNC_OUT pulse is due at S (R51). -/
def State.prefetch (s : State) : State :=
  match s.fire.committed with
  | [] => s
  | c :: rest =>
    let t := timeAdd c.nominal (c.codeNs * nsUnits + c.fine * 256)
    let m := s.shortRemoved c.bank c.mask
    let s1 := s.onFire (fun f => { f with committed := rest })
    let s2 := s1.onFire (fun f => { f with cells := f.cells.map (fun x =>
      if x.id = c.cell then { x with firstS := if c.first then t else x.firstS, entryS := x.entryS ++ [t] } else x) })
    let s3 := if c.syncOut then s2.onFire (fun f => { f with syncDue := f.syncDue ++ [t] }) else s2
    if m = 0 then s3.suppress c
    else
      let shot : Shot := ⟨{ c with mask := m }, s.get (FIRE_BANK_CFG.driver c.bank), s.get (FIRE_BANK_CFG.local_bank c.bank), t,
        .fetched, 0, none, none, false⟩
      s3.onFire (fun f => { f with shots := f.shots ++ [shot] })

def execRunSet (s : State) : Res := .next s.runSet
def execRunClear (s : State) : Res := .next s.runClear
def execSwapReq (s : State) : Res := .next s.swapReq
def execSyncPinSelect (startMode swapMode : Fin 4) (s : State) : Res := .next (s.syncPinSelect startMode swapMode)
def execTaperEnumDone (answered : Word16) (s : State) : Res := .next (s.enumDone answered.toNat)
def execFrameValidationDone (s : State) : Res := .next s.validDone
def execDecisionPoint (s : State) : Res := .next s.decisionPoint
def execFrameStart (s : State) : Res := .next s.frameStart
def execFrameEnd (s : State) : Res := .next s.frameFinish
def execSyncInEdge (s : State) : Res := .next s.syncInEdge
def execMirrorIndex (count : Word32) (s : State) : Res := .next (s.mirrorIndex count.toNat)
def execMirrorIndexMissing (s : State) : Res := .next s.indexMissing
def execPositionSample (pos : Word32) (s : State) : Res := .next (s.positionSample pos.toNat)
def execEntryPrefetch (s : State) : Res := .next s.prefetch
def execRekey (s : State) : Res := .next s.rekey

end Sys2Proof.Machine
end

