-- ==== Sys2Proof/Machine/Shots.lean ====
section
/-! DEFINITION. Shade (R66 to R69, R292), the Taper bus (R59 to R62) and emitter diagnosis (R70, R71). -/

namespace Sys2Proof.Machine

/-- The first shot at a stage. -/
def FireSt.shotAt (f : FireSt) (g : ShotStage) : Option Shot := f.shots.find? (fun x => decide (x.stage = g))

/-- Are two shots the same one: driver and scheduled time? -/
def sameShot (a b : Shot) : Bool := a.driver == b.driver && a.time == b.time

def State.setShot (s : State) (x : Shot) : State :=
  s.onFire (fun f => { f with shots := f.shots.map (fun y => if sameShot x y then x else y) })

def State.dropShot (s : State) (x : Shot) : State :=
  s.onFire (fun f => { f with shots := f.shots.filter (fun y => !sameShot x y) })

/-- The width of the binned range (R66). -/
def binRange (lo hi : Nat) : Nat := let w := (hi + 2 ^ 20 - lo) % 2 ^ 20; if w = 0 then 2 ^ 20 else w

/-- The distance of two azimuths the shorter way round. -/
def azDist (a b : Nat) : Nat := Nat.min ((a + 2 ^ 20 - b) % 2 ^ 20) ((b + 2 ^ 20 - a) % 2 ^ 20)

/-- The azimuth bins that a shot at azimuth `a` is charged to (R66). -/
def azBins (lo hi a : Nat) : List Nat :=
  let w := binRange lo hi
  let d := (a + 2 ^ 20 - lo) % 2 ^ 20
  let whole := decide (w = 2 ^ 20)
  if d < w then
    let b := 64 * d / w
    let r := 64 * d - b * w
    if 8 * r ≤ w ∧ (0 < b ∨ whole) then [b, (b + 63) % 64]
    else if 8 * (w - r) ≤ w ∧ (b < 63 ∨ whole) then [b, (b + 1) % 64]
    else [b]
  else if azDist a lo ≤ azDist a hi then [0] else [63]

/-- The bins of a shot at `t` under the register settings: its azimuth predicted by the phase model (R66). -/
def State.shotBins (s : State) (t : Nat) : List Nat :=
  azBins (s.get SHADE_AZ_MIN.az) (s.get SHADE_AZ_MAX.az) (s.azPredict t)

/-- The entry of the Shade energy table for a current code, in units of 0.1 nJ (R42, R66). -/
def State.energyOf (s : State) (current : Nat) : Nat := memNat s.fireTab (0x80000 + 2 * current) 2

/-- The energy of a shot (R66). -/
def State.shotEnergy (s : State) (x : Shot) : Nat := (maskBits x.c.mask).length * s.energyOf x.c.current

/-- An angular cell's place in a ledger: window, bank, bin. -/
def ledgerKey (w bank bin : Nat) : Nat := 4096 * w + 64 * bank + bin

def emptyBuckets : List Nat := List.replicate 17 0
def buckets (l : List (Nat × List Nat)) (k : Nat) : List Nat := tabGet (fun _ => emptyBuckets) l k
def setBuckets (l : List (Nat × List Nat)) (k : Nat) (b : List Nat) : List (Nat × List Nat) :=
  tabSet (fun _ => emptyBuckets) l k b

/-- The ledger sum of an angular cell (R67). -/
def ledgerSum (l : List (Nat × List Nat)) (k : Nat) : Nat := (buckets l k).sum

/-- Energy goes into the current bucket. -/
def chargeCell (l : List (Nat × List Nat)) (k e : Nat) : List (Nat × List Nat) :=
  match buckets l k with
  | [] => l
  | b :: t => setBuckets l k ((b + e) :: t)

/-- A charge to every bin in the given windows. -/
def chargeAll (l : List (Nat × List Nat)) (ws bins : List Nat) (bank e : Nat) : List (Nat × List Nat) :=
  ws.foldl (fun l w => bins.foldl (fun l b => chargeCell l (ledgerKey w bank b) e) l) l

/-- A window's bucket period ends in a ledger (R67). -/
def advanceLedger (l : List (Nat × List Nat)) (w : Nat) : List (Nat × List Nat) :=
  l.foldl (fun acc p => if p.1 / 4096 = w then setBuckets acc p.1 (0 :: p.2.take 16) else setBuckets acc p.1 p.2) []

/-- The windows in use: a length of 0 disables one (R69). -/
def State.shadeWindows (s : State) : List Nat := (List.range 3).filter (fun w => !(s.get (SHADE_WIN_LEN.len_us w) == 0))

/-- Every window's budget admits the shot in every bin (R67). -/
def State.budgetOk (s : State) (bank e : Nat) (bins : List Nat) : Bool :=
  s.shadeWindows.all (fun w => bins.all (fun b =>
    decide (ledgerSum s.fire.ledger (ledgerKey w bank b) + e ≤ s.get (SHADE_WIN_BUDGET.budget w))))

/-- Firing is inhibited by the emitter-board temperature (R69). -/
def State.tempBlocked (s : State) : Bool :=
  s.flag SHADE_STAT.temp_inhibit || decide (sx 16 (s.get SHADE_TEMP_WIN.t_max) ≤ sx 16 (s.get SHADE_TEMP_WIN.t_min))

/-- Has driver `d` faulted (R62)? -/
def State.drvFaulted (s : State) (d : Nat) : Bool := bits (s.get FIRE_TAPER_STAT.drv_fault) d 1 == 1

/-- A budget refuses a shot (R67): counted, and shade-suppress once per cell. -/
def State.budgetSuppress (s : State) (c : Committed) : State :=
  let seen := (s.fire.cells.find? (fun x => x.id == c.cell)).elim false (fun x => x.suppressSeen)
  let s1 := ((s.bump SHADE_SUPPRESS_CNT.count).setFlag SHADE_STAT.suppress_seen).onFire (fun f =>
    { f with cells := f.cells.map (fun x => if x.id = c.cell then { x with suppressSeen := true } else x) })
  (s1.suppress c).raiseIf (!seen) Ev.shadeSuppress 0

/-- The reported board temperature lies outside Snuffer's window by more than hyst (R292). -/
def tempOutside (c : ShadeCopy) (t : Int) : Bool :=
  let lo := sx 16 c.tMin
  let hi := sx 16 c.tMax
  decide (t < lo - (c.hyst : Nat)) || decide (hi + (c.hyst : Nat) < t)

/-- Snuffer's energy for a current code, from its own table (R292). -/
def ShadeCopy.energyOf (c : ShadeCopy) (current : Nat) : Nat := ofLE ((c.energy.drop (2 * current)).take 2)

/-- Snuffer's windows in use. -/
def ShadeCopy.windows (c : ShadeCopy) : List Nat := (List.range 3).filter (fun w => !(c.lens.getD w 0 == 0))

/-- A ledger sum of Snuffer: the hub's charges and its own pilot shots. -/
def SnfSt.sum (x : SnfSt) (k : Nat) : Nat := ledgerSum x.ledger k + ledgerSum x.pilotLedger k

/-- Snuffer takes the charge of an admitted shot (R292): bank, bins, current and segment count, and the hub's energy. -/
def State.snufferCharge (s : State) (bank : Nat) (bins : List Nat) (current segs e : Nat) : State :=
  match s.snf.shade with
  | none => s
  | some c =>
    let mine := segs * c.energyOf current
    let s1 := { s with snf := { s.snf with ledger := chargeAll s.snf.ledger c.windows bins bank mine } }
    let ovr := c.windows.any (fun w => bins.any (fun b =>
      decide (c.budgets.getD w 0 < s1.snf.sum (ledgerKey w bank b))))
    let hot := s.snf.boardTemp.elim false (tempOutside c)
    if mine ≠ e ∨ ovr ∨ hot then s1.safetyFault 0x09 0 else s1

/-- Step 2 of R54: Shade admits a shot and charges its ledgers, or the shot is suppressed (R67, R69, R62); so is one whose energy
stands in an uncorrectable word (R32; log entry 173). -/
def State.shadeCheck (s0 : State) : State :=
  match s0.fire.shotAt .fetched with
  | none => s0
  | some x =>
    let s := s0.fireScan 35 (0x80000 + 2 * x.c.current) 2
    let e := s.shotEnergy x
    let bins := s.shotBins x.time
    if s.tempBlocked ∨ s.drvFaulted x.driver ∨ s0.fireBad (0x80000 + 2 * x.c.current) 2 then (s.dropShot x).suppress x.c
    else if s.budgetOk x.c.bank e bins then
      let s1 := (s.setShot { x with stage := .admitted }).onFire (fun f =>
        { f with ledger := chargeAll f.ledger s.shadeWindows bins x.c.bank e })
      s1.snufferCharge x.c.bank bins x.c.current (maskBits x.c.mask).length e
    else (s.dropShot x).budgetSuppress x.c

/-- A bucket period of window `w` ends (R67), in Snuffer's ledgers alike (log entry 22). -/
def State.bucketAdvance (s : State) (w : Nat) : State :=
  let s1 := s.onFire (fun f => { f with ledger := advanceLedger f.ledger w })
  { s1 with snf := { s1.snf with ledger := advanceLedger s1.snf.ledger w, pilotLedger := advanceLedger s1.snf.pilotLedger w } }

/-- The settings that the hub sends Snuffer at the lock (R292). -/
def State.shadeCopy (s : State) : ShadeCopy where
  lens := (List.range 3).map (fun w => s.get (SHADE_WIN_LEN.len_us w))
  budgets := (List.range 3).map (fun w => s.get (SHADE_WIN_BUDGET.budget w))
  azMin := s.get SHADE_AZ_MIN.az
  azMax := s.get SHADE_AZ_MAX.az
  energy := memBytes s.fireTab 0x80000 512
  tMin := s.get SHADE_TEMP_WIN.t_min
  tMax := s.get SHADE_TEMP_WIN.t_max
  hyst := s.get SHADE_TEMP_CFG.hyst

/-- A write of SHADE_CTL.lock = 1 (R12, R292); `same` says that the CRC Snuffer returns of its copy matches, which it does not when the
hub could not read the whole table (R32). Its ledger of the hub's charges starts as the hub's stands (log entry 22). -/
def State.shadeLock (s : State) (same : Bool) : State :=
  if s.flag SHADE_CTL.lock then s
  else if s.snf.powered then
    let s1 := (s.setFlag SHADE_CTL.lock).fireScan 35 0x80000 512
    let s2 := { s1 with snf := { s1.snf with shade := some s.shadeCopy, ledger := s.fire.ledger } }
    if same && !s.fireBad 0x80000 512 then s2 else s2.safetyFault 0x09 0
  else s.setFlag SHADE_CTL.lock

/-- A budget write (R68). -/
def State.budgetWrite (s : State) (w v : Nat) : State :=
  if s.flag SHADE_CTL.lock then
    let old := s.get (SHADE_WIN_BUDGET.budget w)
    if v ≤ old then
      let s1 := s.put (SHADE_WIN_BUDGET.budget w) v
      { s1 with snf := { s1.snf with shade := s1.snf.shade.map (fun c => { c with budgets := c.budgets.set w v }) } }
    else s.raise Ev.shadeConfigRejected 0 0
  else s.put (SHADE_WIN_BUDGET.budget w) v

/-- The RTDs that are checked: A, and B where it is enabled (R69). -/
def State.rtds (s : State) : List Nat := if s.flag SHADE_TEMP_CFG.rtd_b_en then [0, 1] else [0]

/-- The firing inhibit starts, unless it is in force (R69). -/
def State.inhibitStart (s : State) (src rtd : Nat) : State :=
  if s.flag SHADE_STAT.temp_inhibit then s
  else ((s.onFire (fun f => { f with tempIn := [false, false] })).setFlag SHADE_STAT.temp_inhibit).raiseInst src rtd

/-- Three valid samples of an enabled RTD at or beyond a limit in a row (R69); the event names that RTD (R398). -/
def State.tempInhibit (s : State) : State :=
  match s.rtds.find? (fun k => decide (3 ≤ s.fire.tempRuns.getD k 0)) with
  | some k => s.inhibitStart Ev.shadeTempInhibit k
  | none => s

/-- An enabled RTD has given no valid value for 1 s (R69); once none gives one, no temperature reaches Snuffer (R313). -/
def State.tempStale (s : State) (k : Nat) : State :=
  if k ∈ s.rtds then
    let s0 := (s.setFlag SHADE_STAT.temp_stale).onFire (fun f => { f with tempStale := f.tempStale.set k true })
    let s1 := if s0.rtds.all (fun j => s0.fire.tempStale.getD j false) then { s0 with snf := { s0.snf with boardTemp := none } } else s0
    s1.inhibitStart Ev.shadeTempStale k
  else s

/-- A valid sample of RTD `k`, in 0.1 °C (R69): the runs, whether it lies inside by hyst, and the report to Snuffer (R292). -/
def State.tempSample (s : State) (k : Nat) (t : Int) : State :=
  let lo := sx 16 (s.get SHADE_TEMP_WIN.t_min)
  let hi := sx 16 (s.get SHADE_TEMP_WIN.t_max)
  let h : Int := (s.get SHADE_TEMP_CFG.hyst : Nat)
  let beyond := decide (t ≤ lo) || decide (hi ≤ t)
  let inside := decide (lo + h ≤ t) && decide (t ≤ hi - h)
  let s1 := s.onFire (fun f => { f with
    tempRuns := f.tempRuns.set k (if beyond then f.tempRuns.getD k 0 + 1 else 0),
    tempIn := f.tempIn.set k inside, tempStale := f.tempStale.set k false })
  let s2 := if k ∈ s.rtds then { s1 with snf := { s1.snf with boardTemp := some t } } else s1
  s2.when (!s2.rtds.any (fun j => s2.fire.tempStale.getD j false)) (fun s => s.clearFlag SHADE_STAT.temp_stale)

/-- The inhibit ends at the first round after which every enabled RTD is inside since it started (R69). -/
def State.tempRound (s : State) : State :=
  if s.flag SHADE_STAT.temp_inhibit ∧ s.rtds.all (fun k => s.fire.tempIn.getD k false) then
    s.clearFlag SHADE_STAT.temp_inhibit
  else s

/-- A shot that the tiles have been told of does not fire (R54, R62): it is counted as suppressed. -/
def State.shotLost (s : State) (x : Shot) : State :=
  (s.incr FIRE_SHOT_STAT.suppressed).onFire (fun f => { f with cells := f.cells.map (fun c =>
    if c.id = x.c.cell then { c with times := c.times.filter (fun t => !(t == x.time)) } else c) })

/-- Step 4 of R54: the SHOT command frame (R59); a driver that has faulted gets none (R62). -/
def State.commandSend (s : State) : State :=
  match s.fire.shotAt .noticed with
  | none => s
  | some x =>
    if s.drvFaulted x.driver then (s.setShot { x with stage := .judged }).shotLost x
    else
    let q := s.fire.seqs.getD x.driver 0
    let s1 := s.taperSend x.driver 1 q (x.localBank + 4 * bit x.c.proof) x.c.mask x.c.current
    (s1.onFire (fun f => { f with seqs := f.seqs.set x.driver ((q + 1) % 256) })).setShot
      { x with stage := .commanded, seq := q }

/-- Step 6 of R54: the strobe at S + trim_n (R52, R53); the pair is driven while it is enabled, and pair 0 while the pad
selector is in the hub state (R15). -/
def State.strobe (s0 : State) : State :=
  let s := s0.syncFlush
  match s.fire.shotAt .commanded with
  | none => s
  | some x =>
    let trim := sx 11 (s.get (FIRE_STROBE_CFG.trim x.driver))
    let t := toField 64 ((x.time : Int) + trim * 256)
    let on := s.flag (FIRE_STROBE_CFG.enable x.driver) && (decide (0 < x.driver) || decide (s.snf.sel = .hub))
    let s1 := (s.incr FIRE_SHOT_STAT.fired).setShot { x with stage := .struck }
    if on then s1.emit (.strobe false x.driver t (s.get (FIRE_STROBE_CFG.width x.driver) + 2)) else s1

/-- The CRC of a status frame is right (R59). -/
def frameCrcOk (l : List Byte) : Bool := ofBE ((l.drop 10).take 2) == crcUp 16 0x1021 0xFFFF (l.take 10)

/-- Snuffer reads driver 0's status frame in PILOT-LIGHT (R313). -/
def State.pilotStatus (s : State) (l : List Byte) : State :=
  let ovr := bits (tblByte l 2) 0 1 == 1
  let bad := !frameCrcOk l
  let n := if bad then s.snf.pilotFails + 1 else 0
  { s with snf := { s.snf with pilotAwait := false, pilotFails := n,
                               pilotOn := s.snf.pilotOn && !(ovr && !bad) && decide (n < 3) } }

/-- A status frame arrives on a lane (R59): in PILOT-LIGHT Snuffer reads that of driver 0; the hub keeps it for the oldest
shot of the driver that waits for one, else for its CLEAR (R60). -/
def State.statusReceive (s : State) (lane : Nat) (l : List Byte) : State :=
  let d := tblByte l 0 % 16
  if s.mode = 9 then (if lane = 0 ∧ d = 0 then s.pilotStatus l else s)
  else if tblByte l 0 / 16 = 8 ∧ d / 8 = lane ∧ (if lane = 0 then s.flag FIRE_TAPER_CFG.lane0_en else s.flag FIRE_TAPER_CFG.lane1_en)
  then
    match s.fire.shots.find? (fun x => decide (x.stage = .struck) && x.driver == d && x.status.isNone) with
    | none => s.onFire (fun f => { f with clears := updFirst (fun p => p.1 == d && p.2.2.isNone) (fun p => (p.1, p.2.1, some l)) f.clears })
    | some x => s.setShot { x with status := some l }
  else s

/-- Is a shot a diagnostic shot: one segment after short removal (R70)? -/
def Shot.diagnostic (x : Shot) : Bool := (maskBits x.c.mask).length == 1

/-- The segment of a diagnostic shot. -/
def Shot.segment (x : Shot) : Nat := (maskBits x.c.mask).headD 0

/-- A diagnostic shot counts, with or without a reference return (R70); a bank without a reference channel keeps its segments
not yet diagnosed. -/
def State.diagCount (s : State) (x : Shot) (seen : Bool) : State :=
  let i := x.segment
  let k := x.c.bank * 48 + i
  let c := s.fire.segCnt k
  let ref := decide (s.get (FIRE_BANK_CFG.ref_tile x.c.bank) < 6)
  let n : SegCnt := ⟨c.period + 1, c.total + 1, if seen then 0 else c.misses + 1⟩
  let s1 := s.setSegCnt k (if ref then n else { c with period := c.period + 1 })
  let st := s.get (segState x.c.bank i)
  if ref ∧ st < 2 ∧ s.diagM ≤ n.total ∧ n.misses < s.diagM then s1.put (segState x.c.bank i) 1 else s1

/-- The count is made once the status frame is good and the reference window has been judged (R70). -/
def State.diagJudge (s : State) (x : Shot) : State :=
  let ref := decide (s.get (FIRE_BANK_CFG.ref_tile x.c.bank) < 6)
  if x.diagnostic ∧ x.counts then
    match x.refSeen with
    | some seen => s.diagCount x seen
    | none => if ref then s else s.diagCount x false
  else s

/-- The segments of an overcurrent mask become short (R62, R70). -/
def State.shortSegments (s : State) (x : Shot) (m : Nat) : State :=
  (maskBits m).foldl (fun s i =>
    if s.get (segState x.c.bank i) = 3 then s
    else (s.put (segState x.c.bank i) 3).raiseInst Ev.segmentShort x.driver) s

/-- The strobe fired nothing: the shot is counted as suppressed (R62). -/
def State.noCommand (s : State) (x : Shot) : State := (s.shotLost x).raiseInst Ev.taperNoCommand x.driver

/-- A missing status frame of a driver, or one whose CRC is bad, which an answer to SHOT or CLEAR may be (R62). -/
def State.statusFail (s : State) (d : Nat) (missing : Bool) : State :=
  let s1 := s.bump (if missing then FIRE_TAPER_DRV_CNT.missing d else FIRE_TAPER_DRV_CNT.crc_err d)
  (s1.onFire (fun f => { f with fails := f.fails.set d (f.fails.getD d 0 + 1) })).raiseInst
    (if missing then Ev.taperStatusMissing else Ev.taperCrcError) d

/-- A good status frame ends the run of failures (R62). -/
def State.statusGood (s : State) (d : Nat) : State := s.onFire (fun f => { f with fails := f.fails.set d 0 })

/-- The status frame of a struck shot is judged (R62, R70). -/
def State.shotEvaluate (s : State) (x : Shot) : State :=
  match x.status with
  | none => (s.setShot { x with stage := .judged }).statusFail x.driver true
  | some l =>
    if frameCrcOk l then
      let flags := tblByte l 2
      let lost := decide (tblByte l 1 ≠ x.seq) || decide (bits flags 1 1 = 1) || decide (bits flags 5 1 = 1)
      let y := { x with stage := .judged, counts := !lost }
      let s1 := (s.setShot y).statusGood x.driver
      let s2 := if lost then s1.noCommand x else s1
      let s3 := s2.diagJudge y
      if bits flags 0 1 = 1 then s3.shortSegments x (tblNat l 3 6) else s3
    else (s.setShot { x with stage := .judged }).statusFail x.driver false

/-- The answer to a CLEAR is judged: only whether it came and whether its CRC is right (R62). -/
def State.clearEvaluate (s : State) (d : Nat) (status : Option (List Byte)) : State :=
  match status with
  | none => s.statusFail d true
  | some l => if frameCrcOk l then s.statusGood d else s.statusFail d false

/-- Step 10 of R54: the status frame of the oldest struck shot is judged, or that of a CLEAR which was sent before its strobe (R62; log
entry 177). -/
def State.statusEvaluate (s : State) : State :=
  match s.fire.clears, s.fire.shotAt .struck with
  | [], none => s
  | [], some x => s.shotEvaluate x
  | (d, _, l) :: r, none => (s.onFire (fun f => { f with clears := r })).clearEvaluate d l
  | (d, u, l) :: r, some x =>
    if modGe 64 x.time u then (s.onFire (fun f => { f with clears := r })).clearEvaluate d l else s.shotEvaluate x

/-- A third consecutive missing or bad status (R62). -/
def State.driverFault (s : State) (d : Nat) : State :=
  if 3 ≤ s.fire.fails.getD d 0 ∧ ¬ s.drvFaulted d then
    (s.put FIRE_TAPER_STAT.drv_fault (s.get FIRE_TAPER_STAT.drv_fault + 2 ^ d)).raiseInst Ev.taperDriverFault d
  else s

/-- Clearing drv_fault (R62): CLEAR, whose answer will be judged, TAPER_SYNC and a new enumeration of the driver. Its run of missing or bad
frames starts anew: the spec does not say so (DESIGN CHOICE, log entry 208). -/
def State.driverClear (s : State) (d : Nat) (answered : Bool) : State :=
  if s.drvFaulted d then
    let s1 := s.put FIRE_TAPER_STAT.drv_fault (s.get FIRE_TAPER_STAT.drv_fault - 2 ^ d)
    let s2 := ((s1.taperSend d 4 (s1.fire.seqs.getD d 0) 0 0 0).taperReset).taperSend d 3 0 0 0 0
    let p := s2.get FIRE_TAPER_STAT.drv_present
    (s2.put FIRE_TAPER_STAT.drv_present (p - bits p d 1 * 2 ^ d + bit answered * 2 ^ d)).onFire (fun f =>
      { f with fails := f.fails.set d 0, clears := f.clears ++ [(d, s.now, none)] })
  else s

/-- M diagnostic shots in a row without a reference return (R70). -/
def State.segmentOpen (s : State) (b i : Nat) : State :=
  if s.diagM ≤ (s.fire.segCnt (b * 48 + i)).misses ∧ s.get (segState b i) < 2 ∧ i < 48 ∧ s.get (FIRE_BANK_CFG.ref_tile b) < 6 then
    (s.put (segState b i) 2).raiseInst Ev.segmentOpen (s.get (FIRE_BANK_CFG.driver b))
  else s

/-- A segment is not yet diagnosed again, its counters zero (R71). -/
def State.segClear (s : State) (k : Nat) : State := (s.put (segState (k / 48) (k % 48)) 0).setSegCnt k ⟨0, 0, 0⟩

/-- A write of FIRE_DIAG_CLR (R71). -/
def State.diagClear (s : State) (bank seg : Nat) (whole all : Bool) : State :=
  if all then (List.range 3072).foldl (fun s k => s.segClear k) s
  else if whole then (List.range 48).foldl (fun s i => s.segClear (bank * 48 + i)) s
  else if seg < 48 then s.segClear (bank * 48 + seg)
  else s

/-- A bank that has no reference channel any more: its segments are not yet diagnosed, but for the short ones (R70). -/
def State.bankUnreferenced (s : State) (b : Nat) : State :=
  if s.get (FIRE_BANK_CFG.ref_tile b) < 6 then s
  else (List.range 48).foldl (fun s i =>
    let c := s.fire.segCnt (b * 48 + i)
    let s1 := s.setSegCnt (b * 48 + i) { c with total := 0, misses := 0 }
    if s1.get (segState b i) = 3 then s1 else s1.put (segState b i) 0) s

/-- The diagnosis period ends (R70, R71). A segment fell short of M where R71's pointer steps over it, that is used, in an enabled bank and
neither open nor short; the spec does not say which segments count (log entry 178). -/
def State.periodEnd (s : State) : State :=
  let used := s.usedMask (s.get FIRE_FRAME_STAT.active_buf)
  let short := (List.range 3072).filter (fun k => s.diagSegment used k && decide ((s.fire.segCnt k).period < s.diagM))
  let s1 := (List.range 3072).foldl (fun s k =>
    if s.get (segState (k / 48) (k % 48)) = 1 ∧ (s.fire.segCnt k).period < s.diagM then
      (s.put (segState (k / 48) (k % 48)) 0).setSegCnt k { s.fire.segCnt k with total := 0 }
    else s) s
  let s2 := s1.onFire (fun f => { f with diag := f.diag.foldl (fun l p =>
    tabSet (fun _ => ⟨0, 0, 0⟩) l p.1 { p.2 with period := 0 }) [] })
  match short with
  | [] => s2
  | k :: _ => s2.raise Ev.diagIncomplete (short.length % 65536 + 65536 * k) 0

/-- Every 1 ms Snuffer compares the hub's digest with its own ledger (R292). -/
def State.shadeDigest (s : State) : State :=
  if s.snf.shade.isSome ∧ s.flag SHADE_CTL.lock ∧ s.fire.ledger ≠ s.snf.ledger then s.safetyFault 0x09 0 else s

def execShadeCheck (s : State) : Res := .next s.shadeCheck
def execShadeBucketAdvance (w : Fin 3) (s : State) : Res := .next (s.bucketAdvance w)
def execShadeLock (same : Bool) (s : State) : Res := .next (s.shadeLock same)
def execShadeBudgetWrite (w : Fin 3) (v : Word32) (s : State) : Res := .next (s.budgetWrite w v.toNat)
def execShadeTempInhibit (s : State) : Res := .next s.tempInhibit
def execShadeTempStale (rtd : Fin 2) (s : State) : Res := .next (s.tempStale rtd)
def execShotCommandSend (s : State) : Res := .next s.commandSend
def execStrobe (s : State) : Res := .next s.strobe
def execTaperStatusReceive (lane : Fin 2) (v : BitVec 96) (s : State) : Res := .next (s.statusReceive lane (toLE 12 v.toNat))
def execStatusEvaluate (s : State) : Res := .next s.statusEvaluate
def execTaperDriverFault (d : Fin 16) (s : State) : Res := .next (s.driverFault d)
def execDrvFaultClear (d : Fin 16) (answered : Bool) (s : State) : Res := .next (s.driverClear d answered)
def execSegmentOpen (bank : Fin 64) (seg : Fin 48) (s : State) : Res := .next (s.segmentOpen bank seg)
def execDiagClear (bank : Fin 64) (seg : Fin 64) (whole all : Bool) (s : State) : Res := .next (s.diagClear bank seg whole all)
def execDiagPeriodEnd (s : State) : Res := .next s.periodEnd
def execShadeDigest (s : State) : Res := .next s.shadeDigest

end Sys2Proof.Machine
end

