-- ==== Sys2Proof/Machine/Stats.lean ====
section
/-! DEFINITION. Code-density tables (R85, R87) and the statistics engine (R175 to R177). -/

namespace Sys2Proof.Machine

/-- The factory's temperature points, 0.1 °C (R87). -/
def cdtPoints : List Int := [-400, 0, 400, 800, 1150]

/-- The loaded calibration record of a type and index (R380), if there is one. -/
def State.calRec (s : State) (ty ix : Nat) : Option CalRec := s.cal.loaded.find? (fun r => r.type == ty && r.index == ix)

/-- `n` payload bytes at byte `i`, little-endian (R379). -/
def CalRec.num (r : CalRec) (i n : Nat) : Nat := ofLE ((r.bytes.drop (16 + i)).take n)

/-- E[r] of a capture unit at a temperature (R85, R87): the two factory tables that bracket it, to the nearest unit, ties to
even. Without a loaded record the table is a free value (log entry 24). -/
def State.cdtCentre (s : State) (ix r : Nat) (temp : Int) : Int :=
  match s.calRec 1 ix with
  | none => (Config.cdtCentre ix r).toNat
  | some x =>
    let v := clampI (-400) 1150 temp
    let i := if v ≤ 0 then 0 else if v ≤ 400 then 1 else if v ≤ 800 then 2 else 3
    let ta := cdtPoints.getD i 0
    let d := (cdtPoints.getD (i + 1) 0 - ta).toNat
    let ea := x.num (320 * i + 2 * r) 2
    let eb := x.num (320 * (i + 1) + 2 * r) 2
    roundHalfEven ((ea : Int) * d + ((eb : Int) - ea) * (v - ta)) d

/-- The stamp that a capture unit makes of a coarse count and a raw code (R85); fine = 128 carries. -/
def stampFrom (coarse : Nat) (e : Int) : Int := coarse * 128 + (e + 256) / 512

/-- The source of the statistics run has given a sample, in LSB. -/
def State.statsGive (s : State) (x : Int) : State := { s with time := { s.time with samples := s.time.samples ++ [x] } }

/-- A reference return on channel `k` of tile `t` (R175, src 0b010). -/
def State.statsRef (s : State) (t k x : Nat) : State :=
  match s.time.run with
  | some r => if r.src = 2 ∧ r.refTile = t ∧ r.refK = k then s.statsGive x else s
  | none => s

/-- A gPTP offset (src 0b011), rounded to the nearest LSB. -/
def State.statsPtp (s : State) (off : Int) : State :=
  match s.time.run with
  | some r => if r.src = 3 then s.statsGive (roundHalfEven off 256) else s
  | none => s

/-- An interval of 1 ms, in LSB. -/
def statsSpan : Nat := 256000000

/-- An edge on input `n` at a stamp in LSB (src 0b000 and 0b001). -/
def State.statsEdge (s : State) (n stamp : Nat) : State :=
  match s.time.run with
  | none => s
  | some r =>
    let last := s.time.seen.getD r.a none
    let d := fun (u : Nat) => ((stamp + 2 ^ 56 - u) % 2 ^ 56 : Nat)
    let note := fun (s : State) (v : Option Nat) => { s with time := { s.time with seen := s.time.seen.set r.a v } }
    if r.src = 1 ∧ n = r.a then
      let s1 := note s (some stamp)
      match last with
      | some u => s1.statsGive (Int.ofNat (d u))
      | none => s1
    else if r.src = 0 then
      let s1 := if n = r.b then
          match last with
          | some u => let s1 := note s none; if d u ≤ statsSpan then s1.statsGive (Int.ofNat (d u)) else s1
          | none => s
        else s
      if n = r.a then note s1 (some stamp) else s1
    else s

/-- A run ends: the engine is free and the start bit reads 0 (R176, R177, R409). -/
def State.statsEnd (s : State) (r : StatsRun) : State :=
  let s1 := { s with time := { s.time with run := none, samples := [], seen := List.replicate 4 none } }
  ((s1.clearFlag TIME_STATS_STAT.busy).clearFlag TIME_STATS_CFG.start).unclaim 18 r.owner

/-- A write of start = 1 (R177, R409) by a claimant; reserved sources are ignored (R175). -/
def State.statsStart (s : State) (who : Nat) : State :=
  if s.time.run.isSome then
    if s.holds 18 who then s.setFlag TIME_STATS_STAT.busy_start else s.claim 18 who 0
  else if 4 ≤ s.get TIME_STATS_CFG.src then s
  else
    let s1 := s.claim 18 who 0
    if s1.holds 18 who then
      let r : StatsRun := ⟨s.get TIME_STATS_CFG.src, s.get TIME_STATS_CFG.a, s.get TIME_STATS_CFG.b,
        Nat.min 5 (s.get TIME_STATS_CFG.ref_tile), s.get TIME_STATS_CFG.ref_k, clampN 2 65536 (s.get TIME_STATS_N.n), who, 0, 0, 0, 0, 0⟩
      ({ ((s1.setFlag TIME_STATS_STAT.busy).setFlag TIME_STATS_CFG.start) with
         time := { s1.time with run := some r, samples := [], seen := List.replicate 4 none } })
    else s1

/-- The claimant that a port's write stands for (R413). -/
def portWho : Port → Nat
  | .clusterA => 5
  | .clusterB => 5
  | _ => 4

/-- A write of start = 1 through port `p`; a claim by firmware is that of its cluster (R412). -/
def State.statsStartBy (s : State) (p : Port) : State :=
  let s1 := s.statsStart (portWho p)
  if portWho p = 5 ∧ s1.holds 18 5 = true ∧ s.holds 18 5 = false then { s1 with hub := { s1.hub with claimClb := decide (p = .clusterB) } }
  else s1

/-- A write of abort = 1 (R177). -/
def State.statsAbort (s : State) : State :=
  match s.time.run with
  | none => s
  | some r => (s.statsEnd r).setFlag TIME_STATS_STAT.aborted

/-- The run with a sample. -/
def StatsRun.add (r : StatsRun) (x : Int) : StatsRun :=
  { r with count := r.count + 1, sum := r.sum + x, squares := r.squares + (x * x).toNat,
           min := if r.count = 0 ∨ x < r.min then x else r.min, max := if r.count = 0 ∨ r.max < x then x else r.max }

/-- The engine takes the next sample of its source (R175). -/
def State.statsSample (s : State) : State :=
  match s.time.run, s.time.samples with
  | some r, x :: l =>
    let s1 := { s with time := { s.time with samples := l } }
    if x < -2147483648 ∨ 2147483647 < x then s1.bump TIME_STATS_STAT.discarded
    else if r.count < r.n then { s1 with time := { s1.time with run := some (r.add x) } }
    else s1
  | _, _ => s

/-- The sample standard deviation in units of 2⁻¹⁶ ns, ties to even (R176): the nearest integer to the root of a rational. -/
def StatsRun.sdev (r : StatsRun) : Nat :=
  let num := (r.n * r.squares - (r.sum * r.sum).toNat) * 65536
  let den := r.n * (r.n - 1)
  Nat.min 0xFFFFFFFF ((isqrt (4 * num / Nat.max 1 den) + 1) / 2)

/-- The Nth sample has arrived: the results load together (R176). -/
def State.statsDone (s : State) : State :=
  match s.time.run with
  | none => s
  | some r =>
    if r.n ≤ r.count then
      let s1 := (s.put TIME_STATS_MEAN.mean (toField 64 (roundHalfEven (r.sum * 256) r.n))).put TIME_STATS_SDEV.sdev r.sdev
      let s2 := (s1.put TIME_STATS_MINMAX.min (toField 32 r.min)).put TIME_STATS_MINMAX.max (toField 32 r.max)
      ((s2.statsEnd r).setFlag TIME_STATS_STAT.done).raise Ev.statsDone 0 0
    else s

end Sys2Proof.Machine
end

