-- ==== Sys2Proof/Machine/Tile.lean ====
section
/-! DEFINITION. The tiles' front end and timing (R75 to R103): shot notices, windows, events, gain ranges, TDCs and spares,
gang locking and reference channels. -/

namespace Sys2Proof.Machine

/-- Stamp units (3.90625 ps) of a device time (R21, R85). -/
def stampOf (t : Nat) : Nat := t / 256

/-- Does the tile contribute cells in the present mode (R101)? -/
def State.gangOk (s : State) (t : Nat) : Bool :=
  decide (s.mode = 11) || (s.flag (TILE_GANG_STAT.locked t) && s.flag (TILE_GANG_CTL.gang_en t))

/-- The tile's own view of a cell is made at the cell's first notice (R115, R101). -/
def State.tileCell (s : State) (t : Nat) (x : Shot) : State :=
  let ti := s.tile t
  if ti.cells.any (fun k => k.id == x.c.cell) then s
  else
    let ci := s.fire.cells.find? (fun c => c.id == x.c.cell)
    let k := s.newTileCell t x.c.cell (ci.elim 0 (fun c => c.planned)) (ci.elim x.time (fun c => c.firstS)) (!s.gangOk t)
    s.setTile t { ti with cells := ti.cells ++ [k] }

/-- A channel takes the buffer whose turn it is for a cell (R123); the cell uses the code-density tables of temperature `table` (R88). -/
def ChanSt.takeBuf (ch : ChanSt) (id : Nat) (late spare stale : Bool) (table : Int) : ChanSt :=
  let b := { HistBuf.init with cell := some id, table := table, rep := { RepCnt.init with late := late, spare := spare, stale := stale } }
  { (ch.setBuf ch.nextBuf b) with nextBuf := 1 - ch.nextBuf, waitCells := ch.waitCells.filter (fun i => !(i == id)) }

/-- late-join, once per cell and tile, with the flag (R123). -/
def State.lateJoin (s : State) (t id : Nat) : State :=
  let ti := s.tile t
  let first := !ti.cells.any (fun k => k.id == id && k.lateRaised)
  let s1 := s.setTile t { ti with cells := ti.cells.map (fun k => if k.id = id then { k with lateRaised := true } else k) }
  (((s1.bump (TILE_HIST_CNT.late_joins t)).setFlag (TILE_HIST_STAT.late_join_seen t))).raiseIf first (Ev.lateJoin t) t

/-- A channel without a buffer for the cell takes one, or waits for it (R123). Which tables the cell uses is settled at the notice, 1.5 µs
before its first shot (R88; DESIGN CHOICE, log entry 209); a cell that finds no buffer does not move the turn on (DESIGN CHOICE, log
entry 210). -/
def State.joinCell (s : State) (t c : Nat) (x : Shot) : State :=
  let ch := s.chan t c
  let id := x.c.cell
  if (ch.buf ch.nextBuf).cell = none then
    let late := ch.waitCells.contains id
    let s1 := s.setChan t c (ch.takeBuf id late (s.spareOf t c).isSome (s.flag (TILE_TDC_STAT.cdt_stale t))
      (sx 16 (s.get (TILE_TDC_STAT.cdt_temp t))))
    if late then s1.lateJoin t id else s1
  else if ch.waitCells.contains id then s
  else s.setChan t c { ch with waitCells := ch.waitCells ++ [id] }

/-- The windows of a channel that are open at S of a shot noticed after theirs, `s` in stamp units (R57). -/
def ChanSt.openAt (ch : ChanSt) (s : Nat) : Nat := (ch.wins.filter (fun w => inRx w.s s)).length

/-- A shot opens a receive window on a channel that has a buffer for its cell, unless four are open at its S (R57, R119). -/
def State.openWindow (s : State) (t c : Nat) (x : Shot) : State :=
  let ch := s.chan t c
  match ch.bufOf x.c.cell with
  | none => s
  | some i =>
    let b := ch.buf i
    if b.rep.drop ≠ 0 then s
    else if 4 ≤ ch.openAt (stampOf x.time) then
      s.setChan t c (ch.setBuf i { b with rep := { b.rep with skip := satAdd 65535 b.rep.skip 1 } })
    else
      let zoom := b.zoomAt.elim false (fun a => laterBy s.now a (1500 * nsUnits - 1) x.time)
      let b1 := { b with rep := { b.rep with used := satAdd 65535 b.rep.used 1 } }
      let w : RxWin := ⟨stampOf x.time, x.c.cell, x.c.idx, zoom, 0⟩
      s.setChan t c { (ch.setBuf i b1) with wins := ch.wins ++ [w] }

/-- A channel of the map slice meets the notice of a shot (R82, R84, R101, R123). -/
def State.noticeChan (s : State) (t : Nat) (x : Shot) (c : Nat) : State :=
  if s.chanEnabled t c x.time ∧ s.tdcWorks t c then
    let barred := (s.tile t).cells.any (fun k => k.id == x.c.cell && k.barred)
    if barred ∨ ¬ s.gangOk t then s
    else
      let have' := [(s.chan t c).buf0, (s.chan t c).buf1].any (fun b => decide (b.cell = some x.c.cell))
      (if have' then s else s.joinCell t c x).openWindow t c x
  else s

/-- The channel-enable map of a cell (R44). -/
def State.cellMap (s : State) (id : Nat) : List Byte := (s.fire.cells.find? (fun c => c.id == id)).elim [] (fun c => c.map)

/-- A tile takes the notice (R54, R82, R103). -/
def State.noticeTile (s : State) (x : Shot) (t : Nat) : State :=
  if s.tileOff t then s
  else
    let ti := s.tile t
    let s0 := s.setTile t { ti with pilot := { ti.pilot with powerAll := none } }
    let k := s0.get (FIRE_BANK_CFG.ref_ch x.c.bank)
    let s1 := if s0.get (FIRE_BANK_CFG.ref_tile x.c.bank) = t ∧ s0.tdcWorks t (256 + k) ∧ s0.gangOk t then
        let ti := s0.tile t
        s0.setTile t { ti with refWins := ti.refWins ++ [⟨k, x.driver, stampOf x.time, x.c.cell, false⟩] }
      else s0
    if x.c.noRx then s1
    else (mapChans (s1.cellMap x.c.cell) t).foldl (fun s c => s.noticeChan t x c) (s1.tileCell t x)

/-- Step 3 of R54: the shot notice reaches the six tiles. -/
def State.shotNotice (s : State) : State :=
  match s.fire.shotAt .admitted with
  | none => s
  | some x =>
    let s1 := (s.setShot { x with stage := .noticed }).cellSeen x.c.cell (fun c => { c with times := c.times ++ [x.time] })
    (List.range 6).foldl (fun s t => s.noticeTile x t) s1

/-- The windows of a shot close in a tile (R54, step 11), behind the events that fell in them. -/
def State.closeWindows (s : State) (x : Shot) (t : Nat) : State :=
  let s1 := s.drainTile t
  let ti := s1.tile t
  let shut := fun (c : ChanSt) => { c with wins := c.wins.filter (fun w => !(w.cell == x.c.cell && w.s == stampOf x.time)) }
  s1.setTile t { ti with chans := ti.chans.foldl (fun l p => tabSet (fun _ => ChanSt.init) l p.1 (shut p.2)) [] }

/-- Step 11 of R54, for the oldest shot that has been judged. -/
def State.windowClose (s : State) : State :=
  match s.fire.shotAt .judged with
  | none => s
  | some x => (List.range 6).foldl (fun s t => s.closeWindows x t) (s.dropShot x)

/-- Does a stamp fall in an open window of the channel (R83)? -/
def ChanSt.inWindow (ch : ChanSt) (e : TdcEvent) : Bool := ch.wins.any (ch.hits e)

/-- The cells that are open in tile `t` at a stamp, from the S of their first shot on (R125). -/
def State.cellsAt (s : State) (t lead : Nat) : List Nat :=
  (s.fire.cells.filter (fun c => !c.sealedBy.contains t && modGe 56 lead (stampOf c.firstS))).map (fun c => c.id)

/-- A loss counts in every cell of a list: at a full queue, or to dead time or blanking (R125). -/
def ChanSt.lose (ch : ChanSt) (queue : Bool) (ids : List Nat) : ChanSt :=
  { ch with losses := ids.foldl (fun l id =>
      let x := ((l.find? (fun p => p.1 == id)).map (fun p => p.2)).getD (0, 0)
      (id, if queue then (satAdd 65535 x.1 1, x.2) else (x.1, satAdd 65535 x.2 1)) :: l.filter (fun p => !(p.1 == id))) ch.losses }

/-- An event lost to dead time or blanking (R79, R90, R125). -/
def State.deadLoss (s : State) (t c lead : Nat) : State :=
  let s1 := s.setChan t c ((s.chan t c).lose false (s.cellsAt t lead))
  if c < 256 then s1.bump (TILE_CH_CNT_A.dead_lost t c) else s1

/-- The open cells of a channel change what their reports will say. -/
def ChanSt.countOpen (ch : ChanSt) (g : RepCnt → RepCnt) : ChanSt :=
  ch.openCells.foldl (fun c id => match c.bufOf id with
    | some i => c.setBuf i { c.buf i with rep := g (c.buf i).rep }
    | none => c) ch

/-- Is the channel powered (R84, R314)? A channel that its tile powers for the pilot counts events after the settling of R84. One that a write has disabled stays powered for the shots that use the old value (R78). Reference
channels are powered in every mode except HOLD. -/
def State.chanPowered (s : State) (t c : Nat) : Bool :=
  !s.tileOff t && !(s.mode == 0) &&
    (s.chanEnabled t c s.now || s.bitAt (TILE_CH_EN.addr t 0) c || !(s.chan t c).wins.isEmpty ||
      (s.tile t).pilot.powerAll.elim false (fun a => laterBy s.now a (20 * usUnits - 1) s.now))

/-- Can a pulse at channel `c` be seen: is its input connected and powered, and has it a working TDC (R82, R84, R385)? -/
def State.chanSees (s : State) (t c : Nat) : Bool := s.chanPowered t c && s.tdcWorks t c && !s.inputsTied t

/-- An event adds a count in every open pilot window (R314). -/
def State.pilotEvent (s : State) (t c lead : Nat) : State :=
  let ti := s.tile t
  if (t = 2 ∨ t = 3) ∧ c < 256 then
    let ks := (ti.pilot.windows.filter (fun w => decide (stampDiff lead w < 131072))).map (fun w => 256 * c + stampDiff lead w / 512)
    s.setTile t { ti with pilot := { ti.pilot with
      bins := ks.foldl (fun b k => cntSet b k (satAdd 65535 (cntGet b k) 1)) ti.pilot.bins } }
  else s

/-- A stamped event of a return channel (R80, R83, R91, R92). -/
def State.stampedEvent (s : State) (t c : Nat) (e : TdcEvent) : State :=
  let ch := s.chan t c
  let s1 := s.setChan t c { ch with lastLead := some e.lead, latch := ch.latch || (e.sat && !e.low) }
  let s2 := s1.pilotEvent t c e.lead
  if 256 ≤ c then s2
  else
    let s3 := if e.sat then s2.bump (TILE_CH_CNT_B.sat t c) else s2
    let ch3 := s3.chan t c
    if ¬ ch3.inWindow e then s3.bump (TILE_CH_CNT_A.oow t c)
    else if 16 ≤ ch3.queue.length then
      (s3.setChan t c (ch3.lose true (s3.cellsAt t e.lead))).bump (TILE_CH_CNT_B.q_lost t c)
    else s3.setChan t c { ch3 with queue := ch3.queue ++ [e] }

/-- Dead time of 1.2 ns in stamp units, rounded up: 307.2 (R90). -/
def deadStamps : Nat := 307

/-- The crossbar offset of a spare, in stamp units (R99). The spec does not say with which sign the offset is applied nor how it is rounded to
a stamp: the model subtracts it, rounded with ties to even (log entry 23). -/
def State.spareOffset (s : State) (t n : Nat) : Int :=
  if 256 ≤ n ∧ n < 272 then
    match s.calRec 2 t with
    | none => 0
    | some x => roundHalfEven (sx 32 (x.num (4 * (n - 256)) 4)) 16
  else 0

/-- The capture unit of an edge on channel `c`, 0 for leading and 1 for trailing edges, within its tile (R86). -/
def State.captureUnit (s : State) (t c unit : Nat) : Nat := 2 * s.tdcOf t c + unit

/-- The stamp of an edge on channel `c` by the tables of temperature `temp` (R85 to R88, R99): `coarse` is the fire timing count at the edge,
to which the tile's coarse counter may not have been aligned (R100). -/
def State.edgeStamp (s : State) (t c unit coarse code : Nat) (temp : Int) : Nat :=
  let n := s.tdcOf t c
  toField 56 (stampFrom ((coarse + (s.tile t).coarseOff) % 2 ^ 49) (s.cdtCentre (1024 * t + s.captureUnit t c unit) code temp) -
    s.spareOffset t n)

/-- The temperatures of the code-density tables that the channel uses: the active ones, then those of its open cells (R88). -/
def State.tablesOf (s : State) (t c : Nat) : Int × List Int :=
  let ch := s.chan t c
  let cur := sx 16 (s.get (TILE_TDC_STAT.cdt_temp t))
  (cur, ch.openCells.filterMap (fun id => (ch.bufOf id).map (fun i => (ch.buf i).table)))

/-- A capture unit collects the raw code of an edge that it stamps for its health check while that runs, up to 65,536 edges (R96). -/
def State.codeSeen (s : State) (t c unit code : Nat) : State :=
  if s.flag (TILE_TDC_CFG.health_en t) then
    let x := s.tile t
    let u := s.captureUnit t c unit
    let l := tabGet (fun _ => []) x.codes u
    if 65536 ≤ (l.map (fun p => p.2)).sum then s
    else s.setTile t { x with codes := tabSet (fun _ => []) x.codes u (cntSet l code (cntGet l code + 1)) }
  else s

/-- Full scale of the front end above its reference, in µV (R75). -/
def fullScale (low : Bool) : Nat := if low then 800000 else 200000

/-- The low or high threshold of a THR word in a gain range, in µV (R75, R78). -/
def thrLevel (w : Nat) (low high : Bool) : Nat :=
  bits w ((if low then 32 else 0) + (if high then 16 else 0)) 10 * (if low then 1000 else 250)

/-- Does a comparator fire on a pulse of a given peak, in µV (R75, R76)? One whose threshold is above full scale never does. -/
def fires (w peak : Nat) (low high : Bool) : Bool := decide (thrLevel w low high ≤ Nat.min peak (fullScale low))

/-- The THR word in force at a stamp: that of the last shot whose window is open and has begun (R78, R79). -/
def State.thrAt (s : State) (t c lead : Nat) : Nat :=
  let begun := if c < 256 then (s.chan t c).wins.filterMap (fun w => if inRx w.s lead then some w.s else none)
    else (s.tile t).refWins.filterMap (fun w => if w.k + 256 = c ∧ inRx w.s lead = true then some w.s else none)
  s.thrFor t c (begun.getLast?.elim s.now (fun x => 256 * x))

/-- Places of the switch point and of the end of the blanking before S, in stamp units: 60 ns and 20 ns (R79). -/
def switchStamps : Nat := 15360
def blankEndStamps : Nat := 5120

/-- Is a leading edge lost to the blanking of the channel's last change of range (R79)? -/
def ChanSt.blankedAt (ch : ChanSt) (lead : Nat) : Bool :=
  ch.switchS.elim false (fun x => decide (stampDiff (lead + switchStamps) x < (if ch.blanked then 2 ^ 55 else switchStamps - blankEndStamps)))

/-- The range in force at a leading edge (R77): the one before the last change for an edge before its switch point. -/
def ChanSt.rangeAt (ch : ChanSt) (lead : Nat) : Bool :=
  match ch.switchS with
  | some x => if 2 ^ 55 ≤ stampDiff (lead + switchStamps) x ∧ stampDiff x (lead + switchStamps) < 2 ^ 20 then !ch.lowGain else ch.lowGain
  | none => ch.lowGain

/-- The event of a pulse: `stamp` gives its leading stamp and ToT by the tables of a temperature, `peak` is its height in µV. It carries the
range at its leading edge, the saturation bit where the high comparator fires, and its stamps by the tables of the open cells (R76, R77, R88). -/
def State.eventOf (s : State) (t c peak : Nat) (stamp : Int → Nat × Nat) : TdcEvent :=
  let temps := s.tablesOf t c
  let lead := (stamp temps.1).1
  let low := (s.chan t c).rangeAt lead
  ⟨lead, Nat.min (stamp temps.1).2 16383, low, fires (s.thrAt t c lead) peak low true,
    temps.2.map (fun x => (x, (stamp x).1, Nat.min (stamp x).2 16383))⟩

/-- Is a leading edge lost to blanking or to the dead time after the last one (R79, R90)? -/
def ChanSt.deadAt (ch : ChanSt) (lead : Nat) : Bool :=
  ch.blankedAt lead || ch.lastLead.elim false (fun l => decide (stampDiff lead l ≤ deadStamps))

/-- A pulse on a channel that is powered and has a working TDC forms an event, or is lost to blanking or dead time (R76, R79, R83, R90).
`codes`: the raw codes of its edges, by capture unit, which a unit that stamps them collects (R96). -/
def State.comparator (s : State) (t c peak : Nat) (codes : List (Nat × Nat)) (stamp : Int → Nat × Nat) : State :=
  let e := s.eventOf t c peak stamp
  if s.chanSees t c = true ∧ fires (s.thrAt t c e.lead) peak e.low false = true then
    if (s.chan t c).deadAt e.lead then s.deadLoss t c e.lead
    else codes.foldl (fun s p => s.codeSeen t c p.1 p.2) (s.stampedEvent t c e)
  else s

/-- A pulse that stayed `above` ps above the low threshold gives an event, none, or a free one of the two (R75). -/
def State.pulseSeen (s : State) (above : Nat) : Bool × State :=
  if above < 250 then (false, s)
  else if above < 400 then let r := s.fresh; (r.1 % 2 == 1, r.2)
  else (true, s)

/-- Both edges of a pulse (R75 to R77, R85, R96). -/
def State.comparatorEvent (s : State) (t c cl rl ct rt above peak : Nat) : State :=
  let r := s.pulseSeen above
  if r.1 then
    r.2.comparator t c peak [(0, rl), (1, rt)] (fun x =>
      let lead := r.2.edgeStamp t c 0 cl rl x
      (lead, stampDiff (r.2.edgeStamp t c 1 ct rt x) lead))
  else r.2

/-- The gain mode of a channel for a shot at `time` (R78, R80). -/
def State.gainMode (s : State) (t c time : Nat) : Nat := bits (s.thrFor t c time) 60 2

/-- The range the channel takes at a switch point (R80). -/
def gainNext (mode : Nat) (low latch newCell : Bool) : Bool :=
  if mode = 0 then false else if mode = 1 then true else if newCell then false else low || latch

/-- The next shot that opens a window on a channel, of those noticed (R79): S in stamp units and cell. -/
def State.nextShotOn (s : State) (t c : Nat) : Option (Nat × Nat) :=
  let l := if c < 256 then (s.chan t c).wins.map (fun w => (w.s, w.cell))
    else ((s.tile t).refWins.filter (fun w => w.k + 256 == c)).map (fun w => (w.s, w.cell))
  l.find? (fun p => modGe 56 p.1 (stampOf s.now))

/-- The switch point of a channel, 60 ns before the S of the next shot that opens a window on it (R79, R80). A saturation latch that is
still set when a new cell's first switch point comes is cleared and the cell starts in high gain: the spec does not say which of its two
sentences holds (log entry 181). Where cells of a reference channel interleave, each keeps its own range. -/
def State.gainSwitch (s : State) (t c : Nat) : State :=
  match s.nextShotOn t c with
  | none => s
  | some (x, cell) =>
    let ch := s.chan t c
    let had := ch.gainCells.find? (fun p => p.1 == cell)
    let m := s.gainMode t c (x * 256)
    let low := gainNext m (had.elim false (fun p => p.2)) ch.latch had.isNone
    let moved := low != ch.lowGain
    let kept := ch.gainCells.filter (fun p => !(p.1 == cell) && s.fire.cells.any (fun k => k.id == p.1))
    let ch1 := { ch with lowGain := low, latch := false, gainCells := (cell, low) :: kept, blanked := moved, switchS := if moved then some x else none }
    let ch2 := match ch1.bufOf cell with
      | some i => if low then ch1.setBuf i { ch1.buf i with rep := { (ch1.buf i).rep with low := satAdd 65535 (ch1.buf i).rep.low 1 } } else ch1
      | none => ch1
    s.setChan t c ch2

/-- The blanking ends (R79). -/
def State.gainBlankEnd (s : State) (t c : Nat) : State := s.setChan t c { s.chan t c with blanked := false }

/-- A write of TILE_t_CH_EN_w (R78, R84): what each changed channel was, and since when. -/
def State.chEnable (s : State) (t w v : Nat) : State :=
  let old := s.get (TILE_CH_EN.en t w)
  let s1 := (List.range 32).foldl (fun s i =>
    let c := 32 * w + i
    if bits old i 1 = bits v i 1 then s
    else s.setChan t c { s.chan t c with enHist := (bits old i 1 == 1, s.now) :: recent s.now (s.chan t c).enHist }) s
  s1.put (TILE_CH_EN.en t w) v

/-- A threshold write (R78) to channel `c` (256 to 259 for the reference channels). -/
def State.thrWrite (s : State) (t c : Nat) (v : BitVec 64) : State :=
  let a := if c < 256 then TILE_THR_CH.addr t c else TILE_THR_REF.addr t (c - 256)
  (s.setChan t c { s.chan t c with thrHist := ((s.reg a).toNat, s.now) :: recent s.now (s.chan t c).thrHist }).setReg a
    (v &&& 0x73FF03FF03FF03FF)

/-- The tile's record of past writes keeps those that a shot can still need (R78, R84, R121). -/
def State.tileAge (s : State) (t : Nat) : State :=
  let x := s.tile t
  let old := fun (c : ChanSt) => { c with enHist := recent s.now c.enHist, thrHist := recent s.now c.thrHist }
  s.setTile t { x with zoomHist := recent s.now x.zoomHist, chans := x.chans.foldl (fun l p => tabSet (fun _ => ChanSt.init) l p.1 (old p.2)) [] }

/-- The tile temperature from readings of its four on-die sensors (R87): the median of those present whose sensor is not marked suspect,
rounded to 0.1 °C with ties to even (log entry 182). -/
def State.tileTemp (s : State) (t : Nat) (l : List (BitVec 16)) : Option Int :=
  let v := (List.range 4).filterMap (fun i =>
    if s.flag (THM_SENS.suspect (4 * t + i)) then none else (l[i]?).bind (fun x => dieSample x.toInt))
  if v.isEmpty then none else some (roundHalfEven (median2 v) 2)

/-- A tile temperature arrives: the tile recomputes its code-density tables when it has moved by cdt_delta; a cell that is open keeps its
tables (R88). -/
def State.cdtRecompute (s : State) (t : Nat) (temps : List (BitVec 16)) : State :=
  match s.tileTemp t temps with
  | none => s
  | some temp =>
    let s1 := s.clearFlag (TILE_TDC_STAT.cdt_stale t)
    if (Nat.max 2 (s.get (TILE_TDC_CFG.cdt_delta t))) ≤ (temp - sx 16 (s.get (TILE_TDC_STAT.cdt_temp t))).natAbs then
      s1.put (TILE_TDC_STAT.cdt_temp t) (toField 16 temp)
    else s1

/-- No valid tile temperature for 10 s (R88). -/
def State.cdtStale (s : State) (t : Nat) : State :=
  if s.flag (TILE_TDC_STAT.cdt_stale t) then s
  else
    let ti := s.tile t
    let upd := fun (c : ChanSt) => c.countOpen (fun r => { r with stale := true })
    let s1 := s.setTile t { ti with chans := ti.chans.foldl (fun l p => tabSet (fun _ => ChanSt.init) l p.1 (upd p.2)) [] }
    (s1.setFlag (TILE_TDC_STAT.cdt_stale t)).raise (Ev.cdtStale t) t 0

/-- Spares neither mapped nor failed (R89). -/
def State.sparesCount (s : State) (t : Nat) : State :=
  s.put (TILE_TDC_STAT.spares_free t) (((List.range 16).filter (fun k =>
    !s.flag (TILE_SPARE_MAP.valid t k) && !s.tdcFailed t (256 + k))).length)

/-- The channel that TDC `n` serves: its own, or the target of a mapped spare (R86, R95). -/
def State.tdcServes (s : State) (t n : Nat) : Option Nat :=
  if 256 ≤ n ∧ n < 272 then
    if s.flag (TILE_SPARE_MAP.valid t (n - 256)) then some (s.get (TILE_SPARE_MAP.target t (n - 256))) else none
  else
    let c := if n < 256 then n else n - 16
    if (s.spareOf t c).isSome then none else some c

/-- A TDC is marked failed, with the consequences of R97 for the channel it serves. A mapped spare that fails gives its channel up to the
spare that takes its place; with none it stays mapped, so that the channel has no working TDC until software maps anew. -/
def State.tdcFault (s : State) (t n : Nat) : State :=
  if s.tdcFailed t n then s
  else
    let serves := s.tdcServes t n
    let s1 := (s.setBitAt (TILE_TDC_FAIL.addr t 0) n true).raise (Ev.tdcFault t) t 0
    let s2 := match serves with
      | none => s1
      | some c =>
        let s2 := if c < 256 then s1.dropChanAll t c 1 else s1
        match (List.range 16).find? (fun k => !s2.flag (TILE_SPARE_MAP.valid t k) && !s2.tdcFailed t (256 + k)) with
        | some k =>
          if s2.flag (TILE_TDC_CFG.auto_sub t) then
            let s3 := if 256 ≤ n ∧ n < 272 then
                (s2.clearFlag (TILE_SPARE_MAP.valid t (n - 256))).clearFlag (TILE_SPARE_MAP.auto t (n - 256)) else s2
            (((s3.put (TILE_SPARE_MAP.target t k) c).setFlag (TILE_SPARE_MAP.valid t k)).setFlag (TILE_SPARE_MAP.auto t k)).raise
              (Ev.tdcSubstituted t) t 0
          else s2.raise (Ev.sparesExhausted t) t 0
        | none => s2.raise (Ev.sparesExhausted t) t 0
    s2.sparesCount t

/-- Does an observed code centre differ from E[r] by more than 1,024 units (R96)? `l` are 65,536 edges by raw code, so that a centre in units
of 2⁻¹⁶ of the period is the count below the code and half the code's own. -/
def centresOff (e : Nat → Int) (l : List (Nat × Nat)) : Bool :=
  l.any (fun p =>
    let below := ((l.filter (fun q => decide (q.1 < p.1))).map (fun q => q.2)).sum
    decide (2048 < ((2 * below + p.2 : Nat) - 2 * e p.1).natAbs))

/-- How many raw codes a coarse period spans, as collected codes show it (R96): from the lowest to the highest. -/
def codeSpan (l : List (Nat × Nat)) : Nat :=
  let top := (l.map (fun p => p.1)).foldl Nat.max 0
  top + 1 - (l.map (fun p => p.1)).foldl Nat.min top

/-- A capture unit, 0 or 1, of a TDC has collected its edges and is checked (R96); `span` says how many raw codes a coarse period spans where
these are more than the 160 that a unit tells apart. It then collects anew. -/
def State.healthCheck (s : State) (t n unit span : Nat) : State :=
  let x := s.tile t
  let l := tabGet (fun _ => []) x.codes (2 * n + unit)
  if s.flag (TILE_TDC_CFG.health_en t) ∧ 65536 ≤ (l.map (fun p => p.2)).sum then
    let s1 := s.setTile t { x with codes := tabSet (fun _ => []) x.codes (2 * n + unit) [] }
    let e := fun r => s.cdtCentre (1024 * t + 2 * n + unit) r (sx 16 (s.get (TILE_TDC_STAT.cdt_temp t)))
    if centresOff e l ∨ codeSpan l < 120 ∨ 160 < span then s1.tdcFault t n else s1
  else s

/-- The low comparator has toggled for 1 ms without a stamp of TDC `n` (R96). -/
def State.stampSilence (s : State) (t n : Nat) : State := if s.flag (TILE_TDC_CFG.health_en t) then s.tdcFault t n else s

/-- A host write of TILE_t_TDC_FAIL_w (R97, R99): each bit written 1 marks its TDC. -/
def State.tdcFailWrite (s : State) (t w v : Nat) : State :=
  ((List.range 32).filter (fun i => bits v i 1 == 1 && decide (32 * w + i < 276))).foldl (fun s i => s.tdcFault t (32 * w + i)) s

/-- A write of TILE_t_SPARE_k_MAP (R97, R98). The channel's open cells run on the spare from now on (R125). -/
def State.spareWrite (s : State) (t k target : Nat) (valid : Bool) : State :=
  if valid then
    let taken := (List.range 16).any (fun j => !(j == k) && s.flag (TILE_SPARE_MAP.valid t j) && s.get (TILE_SPARE_MAP.target t j) == target)
    if taken ∨ s.tdcFailed t (256 + k) ∨ 259 < target then s.raise (Ev.claimDenied t) (0x2000 + target + 65536 * (0x60 + k)) 0
    else
      let s1 := (((s.put (TILE_SPARE_MAP.target t k) target).setFlag (TILE_SPARE_MAP.valid t k)).clearFlag (TILE_SPARE_MAP.auto t k))
      (s1.setChan t target ((s1.chan t target).countOpen (fun r => { r with spare := true }))).sparesCount t
  else
    (((s.put (TILE_SPARE_MAP.target t k) target).clearFlag (TILE_SPARE_MAP.valid t k)).clearFlag (TILE_SPARE_MAP.auto t k)).sparesCount t

/-- A phase measurement of a tile's coarse clock (R100): `raw` is the phase without the correction made so far, which moves by 1 LSB against
the error measured. -/
def State.gangMeasure (s0 : State) (t : Nat) (raw : Int) : State :=
  let s := s0.tileAge t
  if s.flag (TILE_GANG_CTL.gang_en t) then
    let x := s.tile t
    let err := raw + x.phase
    let good := if err.natAbs ≤ 2 then Nat.min 64 (x.good + 1) else 0
    let bad := if 4 < err.natAbs then Nat.min 3 (x.bad + 1) else 0
    let step : Int := if 0 < err then -1 else if err < 0 then 1 else 0
    (s.setTile t { x with good := good, bad := bad, phase := x.phase + step }).put (TILE_GANG_STAT.phase_err t)
      (toField 8 (clampI (-127) 127 err))
  else s

/-- 64 good measurements in a row (R100): the coarse counter takes the fire timing count. -/
def State.gangLock (s : State) (t : Nat) : State :=
  if 64 ≤ (s.tile t).good ∧ s.flag (TILE_GANG_CTL.gang_en t) ∧ ¬ s.flag (TILE_GANG_STAT.locked t) then
    (s.setTile t { s.tile t with coarseOff := 0 }).setFlag (TILE_GANG_STAT.locked t)
  else s

/-- Open cells of the tile end with the lock, and no channel joins them again (R101). -/
def State.gangDrop (s : State) (t : Nat) : State :=
  if s.mode = 11 then s
  else
    let s1 := s.dropTile t 2
    let x := s1.tile t
    s1.setTile t { x with cells := x.cells.map (fun k => { k with barred := true }) }

/-- Three measurements in a row beyond 4 LSB (R100, R101). What the coarse counter then holds beyond the fire timing count is a free value until
it is loaded again (log entry 183). -/
def State.gangUnlock (s : State) (t : Nat) : State :=
  if s.flag (TILE_GANG_STAT.locked t) ∧ 3 ≤ (s.tile t).bad then
    let r := s.fresh
    let s1 := (r.2.setTile t { s.tile t with good := 0, coarseOff := r.1 % 2 ^ 49 }).clearFlag (TILE_GANG_STAT.locked t)
    ((s1.setFlag (TILE_GANG_STAT.unlock_seen t)).gangDrop t).raise (Ev.gangUnlock t) t 0
  else s

/-- A write of TILE_t_GANG_CTL (R101): with gang_en = 0 the tile counts as not locked. -/
def State.gangEnable (s : State) (t : Nat) (en : Bool) : State :=
  let s1 := s.put (TILE_GANG_CTL.gang_en t) (bit en)
  if en then s1 else s1.gangDrop t

/-- The average of R103 takes a return at `x` stamp units after S. R103 gives no rounding for the 4 fraction bits that are kept: the increment
is rounded with ties to even (log entry 184). -/
def refAverage (o x count : Nat) : Nat :=
  if count = 0 then 16 * x else toField 24 (sx 24 o + roundHalfEven ((16 * x : Nat) - sx 24 o) 256)

/-- The count of driver `d` on reference channel `k` of tile `t` becomes nonzero: a missing emission offset of its banks may be reported
again (R149). -/
def State.emisRearm (s : State) (t k d : Nat) : State :=
  let own := fun (b : Nat) => decide (s.get (FIRE_BANK_CFG.ref_tile b) = t ∧ s.get (FIRE_BANK_CFG.ref_ch b) = k ∧ s.get (FIRE_BANK_CFG.driver b) = d)
  { s with echo := { s.echo with emis := s.echo.emis.filter (fun b => !own b) } }

/-- The reference return of the shot of a window: its driver's average takes it (R103), and emitter diagnosis hears of it (R70). -/
def State.refCredit (s : State) (t k lead : Nat) (w : RefWin) : State :=
  let d := stampDiff lead w.s
  let x := s.tile t
  let s1 := s.setTile t { x with refWins := x.refWins.map (fun v => if v = w then { v with seen := true } else v) }
  let n := s1.get (TILE_REF_DRV_AVG.count t k w.driver)
  let o := refAverage (s1.get (TILE_REF_DRV_AVG.offset t k w.driver)) d n
  let s2 := ((s1.put (TILE_REF_DRV_AVG.offset t k w.driver) o).put (TILE_REF_DRV_AVG.count t k w.driver) (Nat.min 255 (n + 1))).emisRearm
    t k w.driver
  let s3 := s2.statsRef t k d
  match s3.fire.shots.find? (fun y => y.driver == w.driver && stampOf y.time == w.s) with
  | some y => s3.setShot { y with refSeen := some true }
  | none => s3

/-- A pulse on a reference channel that works (R70, R97, R103): with enough ToT it is the reference return of every shot whose window it falls
in and that has had none. -/
def State.refReturn (s : State) (t k lead tot : Nat) : State :=
  let span := s.get FIRE_DIAG_REF.ref_window_ns * 256
  if 4 * s.get FIRE_DIAG_REF.tot_min ≤ tot ∧ s.chanSees t (256 + k) = true then
    ((s.tile t).refWins.filter (fun w => w.k == k && !w.seen && decide (stampDiff lead w.s ≤ span))).foldl
      (fun s w => s.refCredit t k lead w) s
  else s

/-- The oldest reference window of a tile closes (R70): a shot without a return is reported to emitter diagnosis. -/
def State.refClose (s : State) (t : Nat) : State :=
  let x := s.tile t
  match x.refWins with
  | [] => s
  | w :: l =>
    let s1 := s.setTile t { x with refWins := l }
    match s1.fire.shots.find? (fun y => y.driver == w.driver && stampOf y.time == w.s) with
    | none => s1
    | some y =>
      let y1 := { y with refSeen := some w.seen }
      let s2 := s1.setShot y1
      if y.stage = .judged ∧ y.refSeen.isNone then s2.diagJudge y1 else s2

/-- All averages of a tile are cleared (R104). -/
def State.refClear (s : State) (t : Nat) : State := s.resetRange (TILE_REF_DRV_AVG.addr t 0 0) (TILE_REF_DRV_AVG.addr t 4 0)

/-- A write of the walk table entry at `a` updates the hub's copy (R94). -/
def State.walkCopy (s : State) (a : Nat) : State :=
  { s with echo := { s.echo with walk := cntSet s.echo.walk a (fieldOf (s.reg a) 0 16) } }

def execShotNotice (s : State) : Res := .next s.shotNotice
def execShotWindowClose (s : State) : Res := .next s.windowClose
def execReferenceReturn (t : Fin 6) (k : Fin 4) (lead : BitVec 56) (tot : BitVec 14) (s : State) : Res :=
  .next (s.refReturn t k lead.toNat tot.toNat)
def execRefWindowClose (t : Fin 6) (s : State) : Res := .next (s.refClose t)
/-- A pulse on channel 0 to 259 (256 to 259 are the reference channels): fire timing count (500 ps) and raw code at the leading and at the
trailing edge, the time above the low threshold in ps, and the height above the reference in µV. -/
def execComparatorEvent (t : Fin 6) (c : Fin 260) (cl : BitVec 49) (rl : Fin 160) (ct : BitVec 49) (rt : Fin 160) (above : Word32)
    (peak : Word32) (s : State) : Res :=
  .next (s.comparatorEvent t c cl.toNat rl ct.toNat rt above.toNat peak.toNat)
/-- No trailing edge within 63.996 ns: the event closes with ToT 16,383 (R77). -/
def execTotTimeout (t : Fin 6) (c : Fin 260) (cl : BitVec 49) (rl : Fin 160) (peak : Word32) (s : State) : Res :=
  .next (s.comparator t c peak.toNat [(0, rl)] (fun x => (s.edgeStamp t c 0 cl.toNat rl x, 16383)))
def execGainSwitchPoint (t : Fin 6) (c : Fin 260) (s : State) : Res := .next (s.gainSwitch t c)
def execGainBlankEnd (t : Fin 6) (c : Fin 260) (s : State) : Res := .next (s.gainBlankEnd t c)
def execChEnableWrite (t : Fin 6) (w : Fin 8) (v : Word32) (s : State) : Res :=
  .next (s.onReg (TILE_CH_EN.addr t w) (fun s => s.chEnable t w v.toNat))
/-- An event leaves its channel's queue into the histograms (R108 to R112, R120). -/
def execEventAccumulate (t : Fin 6) (c : Fin 256) (ecc : WordEcc) (s : State) : Res := .next (s.accumulate t c ecc)
/-- `temps`: what the tile's four on-die sensors read, in 0.1 °C (R87). -/
def execCdtRecompute (t : Fin 6) (temps : List (BitVec 16)) (s : State) : Res := .next (s.cdtRecompute t temps)
def execCdtStale (t : Fin 6) (s : State) : Res := .next (s.cdtStale t)
def execTdcHealthCheck (t : Fin 6) (n : Fin 276) (unit : Fin 2) (span : BitVec 8) (s : State) : Res :=
  .next (s.healthCheck t n unit span.toNat)
def execTdcStampSilence (t : Fin 6) (n : Fin 276) (s : State) : Res := .next (s.stampSilence t n)
def execTdcFailWrite (t : Fin 6) (w : Fin 9) (v : Word32) (s : State) : Res :=
  .next (s.onReg (TILE_TDC_FAIL.addr t w) (fun s => s.tdcFailWrite t w v.toNat))
def execSpareMapWrite (t : Fin 6) (k : Fin 16) (target : BitVec 9) (valid : Bool) (s : State) : Res :=
  .next (s.onReg (TILE_SPARE_MAP.addr t k) (fun s => s.spareWrite t k target.toNat valid))
def execGangPhaseMeasure (t : Fin 6) (err : BitVec 9) (s : State) : Res := .next (s.gangMeasure t err.toInt)
def execGangLock (t : Fin 6) (s : State) : Res := .next (s.gangLock t)
def execGangUnlock (t : Fin 6) (s : State) : Res := .next (s.gangUnlock t)
def execRefClear (t : Fin 6) (s : State) : Res := .next (s.onReg (TILE_REF_CLR.addr t) (fun s => s.refClear t))
def execWalkWrite (t : Fin 6) (g : Fin 2) (i : Fin 64) (v : Word16) (s : State) : Res :=
  .next (s.onReg (TILE_WALK.addr t g i) (fun s => (s.put (TILE_WALK.corr t g i) v.toNat).walkCopy (TILE_WALK.addr t g i)))

end Sys2Proof.Machine
end

