-- ==== Sys2Proof/Machine/Hist.lean ====
section
/-! DEFINITION. The histogram engine and the hub's side of it (R114 to R135, R340): snapshots and zoom, seals, hand-off, the cell
store and the raw taps. -/

namespace Sys2Proof.Machine

/-- The index of a tile's upstream link `k` (R16): links are kept as tile upstream 2t + k, tile downstream 12 + t, Snuffer upstream
18 and downstream 19, pilot 20 and 21 (log entry 25). -/
def tileUp (t k : Nat) : Nat := 2 * t + k

def State.link (s : State) (l : Nat) : JexLink := s.hub.links.getD l JexLink.init
def State.setLink (s : State) (l : Nat) (x : JexLink) : State := { s with hub := { s.hub with links := s.hub.links.set l x } }

/-- The credits the sender of link `l` holds for a virtual channel (R18). -/
def State.credit (s : State) (l vc : Nat) : Nat := (s.link l).credits.getD vc 0

/-- Takes credits from the sender, or gives them back, up to the receiver's buffer (R18). -/
def vcBuffer (vc : Nat) : Nat := [16, 16, 64, 8].getD vc 0
def State.creditTake (s : State) (l vc n : Nat) : State :=
  let x := s.link l
  s.setLink l { x with credits := x.credits.set vc (s.credit l vc - n) }
def State.creditGive (s : State) (l vc n : Nat) : State :=
  let x := s.link l
  s.setLink l { x with credits := x.credits.set vc (Nat.min (vcBuffer vc) (s.credit l vc + n)) }

/-- The sum of the box of `box` bins from `st` on (R116). -/
def boxSum (m : List (Nat × Nat)) (st box : Nat) : Nat :=
  ((m.filter (fun p => decide (st ≤ p.1 ∧ p.1 < st + box))).map (fun p => p.2)).sum

/-- The starts of the boxes that hold a count. -/
def boxStarts (m : List (Nat × Nat)) (box : Nat) : List Nat :=
  uniq (m.flatMap (fun p => (List.range box).filterMap (fun d => if d ≤ p.1 ∧ p.1 - d ≤ 4096 - box then some (p.1 - d) else none)))

/-- Is the box at `st` a peak among boxes with their sums (R116, step 2)? -/
def isPeak (sums : List (Nat × Nat)) (box st v : Nat) : Bool :=
  sums.all (fun p => if p.1 < st then decide (p.1 + box ≤ st ∨ p.2 < v) else decide (st + box ≤ p.1 ∨ p.2 ≤ v))

/-- A peak (start, sum) put into a list in descending sum, ties to the lower start. -/
def peakInsert (p : Nat × Nat) : List (Nat × Nat) → List (Nat × Nat)
  | [] => [p]
  | q :: l => if q.2 < p.2 ∨ (q.2 = p.2 ∧ p.1 < q.1) then p :: q :: l else q :: peakInsert p l

/-- A pair put into a list in ascending first component. -/
def ascInsert (p : Nat × Nat) : List (Nat × Nat) → List (Nat × Nat)
  | [] => [p]
  | q :: l => if p.1 < q.1 then p :: q :: l else q :: ascInsert p l

/-- The position of a candidate (R116, step 4), in units of 125 ps. -/
def candPos (m : List (Nat × Nat)) (box st sum : Nat) : Nat :=
  let n := ((m.filter (fun p => decide (st ≤ p.1 ∧ p.1 < st + box))).map (fun p => (16 * (p.1 - st) + 8) * p.2)).sum
  (16 * st + roundHalfEven n sum).toNat

/-- The candidates of a coarse histogram (R116, R117): up to 8 of (pos, sum), in ascending pos. -/
def candidates (m : List (Nat × Nat)) (box : Nat) : List (Nat × Nat) :=
  let sums := (boxStarts m box).map (fun st => (st, boxSum m st box))
  let peaks := sums.filter (fun p => isPeak sums box p.1 p.2)
  let best := (peaks.foldl (fun l p => peakInsert p l) []).take 8
  (best.map (fun p => (candPos m box p.1 p.2, Nat.min 65535 p.2))).foldl (fun l p => ascInsert p l) []

/-- The summary of a channel's buffer (R117); `shots` shots of the cell have opened their windows. -/
def summaryOf (c cell seq shots box : Nat) (b : HistBuf) : Summary :=
  ⟨c, cell, seq, shots, box, (b.coarse.map (fun p => p.2)).sum, candidates b.coarse box, false, 0, none⟩

/-- Does cell `a` close before cell `b`: in an earlier frame, or at an earlier entry (R45)? -/
def CellInfo.before (a b : CellInfo) : Bool := decide (a.frame < b.frame) || (decide (a.frame = b.frame) && decide (a.lastEntry < b.lastEntry))

/-- The cells of the frame's entries `i` on, `n` of them, that are still to open and close there, and in which tile `t` has a channel
enabled. -/
def State.cellsAhead (s : State) (t buf i : Nat) : Nat → Nat
  | 0 => 0
  | n + 1 =>
    let w := s.entryWord buf i
    let new := entEnd w && !s.fire.cells.any (fun c => c.bank == entBank w && c.frame == s.fire.frames && c.lastEntry == i)
    let m := s.mapBytes buf (segMap (s.segWord buf (entSegset w)))
    bit (new && (mapChans m t).any (fun c => s.bitAt (TILE_CH_EN.addr t 0) c)) + s.cellsAhead t buf (i + 1) n

/-- The cell_seq that a cell will have in tile `t` (R117, R122): the cells that close before it take theirs first. -/
def State.seqOf (s : State) (t : Nat) (ci : CellInfo) : Nat :=
  let known := s.fire.cells.filter (fun c => !c.sealedBy.contains t && !(s.cellChans t c).isEmpty && c.before ci)
  let rest := if ci.frame = s.fire.frames then
      s.cellsAhead t (s.get FIRE_FRAME_STAT.active_buf) s.fire.entry (ci.lastEntry - s.fire.entry) else 0
  (s.get (TILE_HIST_STAT.cell_seq t) + known.length + rest) % 65536

/-- Channels in the order in which their summaries are ready (R116): each bank scans its own in ascending order while the others do theirs;
of those that are ready together, the one in the lowest bank is first. -/
def scanOrder (l : List Nat) : List Nat :=
  (List.range 16).flatMap (fun m => (List.range 16).filterMap (fun b => (l.filter (fun c => decide (c % 16 = b)))[m]?))

/-- The snapshot of the oldest cell of a bank that has none in tile `t` (R115, R116): each channel's coarse histogram is read, and one with
an uncorrectable word is dropped (R114). A channel that holds no buffer for the cell, or has dropped it, sends no summary (DEDUCED, log
entry 56). -/
def State.snapshot (s0 : State) (t : Nat) (z : ScanWord) : State :=
  let mine := fun (k : TileCell) => k.zoomOn && !k.snapped && s0.fire.cells.any (fun c => c.id == k.id && c.bank == z.bank.val)
  match (s0.tile t).cells.find? mine with
  | none => s0
  | some k =>
    let seq := (s0.fire.cells.find? (fun c => c.id == k.id)).elim 0 (fun c => s0.seqOf t c)
    let s := (List.range 256).foldl (fun s c => s.chanScan t c k.id z.word (if c = z.chan.val then z.ecc else .good)) s0
    let x := s.tile t
    let new := (scanOrder ((List.range 256).filter (fun c => ((x.chan c).bufOf k.id).isSome))).filterMap (fun c =>
      let ch := x.chan c
      match ch.bufOf k.id with
      | some i =>
        let later := (ch.wins.filter (fun w => w.cell == k.id && !modGe 56 (stampOf s.now) w.s)).length
        if (ch.buf i).rep.drop = 0 then some (summaryOf c k.id seq ((ch.buf i).rep.used - later) k.box (ch.buf i)) else none
      | none => none)
    s.setTile t { x with sums := x.sums ++ new, rest := [], cells := x.cells.map (fun y => if y.id = k.id then { y with snapped := true } else y) }

/-- The 64 bytes of a summary of tile `t` (R117). -/
def Summary.bytes (y : Summary) (t : Nat) : List Byte :=
  toLE 2 (256 * t + y.chan) ++ toLE 2 y.seq ++ toLE 2 y.shots ++ toLE 1 y.cands.length ++ toLE 1 y.box ++ toLE 4 y.total ++
    List.replicate 20 0 ++ (List.range 8).flatMap (fun k => let c := y.cands.getD k (0, 0); toLE 2 c.1 ++ toLE 2 c.2)

/-- The flits of a summary message: a header and 64 bytes. -/
def summaryFlits : Nat := 3

/-- The first element that satisfies `p` is left out. -/
def delFirst {α : Type} (p : α → Bool) : List α → List α
  | [] => []
  | a :: l => if p a then l else a :: delFirst p l

/-- The oldest scanned summary leaves on upstream link `k` once there are credits for it (R117, R128). -/
def State.summarySend (s : State) (t k : Nat) : State :=
  let x := s.tile t
  let l := tileUp t k
  match x.sums.find? (fun y => !y.sent) with
  | none => s
  | some y =>
    if summaryFlits ≤ s.credit l 2 ∧ ¬ (s.link l).down then
      ((s.setTile t { x with sums := updFirst (fun y => !y.sent) (fun y => { y with sent := true, link := l }) x.sums }).creditTake
        l 2 summaryFlits).emit (.stream l (y.bytes t))
    else s

/-- Does a candidate pass (R118, steps 1 to 3)? The threshold is compared exactly. -/
def zoomPasses (total cands box k minCounts minBin : Nat) (ncand : Nat) (c : Nat × Nat) : Bool :=
  let f := total - cands
  let d := 4096 - ncand * box
  let l : Int := ((c.2 : Int) - minCounts) * d - box * f
  decide (0 ≤ l) && decide (((k * k * box * f * d : Nat) : Int) ≤ 16 * l * l) && decide (16 * minBin ≤ c.1)

/-- The order of selection (R118, step 4) of the passing candidates, which are in ascending pos. -/
def zoomOrder (policy : Nat) (l : List (Nat × Nat)) : List (Nat × Nat) :=
  let desc := l.foldl (fun acc p => peakInsert p acc) []
  if policy = 1 then
    match l.head?, l.getLast? with
    | some a, some b => if a = b then [a] else a :: b :: desc.filter (fun p => !(p == a) && !(p == b))
    | _, _ => []
  else desc

/-- The windows of the selected candidates (R118, step 5): one that would overlap a chosen one is skipped. -/
def zoomPlace : List Nat → List (Nat × Nat) → List Nat
  | acc, [] => acc
  | acc, c :: l =>
    let w := Nat.min (2 * c.1 - 32) 131008
    zoomPlace (if acc.any (fun v => decide (w < v + 64 ∧ v < w + 64)) then acc else acc ++ [w]) l

/-- The hub's answer to a summary (R118). -/
def State.zoomWindows (s : State) (y : Summary) : List Nat :=
  let sum := (y.cands.map (fun c => c.2)).sum
  let pass := y.cands.filter (zoomPasses y.total sum y.box (s.get HIST_ZOOM_CFG.k) (s.get HIST_ZOOM_CFG.min_counts)
    (s.get HIST_ZOOM_MIN_BIN.min_bin) y.cands.length)
  zoomPlace [] ((zoomOrder (s.get HIST_ZOOM_CFG.policy) pass).take (Nat.min 4 (s.get HIST_ZOOM_CFG.max_win)))

/-- The hub zoom controller answers the oldest summary that tile `t` has sent (R118, R119). -/
def State.zoomAnswer (s : State) (t : Nat) (late : Bool) : State :=
  let x := s.tile t
  let due := fun (y : Summary) => y.sent && y.answer.isNone
  match x.sums.find? due with
  | none => s
  | some y =>
    let w := s.zoomWindows y
    let s1 := (s.setTile t { x with sums := updFirst due (fun y => { y with answer := some w }) x.sums }).creditGive y.link 2 summaryFlits
    (s1.when w.isEmpty (fun s => s.bump HIST_ZOOM_STAT.empty)).when late (fun s => s.bump HIST_ZOOM_STAT.late)

/-- The tile installs the windows of channel `c` (R119); an answer without a valid window, or one for a sealed cell, changes
nothing in the channel. -/
def State.zoomInstall (s : State) (t c : Nat) : State :=
  let x := s.tile t
  let due := fun (y : Summary) => y.chan == c && y.answer.isSome
  match x.sums.find? due with
  | none => s
  | some y =>
    let w := y.answer.getD []
    let ch := x.chan c
    let ch1 := match ch.bufOf y.cell with
      | some i => if w.isEmpty then ch else ch.setBuf i { ch.buf i with zoomWins := w, zoomAt := some s.now }
      | none => ch
    s.setTile t { (x.setChan c ch1) with sums := delFirst due x.sums }

/-- The last window of the oldest cell of bank `b` closes in tile `t` (R122): every entry has been noticed or suppressed. -/
def State.cellSeal (s : State) (t b : Nat) : State :=
  match s.fire.cells.find? (fun c => c.bank == b && !c.sealedBy.contains t && decide (c.planned ≤ c.seen)) with
  | none => s
  | some c => s.sealCell t c

/-- The 16-bit count fields of a report stop at 0xFFFF. -/
def cap16 (n : Nat) : Nat := Nat.min 65535 n

/-- The flags of a cell report (R125). -/
def ChanRec.flags (r : ChanRec) : Nat :=
  bit (r.rep.drop != 0) + 2 * bit r.zoomOff + 4 * bit r.zoomLate + 8 * bit r.rep.late + 16 * bit (decide (0 < r.rep.satBins)) +
    32 * bit r.rep.fineSat + 64 * bit r.rep.stampFull + 128 * bit (decide (0 < r.rep.qLost)) + 256 * bit r.rep.spare +
    512 * bit r.rep.stale + 1024 * bit r.rep.corrected

/-- The window entries of a report. -/
def winBytes (l : List Nat) : List Byte := (List.range 4).flatMap (fun w => toLE 3 ((l[w]?).elim 0 (fun v => v + 2 ^ 17)))

/-- The cell report (R125). -/
def ChanRec.report (r : ChanRec) : List Byte :=
  toLE 2 (256 * r.tile + r.chan) ++ toLE 2 r.seq ++ toLE 2 r.cell.firstEntry ++ toLE 1 r.cell.epoch ++ toLE 1 r.cell.bank ++
  toLE 2 r.cell.planned ++ toLE 2 r.cell.fired ++ toLE 2 (cap16 r.rep.used) ++ toLE 2 r.nc ++
  toLE 2 (r.rep.zoomFirst.getD r.cell.planned) ++ toLE 2 (cap16 r.rep.skip) ++ toLE 2 (cap16 r.rep.excess) ++
  toLE 2 r.rep.kept ++ toLE 2 (cap16 r.rep.stampLost) ++ toLE 2 (cap16 r.rep.low) ++ toLE 2 (cap16 r.rep.sat) ++
  toLE 2 (cap16 r.rep.qLost) ++ toLE 2 (cap16 r.rep.deadLost) ++ toLE 2 (cap16 r.rep.satBins) ++ toLE 4 r.rep.total ++
  toLE 8 r.cell.tFirst ++ winBytes r.wins ++ toLE 2 r.flags ++ toLE 1 r.rep.drop ++ toLE 1 (bit r.last)

/-- Counts of 16 bits in order (R110). -/
def countBytes (m : List (Nat × Nat)) (n : Nat) : List Byte := (List.range n).flatMap (fun i => toLE 2 (cntGet m i))

/-- The 10,240 bytes of a tap slot (R130). -/
def ChanRec.slot (r : ChanRec) : List Byte :=
  r.report ++ countBytes r.coarse 4096 ++ countBytes r.fine 256 ++
    (List.range 256).flatMap (fun i => toLE 4 (r.stamps.getD i 0)) ++ List.replicate 448 0

/-- The bytes of a record on its way and in the cell store (R124, R128). -/
def ChanRec.size (r : ChanRec) : Nat := if r.rep.drop = 0 then 64 + 8192 + 512 + (r.rep.kept + 7) / 8 * 32 else 64

/-- A record takes the credits of one message of 8 data flits while it is on its way (log entry 26). -/
def recordFlits : Nat := 9

/-- The buffer of a channel that is sealed for cell `id`. -/
def ChanSt.sealedBuf (c : ChanSt) (id : Nat) : Option Nat :=
  if c.buf0.cell = some id ∧ c.buf0.isSealed then some 0
  else if c.buf1.cell = some id ∧ c.buf1.isSealed then some 1
  else none

/-- Cuts bytes into pieces of `n`; the last may be shorter. `k` bounds the pieces. -/
def pieces (n : Nat) (l : List Byte) : Nat → List (List Byte)
  | 0 => []
  | k + 1 => if l.isEmpty then [] else l.take n :: pieces n (l.drop n) k

/-- The stream messages of a record (R124): the data of each, 8 flits or what remains of the stamps. -/
def ChanRec.messages (r : ChanRec) : List (List Byte) :=
  let head := r.report ++ List.replicate 192 0
  if r.rep.drop ≠ 0 then [head]
  else
    let st := r.stamps.flatMap (fun x => toLE 4 x)
    head :: (pieces 256 (countBytes r.coarse 4096) 32 ++ pieces 256 (countBytes r.fine 256) 2 ++
      pieces 256 (st ++ List.replicate ((32 - st.length % 32) % 32) 0) 4)

/-- The place `i` of a buffer's stamp store: a stamp kept, or what Jexannar has written there. -/
def HistBuf.stampAt (b : HistBuf) (i : Nat) : Nat := ((b.stamps.map (fun p => p.2))[i]?).getD (cntGet b.raw i)

/-- A record with the data that the read port reads from its buffer; a dropped one sends its report only (R124). -/
def ChanRec.fill (r : ChanRec) (b : HistBuf) : ChanRec :=
  if r.rep.drop = 0 then { r with coarse := b.coarse, fine := b.fine, stamps := (List.range r.rep.kept).map b.stampAt } else r

/-- The hand-off read of buffer `i` of a channel has cleared it, with fresh check bits (R114, R124). -/
def State.bufClear (s : State) (t c i : Nat) : State :=
  let a := sramWord t c i 0
  let ch := s.chan t c
  let s1 := s.setChan t c (ch.setBuf i { ch.buf i with coarse := [], fine := [], stamps := [], raw := [] })
  { s1 with hub := { s1.hub with injected := s1.hub.injected.filter (fun p => !decide (p.1 = 0 ∧ a ≤ p.2.1 ∧ p.2.1 < a + bufWords)) } }

/-- The hand-off read of the buffer of record `r` (R114, R124): word `w` reads as `e`, a damaged one reads so by itself. Answers the record
as the read leaves it, with its data. -/
def State.handRead (s : State) (t : Nat) (r : ChanRec) (w : Nat) (e : Ecc) : ChanRec × State :=
  match (s.chan t r.chan).sealedBuf r.cell.id with
  | none => (r, s)
  | some i =>
    let s1 := if r.rep.drop = 0 then s.bufScan t r.chan i bufWords w e else s
    (((s1.tile t).outq.headD r).fill ((s1.chan t r.chan).buf i), s1.bufClear t r.chan i)

/-- The tile sends the record at the front of its hand-off queue on upstream link `k` as credits allow (R124, R128), behind every summary
that waits (R117); the record's messages follow one another, each with the credits that the one before has given back (log entry 26). -/
def State.packetSend (s : State) (t k w : Nat) (e : Ecc) : State :=
  let l := tileUp t k
  match (s.tile t).outq with
  | [] => s
  | r :: _ =>
    if recordFlits ≤ s.credit l 2 ∧ ¬ (s.link l).down ∧ ¬ (s.tile t).sums.any (fun y => !y.sent) then
      let q := s.handRead t r w e
      let x := q.2.tile t
      let s2 := (q.2.setTile t { x with outq := x.outq.tail, rest := [] }).creditTake l 2 recordFlits
      let s3 := { s2 with hist := { s2.hist with transit := s2.hist.transit ++ [(l, q.1)] } }
      q.1.messages.foldl (fun s m => s.emit (.stream l m)) s3
    else s

/-- A marked row is cleared (R340): a spare row of its bank takes its place, or exhausted sets. -/
def State.repairRow (s : State) (t row : Nat) : State :=
  let x := s.tile t
  if x.bankRepairs (rowBank row) < 8 then
    let n := x.repaired.length + 1
    let x1 := { x with repaired := x.repaired ++ [row], marked := x.marked.filter (fun r => !(r == row)), rowCe := cntSet x.rowCe row 0 }
    ((s.setTile t x1).put (TILE_SRAM_REPAIR.remapped t) n).put (TILE_SRAM_REPAIR.spares_free t) (128 - n)
  else s.repairExhausted t

/-- The hand-off read and clear of a buffer of channel `c` complete (R123, R124, R340): the buffer is free. A channel's cells use its buffers
in turn, so of two the one whose turn is next was handed off first. -/
def State.handoffDone (s : State) (t c : Nat) : State :=
  let x := s.tile t
  let ch := x.chan c
  let gone := fun (b : HistBuf) => b.isSealed && !x.outq.any (fun r => r.chan == c && b.cell == some r.cell.id)
  match [ch.nextBuf, 1 - ch.nextBuf].find? (fun i => gone (ch.buf i)) with
  | none => s
  | some i =>
    let base := tileRows * t + 19 * (2 * c + i)
    let s1 := (x.marked.filter (fun r => decide (base ≤ r ∧ r < base + 19))).foldl (fun s r => s.repairRow t r) s
    s1.setChan t c (ch.setBuf i { HistBuf.init with freeAt := s.now })

/-- The hub SRAM word address that the model gives a record in the cell store (log entry 29). -/
def ChanRec.storeWord (r : ChanRec) : Nat := (256 * r.tile + r.chan) * 306

/-- The bytes of the cell store in use (R127). -/
def HistSt.used (h : HistSt) : Nat := (h.store.map ChanRec.size).sum

/-- cell_seq of a tile is expected to rise by one from cell to cell (R127). -/
def State.seqCheck (s : State) (r : ChanRec) : State :=
  let want := s.hist.nextSeq.getD r.tile none
  let gap := want.elim false (fun q => decide (q ≠ r.seq))
  let s1 := if gap then
      (((s.bump HIST_SEQ_STAT.gaps).put HIST_SEQ_STAT.last_tile r.tile).setFlag HIST_SEQ_STAT.gap_seen).raise Ev.cellSeqGap r.tile 0
    else s
  let next := if r.last then (r.seq + 1) % 65536 else r.seq
  { s1 with hist := { s1.hist with nextSeq := s1.hist.nextSeq.set r.tile (some next) } }

/-- The tap that takes channel `d` (device number). -/
def State.tapFor (s : State) (d : Nat) : Option Nat :=
  if s.flag HIST_TAP_CTL.enable then
    (List.range 64).find? (fun n => s.flag (HIST_TAP_SEL.enable n) && s.get (HIST_TAP_SEL.channel n) == d)
  else none

/-- Is the record tapped: one cell in every 2^decim of its channel (R129)? -/
def State.tapCountIn (s : State) (d : Nat) : Bool × State :=
  match s.tapFor d with
  | none => (false, s)
  | some n =>
    let k := s.hist.tapCount.getD n 0
    (decide (k % 2 ^ s.get (HIST_TAP_SEL.decim n) = 0), { s with hist := { s.hist with tapCount := s.hist.tapCount.set n (k + 1) } })

/-- A record of tile `t` in the cell store with an uncorrectable word (R127, R398). -/
def State.recordBad (s : State) (t : Nat) : State := (s.bump HIST_DROP_CNT.hub_ue).raiseInst Ev.cellRecordUncorrectable t

/-- The hub stores the oldest record on its way from tile `t` (R127), unless the store is full: then its credits are withheld
(R128). `e` is what a word of it reads as. -/
def State.recordReceive (s : State) (t : Nat) (e : Ecc) : State :=
  match s.hist.transit.find? (fun p => p.2.tile == t) with
  | none => s
  | some (l, r) =>
    if s.hist.used + r.size ≤ 8388608 then
      let s1 := { s with hist := { s.hist with transit := delFirst (fun p => p.2.tile == t) s.hist.transit } }
      let s2 := ((s1.creditGive l 2 recordFlits).seqCheck r).w256Write .hubSram r.storeWord
      let o := s2.w256Read ⟨.hubSram, r.storeWord, (Config.portId 9).toNat, 0, some t, false⟩ e
      let bad := match o.1 with
        | .bad _ => true
        | _ => false
      let q := (o.2.when bad (fun s => s.recordBad t)).tapCountIn (256 * r.tile + r.chan)
      let r1 := if bad then r.dropped 4 else r
      { q.2 with hist := { q.2.hist with store := q.2.hist.store ++ [{ r1 with tapped := !q.1 }] } }
    else s

/-- Records that extraction and the taps have read leave the store (R127). -/
def State.storeFree (s : State) : State :=
  { s with hist := { s.hist with store := s.hist.store.filter (fun r => !(r.extracted && r.tapped)) } }

def State.tapSlots (s : State) : Nat := s.get HIST_TAP_SLOTS.slots

/-- The tap buffer's level follows its indices, with the watermark of R132. -/
def State.tapLevel (s : State) : State :=
  let old := s.get HIST_TAP_STAT.level
  let new := ringDist (s.tapSlots) (s.get HIST_TAP_HEAD.index) (s.get HIST_TAP_TAIL.index)
  let wm := s.get HIST_TAP_CTL.wm_level
  let rise := decide (0 < wm) && decide (old < wm) && decide (wm ≤ new)
  let full := decide (new + 1 = s.tapSlots)
  let s1 := (s.put HIST_TAP_STAT.level new).when rise (fun s => s.setFlag HIST_TAP_STAT.wm)
  let s2 := s1.when full (fun s => s.setFlag HIST_TAP_STAT.full_seen)
  let s3 := { s2 with hist := { s2.hist with tapFull := s2.hist.tapFull && full } }
  s3.raiseIf rise Ev.tapWatermark 0

/-- A HIST_TAP_n_SEL write (R129, R399, R414). -/
def State.tapSelect (s : State) (n ch : Nat) (en : Bool) (decim : Nat) : State :=
  let info := 0x1000 + ch + 65536 * (0x20 + n)
  let taken := (List.range 64).any (fun m => !(m == n) && s.flag (HIST_TAP_SEL.enable m) && s.get (HIST_TAP_SEL.channel m) == ch)
  if en ∧ 1536 ≤ ch then s.raise (Ev.claimDenied 0) info 0
  else if en ∧ taken then s.raise (Ev.claimDenied (ch / 256)) info 0
  else
    let s1 := ((s.put (HIST_TAP_SEL.channel n) ch).put (HIST_TAP_SEL.enable n) (bit en)).put (HIST_TAP_SEL.decim n) decim
    { s1 with hist := { s1.hist with tapCount := s1.hist.tapCount.set n 0 } }

/-- A HIST_TAP_CTL write but for flush (R133): enabling with fewer than 2 slots is ignored. -/
def State.tapEnable (s : State) (en ovr : Bool) (wm : Nat) : State :=
  let s1 := (s.put HIST_TAP_CTL.overwrite (bit ovr)).put HIST_TAP_CTL.wm_level wm
  if en then s1.when (decide (2 ≤ s.tapSlots)) (fun s => s.setFlag HIST_TAP_CTL.enable)
  else
    let s2 := s1.clearFlag HIST_TAP_CTL.enable
    ({ s2 with hist := { s2.hist with store := s2.hist.store.map (fun (r : ChanRec) => { r with tapped := true }) } }).storeFree

/-- A write of flush = 1 (R133); `partly` says that a slot is partly written. -/
def State.tapFlush (s : State) (partly : Bool) : State :=
  let s1 := (s.put HIST_TAP_TAIL.index (s.get HIST_TAP_HEAD.index)).tapLevel
  if partly ∧ s1.hist.store.any (fun r => !r.tapped) then
    (({ s1 with hist := { s1.hist with store := updFirst (fun r => !r.tapped) (fun (r : ChanRec) => { r with tapped := true }) s1.hist.store } }).bump
      HIST_TAP_CNT.truncated).storeFree
  else s1

/-- A host write of HIST_TAP_TAIL (R131). -/
def State.tapTail (s : State) (v : Nat) : State :=
  let tail := s.get HIST_TAP_TAIL.index
  if v = tail ∨ (v < s.tapSlots ∧ ringDist s.tapSlots v tail ≤ s.get HIST_TAP_STAT.level) then (s.put HIST_TAP_TAIL.index v).tapLevel
  else s

/-- A record is written to the slot at head, and head advances (R131). -/
def State.tapWrite (s : State) (r : ChanRec) : State :=
  let h := s.get HIST_TAP_HEAD.index
  let a := s.get HIST_TAP_BASE.base * 4096 + 10240 * h
  let s1 := (s.tagPulse 1).devWrite a 1 s.pulseTag r.slot
  (s1.put HIST_TAP_HEAD.index ((h + 1) % Nat.max 1 s.tapSlots)).tapLevel

/-- A record of the cell store is read, with its W256 outcome as the reader's operand says or an injection has made it (R29): an uncorrectable
word drops it in the store, with reason 4 (R127). Answers the record as it then stands. -/
def State.storeRead (s : State) (same : ChanRec → Bool) (r : ChanRec) (port : Nat) (e : Ecc) : ChanRec × State :=
  let o := s.w256Read ⟨.hubSram, r.storeWord, (Config.portId port).toNat, 0, some r.tile, false⟩ e
  match o.1 with
  | .bad _ =>
    if r.rep.drop = 0 then
      (r.dropped 4, ({ o.2 with hist := { o.2.hist with store := updFirst same (fun x => x.dropped 4) o.2.hist.store } }).recordBad r.tile)
    else (r, o.2)
  | _ => (r, o.2)

/-- What a read that no operand tells the outcome of finds, by a free value (R29; log entry 211). -/
def drawnEcc (n : Nat) : Ecc :=
  let y := BitVec.ofNat 16 (n / 4)
  if n % 4 = 1 then .corrected y else if n % 4 = 2 then .bad y else .good

/-- The tap reads a record of the cell store, whose words may be uncorrectable (R127): what it finds is free (log entry 211). -/
def State.tapRead (s : State) (r : ChanRec) : ChanRec × State :=
  let d := s.fresh
  d.2.storeRead (fun r => !r.tapped) r 9 (drawnEcc d.1)

/-- The record that the tap has met is done with by it. -/
def State.tapTaken (s : State) : State :=
  { s with hist := { s.hist with store := updFirst (fun r => !r.tapped) (fun (r : ChanRec) => { r with tapped := true }) s.hist.store } }

/-- The oldest record that a tap takes meets the tap buffer (R131); to write it takes a tag of class 1 (R35). -/
def State.tapCommit (s : State) : State :=
  match s.hist.store.find? (fun r => !r.tapped) with
  | none => s
  | some r =>
    let room := decide (s.get HIST_TAP_STAT.level + 1 < s.tapSlots)
    if !room && !s.flag HIST_TAP_CTL.overwrite then
      let s1 := s.tapTaken
      ((({ s1 with hist := { s1.hist with tapFull := true } }).bump HIST_TAP_CNT.dropped_full).raiseIf (!s.hist.tapFull) Ev.tapFull 0).storeFree
    else if !s.tagFree 1 then s.tagWait 1
    else
      let q := s.tapRead r
      let s1 := q.2.tapTaken
      let s2 := if room then s1 else (s1.put HIST_TAP_TAIL.index ((s.get HIST_TAP_TAIL.index + 1) % Nat.max 1 s.tapSlots)).tapLevel
      (s2.tapWrite q.1).storeFree

/-- TILE_t_BANK_b_LOAD.util shows the last 1 ms (R128). -/
def State.loadShow (s : State) (t b : Nat) : State := s.put (TILE_BANK_LOAD.util t b) (s.bankUtil t b)

/-- A write of peak_clr (R111). -/
def State.loadPeakClr (s : State) (t b : Nat) : State := let s1 := s.loadShow t b; s1.put (TILE_BANK_LOAD.peak t b) (s1.get (TILE_BANK_LOAD.util t b))

def execZoomSnapshot (t : Fin 6) (b : ScanWord) (s : State) : Res := .next (s.snapshot t b)
def execSummarySend (t : Fin 6) (k : Fin 2) (s : State) : Res := .next (s.summarySend t k)
/-- `late`: the answer comes later than 2.0 µs after the summary left (R119). -/
def execZoomAnswer (t : Fin 6) (late : Bool) (s : State) : Res := .next (s.zoomAnswer t late)
def execZoomWindowInstall (t : Fin 6) (c : Fin 256) (s : State) : Res := .next (s.zoomInstall t c)
def execCellSeal (t : Fin 6) (b : Fin 64) (s : State) : Res := .next (s.cellSeal t b)
def execCellPacketSend (t : Fin 6) (k : Fin 2) (w : Fin 304) (e : Ecc) (s : State) : Res := .next (s.packetSend t k w e)
def execHandoffComplete (t : Fin 6) (c : Fin 256) (s : State) : Res := .next (s.handoffDone t c)
def execCellRecordReceive (t : Fin 6) (e : Ecc) (s : State) : Res := .next (s.recordReceive t e)
def execTapSelect (n : Fin 64) (ch : BitVec 11) (en : Bool) (decim : Fin 16) (s : State) : Res :=
  .next (s.tapSelect n ch.toNat en decim)
def execTapEnable (en ovr : Bool) (wm : Word16) (s : State) : Res := .next (s.tapEnable en ovr wm.toNat)
def execTapFlush (partly : Bool) (s : State) : Res := .next (s.tapFlush partly)
def execTapTailWrite (v : Word16) (s : State) : Res := .next (s.tapTail v.toNat)
def execTapSlotCommit (s : State) : Res := .next s.tapCommit
def execBankLoadPeakClr (t : Fin 6) (b : Fin 16) (s : State) : Res :=
  .next (s.onReg (TILE_BANK_LOAD.addr t b) (fun s => s.loadPeakClr t b))

end Sys2Proof.Machine
end

