-- ==== Sys2Proof/Machine/Power.lean ====
section
/-! DEFINITION. Power domains that can be switched off or isolated (R38, R39). -/

namespace Sys2Proof.Machine

/-- What a tagged operation must target for its loss with domain `d`. -/
def domainHits (d : Domain) (t : Target) : Bool :=
  match d, t with
  | .clb, .clb => true
  | .eth p, .eth q => p == q
  | .twn, .twn => true
  | .ddr m, .ddr n => m == n
  | .tile a, .tile b => a == b
  | _, _ => false

/-- The claims of a claimant whose domain goes off are freed (R412). Of the claimants only firmware on cluster B can go. -/
def State.domainUnclaim (s : State) (d : Domain) : State := if d = .clb ∧ s.hub.claimClb = true then s.unclaim 18 0x05 else s

/-- Domain `d` is clamped: every tagged operation that targets it completes with an error response, accesses to it are turned away from now
on (R39), and its claims are freed (R412). -/
def State.domainOff (s : State) (d : Domain) : State :=
  let hit := fun (o : Op) => domainHits d o.target
  let s0 := (s.hub.ops.filter hit).foldl (fun (s : State) o => (s.memDrop o.inst).descFail 9 o) s
  let s1 := (s0.failOps hit).domainUnclaim d
  if s1.isOff d then s1 else { s1 with hub := { s1.hub with isolated := s1.hub.isolated ++ [d] } }

/-- The links of a tile (R16; their numbers: log entry 25). -/
def tileLinks (t : Nat) : List Nat := [2 * t, 2 * t + 1, 12 + t] ++ (if t = 2 then [20] else if t = 3 then [21] else [])

/-- The registers and state of the domain, a tile's links among it (R405, R16); repairs of SRAM rows hold until a reset pin (R340). -/
def domainReset (d : Domain) (s : State) : State :=
  match d with
  | .clb => s
  | .eth p =>
    let s1 := s.resetRange (0xD00000 + 0x10000 * p.val) (0xD00000 + 0x10000 * (p.val + 1))
    { s1 with eth := { s1.eth with ports := s1.eth.ports.set p.val EthPort.init } }
  | .twn =>
    let s1 := (s.resetRange 0xD80000 0xE00000).put TWN_STAT.unit (s.get TWN_STAT.unit)
    { s1 with twn := { TwnSt.init with epoch := s.twn.epoch } }
  | .ddr m => ((s.resetReg (MEM_CH_INFO.addr m.val)).resetReg (MEM_CH_REF.addr m.val)).resetReg (MEM_CH_ERR.addr m.val)
  | .tile t =>
    let x := s.tile t.val
    let s1 := (s.resetRange (0x400000 + 0x100000 * t.val) (0x400000 + 0x100000 * (t.val + 1))).setTile t.val
      { TileSt.init with rowCe := x.rowCe, marked := x.marked, repaired := x.repaired }
    let s1 := { s1 with hub := { s1.hub with links := (tileLinks t.val).foldl (fun l i => l.set i JexLink.init) s1.hub.links } }
    (s1.put (TILE_SRAM_REPAIR.remapped t.val) x.repaired.length).put (TILE_SRAM_REPAIR.spares_free t.val) (128 - x.repaired.length)

/-- Is domain `d` there: not that of a tile which HUB_CAP reads as absent (R407)? -/
def State.domainHere (s : State) (d : Domain) : Bool :=
  match d with
  | .tile t => decide (bits (s.get HUB_CAP.tiles) t 1 = 1)
  | _ => true

/-- Domain `d`, where it is there, is powered again: it starts from its reset values (R39). -/
def State.domainOn (s : State) (d : Domain) : State :=
  if s.isOff d && s.domainHere d then
    domainReset d { s with hub := { s.hub with isolated := s.hub.isolated.filter (fun x => !decide (x = d)) } }
  else s

/-- May domain `d` be switched off now (R38)? The tile part: while the tile is sliced out. -/
def State.mayOff (s : State) (d : Domain) : Bool :=
  match d with
  | .clb => !s.flag HUB_HO_STAT.active && decide (s.boot.hoStep = 0)
  | .eth _ => true
  | .twn => decide (s.mode = 6)
  | .ddr m => (s.flag MEM_STAT.retired && decide (s.get MEM_STAT.retired_ch = m.val)) ||
      (s.flag MEM_STAT.boot_retired && decide (bits (s.get MEM_STAT.ch_present) m 1 = 1) && decide (bits (s.get MEM_STAT.ch_active) m 1 = 0))
  | .tile t => decide (s.boot.sliceTile = some t.val) && decide (2 ≤ s.boot.sliceStep)

def execPowerDomainOff (d : Domain) (s : State) : Res := .next (if s.mayOff d then s.domainOff d else s)
def execPowerDomainOn (d : Domain) (s : State) : Res := .next (s.domainOn d)

end Sys2Proof.Machine
end

