-- ==== Sys2Proof/Machine/Mem.lean ====
section
/-! DEFINITION. Device memory behind CXL: initialisation, ports and scheduling, refresh, training, errors and retirement
(R225 to R252). -/

namespace Sys2Proof.Machine

/-- Raw bytes of a channel by its cap code (R225). -/
def capBytes (cap : Nat) : Nat := if cap = 0 then 0 else 2 ^ (30 + cap)

/-- Stripes of a channel by its raw bytes: 15 of each 4,096-byte row (R227). -/
def capStripes (raw : Nat) : Nat := raw / 4096 * 15

/-- Channel `m` is found and trained, or absent, or fails its training (R226, R240, R243). -/
def State.memFind (s : State) (m : Nat) (f : MemFound) : State :=
  let s1 := ((s.put (MEM_CH_INFO.cap m) f.cap.val).put (MEM_CH_INFO.ranks m) (bit f.ranks2)).put (MEM_CH_INFO.trfcpb_ns m)
    (if f.cap.val = 0 then 0 else if f.dense then 190 else 140)
  if f.cap.val = 0 then s1
  else
    let s2 := s1.put MEM_STAT.ch_present (s1.get MEM_STAT.ch_present + 2 ^ m)
    if f.trained then
      let (a, s3) := s2.fresh
      let (b, s4) := s3.fresh
      let (c, s5) := s4.fresh
      let s6 := s5.put MEM_STAT.ch_active (s5.get MEM_STAT.ch_active + 2 ^ m)
      { s6 with mem := { s6.mem with chs := s6.mem.chs ++ [m], trained := s6.mem.trained.set m [a, b, c] } }
    else ((s2.setFlag (MEM_CH_INFO.train_fail m)).setFlag MEM_STAT.boot_retired).raiseInst Ev.memTrainFail m

/-- Lamplighter writes map_order and init (R232): ignored after lock. With no channel in service the device stays in BOOT
with boot_err set and both images failed (R226). -/
def State.memInit (s : State) (order : Nat) (f : Fin 4 → MemFound) : State :=
  if s.flag MEM_CTL.lock then s
  else
    let s1 := ((((s.put MEM_CTL.map_order order).setFlag MEM_CTL.init).put MEM_STAT.ch_present 0).put MEM_STAT.ch_active 0)
    let s2 := { s1 with mem := { MemSt.init with stripes := 0 } }
    let s3 := (((s2.memFind 0 (f 0)).memFind 1 (f 1)).memFind 2 (f 2)).memFind 3 (f 3)
    let caps := ((List.range 4).map (fun m => s3.get (MEM_CH_INFO.cap m))).filter (fun c => !(c == 0))
    let least := caps.foldl Nat.min 4
    let s4 := { s3 with mem := { s3.mem with stripes := capStripes (capBytes least) } }
    if s4.mem.chs.isEmpty then
      ((s4.setFlag HUB_BOOT_STAT.boot_err).put HUB_BOOT_STAT.err_a 1).put HUB_BOOT_STAT.err_b 1
    else s4

/-- Initialisation is complete (R232, R243, R249): every usable word is 0, and the extent is known. -/
def State.memInitDone (s : State) : State :=
  if s.flag MEM_CTL.init ∧ ¬s.mem.chs.isEmpty then
    let s1 := ((((s.clearFlag MEM_CTL.init).setFlag MEM_STAT.init_done).setFlag MEM_STAT.mem_active).put MEM_EXTENT.extent
      (256 * (s.mem.chs.length * s.mem.stripes)))
    let s2 := { s1 with devMem := [], hub := { s1.hub with injected := s1.hub.injected.filter (fun p => !(p.1 == 4)) } }
    (s2.raise Ev.memTrainDone 0 0).raise Ev.memInitDone 0 0
  else s

/-- The tag class of each port (R233). -/
def portClass (p : Nat) : Nat := [1, 1, 2, 0, 3, 4, 5, 7].getD p 0

/-- quota and target_ns with their limits (register tables of chapter 8). -/
def State.memQuota (s : State) (p : Nat) : Nat := clampN 1 1024 (s.get (MEM_PORT_QUOTA.quota p))
def State.memTarget (s : State) (p : Nat) : Nat := Nat.max 1 (s.get (MEM_PORT_CFG.target_ns p))

/-- The key of the bank that holds address `d`. -/
def State.bankKey (s : State) (d : Nat) : Nat := let p := s.memPlace d; 16 * p.1 + p.2.1

/-- A request enters its bank queue with a tag: in_use, peak and tag follow (R233 to R235). -/
def State.memAccept (s : State) (r : MemReq) : State :=
  let s1 := s.tagTake (portClass r.port) (Target.ddr (Fin.ofNat 4 ((s.memPlace r.d).1))) r.port
  let u := s.get (MEM_PORT_STAT.in_use r.port) + 1
  let s2 := (s1.put (MEM_PORT_STAT.in_use r.port) u).put (MEM_PORT_STAT.peak r.port) (Nat.max u (s.get (MEM_PORT_STAT.peak r.port)))
  let k := s.bankKey r.d
  { s2 with mem := s2.mem.setQueue k (s2.mem.queue k ++ [{ r with inst := some s.hub.nextInst }]) }

/-- Has a request its place: its quota and its bank queue of 16 allow (R234, R235). -/
def State.memRoom (s : State) (r : MemReq) : Bool :=
  decide (s.get (MEM_PORT_STAT.in_use r.port) < s.memQuota r.port) && decide ((s.mem.queue (s.bankKey r.d)).length < 16)

/-- May a request enter now: it has its place, and its class a tag (R35). -/
def State.memMay (s : State) (r : MemReq) : Bool := s.memRoom r && s.tagFree (portClass r.port)

/-- The waiting requests, oldest first: each that may enter does, and one that may not holds back its port's later ones; one that only
lacks a tag waits for it (R35). -/
def State.memPumpGo (s : State) (held : List Nat) : List MemReq → State
  | [] => s
  | r :: l =>
    if !held.contains r.port && s.memMay r then (s.memAccept r).memPumpGo held l
    else
      let s1 := s.when (!held.contains r.port && s.memRoom r) (fun s => s.tagWait (portClass r.port))
      ({ s1 with mem := { s1.mem with waiting := s1.mem.waiting ++ [r] } }).memPumpGo (r.port :: held) l

def State.memPump (s : State) : State :=
  ({ s with mem := { s.mem with waiting := [] } }).memPumpGo [] s.mem.waiting

/-- A request of port `p` for the chunk at `d` (R234): one that would exceed the quota waits in its port; one that finds no tag
waits for it. An address outside device memory is refused (R248). -/
def State.memRequest (s : State) (p d : Nat) (write : Bool) : State :=
  if s.memHas d 1 then
    ({ s with mem := { s.mem with waiting := s.mem.waiting ++ [(⟨Fin.ofNat 8 p, d, write, s.now, none, false⟩ : MemReq)] } }).memPump
  else if p = 2 ∧ s.flag MEM_STAT.mem_active then s.extentViolation else s

/-- The urgency of a request (R235). -/
def State.urgency (s : State) (r : MemReq) : Nat :=
  let age := (s.now + 2 ^ 64 - r.entered % 2 ^ 64) % 2 ^ 64
  Nat.min (if s.flag (MEM_PORT_CFG.rt r.port) then 7 else 6) (8 * age / (65536 * s.memTarget r.port))

/-- Does a request hit the open row of its bank? -/
def State.rowHit (s : State) (k : Nat) (r : MemReq) : Bool :=
  decide (tabGet (fun _ => none) s.mem.rows k = some (s.memPlace r.d).2.2)

/-- The request that entered its port first; among equals the one that stands first. -/
def oldestReq (now : Nat) : List MemReq → Option MemReq
  | [] => none
  | r :: l =>
    match oldestReq now l with
    | none => some r
    | some q => if (now + 2 ^ 64 - q.entered % 2 ^ 64) % 2 ^ 64 ≤ (now + 2 ^ 64 - r.entered % 2 ^ 64) % 2 ^ 64 then some r else some q

/-- Must request `b`, which stands behind `a` in its bank queue, wait for it: same chunk, and one of them writes (R236). -/
def MemReq.orders (a b : MemReq) : Bool := decide (a.d / 64 = b.d / 64) && (a.write || b.write)

/-- The requests of a bank queue that may be issued, each with those behind it that wait for it (R236). -/
def reqHeads (before : List MemReq) : List MemReq → List (MemReq × List MemReq)
  | [] => []
  | r :: l =>
    let rest := reqHeads (before ++ [r]) l
    if before.any (fun a => a.orders r) then rest else (r, l.filter (fun b => r.orders b)) :: rest

/-- The urgency with which a request is served: its own, or that of one that waits behind it (R235, R236; log entry 171). -/
def State.servedU (s : State) (p : MemReq × List MemReq) : Nat := (p.2.map s.urgency).foldl Nat.max (s.urgency p.1)

/-- The requests of bank `k` that may be issued, with the urgency with which they are served. -/
def State.bankHeads (s : State) (k : Nat) : List (MemReq × Nat) :=
  (reqHeads [] (s.mem.queue k)).map (fun p => (p.1, s.servedU p))

/-- The candidate of a bank with its urgency (R235): highest u, then a row hit, then the oldest; a row hit is served at most 8 times in
a row while an older request of its u waits. -/
def State.candidate (s : State) (k : Nat) : Option (MemReq × Nat) :=
  let l := s.bankHeads k
  let u := (l.map (fun p => p.2)).foldl Nat.max 0
  let top := (l.filter (fun p => p.2 == u)).map (fun p => p.1)
  match oldestReq s.now (top.filter (fun r => s.rowHit k r)), oldestReq s.now top with
  | some h, some o => if decide (h = o) || decide (tabGet (fun _ => 0) s.mem.hits k < 8) then some (h, u) else some (o, u)
  | _, o => o.map (fun r => (r, u))

/-- Is a bank free of a refresh now? -/
def State.bankFree (s : State) (k : Nat) : Bool :=
  match tabGet (fun _ => (none : Option Nat)) (s.mem.blocked.map (fun p => (p.1, some p.2))) k with
  | none => true
  | some t => modGe 64 s.now t

/-- The banks of channel `m` in rotation after the bank served last. -/
def State.bankRound (s : State) (m : Nat) : List Nat :=
  (List.range 16).map (fun i => 16 * m + (s.mem.last.getD m 0 + 1 + i) % 16)

/-- The bank whose candidate has the highest u, the first in rotation among equals, with that candidate and its u. -/
def State.bankPick (s : State) : List Nat → Option (Nat × MemReq × Nat)
  | [] => none
  | k :: l =>
    match (if s.bankFree k then s.candidate k else none), s.bankPick l with
    | none, o => o
    | some r, none => some (k, r)
    | some r, some q => if q.2.2 ≤ r.2 then some (k, r) else some q

def State.owedOf (s : State) (k : Nat) : Nat := tabGet (fun _ => 0) s.mem.owed k

/-- owed_now and owed_peak follow the banks of channel `m`. -/
def State.owedShow (s : State) (m : Nat) : State :=
  let top := ((List.range 16).map (fun b => s.owedOf (16 * m + b))).foldl Nat.max 0
  (s.put (MEM_CH_REF.owed_now m) top).put (MEM_CH_REF.owed_peak m) (Nat.max top (s.get (MEM_CH_REF.owed_peak m)))

/-- One per-bank refresh is issued: the bank serves nothing for trfcpb_ns and its row closes (R238, R239). -/
def State.refreshIssue (s : State) (m k : Nat) : State :=
  let t := (s.now + 65536 * s.get (MEM_CH_INFO.trfcpb_ns m)) % 2 ^ 64
  { s with mem := { s.mem with owed := tabSet (fun _ => 0) s.mem.owed k (s.owedOf k - 1),
                               checks := tabSet (fun _ => []) s.mem.checks k [],
                               blocked := (k, t) :: s.mem.blocked.filter (fun p => !(p.1 == k)),
                               rows := tabSet (fun _ => none) s.mem.rows k none,
                               hits := tabSet (fun _ => 0) s.mem.hits k 0 } }

/-- The refresh of a bank whose owed count is 8 pre-empts (R239). -/
def State.refreshPreempt (s : State) (m b : Nat) : State :=
  let k := 16 * m + b
  if s.owedOf k = 8 then
    let s1 := ((s.refreshIssue m k).owedShow m).bump (MEM_CH_REF.preempts m)
    if dueAgain (s1.mem.limitAt.getD m none) s1.now oneMs then
      ({ s1 with mem := { s1.mem with limitAt := s1.mem.limitAt.set m (some s1.now) } }).raiseInst Ev.memRefreshLimit m
    else s1
  else s

/-- The check chunks in a bank's cache once the chunk of a request is in it, read at most once per activation (R228). -/
def checkUse (n : Nat) (dirty : Bool) : List (Nat × Bool) → List (Nat × Bool)
  | [] => [(n, dirty)]
  | p :: l => if p.1 = n then (n, p.2 || dirty) :: l else p :: checkUse n dirty l

/-- A request is issued to its bank (R235): it leaves the queue, opens its row, and is served. A row that closes has its check chunks
written back (R228). -/
def State.memIssue (s : State) (m k : Nat) (r : MemReq) (u : Nat) : State :=
  let hit := s.rowHit k r
  let older := match oldestReq s.now (((s.bankHeads k).filter (fun p => p.2 == u)).map (fun p => p.1)) with
    | some o => !decide (o = r)
    | none => false
  let x := s.mem.setQueue k ((s.mem.queue k).filter (fun q => !decide (q = r)))
  let held := if hit then tabGet (fun _ => []) x.checks k else []
  { s with mem := { x with rows := tabSet (fun _ => none) x.rows k (some (s.memPlace r.d).2.2),
                           hits := tabSet (fun _ => 0) x.hits k (if hit && older then tabGet (fun _ => 0) x.hits k + 1 else 0),
                           checks := tabSet (fun _ => []) x.checks k (checkUse (s.memStripeInRow r.d / 4) r.write held),
                           last := x.last.set m (k % 16),
                           flight := if r.done then x.flight else x.flight ++ [r] } }

/-- Does bank `k` hold a request of a real-time port? -/
def State.bankRt (s : State) (k : Nat) : Bool := (s.mem.queue k).any (fun r => s.flag (MEM_PORT_CFG.rt r.port))

/-- A refresh that bank `k` is owed is issued where its queue holds no request of a real-time port (R238). -/
def State.refreshOwed (s : State) (m k : Nat) : State :=
  if decide (0 < s.owedOf k) && s.bankFree k && !s.bankRt k then s.refreshIssue m k else s

/-- A command slot of channel `m` (R235, R238): first a refresh at the postponement limit; else the owed refreshes of banks that no
real-time request holds back, and the most urgent candidate. -/
def State.memSlot (s : State) (m : Nat) : State :=
  match (s.bankRound m).find? (fun k => s.owedOf k == 8 && s.bankFree k) with
  | some k => s.refreshPreempt m (k % 16)
  | none =>
    let s1 := ((s.bankRound m).foldl (fun (s : State) k => s.refreshOwed m k) s).owedShow m
    match s1.bankPick (s1.bankRound m) with
    | some (k, r, u) => (s1.memIssue m k r u).memPump
    | none => s1

/-- A request's completion: its tag and its place in the quota are free; one later than target_ns is a latency miss (R236). -/
def State.memEnd (s : State) (r : MemReq) : State :=
  let s1 := match r.inst with
    | some i => s.tagRelease i
    | none => s
  let s2 := s1.put (MEM_PORT_STAT.in_use r.port) (s1.get (MEM_PORT_STAT.in_use r.port) - 1)
  let late := decide (65536 * s.memTarget r.port < (s.now + 2 ^ 64 - r.entered % 2 ^ 64) % 2 ^ 64)
  let s3 := if late then
      let s3 := (s2.bump (MEM_PORT_MISS.misses r.port)).setFlag (MEM_PORT_STAT.miss_seen r.port)
      if dueAgain (s3.mem.missAt.getD r.port none) s3.now oneMs then
        ({ s3 with mem := { s3.mem with missAt := s3.mem.missAt.set r.port (some s3.now) } }).raiseInst Ev.memLatencyMiss r.port
      else s3
    else s2
  s3.memPump

/-- The requests of port `p` that can complete now: reads that have been issued and writes that a bank queue holds (R236). -/
def State.memReady (s : State) (p : Nat) : List MemReq :=
  (s.mem.flight ++ (s.mem.queues.map (fun q => q.2.filter (fun r => r.write && !r.done))).flatten).filter (fun r => r.port == p)

/-- The oldest request of port `p` that can complete does (R236); a read is decoded with the outcome the sender gives (R31, R32): an
uncorrectable word gives a control cluster or the safety processor (port 6) an error response on its load. -/
def State.memComplete (s : State) (p : Nat) (e : Ecc) : State :=
  match oldestReq s.now (s.memReady p) with
  | none => s
  | some r =>
    let i := r.inst.getD 0
    if s.mem.flight.contains r then
      let s1 := { s with mem := { s.mem with flight := s.mem.flight.filter (fun q => !decide (q = r)) } }
      let rd := if r.write then (true, s1) else s1.devRead r.d 1 p (s.tagOf i) e
      let s2 := if rd.1 || !decide (p = 6) then rd.2 else rd.2.emit (.opDone (s.tagOf i) i p false)
      s2.memEnd r
    else
      let mark := fun (x : MemSt) (q : Nat × List MemReq) =>
        x.setQueue q.1 (q.2.map (fun y => if y = r then { y with done := true } else y))
      ({ s with mem := s.mem.queues.foldl mark s.mem }).memEnd r

/-- A quota is written (R234): nothing is evicted; a quota below in_use sets quota_cut. -/
def State.memQuotaWrite (s : State) (p v : Nat) : State :=
  let s1 := s.put (MEM_PORT_QUOTA.quota p) v
  if s1.memQuota p < s1.get (MEM_PORT_STAT.in_use p) then
    (s1.setFlag (MEM_PORT_STAT.quota_cut p)).raiseInst Ev.memQuotaCut p
  else s1.memPump

/-- The largest trfcpb_ns of the channels in service (R237). -/
def State.trfcMax (s : State) : Nat :=
  ((List.range 4).map (fun m =>
    if bits (s.get MEM_STAT.ch_active) m 1 = 1 then s.get (MEM_CH_INFO.trfcpb_ns m) else 0)).foldl Nat.max 0

/-- A port's configuration is written (R237): a real-time port's target must allow one per-bank refresh. -/
def State.memPortWrite (s : State) (p target : Nat) (rt : Bool) : State :=
  if rt && decide (Nat.max 1 target < s.trfcMax + 120) then s.raiseInst Ev.memConfigRejected p
  else (s.put (MEM_PORT_CFG.target_ns p) target).put (MEM_PORT_CFG.rt p) (bit rt)

/-- Each tREFI every bank of channel `m` is owed one refresh; it is issued where the bank's queue holds no request of a
real-time port, and postponed otherwise (R238). -/
def State.refreshDue (s : State) (m : Nat) : State :=
  let one := fun (s : State) (b : Nat) =>
    let k := 16 * m + b
    let n := Nat.min 8 (s.owedOf k + 1)
    ({ s with mem := { s.mem with owed := tabSet (fun _ => 0) s.mem.owed k n } }).refreshOwed m k
  if bits (s.get MEM_STAT.ch_active) m 1 = 1 then ((List.range 16).foldl one s).owedShow m else s

/-- The worst die of channel `m` reports another refresh rate (R238). -/
def State.mr4 (s : State) (m mult : Nat) : State :=
  if s.get (MEM_CH_INFO.ref_mult m) = mult then s
  else (s.put (MEM_CH_INFO.ref_mult m) mult).raiseInst Ev.memThermalDerate m

/-- A periodic training step begins on channel `m` (R241, R243); it updates the stored settings of the present set point, or
fails and leaves them. A change of data rate that waits is deferred for it (R242). -/
def State.retrainStep (s : State) (m : Nat) (ok : Bool) : State :=
  if s.flag MEM_TRAIN_CFG.periodic_en ∧ bits (s.get MEM_STAT.ch_active) m 1 = 1 then
    let s0 := ({ s with mem := { s.mem with stepOn := s.mem.stepOn.set m true } }).when s.mem.target.isSome
      (fun s => s.setFlag MEM_FREQ_CTL.deferred)
    if ok then
      let (x, s1) := s0.fresh
      { s1 with mem := { s1.mem with fails := s1.mem.fails.set m 0,
                                     trained := s1.mem.trained.set m ((s1.mem.trained.getD m []).set (s.get MEM_FREQ_CTL.cur_sp) x) } }
    else
      let s1 := { s0 with mem := { s0.mem with fails := s0.mem.fails.set m (s0.mem.fails.getD m 0 + 1) } }
      (s1.setFlag (MEM_CH_INFO.train_fail m)).raiseInst Ev.memTrainFail m
  else s

/-- A training step ends; a change deferred for the steps in progress waits no longer (R242). -/
def State.trainingEnd (s : State) (m : Nat) : State :=
  let s1 := { s with mem := { s.mem with stepOn := s.mem.stepOn.set m false } }
  if s1.mem.stepOn.any id then s1 else s1.clearFlag MEM_FREQ_CTL.deferred

/-- A change of data rate is requested (R242): a request for the present set point does nothing; a second one replaces the
target of the first. While a tile or hub class throttles, no set point faster than 1 is taken (R367). -/
def State.freqReq (s : State) (sp : Nat) : State :=
  let t := Nat.max (s.get THM_STAT.mem_throttle) (Nat.min 2 sp)
  if t = s.get MEM_FREQ_CTL.cur_sp then s
  else
    let s1 := ({ s with mem := { s.mem with target := some t } }).setFlag MEM_FREQ_CTL.req
    s1.put MEM_FREQ_CTL.deferred (bit (s.mem.stepOn.any id))

/-- All channels change together (R242). -/
def State.freqApply (s : State) : State :=
  match s.mem.target with
  | none => s
  | some t =>
    if s.mem.stepOn.any id then s
    else
      let s1 := ((s.put MEM_FREQ_CTL.cur_sp t).clearFlag MEM_FREQ_CTL.req).clearFlag MEM_FREQ_CTL.deferred
      ({ s1 with mem := { s1.mem with target := none } }).raise Ev.memFreqChange 0 0

/-- The patrol scrubber has read every usable word (R244): what a test injection left in a word is corrected, or counted and
left as it is. -/
def State.scrubEnd (s : State) : State :=
  if s.flag MEM_SCRUB_CFG.enable ∧ s.flag MEM_STAT.mem_active then
    let words := ((s.hub.injected.filter (fun p => p.1 == 4)).map (fun p => p.2.1)).filter (fun w => s.memHas w 32)
    (words.foldl (fun s w => (s.devReadWord w 7 0 .good).2) s).raise Ev.memScrubDone 0 0
  else s

/-- The end of a second on channel `m` (R245). -/
def State.ceRate (s : State) (m : Nat) : State :=
  let n := s.mem.ceSec.getD m 0
  let s1 := { s with mem := { s.mem with ceSec := s.mem.ceSec.set m 0 } }
  if s.get MEM_CE_THR.ce_thr < n then (s1.setFlag (MEM_CH_ERR.ce_rate_seen m)).raiseInst Ev.memCeRate m else s1

/-- The place of channel `m` in the map. -/
def State.chIx (s : State) (m : Nat) : Nat := s.mem.chs.findIdx (fun c => c == m)

/-- The next stripe that migration has to move, at or after stripe `x`; the extent where none is left (R246, R247). -/
def State.nextMove (s : State) (r x : Nat) : Nat :=
  256 * Nat.min s.memStripes (nextStripe s.memOrder s.mem.chs.length s.mem.stripes r x)

/-- May channel `m` be retired (R248)? -/
def State.mayRetire (s : State) (m : Nat) : Bool :=
  !s.flag MEM_STAT.retired && !s.flag MEM_STAT.boot_retired && !s.flag MEM_STAT.retiring &&
    decide (bits (s.get MEM_STAT.ch_active) m 1 = 1) && decide (1 < s.mem.chs.length) && s.flag MEM_STAT.mem_active

/-- start = 1 (R246, R248). -/
def State.retireStart (s : State) (m : Nat) : State :=
  let c := s.mem.chs.length
  if !s.mayRetire m then s.raiseInst Ev.memConfigRejected m
  else
    let r := s.chIx m
    let s1 := ((s.put MEM_RETIRE_CTL.ch m).setFlag MEM_RETIRE_CTL.start).setFlag MEM_STAT.retiring
    let s2 := s1.put MEM_EXTENT.extent (256 * ((c - 1) * s.mem.stripes))
    let s3 := { s2 with mem := { s2.mem with retIx := some r } }
    (s3.put MEM_RETIRE_PTR.ptr (s3.nextMove r 0)).raiseInst Ev.memRetireStart m

/-- A request that waits in the bank queue of a stripe that has moved goes to the queue of its new place (R247), behind what waits there;
its operation acts on that channel from now on. -/
def State.memFollow (s : State) (k : Nat) (p : Nat) : State :=
  let gone := (s.mem.queue k).filter (fun r => decide (r.d / 256 * 256 = p))
  let stay := (s.mem.queue k).filter (fun r => !decide (r.d / 256 * 256 = p))
  let k' := s.bankKey p
  let m := Target.ddr (Fin.ofNat 4 (k' / 16))
  let mine := fun (o : Op) => gone.any (fun r => decide (r.inst = some o.inst))
  if k' = k then s
  else { s with mem := (s.mem.setQueue k stay).setQueue k' (s.mem.queue k' ++ gone),
                hub := { s.hub with ops := s.hub.ops.map (fun o => if mine o then { o with target := m } else o) } }

/-- One stripe moves (R247); `bad` names its uncorrectable words, which go to their new place with the poison syndrome. -/
def State.migrate (s : State) (bad : List (Fin 8)) : State :=
  let p := s.get MEM_RETIRE_PTR.ptr
  match s.mem.retIx with
  | none => s
  | some r =>
    if s.flag MEM_STAT.retiring ∧ p < s.get MEM_EXTENT.extent then
      let read := fun (s : State) (i : Nat) =>
        let w := p + 32 * i
        let e : Ecc := if bad.any (fun b => b.val == i) then .bad 0xFFFF else .good
        let o := s.devReadWord w 7 0 e
        let rest := o.2.hub.injected.filter (fun q => !decide (q.1 = 4 ∧ q.2.1 = w))
        match o.1 with
        | .bad _ => { o.2 with hub := { o.2.hub with injected := (4, w, 4) :: rest } }
        | _ => { o.2 with hub := { o.2.hub with injected := rest } }
      let s1 := (List.range 8).foldl read s
      (s1.put MEM_RETIRE_PTR.ptr (s1.nextMove r (p / 256 + 1))).memFollow (s.bankKey p) p
    else s

/-- The last stripe has moved (R247). -/
def State.retireDone (s : State) : State :=
  if s.flag MEM_STAT.retiring ∧ s.get MEM_EXTENT.extent ≤ s.get MEM_RETIRE_PTR.ptr then
    let m := s.mem.chs.getD (s.mem.retIx.getD 0) 0
    let act := s.get MEM_STAT.ch_active
    let s1 := ((s.clearFlag MEM_STAT.retiring).setFlag MEM_STAT.retired).put MEM_STAT.retired_ch m
    let s2 := (s1.put MEM_STAT.ch_active (act - bits act m 1 * 2 ^ m)).clearFlag MEM_RETIRE_CTL.start
    (s2.raiseInst Ev.memRetireDone m).domainOff (.ddr (Fin.ofNat 4 m))
  else s

/-- clr = 1 clears a channel's error counters (R245). -/
def State.memErrClear (s : State) (m : Nat) : State := (s.put (MEM_CH_ERR.ce_count m) 0).put (MEM_CH_ERR.ue_count m) 0

/-- Lamplighter initialises memory once it has read the configuration block, with the block's map_order (R232). -/
def execMemInit (order : Fin 4) (f0 f1 f2 f3 : MemFound) (s : State) : Res :=
  .next (if s.boot.cfgRead = false ∨ order.val ≠ s.boot.mapOrder then s else s.memInit order (fun i => if i = 0 then f0 else if i = 1 then f1 else if i = 2 then f2 else f3))
def execMemInitDone (s : State) : Res := .next s.memInitDone
/-- The block lock of R12 (R232). -/
def execMemLock (s : State) : Res := .next (s.setFlag MEM_CTL.lock)
def execMemRequest (p : Fin 8) (d : BitVec 64) (write : Bool) (s : State) : Res := .next (s.memRequest p d.toNat write)
def execMemCommandSlot (m : Fin 4) (s : State) : Res := .next (s.memSlot m)
def execMemCompletion (p : Fin 8) (e : Ecc) (s : State) : Res := .next (s.memComplete p e)
def execRefreshDue (m : Fin 4) (s : State) : Res := .next (s.refreshDue m)
def execRefreshPreempt (m : Fin 4) (b : Fin 16) (s : State) : Res := .next (s.refreshPreempt m b)
def execMr4RateChange (m : Fin 4) (mult : Fin 3) (s : State) : Res := .next (s.mr4 m mult)
def execRetrainStep (m : Fin 4) (ok : Bool) (s : State) : Res := .next (s.retrainStep m ok)
def execTrainingStepEnd (m : Fin 4) (s : State) : Res := .next (s.trainingEnd m)
/-- A write of req = 1 with target_sp, or a throttle state's request, which writes no target_sp (R242). -/
def execFreqChangeReq (sp : Fin 4) (throttle : Bool) (s : State) : Res :=
  .next ((if throttle then s else s.put MEM_FREQ_CTL.target_sp sp).freqReq sp)
def execFreqChangeApply (s : State) : Res := .next s.freqApply
def execMemQuotaWrite (p : Fin 8) (v : BitVec 11) (s : State) : Res := .next (s.memQuotaWrite p v.toNat)
def execMemPortCfgWrite (p : Fin 8) (target : BitVec 16) (rt : Bool) (s : State) : Res :=
  .next (s.memPortWrite p target.toNat rt)
/-- peak_clr = 1 (R234). -/
def execMemPortPeakClr (p : Fin 8) (s : State) : Res :=
  .next (s.put (MEM_PORT_STAT.peak p) (s.get (MEM_PORT_STAT.in_use p)))
def execScrubPassEnd (s : State) : Res := .next s.scrubEnd
def execCeRateCheck (m : Fin 4) (s : State) : Res := .next (s.ceRate m)
/-- clr = 1 (R245). -/
def execMemErrClear (m : Fin 4) (s : State) : Res :=
  .next (s.onReg (MEM_CH_ERR.addr m) (fun s => s.memErrClear m))
def execRetireStart (ch : Fin 4) (s : State) : Res := .next (s.retireStart ch)
def execMigrateStripe (bad : List (Fin 8)) (s : State) : Res := .next (s.migrate bad)
def execRetireDone (s : State) : Res := .next s.retireDone

end Sys2Proof.Machine
end

