-- ==== Sys2Proof/Machine/Boot.lean ====
section
/-! DEFINITION. Mode requests, boot with Lamplighter and START-TEST (R301 to R310). -/

namespace Sys2Proof.Machine

/-- A HUB_MODE_REQ write with go = 1 (R301). -/
def State.modeRequest (s : State) (target : Nat) : State :=
  let r := s.requestMode target none
  match r.1 with
  | .done => r.2.put HUB_MODE_REQ.result r.2.mode
  | .denied => (r.2.setFlag HUB_MODE_REQ.denied).put HUB_MODE_REQ.result r.2.mode
  | .pending => r.2

/-- Firing has stopped after a STANDBY request (R302, R429). -/
def State.standbyEntry (s : State) : State :=
  let decided := decide (s.fire.phase = .off) || decide (s.fire.phase = .stopping)
  if s.flag HUB_MODE_STAT.req_busy ∧ decided ∧ ¬ s.fire.pending then (s.fireOff.enterMode 3).modeReqEnd false else s

/-- The configuration block's copies as Lamplighter reads them, 16 bytes each (R304). -/
def cfgValid (l : List Byte) : Bool := tblNat l 0 4 == 0x4B424346 && tblNat l 12 4 == crc32 (l.take 12)

/-- Lamplighter reads the configuration block (R304): copy 0, else copy 1, else the defaults. -/
def State.bootConfig (s : State) (a b : List Byte) : State :=
  if s.mode = 1 then
    let use := fun (l : List Byte) => { s with boot := { s.boot with
      cfgRead := true, mapOrder := tblByte l 4 % 4, bootPref := if tblByte l 5 ≤ 2 then tblByte l 5 else 0, xspiDtr := tblByte l 6 == 1 } }
    if cfgValid a then use a
    else if cfgValid b then use b
    else ({ s with boot := { s.boot with cfgRead := true, mapOrder := 0, bootPref := 0, xspiDtr := false } }).setFlag HUB_BOOT_STAT.cfg_default
  else s

/-- `n` bytes of an image's header from byte `o` on (R305), and a field there as a little-endian number. -/
def imgBytes (i : ImageFound) (o n : Nat) : List Byte := toLE n (i.head.toNat / 2 ^ (8 * o))
def imgNat (i : ImageFound) (o n : Nat) : Nat := i.head.toNat / 2 ^ (8 * o) % 2 ^ (8 * n)

/-- The fields of an image's header (R305). -/
def imgMagic (i : ImageFound) : Nat := imgNat i 0 4
def imgVersion (i : ImageFound) : Nat := imgNat i 4 4
def imgSecVersion (i : ImageFound) : Nat := imgNat i 8 4
def imgLength (i : ImageFound) : Nat := imgNat i 12 4
def imgPayloadHash (i : ImageFound) : Nat := beNat (imgBytes i 64 48)
def imgPubkey (i : ImageFound) : List Byte := imgBytes i 112 96

/-- Do magic and length allow the image to be read (R305)? -/
def imgFormed (i : ImageFound) : Bool :=
  decide (imgMagic i = 0x4C4D5047) && decide (4096 ≤ imgLength i ∧ imgLength i ≤ 33550336) && decide (imgLength i % 4096 = 0)

/-- Is the signature, r then s, one of the header's first 208 bytes by the public key, x then y (R305)? -/
def imgSigned (i : ImageFound) : Bool :=
  ecdsaOk (beNat (imgBytes i 112 48)) (beNat (imgBytes i 160 48)) (sha384 (imgBytes i 0 208)) (beNat (imgBytes i 208 48)) (beNat (imgBytes i 256 48))

/-- The first failing check of an image, 0 where it passes (R306). A payload that cannot be read is found once the header has given its
length (log entry 220). -/
def State.imageErr (s : State) (i : ImageFound) : Nat :=
  if i.headErr then 1
  else if !imgFormed i then 2
  else if i.dataErr ∨ i.data.length < imgLength i then 1
  else if sha384 (imgPubkey i) ≠ s.boot.keyHash.toNat then 3
  else if !imgSigned i then 4
  else if sha384 (i.data.take (imgLength i)) ≠ imgPayloadHash i then 5
  else if imgSecVersion i < s.get HUB_SVN_FLOOR.floor then 6
  else 0

/-- Is a header readable? -/
def imgReadable (i : ImageFound) : Bool := !i.headErr && imgMagic i == 0x4C4D5047

/-- The slot tried first (R307). -/
def State.firstSlot (s : State) (a b : ImageFound) : Nat :=
  if s.boot.bootPref = 1 then 0
  else if s.boot.bootPref = 2 then 1
  else if imgReadable a && imgReadable b && decide (imgVersion a < imgVersion b) then 1
  else 0

/-- An image has passed (R307, R308): the slot, its security version, and the wait for the RPLL. Cluster A and Lamplighter derive their keys
(R390; log entry 221). -/
def State.imagePass (s : State) (slot : Nat) (i : ImageFound) : State :=
  let s1 := { s with boot := { s.boot with secVersion := some (imgSecVersion i) }, cal := { s.cal with keys := [true, false, true] } }
  (s1.put HUB_BOOT_STAT.slot slot).put HUB_BOOT_STAT.rpll_wait (bit (!s.flag TIME_STAT.rpll_locked))

/-- Lamplighter checks the next candidate image of slots A and B (R306, R307); an image is checked from device memory (R226). -/
def State.imageCheck (s : State) (a b : ImageFound) : State :=
  if s.mode = 1 ∧ s.flag MEM_STAT.mem_active ∧ ¬ s.flag HUB_BOOT_STAT.boot_err ∧ s.boot.secVersion.isNone then
    let f := s.firstSlot a b
    let slot := match s.boot.tried with
      | [] => f
      | u :: _ => 1 - u
    let img := if slot = 0 then a else b
    let e := s.imageErr img
    let errReg := if slot = 0 then HUB_BOOT_STAT.err_a else HUB_BOOT_STAT.err_b
    let s1 := ({ s with boot := { s.boot with tried := s.boot.tried ++ [slot] } }).put errReg e
    let s2 := if s.boot.tried.isEmpty then s1 else s1.setFlag HUB_BOOT_STAT.fallback
    if e = 0 then s2.imagePass slot img
    else if s.boot.tried.isEmpty then s2
    else s2.setFlag HUB_BOOT_STAT.boot_err
  else s

/-- Is a word of device memory that the `n` bytes from `d` on reach uncorrectable (R32)? -/
def State.devBad (s : State) (d n : Nat) : Bool :=
  s.hub.injected.any (fun p => decide (p.1 = W256Loc.devMem.code ∧ d < p.2.1 + 32 ∧ p.2.1 < d + n ∧ 3 ≤ p.2.2))

/-- Lamplighter reads `n` bytes of device memory from `d` on, through the clusters' port: the words that State knows to be damaged are
corrected or found uncorrectable, counted and logged (R31, R32). -/
def State.devScan (s : State) (d n : Nat) : State :=
  (s.hub.injected.filter (fun p => decide (p.1 = W256Loc.devMem.code ∧ d < p.2.1 + 32 ∧ p.2.1 < d + n))).foldl (fun (s : State) p =>
    (s.devReadWord p.2.1 6 0 .good).2) s

/-- The device memory address that HUB_BOOT_IMG names. -/
def State.imgBase (s : State) : Nat := s.get HUB_BOOT_IMG.address * 4096

/-- The image at HUB_BOOT_IMG as it lies in device memory (R305, R308); what does not lie there as a whole cannot be read. -/
def State.memImage (s : State) (readErr : Bool) : ImageFound :=
  let d := s.imgBase
  let h : ImageFound := ⟨readErr || !s.memHas d 512 || s.devBad d 512, false, BitVec.ofNat 4096 (memNat s.devMem d 512), []⟩
  let n := imgLength h
  if imgFormed h then
    { h with dataErr := !s.memHas d (512 + n) || s.devBad (d + 512) n, data := memBytes s.devMem (d + 512) n }
  else h

/-- A write of retry = 1 (R308). -/
def State.bootRetry (s : State) (readErr : Bool) : State :=
  if s.flag HUB_BOOT_STAT.boot_err then
    let i := s.memImage readErr
    let e := s.imageErr i
    let s1 := ((s.devScan s.imgBase (512 + i.data.length)).put HUB_BOOT_STAT.err_mem e).clearFlag HUB_BOOT_CTL.retry
    if e = 0 then (s1.clearFlag HUB_BOOT_STAT.boot_err).imagePass 2 i else s1
  else s

/-- A write of svn_commit = 1 (R307): in STANDBY the floor becomes the running image's security version. -/
def State.svnCommit (s : State) : State :=
  if s.mode = 3 then
    match s.boot.secVersion with
    | some v => s.put HUB_SVN_FLOOR.floor (Nat.max (s.get HUB_SVN_FLOOR.floor) v)
    | none => s
  else s

/-- BOOT ends (R302, R308): an image is loaded, memory and the calibration store are ready and the RPLL is locked; the strap FACTORY_EN
counts while the factory fuse is intact. The key stores are cleared before START-TEST (R309, R390). The HDM decoder takes the usable extent
(R249). -/
def State.bootComplete (s : State) (factoryEn : Bool) : State :=
  if s.mode = 1 ∧ s.boot.secVersion.isSome ∧ s.flag MEM_STAT.mem_active ∧ s.boot.calLoaded then
    if s.flag TIME_STAT.rpll_locked then
      let s0 := s.clearFlag HUB_BOOT_STAT.rpll_wait
      let s1 := { s0 with mem := { s0.mem with hdmSize := s0.get MEM_EXTENT.extent } }
      if factoryEn && !s.flag HUB_CAP.factory_closed then s1.enterMode 11
      else ({ s1 with cal := { s1.cal with keys := [false, false, false] } }).enterMode 2
    else s.setFlag HUB_BOOT_STAT.rpll_wait
  else s

/-- A tile comes out of its test (R309): its engines start anew and its SRAM holds nothing; what its registers say of it, its place in the
coarse count and its repaired rows stay (log entry 72). -/
def TileSt.retested (x : TileSt) : TileSt :=
  { TileSt.init with good := x.good, bad := x.bad, phase := x.phase, coarseOff := x.coarseOff, zoomHist := x.zoomHist,
                     chans := x.chans.foldl (fun l p => tabSet (fun _ => ChanSt.init) l p.1
                       { ChanSt.init with enHist := p.2.enHist, thrHist := p.2.thrHist, lowGain := p.2.lowGain }) [],
                     rowCe := x.rowCe, marked := x.marked, repaired := x.repaired }

/-- The hub's engines and the tiles are initialised again after the test, from the register state they had before it, as R393 has it for a
slice (R309; log entry 72). -/
def State.blocksAgain (s : State) : State :=
  { s with tiles := s.tiles.map TileSt.retested, hist := HistSt.init, echo := { EchoSt.init with walk := s.echo.walk } }

/-- The tiles that fail (R389): their signatures differ from those in ROM. -/
def State.tilesFailing (s : State) (misr : Vector Word64 6) : Nat :=
  ofBits ((misr.toList.zip s.cal.rom.tile.toList).map (fun p => !(p.1 == p.2)))

/-- Does a block of the hub fail (R389, R390): a signature differs, or a key store that did not read back as zero kept scan enable low? -/
def State.hubFailing (s : State) (b : HubBist) : Bool := !(b.misr == s.cal.rom.hub) || !(b.keys == 0)

/-- START-TEST ends with these blocks failing (R309, R310): the failing SRAM rows have been repaired (R340), and firmware derives its
keys again (R390). -/
def State.startTestEnd (s : State) (tiles : Nat) (hub snf : Bool) (rows : List (Nat × Nat)) : State :=
  if s.mode = 2 then
    let r0 := rows.foldl (fun (s : State) p => s.repairRow p.1 p.2) s.blocksAgain
    let s0 := { r0 with cal := { r0.cal with keys := [true, true, true] } }
    let s1 := (((s0.put HUB_BIST_RES.tile_fail tiles).put HUB_BIST_RES.hub_fail (bit hub)).put HUB_BIST_RES.snf_fail (bit snf)).setFlag
      HUB_BIST_RES.done
    let both := decide (bits tiles 2 1 = 1) && decide (bits tiles 3 1 = 1)
    let s2 := (List.range 6).foldl (fun (s : State) t => if bits tiles t 1 = 1 then s.domainOff (.tile (Fin.ofNat 6 t)) else s) s1
    if both || hub || snf then
      let s3 := { s2 with saf := { s2.saf with bistCond := true } }
      if snf then s3.safetyFault 0x05 0 else s3.autoMode 10
    else s2.enterMode 3
  else s

def execModeRequest (target : Fin 16) (s : State) : Res := .next (s.modeRequest target)
def execStandbyEntry (s : State) : Res := .next s.standbyEntry
/-- The first 16 bytes of both copies of the configuration block, as numbers (R304). -/
def execBootConfigRead (copy0 copy1 : BitVec 128) (s : State) : Res :=
  .next (s.bootConfig (toLE 16 copy0.toNat) (toLE 16 copy1.toNat))
def execImageCheck (a b : ImageFound) (s : State) : Res := .next (s.imageCheck a b)
/-- `readErr`: device memory fails to answer. What the three checks of R306 say follows from the bytes. -/
def execBootRetry (readErr : Bool) (_keyOk _sigOk _hashOk : Unit) (s : State) : Res := .next (s.bootRetry readErr)
def execSvnCommit (s : State) : Res := .next s.svnCommit
def execBootComplete (factoryEn : Bool) (s : State) : Res := .next (s.bootComplete factoryEn)
/-- The signatures of the tiles and of the hub's blocks; `snfFail`: Snuffer's own self-check failed; `rows` are the failing SRAM rows: tile
and row in it. -/
def execStartTestEnd (tileFail : Vector Word64 6) (hubFail : HubBist) (snfFail : Bool) (rows : List (Fin 6 × Fin 10368)) (s : State) : Res :=
  .next (s.startTestEnd (s.tilesFailing tileFail) (s.hubFailing hubFail) snfFail (rows.map (fun p => (p.1.val, tileRows * p.1.val + p.2.val))))

end Sys2Proof.Machine
end

