-- ==== Sys2Proof/Machine/Echo.lean ====
section
/-! DEFINITION. Echo extraction and the point record (R136 to R164). Floors, thresholds and scores are compared exactly: a
rational quantity is kept as a numerator over a common denominator. -/

namespace Sys2Proof.Machine

/-- A number put into an ascending list. -/
def natInsert (a : Nat) : List Nat → List Nat
  | [] => [a]
  | b :: l => if a ≤ b then a :: b :: l else b :: natInsert a l

/-- 128 times the floor b (R142): the 32nd and the 33rd smallest of the 64 block sums, added. -/
def floor128 (m : List (Nat × Nat)) : Nat :=
  let blocks := (List.range 64).map (fun k => ((m.filter (fun p => p.1 / 64 == k)).map (fun p => p.2)).sum)
  let l := blocks.foldl (fun acc b => natInsert b acc) []
  l.getD 31 0 + l.getD 32 0

/-- n(i), 0 outside bins 0 to 4,095 (R143). -/
def binAt (m : List (Nat × Nat)) (i : Int) : Nat := if 0 ≤ i ∧ i < 4096 then cntGet m i.toNat else 0

/-- The registers that an extraction uses for one channel cell (R136, R137). -/
structure EchoCfg where
  h : List Nat
  kc : Nat
  kDet : Nat
  minSig : Nat
  sep : Nat
  ghostK : Nat
  minBin : Nat
  maxEcho : Nat
  gateHalf : Nat
  totDefault : Nat
  refract : Nat
  deriving DecidableEq, Repr

def State.echoCfg (s : State) : EchoCfg where
  h := (List.range 8).map (fun j => s.get (ECHO_KERNEL.h j))
  kc := s.get ECHO_KERNEL_CTR.kc
  kDet := s.get ECHO_CFG.k_det
  minSig := s.get ECHO_CFG.min_sig
  sep := s.get ECHO_CFG.sep_bins
  ghostK := s.get ECHO_REFINE_CFG.ghost_k
  minBin := s.get HIST_ZOOM_MIN_BIN.min_bin
  maxEcho := Nat.min 4 (s.get ECHO_CFG.max_echo)
  gateHalf := s.get ECHO_REFINE_CFG.gate_half
  totDefault := s.get ECHO_REFINE_CFG.tot_default
  refract := s.get ECHO_REFRACT.refract

/-- y[i] (R143). -/
def filtered (c : EchoCfg) (m : List (Nat × Nat)) (i : Int) : Nat :=
  ((List.range 8).map (fun j => c.h.getD j 0 * binAt m (i + j - c.kc))).sum

def EchoCfg.h1 (c : EchoCfg) : Nat := c.h.sum
def EchoCfg.h2 (c : EchoCfg) : Nat := (c.h.map (fun v => v * v)).sum
def EchoCfg.hMax (c : EchoCfg) : Nat := c.h.foldl Nat.max 0

/-- y ≥ T with fb = 128 b (R143). -/
def aboveT (c : EchoCfg) (fb y : Nat) : Bool :=
  let l : Int := 128 * ((y : Int) - c.hMax * c.minSig) - c.h1 * fb
  decide (0 ≤ l) && decide (((8 * c.kDet * c.kDet * c.h2 * fb : Nat) : Int) ≤ l * l)

/-- The bins whose filtered value a count reaches. -/
def filterBins (c : EchoCfg) (m : List (Nat × Nat)) : List Nat :=
  uniq (m.flatMap (fun p => (List.range 8).filterMap (fun j =>
    if j ≤ p.1 + c.kc ∧ p.1 + c.kc - j < 4096 then some (p.1 + c.kc - j) else none)))

/-- Is bin `i` a candidate (R143)? -/
def isCandidate (c : EchoCfg) (m : List (Nat × Nat)) (fb i : Nat) : Bool :=
  let y := filtered c m i
  aboveT c fb y && decide (filtered c m ((i : Int) - 1) < y) && decide (filtered c m ((i : Int) + 1) ≤ y) && decide (c.minBin ≤ i)

/-- A of R144. -/
def areaAt (m : List (Nat × Nat)) (i : Nat) : Nat := binAt m ((i : Int) - 1) + binAt m i + binAt m ((i : Int) + 1)

/-- The schedule of a cell that ghosts depend on (R144): latched code span, spacings of its shots in ns. -/
structure Sched where
  span : Nat
  gaps : Nat
  dSum : Nat
  dMin : Nat
  dMax : Nat
  deriving DecidableEq, Repr

def CellMeta.sched (m : CellMeta) : Sched := ⟨m.span, Nat.max 1 (m.planned - 1), m.dSum, m.dMin, m.dMax⟩

/-- Does bin `i` lie in a ghost zone of the echo at bin `a` (R144)? Bin centres stand for times (log entry 27). -/
def inGhost (d : Sched) (a i : Nat) : Bool :=
  [1, 2, 3].any (fun m =>
    let half : Int := (d.span + 4 + m * (d.dMax - d.dMin)) * d.gaps
    let at' : Int := (2 * a + 1) * d.gaps
    let x : Int := (2 * i + 1) * d.gaps
    [at' - m * d.dSum, at' + m * d.dSum].any (fun z =>
      decide (0 ≤ z) && decide (z ≤ 8192 * d.gaps) && decide ((x - z).natAbs ≤ half)))

/-- The ghost limit of R144. -/
def ghostWeak (c : EchoCfg) (d : Sched) (a as : Nat) : Bool := decide (8 * a * (d.span + 2) ≤ 2 * c.ghostK * as)

/-- Candidates in descending A, ties to the lower bin, are accepted or discarded (R144): the accepted ones in order of acceptance,
and the number of ghosts. -/
def acceptAll (c : EchoCfg) (d : Sched) : List (Nat × Nat) → List (Nat × Nat) → Nat → List (Nat × Nat) × Nat
  | acc, [], g => (acc, g)
  | acc, p :: l, g =>
    if 16 ≤ acc.length then (acc, g)
    else if acc.any (fun q => decide (p.1 ≤ q.1 + c.sep ∧ q.1 ≤ p.1 + c.sep)) then acceptAll c d acc l g
    else if acc.any (fun q => inGhost d q.1 p.1 && ghostWeak c d p.2 q.2) then acceptAll c d acc l (g + 1)
    else acceptAll c d (acc ++ [p]) l g

/-- The candidates of a histogram in the order of R144. -/
def candidatesOf (c : EchoCfg) (m : List (Nat × Nat)) (fb : Nat) : List (Nat × Nat) :=
  (((filterBins c m).filter (isCandidate c m fb)).map (fun i => (i, areaAt m i))).foldl (fun l p => peakInsert p l) []

/-- The accepted echoes that the channel cell keeps (R145): nearest, farthest, then by strength. -/
def keepEchoes (n : Nat) (acc : List (Nat × Nat)) : List (Nat × Nat) :=
  if acc.length ≤ n then acc
  else
    let asc := acc.foldl (fun l p => ascInsert p l) []
    let near := asc.headD (0, 0)
    let far := asc.getLastD (0, 0)
    let order := near :: (if far = near then [] else [far]) ++ acc.filter (fun p => !(p == near) && !(p == far))
    order.take n

/-- Where the time of an echo comes from (R148). -/
inductive EchoVia where
  | stamps | fine | coarse
  deriving DecidableEq, Repr

/-- A refined echo: S_e = se / den and B_e = be / den; `tc` is t_c in sixteenths of an LSB; mean ToT = totSum / totCnt where stamps
were used; σ_t² = varN / varD in LSB² for stamps and fine bins, in ps² for coarse bins; p = pN / pD (R147, R148, R160). -/
structure Refined where
  via : EchoVia
  tc : Int
  se : Nat
  be : Nat
  den : Nat
  totSum : Nat
  totCnt : Nat
  low : Bool
  sat : Bool
  varN : Nat
  varD : Nat
  pN : Nat
  pD : Nat
  deriving DecidableEq, Repr

/-- σ_t² from weighted values (R148): the sample variance of the values over S_e = se / den. -/
def sampleVar (l : List (Nat × Nat)) (se den : Nat) : Nat × Nat :=
  let n := (l.map (fun p => p.2)).sum
  let a := (l.map (fun p => p.1 * p.2)).sum
  let q := (l.map (fun p => p.1 * p.1 * p.2)).sum
  ((n * q - a * a) * den, n * (n - 1) * se)

/-- The lowest fine bin of the largest three-bin sum in window `w` (R147). -/
def finePeak (m : List (Nat × Nat)) (w : Nat) : Nat :=
  let f := fun j => cntGet m (64 * w + j) + cntGet m (64 * w + j + 1) + cntGet m (64 * w + j + 2)
  ((List.range 62).foldl (fun (b : Nat × Nat) j => if b.2 < f j then (j, f j) else b) (0, f 0)).1

/-- Refinement from zoom window `w` with start `st` (R147, R148): stamps, else fine bins, where S_e ≥ 2. R148 names no rounding for the 4
fraction bits of t_c: ties to even (log entry 214). -/
def refineZoom (c : EchoCfg) (r : ChanRec) (fb w st : Nat) (lowC satC : Bool) : Option Refined :=
  let n := r.cell.planned
  let zf := r.rep.zoomFirst.getD n
  let jp := finePeak r.fine w
  let j0 := jp - c.gateHalf
  let j1 := Nat.min (jp + 2 + c.gateHalf) 63
  let den := 4096 * n
  let bg := fb * (n - zf) * (j1 - j0 + 1)
  let mid : Int := (bg * 8 * (j0 + j1 + 1) : Nat)
  let sel := r.stamps.filter (fun x => bits x 10 2 == w && decide (j0 ≤ bits x 0 10 / 16 ∧ bits x 0 10 / 16 ≤ j1))
  let ns := sel.length
  let pOf := fun (se : Nat) => (se * n, den * (n - zf) * r.rep.used)
  if ¬ r.rep.stampFull ∧ 2 * den + bg ≤ ns * den then
    let se := ns * den - bg
    let offs := (sel.map (fun x => bits x 0 10)).sum
    let v := sampleVar (sel.map (fun x => (bits x 0 10, 1))) se den
    let lows := (sel.filter (fun x => bits x 26 1 == 1)).length
    some ⟨.stamps, 256 * st + roundHalfEven (16 * ((offs * den : Nat) - mid)) se, se, bg, den, (sel.map (fun x => bits x 12 14)).sum, ns,
      decide (ns ≤ 2 * lows), sel.any (fun x => bits x 27 1 == 1), v.1, v.2, (pOf se).1, (pOf se).2⟩
  else
    let fs := (List.range (j1 + 1 - j0)).map (fun k => (16 * (j0 + k) + 8, cntGet r.fine (64 * w + j0 + k)))
    let nf := (fs.map (fun p => p.2)).sum
    if 2 * den + bg ≤ nf * den then
      let se := nf * den - bg
      let a := (fs.map (fun p => p.1 * p.2)).sum
      let v := sampleVar fs se den
      some ⟨.fine, 256 * st + roundHalfEven (16 * ((a * den : Nat) - mid)) se, se, bg, den, 0, 0, lowC, satC, v.1, v.2, (pOf se).1, (pOf se).2⟩
    else none

/-- The zoom window that refines an echo at bin `i`, with its start (R147). -/
def refineWin (i : Nat) : Nat → List Nat → Option (Nat × Nat)
  | _, [] => none
  | w, st :: l => if 16 * st ≤ 512 * i + 256 ∧ 512 * i + 256 < 16 * st + 1024 then some (w, st) else refineWin i (w + 1) l

/-- Refinement from coarse bins (R148): none where S_e is below 2. t_c is rounded as in `refineZoom` (log entry 214). -/
def refineCoarse (r : ChanRec) (fb i : Nat) (lowC satC : Bool) : Option Refined :=
  let ks : List Int := [(i : Int) - 1, i, (i : Int) + 1]
  let ms := ks.map (fun k => (k, 128 * binAt r.coarse k - fb))
  let se := (ms.map (fun p => p.2)).sum
  if 256 ≤ se then
    let a := (ms.map (fun p => (2 * p.1 + 1) * (p.2 : Int))).sum
    some ⟨.coarse, roundHalfEven (4096 * a) se, se, 3 * fb, 128, 0, 0, lowC, satC, 577 * 577 * 128, se, se, 128 * r.rep.used⟩
  else none

/-- Refinement of an echo (R147, R148). -/
def refine (c : EchoCfg) (r : ChanRec) (fb i : Nat) : Option Refined :=
  let n := r.cell.planned
  let lowC := decide (n ≤ 2 * r.rep.low)
  let satC := decide (r.rep.sat ≠ 0)
  let z := if r.rep.zoomFirst.getD n < n then
      match refineWin i 0 r.wins with
      | some (w, st) => refineZoom c r fb w st lowC satC
      | none => none
    else none
  match z with
  | some e => some e
  | none => refineCoarse r fb i lowC satC

/-- The walk correction for a ToT of `num / den` LSB (R93). -/
def walkCorr (e : Nat → Int) (step num den : Nat) : Int :=
  let d := 4 * step * den
  let i := num / d
  if 63 ≤ i then e 63 else roundHalfEven (e i * d + (e (i + 1) - e i) * (num % d : Nat)) d

/-- The walk table of tile `t` and range `g` as the hub holds it (R94). -/
def State.walkAt (s : State) (t g : Nat) (i : Nat) : Int := sx 16 (cntGet s.echo.walk (TILE_WALK.addr t g i))

/-- The emission term of a bank (R104, R149): none without a reference channel, and without a return yet. -/
def State.emission (s : State) (b : Nat) : Option Int :=
  let t := s.get (FIRE_BANK_CFG.ref_tile b)
  let k := s.get (FIRE_BANK_CFG.ref_ch b)
  let d := s.get (FIRE_BANK_CFG.driver b)
  if 6 ≤ t then none
  else if s.get (TILE_REF_DRV_AVG.count t k d) = 0 then none
  else some (sx 24 (s.get (TILE_REF_DRV_AVG.offset t k d)) - sx 24 (s.get (ECHO_REF_PATH.path t k)))

/-- Has the bank a reference channel whose driver's average has count 0 (R149)? -/
def State.emissionMissing (s : State) (b : Nat) : Bool := decide (s.get (FIRE_BANK_CFG.ref_tile b) < 6) && (s.emission b).isNone

/-- The range field (R149, R150), before its limits. -/
def State.rangeField (s : State) (r : ChanRec) (c : EchoCfg) (e : Refined) : Int :=
  let step := Nat.max 1 (s.get (TILE_WALK_STEP.step r.tile))
  let tot := if e.totCnt = 0 then (c.totDefault, 1) else (e.totSum, e.totCnt)
  let corr := walkCorr (s.walkAt r.tile (bit e.low)) step tot.1 tot.2
  let trt := e.tc + 16 * corr - sx 24 (s.get (ECHO_TILE_PATH.path r.tile)) - (s.emission r.cell.bank).getD 0 -
    sx 32 (s.get ECHO_RANGE_OFFSET.range_offset)
  roundHalfEven (trt * (1000 * 149896229 * 4 * 10 ^ 7)) (4096 * 10 ^ 9 * (10 ^ 7 + c.refract))

/-- range_sigma (R148, R150, R160). -/
def rangeSigma (c : EchoCfg) (e : Refined) : Nat :=
  let k := 149896229 * 4 * 10 ^ 7
  let kd := 10 ^ 9 * (10 ^ 7 + c.refract)
  let n := if e.via = .coarse then k else k * 390625
  let d := if e.via = .coarse then kd else kd * 10 ^ 5
  Nat.min 255 ((isqrt (4 * e.varN * n * n / (Nat.max 1 e.varD * d * d)) + 1) / 2)

/-- The width field (R160): 0 without stamps. -/
def widthField (e : Refined) : Nat := if e.totCnt = 0 then 0 else Nat.min 4095 (roundHalfEven e.totSum (4 * e.totCnt)).toNat

/-- An echo with all that its record says. -/
structure EchoRes where
  bin : Nat
  area : Nat
  ref : Refined
  range : Nat
  width : Nat
  sigma : Nat
  gate : Bool
  mismatch : Bool
  deriving DecidableEq, Repr

/-- An echo put into an ascending list by range, ties to the lower bin (R145; log entry 28). -/
def echoInsert (e : EchoRes) : List EchoRes → List EchoRes
  | [] => [e]
  | f :: l => if e.range < f.range ∨ (e.range = f.range ∧ e.bin < f.bin) then e :: f :: l else f :: echoInsert e l

/-- The last bin of the near-field span (R152). -/
def gateBin (gateM : Nat) : Nat := gateM * 10 ^ 9 / 299792458

/-- Clutter is active (R152); `top` is the strongest accepted echo. -/
def State.clutterOn (s : State) (r : ChanRec) (c : EchoCfg) (fb : Nat) (top : Option Nat) : Bool :=
  let hi := Nat.min 4095 (gateBin (s.get ECHO_RAIN_CFG.gate_m))
  let skip := fun i => top.elim false (fun a => decide (i ≤ a + 1 ∧ a ≤ i + 1))
  let n := ((r.coarse.filter (fun p => decide (c.minBin ≤ p.1 ∧ p.1 ≤ hi) && !skip p.1)).map (fun p => p.2)).sum
  let left := top.elim 0 (fun a => (Nat.min hi (a + 1) + 1) - Nat.max c.minBin (a - 1))
  let cnt := (hi + 1 - c.minBin) - left
  decide ((s.get ECHO_RAIN_CFG.clut_level * r.rep.used * 128 : Nat) ≤ (16 : Int) * (128 * (n : Int) - cnt * fb))

/-- The film states of the electrodes that bank `b` looks through (R153): any film, and water. -/
def State.filmOn (s : State) (b : Nat) (p : Nat → Bool) : Bool :=
  (List.range 8).any (fun e => bits (s.get (ECHO_BANK_SECT.electrodes b)) e 1 == 1 && p (s.get (CHM_STAT.state e)))

/-- The gating test of R154. -/
def State.gateTest (s : State) (r : ChanRec) (fb : Nat) (e : EchoRes) : Bool :=
  let g := s.get ECHO_RAIN_CFG.gate_m
  let wmax := s.get ECHO_RAIN_WIDTH.width_max
  decide (e.range < 4000 * g) &&
    (decide ((256 : Int) * (128 * (e.area : Int) - 3 * fb) < (s.get ECHO_RAIN_CFG.hard_min * 128 * r.rep.used : Nat)) ||
      (!decide (e.ref.via = .coarse) && decide (wmax ≠ 0 ∧ wmax < e.width)))

/-- Contiguous bins with y ≥ y[i] / 2 on one side of a peak (R158). -/
def spread (c : EchoCfg) (m : List (Nat × Nat)) (top : Nat) (dir : Int) : Nat → Int → Nat
  | 0, _ => 0
  | n + 1, i => if 0 ≤ i ∧ i < 4096 ∧ top ≤ 2 * filtered c m i then 1 + spread c m top dir n (i + dir) else 0

/-- code-mismatch (R158). -/
def State.isMismatch (s : State) (r : ChanRec) (c : EchoCfg) (i : Nat) : Bool :=
  let y := filtered c r.coarse i
  let n := 1 + spread c r.coarse y (-1) 4096 ((i : Int) - 1) + spread c r.coarse y 1 4096 ((i : Int) + 1)
  decide (8 ≤ r.cell.span) && decide ((c.h.filter (fun v => !(v == 0))).length + s.get ECHO_IF_CFG2.mis_bins < n)

/-- The plateau statistic (R155): the largest sum of W bins and the lowest start that gives it. -/
def plateau (c : EchoCfg) (d : Sched) (acc : List (Nat × Nat)) (m : List (Nat × Nat)) (w : Nat) : Nat × Nat :=
  let kept := m.filter (fun p => !acc.any (fun q => decide (p.1 ≤ q.1 + c.sep ∧ q.1 ≤ p.1 + c.sep) || inGhost d q.1 p.1))
  let starts := uniq (kept.map (fun p => Nat.min (p.1 + 1 - w) (4096 - w)))
  starts.foldl (fun (b : Nat × Nat) st =>
    let v := boxSum kept st w
    if b.1 < v ∨ (b.1 = v ∧ st < b.2) then (v, st) else b) (0, 4096)

/-- The centre of the foreign plateau, doubled, where the channel cell shows foreign arrivals (R155). -/
def State.foreignAt (s : State) (r : ChanRec) (c : EchoCfg) (fb : Nat) (acc : List (Nat × Nat)) : Option Nat :=
  if r.cell.span = 0 then none
  else
    let w := (r.cell.span + 3) / 2
    let p := plateau c r.cell.sched acc r.coarse w
    let l : Int := 128 * (p.1 : Int) - w * fb
    let fb1 := if fb = 0 then 128 else fb
    let l1 : Int := 128 * (p.1 : Int) - w * fb1
    let k := s.get ECHO_IF_CFG.k_if
    if 128 * (s.get ECHO_IF_CFG.if_min : Int) ≤ l ∧ 0 ≤ l1 ∧ ((8 * k * k * w * fb1 : Nat) : Int) ≤ l1 * l1 then some (2 * p.2 + w)
    else none

/-- Confidence before penalties (R159, steps 1 to 3). -/
def confBase (zHalf : Nat) (r : ChanRec) (e : Refined) : Nat :=
  let z := Nat.max 1 zHalf
  let a := 256 * e.se * e.se
  let c0 := 255 * a / (a + z * z * e.den * (e.se + e.be))
  c0 * r.rep.used / Nat.max 1 r.cell.planned

/-- What every record of a channel cell shares (R160, R161). -/
structure RecBase where
  time : Nat
  azimuth : Nat
  chan : Nat
  bank : Nat
  epoch : Nat
  flags : Nat
  seq : Nat
  bg : Nat
  used : Nat
  deriving DecidableEq, Repr

/-- (bank, azimuth) lies in the overlap region (R334). -/
def State.inOverlap (s : State) (b az : Nat) : Bool :=
  bits (s.get TWN_OVL_BANKS.banks) b 1 == 1 && decide (sx 20 (s.get TWN_OVL_AZ.az_min) ≤ sx 20 az) &&
    decide (sx 20 az ≤ sx 20 (s.get TWN_OVL_AZ.az_max))

/-- The shared flags (R161), as bits of word 5. -/
def State.baseFlags (s : State) (r : ChanRec) : Nat :=
  2 ^ 20 * bit (s.filmOn r.cell.bank (fun v => !(v == 0))) + 2 ^ 21 * bit r.cell.notWarm +
    2 ^ 22 * bit (s.inOverlap r.cell.bank r.cell.azimuth) + 2 ^ 23 * bit r.cell.azModel + 2 ^ 25 * bit r.rep.spare +
    2 ^ 26 * bit (decide (r.rep.used < r.cell.planned)) + 2 ^ 27 * bit r.rep.stale + 2 ^ 28 * bit (s.flag ECHO_IF_STAT.active)

def State.recBase (s : State) (r : ChanRec) (bg : Nat) : RecBase :=
  ⟨r.cell.tMean, r.cell.azimuth, 256 * r.tile + r.chan, r.cell.bank, r.cell.epoch, s.baseFlags r, r.seq, bg, r.rep.used % 2048⟩

/-- The 32 bytes of a point record (R160). -/
def pointRecord (b : RecBase) (kind cause range conf inten width index cls flags nEcho sigma : Nat) : List Byte :=
  toLE 8 b.time ++ toLE 4 (range + conf * 2 ^ 24) ++ toLE 4 (inten + width * 2 ^ 16 + index * 2 ^ 28 + cls * 2 ^ 30) ++
    toLE 4 (b.azimuth + b.chan * 2 ^ 20) ++ toLE 4 (b.bank + kind * 2 ^ 6 + b.epoch * 2 ^ 8 + (b.flags + flags)) ++
    toLE 4 (b.seq + b.bg * 2 ^ 16 + nEcho * 2 ^ 24 + cause * 2 ^ 26) ++ toLE 4 (b.used + sigma * 2 ^ 16)

/-- bg_rate (R142, R160). -/
def bgRate (fb used : Nat) : Nat := Nat.min 255 (roundHalfEven (fb * 5000 : Nat) (128 * Nat.max 1 used)).toNat

/-- Intensity (R160). -/
def intensity (c : EchoCfg) (e : EchoRes) : Nat :=
  let w := if e.width = 0 then c.totDefault else 4 * e.width
  let p := if e.ref.pD ≤ e.ref.pN then (1, 1) else (e.ref.pN, e.ref.pD)
  Nat.min 65535 (roundHalfEven (4 * p.1 * w : Nat) p.2).toNat

/-- The class of an echo among the ungated ones (R146). -/
def echoClass (ungated : List EchoRes) (e : EchoRes) : Nat :=
  let strong := (ungated.foldl (fun (b : Option EchoRes) x => match b with
    | none => some x
    | some y => if y.area < x.area then some x else some y) none)
  if strong = some e then 3 else if ungated.head? = some e then 1 else if ungated.getLast? = some e then 2 else 0

/-- The flags of one echo (R161). -/
def EchoRes.flags (e : EchoRes) (rain : Bool) : Nat :=
  2 ^ 16 * bit e.ref.sat + 2 ^ 17 * bit (!decide (e.ref.via = .coarse)) + 2 ^ 18 * bit e.mismatch + 2 ^ 19 * bit rain +
    2 ^ 24 * bit e.ref.low

/-- Confidence with its penalties (R159, step 4). -/
def State.confOf (s : State) (r : ChanRec) (e : EchoRes) (rain : Bool) : Nat :=
  let misc := r.cell.notWarm || r.cell.azModel
  let film := s.filmOn r.cell.bank (fun v => !(v == 0))
  confBase (s.get ECHO_CONF_CFG.z_half) r e.ref - (if e.mismatch then s.get ECHO_CONF_PEN.pen_mismatch else 0) -
    (if rain then s.get ECHO_CONF_PEN.pen_rain else 0) - (if film then s.get ECHO_CONF_PEN.pen_window else 0) -
    (if misc then s.get ECHO_CONF_PEN.pen_misc else 0)

/-- A safety summary (R281), or a cell-close marker where `chan` is 0x7FF. -/
def summaryBytes (chan : Nat) (m : CellMeta) (missing film : Bool) (l : List EchoRes) : List Byte :=
  let st := l.length + 8 * bit missing + 16 * bit m.notWarm + 32 * bit m.azModel
  toLE 2 chan ++ toLE 1 m.bank ++ toLE 1 st ++ toLE 3 m.azimuth ++ toLE 1 m.epoch ++
    (List.range 4).flatMap (fun i => match l[i]? with
      | none => toLE 6 0
      | some e => toLE 3 e.range ++ toLE 1 (bit e.gate + 2 * bit e.mismatch + 4 * bit e.ref.sat + 8 * bit film) ++ toLE 1 e.sigma ++ toLE 1 0)

/-- A safety message goes to both channels (R140). -/
def State.safetySend (s : State) (l : List Byte) : State := (s.emit (.safety false l)).emit (.safety true l)

/-- Is the bank a priority bank (R138)? -/
def State.isPrio (s : State) (b : Nat) : Bool := bits (s.get ECHO_PRIO.prio) b 1 == 1

/-- The safety summary of a channel cell of a priority bank (R140). -/
def State.summaryOut (s : State) (r : ChanRec) (missing : Bool) (l : List EchoRes) : State :=
  s.when (s.isPrio r.cell.bank) (fun s =>
    s.safetySend (summaryBytes (256 * r.tile + r.chan) r.cell missing (s.filmOn r.cell.bank (fun v => !(v == 0))) l))

/-- The hub SRAM address that the model gives a packet in the point writer's buffer (R29; log entry 29): by channel and cell_seq. -/
def packetBuf (recs : List (List Byte)) : Nat :=
  let r := recs.headD []
  2 ^ 56 + 128 * (bits (ofLE ((r.drop 16).take 4)) 20 11 * 65536 + ofLE ((r.drop 24).take 2))

/-- A packet waits for the point writer (R163). -/
def State.pointOut (s : State) (t : Nat) (recs : List (List Byte)) : State :=
  if recs.isEmpty then s
  else ({ s with echo := { s.echo with out := s.echo.out ++ [(s.get (ECHO_ROUTE.ring t), recs)] } }).hubWrite (packetBuf recs) (32 * recs.length)

/-- A channel cell in the overlap region is kept with its frame's for the comparison with the twin's (R334): with those of the last frame
where that one has ended, with those of this one otherwise. -/
def TwnSt.keepCell (t : TwnSt) (frame : Nat) (c : OvlCell) : TwnSt :=
  if frame = t.ovlEnded then { t with ovlPrev := c :: t.ovlPrev }
  else if frame = t.ovlNow then { t with ovl := c :: t.ovl }
  else if t.ovlNow < frame then { t with ovl := [c], ovlNow := frame }
  else t

/-- The overlap message of a channel cell (R334). -/
def State.overlapOut (s : State) (r : ChanRec) (near : Option Nat) : State :=
  if s.inOverlap r.cell.bank r.cell.azimuth then
    let c : OvlCell := ⟨256 * r.tile + r.chan, r.cell.bank, r.cell.azimuth, near⟩
    ({ s with twn := s.twn.keepCell r.cell.frame c }).emit (.overlap c)
  else s

/-- A missing record (R162); a cell in the overlap region has no echo then (R334). -/
def State.missingOut (s : State) (r : ChanRec) (cause : Nat) : State :=
  ((s.summaryOut r true []).overlapOut r none).pointOut r.tile [pointRecord (s.recBase r 0) 1 cause 0 0 0 0 0 0 0 0 0]

/-- emission-offset-missing, once per bank until the count becomes nonzero (R149). -/
def State.emissionCheck (s : State) (b : Nat) : State :=
  if s.emissionMissing b then
    if s.echo.emis.contains b then s
    else (({ s with echo := { s.echo with emis := b :: s.echo.emis } }).setFlag ECHO_STAT.emis_missing_seen).raise
      Ev.emissionOffsetMissing b 0
  else { s with echo := { s.echo with emis := s.echo.emis.filter (fun x => !(x == b)) } }

/-- Clutter in a channel cell: near-field-clutter on the first frame with it after one without (R152). -/
def State.clutterSeen (s : State) (on : Bool) : State :=
  if on then
    let new := !s.echo.clutThis && !s.echo.clutPrev
    ({ s with echo := { s.echo with clutThis := true } }).raiseIf new Ev.nearFieldClutter 0
  else s

/-- Steps 3 to 5 of R136 for one kept echo: none where it is discarded (R148); its range may lie out of the field. -/
def State.measure (s : State) (r : ChanRec) (c : EchoCfg) (fb : Nat) (p : Nat × Nat) : Option (Int × EchoRes) :=
  match refine c r fb p.1 with
  | none => none
  | some e =>
    let f := s.rangeField r c e
    some (f, ⟨p.1, p.2, e, f.toNat, widthField e, rangeSigma c e, false, s.isMismatch r c p.1⟩)

/-- Extraction of a channel cell that holds data (R136). Echoes discarded under R148 or out of the range field (R150) take no echo_index
(log entry 28). -/
def State.extractData (s : State) (r : ChanRec) : State :=
  let c := s.echoCfg
  let fb := floor128 r.coarse
  let a := acceptAll c r.cell.sched [] (candidatesOf c r.coarse fb) 0
  let s1 := s.put ECHO_CNT_B.ghosts (satAdd 65535 (s.get ECHO_CNT_B.ghosts) a.2)
  let kept := keepEchoes c.maxEcho a.1
  let s2 := if kept.isEmpty then s1 else s1.emissionCheck r.cell.bank
  let meas := kept.filterMap (s.measure r c fb)
  let oof := (meas.filter (fun p => decide (p.1 < 0 ∨ 4194302 < p.1))).length
  let s3 := s2.put ECHO_CNT_B.range_oof (satAdd 65535 (s2.get ECHO_CNT_B.range_oof) oof)
  let s4 := (s3.when (decide (0 < oof)) (fun s => s.setFlag ECHO_STAT.range_oof_seen))
  let s5 := (List.range oof).foldl (fun s _ => s.raise Ev.rangeOutOfField 0 0) s4
  let found0 := ((meas.filter (fun p => decide (0 ≤ p.1 ∧ p.1 ≤ 4194302))).map (fun p => p.2)).foldl (fun l e => echoInsert e l) []
  let clutter := s.clutterOn r c fb (a.1.head?.map (fun p => p.1))
  let s6 := s5.clutterSeen clutter
  let gating := clutter || (s.flag ECHO_RAIN_CFG.chimney_en && s.filmOn r.cell.bank (fun v => v == 1))
  let found := found0.map (fun e => { e with gate := gating && s.gateTest r fb e })
  let mode := s.get ECHO_RAIN_CFG.mode
  let rain := fun (e : EchoRes) => e.gate && !(mode == 0)
  let s7 := match s.foreignAt r c fb a.1 with
    | none => s6
    | some z => { s6 with echo := { s6.echo with foreign := s6.echo.foreign ++ [(r.cell.id, r.tile, z)] } }
  let ungated := found.filter (fun e => !rain e)
  let rainDrop := found.filter (fun e => rain e && mode == 2)
  let l1 := found.filter (fun e => !(rain e && mode == 2))
  let misDrop := l1.filter (fun e => e.mismatch && s.flag ECHO_CFG.reject_mismatch)
  let l2 := l1.filter (fun e => !(e.mismatch && s.flag ECHO_CFG.reject_mismatch))
  let confDrop := l2.filter (fun e => decide (s.confOf r e (rain e) < s.get ECHO_CONF_CFG.conf_min))
  let out := l2.filter (fun e => decide (s.get ECHO_CONF_CFG.conf_min ≤ s.confOf r e (rain e)))
  let s8 := s7.put ECHO_CNT_B.rain_dropped (satAdd 65535 (s7.get ECHO_CNT_B.rain_dropped) rainDrop.length)
  let s9 := s8.put ECHO_CNT_B.mismatch_dropped (satAdd 65535 (s8.get ECHO_CNT_B.mismatch_dropped) misDrop.length)
  let s10 := s9.put ECHO_CNT_A.conf_drop (satAdd 65535 (s9.get ECHO_CNT_A.conf_drop) confDrop.length)
  let b := s.recBase r (bgRate fb r.rep.used)
  let recs := out.map (fun e =>
    pointRecord b 0 0 e.range (s.confOf r e (rain e)) (intensity c e) e.width (found.takeWhile (fun x => !decide (x = e))).length
      (if rain e then 0 else echoClass ungated e) (e.flags (rain e)) (out.length - 1) e.sigma)
  let recs' := if recs.isEmpty ∧ s.flag ECHO_CFG.emit_empty then [pointRecord b 2 0 0 0 0 0 0 0 0 0 0] else recs
  (((s10.summaryOut r false found).overlapOut r (found.head?.map (fun e => e.range)))).pointOut r.tile recs'

/-- A channel record is extracted (R136, R162). -/
def State.extractRec (s : State) (r : ChanRec) : State :=
  if r.rep.drop ≠ 0 then s.missingOut r r.rep.drop
  else if r.rep.used = 0 then s.missingOut r 8
  else s.extractData r

/-- A non-priority record too old for extraction (R139). -/
def State.shedRec (s : State) (r : ChanRec) : State :=
  let start := s.echo.shedAt.elim true (fun t => decide (1000 * usUnits ≤ timeDiff s.now t))
  let s1 := ({ s with echo := { s.echo with shedAt := some s.now } }).bump ECHO_CNT_A.shed
  ((((s1.setFlag ECHO_STAT.shedding).setFlag ECHO_STAT.shed_seen)).raiseIf start Ev.echoShed 0).missingOut r 10

/-- Is the record, sealed by a tile, older than age_max_us (R139)? What the hub holds for a tile that makes no records is none of these: its
missing records keep their cause (R162). -/
def State.tooOld (s : State) (r : ChanRec) : Bool :=
  !r.made && !s.isPrio r.cell.bank && decide (clampN 20 10000 (s.get ECHO_AGE.age_max_us) * usUnits < timeDiff s.now r.sealedAt)

/-- ECHO_LOAD.util shows the extraction capacity used in the last 1 ms (R138): 120 channel cells per µs. -/
def State.echoLoadShow (s : State) : State :=
  let l := s.echo.loads.filter (fun t => decide (timeDiff s.now t ≤ 1000 * usUnits))
  ({ s with echo := { s.echo with loads := l } }).put ECHO_LOAD.util (Nat.min 255 (l.length * 256 / 120000))

/-- Extraction of one more channel cell (R138). -/
def State.echoLoad (s : State) : State :=
  let s1 := ({ s with echo := { s.echo with loads := s.now :: s.echo.loads } }).echoLoadShow
  s1.put ECHO_LOAD.peak (Nat.max (s1.get ECHO_LOAD.util) (s1.get ECHO_LOAD.peak))

/-- A write of ECHO_LOAD.peak_clr (R138). -/
def State.echoPeakClr (s : State) : State := let s1 := s.echoLoadShow; s1.put ECHO_LOAD.peak (s1.get ECHO_LOAD.util)

/-- Cells whose last record has been extracted in every tile: the marker goes to both channels for a priority bank (R281). -/
def State.closeCells (s : State) : State :=
  let ready := fun (c : CloseWait) => c.unsealed.isEmpty && c.waiting.isEmpty
  let s1 := { s with echo := { s.echo with closes := s.echo.closes.filter (fun c => !ready c) } }
  (s.echo.closes.filter ready).foldl (fun s c =>
    s.when (s.isPrio c.cell.bank) (fun s => s.safetySend (summaryBytes 0x7FF c.cell false false []))) s1

/-- The next record that extraction takes (R138). -/
def State.nextRec (s : State) : Option ChanRec :=
  match s.hist.store.find? (fun r => !r.extracted && s.isPrio r.cell.bank) with
  | some r => some r
  | none => s.hist.store.find? (fun r => !r.extracted)

/-- Is it the same record? -/
def sameRec (a b : ChanRec) : Bool := a.tile == b.tile && a.chan == b.chan && a.cell.id == b.cell.id

/-- ECHO_EXTRACT: extraction takes a record (R136 to R140); `e` is what its words read as in the cell store (R127). The next extraction that
is not shed ends shedding (log entry 215). -/
def State.echoExtract (s : State) (e : Ecc) : State :=
  match s.nextRec with
  | none => s.closeCells
  | some r =>
    let mark := { s with hist := { s.hist with store := updFirst (sameRec r) (fun x => { x with extracted := true }) s.hist.store },
                         echo := { s.echo with closes := s.echo.closes.map (fun (c : CloseWait) =>
                           if c.cell.id = r.cell.id ∧ r.last then { c with waiting := c.waiting.filter (fun t => !(t == r.tile)) } else c) } }
    let s1 :=
      if s.tooOld r then mark.shedRec r
      else
        let o := mark.storeRead (sameRec r) r 8 e
        ((o.2.clearFlag ECHO_STAT.shedding).extractRec o.1).echoLoad
    s1.storeFree.closeCells

/-- The point writer takes the oldest packet (R141, R163, R206); records are counted once they are written. A packet with an uncorrectable
word is not written (R32; log entry 191). -/
def State.pointWrite (s : State) (held : Bool) : State :=
  match s.echo.out with
  | [] => s
  | (n, recs) :: l => s.withTag 1 fun st =>
    let a := packetBuf recs
    let s0 := ({ st with echo := { st.echo with out := l } }).hubScan 0 s.pulseTag a (32 * recs.length)
    let s1 := s0.prPacket n recs held
    if s.hubBad a (32 * recs.length) then s0
    else if s1.get (RING_PR_CNT.packets n) = s0.get (RING_PR_CNT.packets n) then s1
    else s1.put ECHO_CNT_A.records (s1.get ECHO_CNT_A.records + recs.length)

/-- Two tiles agree on the centre of a plateau of one cell within 4 coarse bins (R156). -/
def coincident (l : List (Nat × Nat × Nat)) : Bool :=
  l.any (fun a => l.any (fun b => a.1 == b.1 && !(a.2.1 == b.2.1) && decide (a.2.2 ≤ b.2.2 + 8 ∧ b.2.2 ≤ a.2.2 + 8)))

/-- Automatic re-key at an activation (R157). -/
def State.autoRekey (s : State) : State :=
  if s.flag ECHO_IF_CFG.auto_rekey ∧ s.echo.hold = 0 then
    let k := Nat.xor (s.get FIRE_CODE_KEY.key) (s.now % 2 ^ 32)
    let s1 := (s.put FIRE_CODE_KEY.key (if k = 0 then 1 else k)).rekey
    (({ s1 with echo := { s1.echo with hold := s.get ECHO_IF_CFG2.rekey_hold } }).setFlag ECHO_IF_STAT.rekeyed_seen).raise
      Ev.interferenceRekey 0 0
  else s

/-- A frame's plateaus are judged (R156, R157), and its clutter (R152). A frame that coinc_req does not count ends the run of frames
(log entry 216), and the rekey_hold-th frame after a re-key may bring the next (log entry 217). -/
def State.ifFrame (s : State) : State :=
  let e := s.echo
  let f := Nat.min 65535 e.foreign.length
  let cells := s.get ECHO_IF_CFG.if_cells
  let counted := !s.flag ECHO_IF_CFG.coinc_req || coincident e.foreign
  let on := if counted && decide (cells ≤ f) then e.runOn + 1 else 0
  let off := if 2 * f < cells then e.runOff + 1 else 0
  let s1 := ({ s with echo := { e with foreign := [], runOn := on, runOff := off, hold := e.hold - 1, clutPrev := e.clutThis,
                                       clutThis := false } }).put ECHO_IF_STAT.f_last f
  if s.flag ECHO_IF_STAT.active then
    if Nat.max 1 (s.get ECHO_IF_CFG2.clear_frames) ≤ off then
      ({ (s1.clearFlag ECHO_IF_STAT.active) with echo := { s1.echo with runOn := 0 } }).raise Ev.interferenceCleared 0 0
    else s1
  else if Nat.max 1 (s.get ECHO_IF_CFG.if_frames) ≤ on then
    let s2 := { ((s1.setFlag ECHO_IF_STAT.active).setFlag ECHO_IF_STAT.detected_seen) with echo := { s1.echo with runOff := 0 } }
    (s2.raise Ev.interferenceDetected 0 0).autoRekey
  else s1

def execEchoExtract (e : Ecc) (s : State) : Res := .next (s.echoExtract e)
def execPointPacketWrite (held : Bool) (s : State) : Res := .next (s.pointWrite held)
def execIfFrameEvaluate (s : State) : Res := .next s.ifFrame
/-- A write of peak_clr (R138). -/
def execEchoLoadPeakClr (s : State) : Res := .next s.echoPeakClr

end Sys2Proof.Machine
end

