-- ==== Sys2Proof/Machine/Service.lean ====
section
/-! DEFINITION. Control-cluster handover and tile slicing (R336 to R340). -/

namespace Sys2Proof.Machine

/-- A request for SCAN-SLICED or HANDOVER is denied (R301). -/
def State.serviceDenied (s : State) : State := (s.setFlag HUB_MODE_REQ.denied).put HUB_MODE_REQ.result s.mode

/-- May a slice or handover start: by its mode (R302), and while no request is being carried out, such as a handover that waits (R301)? -/
def State.mayService (s : State) : Bool := (decide (s.mode = 5) || decide (s.mode = 6)) && !s.flag HUB_MODE_STAT.req_busy && !s.boot.hoWait

/-- The security version of the image that a handover loads (R306, R336): address 0 reuses the running image. -/
def State.hoImageSec (s : State) : Option Nat :=
  if s.get HUB_BOOT_IMG.address = 0 then s.boot.secVersion else some (imgSecVersion (s.memImage false))

/-- A handover begins (R336): steps 1 and 2. -/
def State.hoBegin (s : State) : State :=
  let s1 := { s with boot := { s.boot with hoWait := false } }
  if s1.mayService then
    let s2 := (((s1.enterMode 8).setFlag HUB_HO_STAT.busy).put HUB_HO_STAT.err 0).put HUB_MODE_REQ.result 8
    let s3 := { s2 with boot := { s2.boot with hoStep := 1, hoSec := s.hoImageSec } }
    if s3.flag HUB_HO_STAT.active then s3 else s3.domainOn .clb
  else (s1.serviceDenied).clearFlag HUB_HO_CTL.start

/-- Does a cluster self-test slice run (R392)? -/
def State.clusterSlice (s : State) : Bool := s.cal.bistRun.elim false (fun x => decide (14 ≤ x))

/-- A write of HUB_HO_CTL.start = 1 (R336); during a cluster slice it waits for the slice's end (R392). While a start is being carried out
another is denied (R301). -/
def State.hoStart (s : State) : State :=
  if s.flag HUB_HO_CTL.start then s.serviceDenied
  else
    let s1 := s.setFlag HUB_HO_CTL.start
    if s1.clusterSlice && s1.mayService then { s1 with boot := { s1.boot with hoWait := true } } else s1.hoBegin

/-- The check of the image that a handover loads (R336): address 0 reuses the running image. -/
def State.hoImageErr (s : State) (readErr : Bool) : Nat :=
  if s.get HUB_BOOT_IMG.address = 0 then 0 else s.imageErr (s.memImage readErr)

/-- The switch (R336): the image that the handover loaded is the running image from now on (R307). -/
def State.hoSwitch (s : State) : State :=
  if s.boot.hoStep = 3 then { s with boot := { s.boot with hoStep := 4, noCluster := false, secVersion := s.boot.hoSec } } else s

/-- The standby cluster reports ready (R336), its image having passed step 3; a failed pair holds it in reset (R393); after the old cluster's watchdog has expired the
switch is made at once (R337). -/
def State.hoReady (s : State) : State :=
  if s.boot.hoStep = 1 ∧ s.hoImageErr false = 0 ∧ ¬ (List.range 4).any (fun i => s.get (BIST_SLICE_STAT.result (14 + i)) == 2) then
    let s1 := { s with boot := { s.boot with hoStep := 3 } }
    if s1.boot.noCluster then s1.hoSwitch else s1
  else s

/-- 1 ms after the switch (R336). -/
def State.hoEnd (s : State) : State :=
  if s.mode = 8 ∧ s.boot.hoStep = 4 then
    let s1 := s.enterMode (s.get HUB_MODE_STAT.base_mode)
    if s1.flag HUB_HO_STAT.active then s1 else s1.domainOff .clb
  else s

/-- The handover is aborted (R337): by a failing image, or after 2 s without ready. -/
def State.hoAbort (s : State) (timeout : Bool) (e : Nat) : State :=
  if s.mode = 8 ∧ s.boot.hoStep = 1 ∧ (timeout ∨ e ≠ 0) then
    let s1 := (s.put HUB_HO_STAT.err (if timeout then 7 else e)).enterMode (s.get HUB_MODE_STAT.base_mode)
    if s1.flag HUB_HO_STAT.active then s1 else s1.domainOff .clb
  else s

/-- The active cluster's watchdog expires (R312, R337). -/
def State.clusterDog (s : State) : State := ({ s with boot := { s.boot with noCluster := true } }).hoSwitch

/-- The err of a slice start, 0 where it is accepted (R338, R339). -/
def State.sliceErr (s : State) (t : Nat) : Nat :=
  if 6 ≤ t then 1
  else if s.mode = 7 ∨ s.mode = 8 then 2
  else if ¬ s.mayService then 1
  else if (t = 2 ∧ s.tileOff 3) ∨ (t = 3 ∧ s.tileOff 2) then 4
  else 0

/-- A write of HUB_SLICE_CTL.start = 1 (R338). -/
def State.sliceStart (s : State) (t action : Nat) : State :=
  let s1 := (s.put HUB_SLICE_CTL.tile t).put HUB_SLICE_CTL.action action
  let e := s.sliceErr t
  if e = 0 then
    let s2 := ((s1.enterMode 7).setFlag HUB_SLICE_CTL.start).setFlag HUB_SLICE_STAT.busy
    let s3 := (s2.put HUB_SLICE_STAT.err 0).put HUB_MODE_REQ.result 7
    { s3 with boot := { s3.boot with sliceTile := some t, sliceStep := 1, sliceSaved := [], slicePass := 0, sliceAct := action } }
  else (s1.put HUB_SLICE_STAT.err e).serviceDenied

/-- The registers of TILE_`t` that differ from reset. -/
def State.tileRegs (s : State) (t : Nat) : List (Nat × BitVec 64) :=
  s.regs.filter (fun p => decide (0x400000 + 0x100000 * t ≤ p.1 ∧ p.1 < 0x400000 + 0x100000 * (t + 1)))

/-- Step 2 of a slice (R338): the tile's open cells are dropped, the marked rows outside the histogram buffers are repaired (R340), and
the tile is isolated. Recalibration starts on it (R387). -/
def State.sliceIsolate (s : State) : State :=
  match s.boot.sliceTile with
  | none => s
  | some t =>
    if s.mode = 7 ∧ s.boot.sliceStep = 1 then
      let s1 := s.killCells t 7
      let rows := (s1.tile t).marked.filter (fun r => decide (chanRows ≤ r % tileRows))
      let s2 := rows.foldl (fun (s : State) r => s.repairRow t r) s1
      let s3 := { s2 with boot := { s2.boot with sliceStep := 2, sliceSaved := s2.tileRegs t } }
      let s4 := s3.domainOff (.tile (Fin.ofNat 6 t))
      if s.boot.sliceAct = 1 ∧ ¬ s.cal.skewBad.contains t then
        ({ s4 with cal := { s4.cal with job := some (2 ^ t, 3, true) } }).setFlag CAL_STAT.busy
      else s4
    else s

/-- Can the slice's action not succeed? A recalibration needs a usable SKEW_TREE (R381), microcode an image at HUB_BOOT_IMG that R306
lets pass (R338). -/
def State.sliceBarred (s : State) (t : Nat) : Bool :=
  (decide (s.boot.sliceAct = 1) && s.cal.skewBad.contains t) ||
    (decide (s.boot.sliceAct = 2) && decide (s.imageErr (s.memImage false) ≠ 0))

/-- Does the slice's action succeed (R338)? A test compares the tile's signature with the one in ROM (R389). -/
def State.slicePasses (s : State) (t : Nat) (o : SliceOutcome) : Bool :=
  let test := decide (s.boot.sliceAct = 0 ∨ s.boot.sliceAct = 3)
  o.ok && (!test || decide (s.cal.rom.tile.toList[t]? = some o.misr)) && !s.sliceBarred t

/-- The slice's action ends (R338); `tdcs` says which of the tile's 276 TDCs passed a test. -/
def State.sliceAction (s : State) (o : SliceOutcome) (tdcs : Nat) : State :=
  match s.boot.sliceTile with
  | none => s
  | some t =>
    if s.mode = 7 ∧ s.boot.sliceStep = 2 then
      if s.slicePasses t o then
        { s with boot := { s.boot with sliceStep := 3, slicePass := if s.boot.sliceAct = 0 ∨ s.boot.sliceAct = 3 then tdcs else 0 } }
      else
        let s1 := ((s.put HUB_SLICE_STAT.err 3).put HUB_SLICE_STAT.isolated t).setFlag HUB_SLICE_STAT.done
        s1.enterMode (s.get HUB_MODE_STAT.base_mode)
    else s

/-- The fields of a register that software writes, copied from a word (R338). -/
def State.writeBack (s : State) (a : Nat) (v : BitVec 64) : State :=
  match regAt a with
  | none => s
  | some r => (r.flds.filter (fun f => decide (f.acc = Acc.rw) || decide (f.acc = Acc.rwl))).foldl
      (fun (s : State) f => s.put ⟨a, f.lo, f.len⟩ (fieldOf v f.lo f.len)) s

/-- The failed-TDC bits of the tile, less those that passed (R338). -/
def tdcFailLeft (saved : List (Nat × BitVec 64)) (t w pass : Nat) : Nat :=
  let old := (saved.find? (fun p => p.1 == TILE_TDC_FAIL.addr t w)).elim 0 (fun p => p.2.toNat)
  old - Nat.land old (bits pass (32 * w) 32)

/-- Step 4 and 5 of a slice (R338): the tile is powered from its reset values, its registers are written back, and the mode returns
to its base mode. -/
def State.sliceRejoin (s : State) : State :=
  match s.boot.sliceTile with
  | none => s
  | some t =>
    if s.mode = 7 ∧ s.boot.sliceStep = 3 then
      let s1 := s.domainOn (.tile (Fin.ofNat 6 t))
      let s2 := s.boot.sliceSaved.foldl (fun (s : State) p => s.writeBack p.1 p.2) s1
      let s3 := (List.range 9).foldl (fun (x : State) w =>
        x.setReg (TILE_TDC_FAIL.addr t w) (BitVec.ofNat 64 (tdcFailLeft s.boot.sliceSaved t w s.boot.slicePass))) s2
      let s4 := (s3.sparesCount t).setFlag HUB_SLICE_STAT.done
      s4.enterMode (s.get HUB_MODE_STAT.base_mode)
    else s

def execHandoverStart (s : State) : Res := .next s.hoStart
def execHandoverReady (s : State) : Res := .next s.hoReady
def execHandoverSwitch (s : State) : Res := .next s.hoSwitch
def execHandoverEnd (s : State) : Res := .next s.hoEnd
/-- `timeout`: no ready for 2 s; `readErr`: device memory fails to answer. What the checks of R306 say follows from the bytes. -/
def execHandoverAbort (timeout readErr : Bool) (_keyOk _sigOk _hashOk : Unit) (s : State) : Res :=
  .next (s.hoAbort timeout (s.hoImageErr readErr))
def execClusterWatchdog (s : State) : Res := .next s.clusterDog
def execSliceStart (tile : Fin 8) (action : Fin 4) (s : State) : Res := .next (s.sliceStart tile action)
def execSliceIsolate (s : State) : Res := .next s.sliceIsolate
def execSliceActionDone (passed : SliceOutcome) (tdcs : BitVec 276) (s : State) : Res := .next (s.sliceAction passed tdcs.toNat)
def execSliceRejoin (s : State) : Res := .next s.sliceRejoin

end Sys2Proof.Machine
end

