-- ==== Sys2Proof/Machine/Ind.lean ====
section
/-! DEFINITION. Indicator lamps (R318 to R321). -/

namespace Sys2Proof.Machine

/-- A field of IND_n_CFG in a configuration word. -/
def indField (w : Nat) (f : FRef) : Nat := bits w f.lo f.len

/-- Device time in ns. -/
def State.nowNs (s : State) : Nat := s.now / 65536

/-- 2^64 π, rounded. -/
def piFix : Nat := 57952155664616982739

/-- 2^64 cos x for an angle `x` from 0 to π in 2^-64, by `n` terms of its series from the term `t` with number `k` on. -/
def cosFix (x : Nat) : Nat → Nat → Int → Int
  | 0, _, _ => 0
  | n + 1, k, t => t + cosFix x n (k + 1) (-(t * x / 2 ^ 64 * x / 2 ^ 64) / ((2 * k + 1) * (2 * k + 2) : Nat))

/-- 256 (1 - cos 2πφ) ÷ 2 in 2^-40, for φ = `t` ÷ `p` (R319). -/
def breatheFix (t p : Nat) : Nat :=
  let a := Nat.min t (p - t)
  ((2 ^ 64 - cosFix (2 * piFix * a / p) 24 0 (2 ^ 64)) / 2 ^ 17).toNat

/-- The step of 256 that breathe takes at phase `t` of a period `p` (R319): a value that lies on a step is that step; which of its two
neighbours any other value takes is free (log entry 32). -/
def breatheStep (t p : Nat) : Nat :=
  let x := breatheFix t p
  let near : Nat := (x + 2 ^ 39) / 2 ^ 40
  if x < near * 2 ^ 40 + 2 ^ 20 ∧ near * 2 ^ 40 < x + 2 ^ 20 then near
  else x / 2 ^ 40 + bit (Config.breatheUp t p)

/-- Is an output on at phase `t` of a period `p` (both ns), by its pattern (R319)? -/
def indOn (w t p : Nat) : Bool :=
  let pat := indField w (IND_CFG.pattern 0)
  if pat = 1 then true
  else if pat = 2 then decide (t * 256 < indField w (IND_CFG.duty 0) * p)
  else if pat = 3 then decide (t % 50000 * 256 < breatheStep t p * 50000)
  else if pat = 4 then t * (indField w (IND_CFG.chase_len_m1 0) + 1) / p == indField w (IND_CFG.chase_pos 0)
  else false

/-- The mode lamp (R318). -/
def modeLamp (m ns : Nat) : Bool :=
  if 5 ≤ m ∧ m ≤ 8 then true
  else if m = 3 ∨ m = 4 then decide (ns % 1000000000 < 500000000)
  else if m = 9 then decide (ns % 250000000 < 125000000)
  else if m = 10 then decide (ns % 500000000 < 125000000)
  else false

/-- The current that output `n` sinks now, in mA (R318, R319). -/
def State.indDrive (s : State) (n : Nat) : Nat :=
  let w := s.ind.active.getD n 0
  let p := Nat.max 1 (indField w (IND_CFG.period_ms 0)) * 1000000
  let src := indField w (IND_CFG.src 0)
  let on := if src = 0 then indOn w (s.nowNs % p) p
    else if src = 1 then modeLamp s.mode s.nowNs
    else if src = 2 then s.flag SAF_STAT.perm_a
    else s.flag SAF_STAT.perm_b
  if s.mode ≠ 0 ∧ indField w (IND_CFG.enable 0) = 1 ∧ on then clampN 2 40 (indField w (IND_CFG.level 0)) else 0

/-- An untested output that is driven at 2 mA or more is diagnosed: it reads good until a fault is found (R321). -/
def State.indDiagnose (s : State) : State :=
  (List.range 8).foldl (fun (s : State) n =>
    if s.get (IND_STAT.state n) = 3 ∧ 2 ≤ s.indDrive n then s.put (IND_STAT.state n) 0 else s) s

/-- The shadows as they stand: the words of IND_n_CFG (R320). -/
def State.indShadows (s : State) : List Nat := (List.range 8).map (fun n => (s.reg (IND_CFG.addr n)).toNat)

/-- A write of apply = 1 (R320). -/
def State.indApply (s : State) (atTime : Bool) : State :=
  let t := s.get IND_APPLY_TIME.time
  let late := atTime && modGe 64 s.now t
  let s1 := (s.setFlag IND_CTL.apply).put IND_CTL.at_time (bit atTime)
  let s2 := if late then s1.setFlag IND_CTL.late else s1
  { s2 with ind := { s2.ind with apply := some (if atTime && !late then t else s.now, s.indShadows) } }

/-- One output takes its new configuration: an output that is enabled claims its pin for the indicator engine, and is refused
while another function owns it; one that is not releases it (R318, R409). -/
def State.indTake (s : State) (n w : Nat) : State :=
  let on := indField w (IND_CFG.enable 0) == 1
  let s1 := if on then s.claim (2 + n) 3 0 else s.unclaim (2 + n) 3
  let w1 := if on && !s1.holds (2 + n) 3 then w - 32 else w
  { s1 with ind := { s1.ind with active := s1.ind.active.set n w1 } }

/-- The shadows take effect together, not before the time of the apply (R320). -/
def State.indTakeEffect (s : State) : State :=
  match s.ind.apply with
  | none => s
  | some (t, l) =>
    let s1 := ({ s with ind := { s.ind with apply := none } }).clearFlag IND_CTL.apply
    if modGe 64 s.now t = false then s
    else ((List.range 8).foldl (fun (s : State) n => s.indTake n (l.getD n 0)) s1).indDiagnose

/-- A driven pin has stood near the compliance limit, or below 0.5 V, for 200 µs (R321). -/
def State.lampDiag (s : State) (n : Nat) (short : Bool) : State :=
  if 2 ≤ s.indDrive n then
    let seen := s.get IND_STAT.fault_seen
    (s.put (IND_STAT.state n) (if short then 2 else 1)).put IND_STAT.fault_seen (seen + (1 - bits seen n 1) * 2 ^ n)
  else s

/-- Writing 1 to bits of fault_seen (R321). -/
def State.indClear (s : State) (m : Nat) : State :=
  let s1 := (List.range 8).foldl (fun (s : State) n => if bits m n 1 = 1 then s.put (IND_STAT.state n) 3 else s) s
  s1.put IND_STAT.fault_seen (ofBits ((List.range 8).map (fun n => bits (s.get IND_STAT.fault_seen) n 1 == 1 && bits m n 1 == 0)))

def execIndApply (atTime : Bool) (s : State) : Res := .next (s.indApply atTime)
def execIndApplyTakeEffect (s : State) : Res := .next s.indTakeEffect
def execLampDiag (n : Fin 8) (short : Bool) (s : State) : Res := .next (s.lampDiag n short)
def execIndFaultClear (mask : BitVec 8) (s : State) : Res := .next (s.indClear mask.toNat)

end Sys2Proof.Machine
end

