-- ==== Sys2Proof/Machine/Time.lean ====
section
/-! DEFINITION. The time base (R24, R165 to R174): counting and wrapping, the servo, warm-up, PPS and TIMEIN stamps. -/

namespace Sys2Proof.Machine

/-- Units of device time in a second. -/
def secUnits : Nat := 1000000 * usUnits

/-- One time-base cycle (R165): device time counts once the RPLL has first locked, and a wrap counts in TIME_WRAP. Times of long ago are
forgotten four times in a turn of the count. An indicator output that is driven now is diagnosed (R321); a follower's start request whose
time has come is made (R325). -/
def State.tick (s' : State) : State :=
  let s := s'.indDiagnose
  if s.time.everLocked then
    let t := s.now + 131072
    let s0 := if t / 2 ^ 62 = s.now / 2 ^ 62 then s else s.marksAge 131072
    let s1 := (s0.put TIME_NOW.time (t % 2 ^ 64)).startsDue
    if 2 ^ 64 ≤ t then s1.incr TIME_WRAP.wraps else s1
  else s

/-- Device time wraps (R165): it starts again at the count's place within a cycle. -/
def State.timeWrap (s : State) : State :=
  if s.time.everLocked then ((s.marksAge (2 ^ 64 - s.now)).put TIME_NOW.time (s.now % 131072)).incr TIME_WRAP.wraps else s

/-- A step of device time (R168), with its carry into TIME_WRAP. -/
def State.timeStep (s : State) (d : Int) : State :=
  let t : Int := s.now + d
  let w : Int := s.get TIME_WRAP.wraps + Int.fdiv t (2 ^ 64)
  (((s.marksStep d).put TIME_NOW.time (toField 64 t)).put TIME_WRAP.wraps (toField 32 w)).raise Ev.timeStep 0 0

/-- A TIME_STEP write (R168). -/
def State.timeStepWrite (s : State) (d : Int) : State :=
  if s.flag FIRE_FRAME_STAT.running ∨ ¬ s.time.everLocked then s.raise Ev.stepRefused 0 0 else s.timeStep d

/-- src_locked follows the runs of offsets (R167). -/
def State.srcLock (s : State) (off : Int) : State :=
  let good := if off.natAbs ≤ 100 * nsUnits then Nat.min 16 (s.time.good + 1) else 0
  let bad := if usUnits < off.natAbs then Nat.min 4 (s.time.bad + 1) else 0
  let s1 := { s with time := { s.time with good := good, bad := bad } }
  let on := s.flag TIME_STAT.src_locked
  if !on ∧ 16 ≤ good then (s1.setFlag TIME_STAT.src_locked).raise Ev.sourceLocked 0 0
  else if on ∧ 4 ≤ bad then (s1.clearFlag TIME_STAT.src_locked).raise Ev.sourceLost 0 0
  else s1

/-- An offset of the selected source reaches the servo (R167, R168). -/
def State.servoTake (s : State) (off : Int) : State :=
  let s1 := ((s.put TIME_OFFSET.offset (toField 64 off)).clearFlag TIME_STAT.holdover).srcLock off
  let big := decide (usUnits < off.natAbs) && s.flag TIME_CTL.step_en
  if big ∧ ¬ s.flag FIRE_FRAME_STAT.running ∧ s.time.everLocked then
    ({ s1 with time := { s1.time with slew := false } }).timeStep off
  else { s1 with time := { s1.time with slew := big } }

/-- TIME_WRAP as the source's full time gives it (R165): `wrap` belongs to source time, which is device time plus the offset. -/
def State.wrapAlign (s : State) (off : Int) (wrap : Nat) : State :=
  s.put TIME_WRAP.wraps (toField 32 ((wrap : Int) - Int.fdiv ((s.now : Int) + off) (2 ^ 64)))

/-- The time source in use (R167, R332): if both devices of a head select the twin, unit 0 runs free. -/
def State.timeSrc (s : State) : Nat :=
  let n := s.get TIME_CTL.time_src
  if n = 3 ∧ s.twn.peerFollows ∧ ¬ s.flag TWN_STAT.unit then 0 else n

/-- An offset from gPTP (1), PPS (2) or the twin (3) (R167); a gPTP offset also tells the source's wrap count. -/
def State.servoOffset (s : State) (src : Nat) (off : Int) (wrap : Nat) : State :=
  let s1 := if src = 1 then s.statsPtp off else s
  if src = 0 ∨ s.timeSrc ≠ src then s1
  else (if src = 1 then s1.wrapAlign off wrap else s1).servoTake off

/-- The source's timeout passes without an offset (R167). -/
def State.holdover (s : State) : State :=
  if s.timeSrc = 0 ∨ s.flag TIME_STAT.holdover then s
  else
    let s1 := { s with time := { s.time with good := 0, bad := 0, slew := false } }
    ((s1.setFlag TIME_STAT.holdover).clearFlag TIME_STAT.src_locked).raise Ev.sourceLost 0 0

/-- The servo's next trim (R166): it moves by at most 0.1 ppm and stays within 10 ppm. The spec gives the loop no gains, so where it
does not slew the change is a free value; free-running and in holdover the trim is held. -/
def State.trimUpdate (s : State) : State :=
  let cur := sx 24 (s.get TIME_TRIM.trim)
  if s.timeSrc = 0 ∨ s.flag TIME_STAT.holdover then s
  else if s.time.slew then
    let d : Int := if sx 64 (s.get TIME_OFFSET.offset) < 0 then -100 else 100
    s.put TIME_TRIM.trim (toField 24 (clampI (-10000) 10000 (cur + d)))
  else
    let r := s.fresh
    r.2.put TIME_TRIM.trim (toField 24 (clampI (-10000) 10000 (cur + ((r.1 % 201 : Nat) : Int) - 100)))

/-- TIME_STAT.warm changes now (R169). -/
def State.warmTurn (s : State) : State := { s with time := { s.time with warmLog := s.now :: s.time.warmLog } }

/-- Lock and OCXO_WARM have held for `held` seconds (R169). -/
def State.warmReached (s : State) (held : Nat) : State :=
  if s.flag TIME_STAT.rpll_locked ∧ s.flag TIME_STAT.ocxo_warm ∧ s.get TIME_WARM_CFG.settle_s ≤ held ∧ ¬ s.flag TIME_STAT.warm then
    (s.warmTurn.setFlag TIME_STAT.warm).raise Ev.timeWarm 0 0
  else s

/-- The time base stops being warm (R169). -/
def State.warmEnd (s : State) : State :=
  if s.flag TIME_STAT.warm then
    ((s.warmTurn.clearFlag TIME_STAT.warm).setFlag TIME_STAT.warm_lost).raise Ev.timeWarmLost 0 0
  else s

def State.ocxoChange (s : State) (level : Bool) : State :=
  let s1 := s.put TIME_STAT.ocxo_warm (bit level)
  if level then s1 else s1.warmEnd

/-- The RPLL locks (R24, R165). -/
def State.rpllLock (s : State) : State :=
  ({ s with time := { s.time with everLocked := true } }).setFlag TIME_STAT.rpll_locked

/-- The RPLL loses lock (R24): no further strobe, the event, and a fault of the safety function. -/
def State.rpllLoss (s : State) : State :=
  if s.flag TIME_STAT.rpll_locked then
    let s1 := ((s.clearFlag TIME_STAT.rpll_locked).setFlag TIME_STAT.unlock_seen).warmEnd.raise Ev.rpllUnlock 0 0
    s1.fireHalt.safetyFault 0x0A 0
  else s

/-- The stamp of an edge on hub TDC `n` (R173, R85, R87), in LSB: its capture unit L (0) takes rising edges, T (1) falling ones, each with
its own code-density record (R380). -/
def State.hubStamp (s : State) (n u coarse code : Nat) : Nat :=
  toField 56 (stampFrom coarse (s.cdtCentre (6 * 1024 + 2 * n + u) code s.time.hubTemp))

/-- Dead time of 5 ns, in LSB (R173). -/
def hubDead : Nat := 1280

/-- Does the edge fall in the dead time of input `n`? -/
def State.inDead (s : State) (n stamp : Nat) : Bool :=
  (s.time.lastEdge.getD n none).elim false (fun u => decide ((stamp + 2 ^ 56 - u) % 2 ^ 56 < hubDead))

def State.noteEdge (s : State) (n stamp : Nat) : State :=
  { s with time := { s.time with lastEdge := s.time.lastEdge.set n (some stamp) } }

/-- Has a capture unit of hub TDC `n` no usable code-density record (R381)? -/
def State.hubTdcDead (s : State) (n : Nat) : Bool := s.cal.hubDead.contains n

/-- Source time minus device time at a PPS edge (R171): the way to the nearest whole second of the full time. -/
def State.ppsOffset (s : State) (stamp : Nat) : Int :=
  let r := (s.get TIME_WRAP.wraps * 2 ^ 64 + stamp * 256) % secUnits
  if 2 * r ≤ secUnits then -(r : Int) else (secUnits : Int) - r

/-- A rising edge on PPS_IN (R171, R173). -/
def State.ppsEdge (s : State) (coarse code : Nat) : State :=
  let x := s.hubStamp 4 0 coarse code
  if s.hubTdcDead 4 ∨ s.inDead 4 x then s
  else
    let s1 := (s.noteEdge 4 x).put TIME_PPS_STAMP.time (x * 256)
    let off := s.ppsOffset x
    if s.flag TIME_STAT.src_locked ∧ 1000 * usUnits < off.natAbs then s1 else s1.servoOffset 2 off 0

/-- No usable PPS edge for 1.5 s (R171). -/
def State.ppsMissing (s : State) : State := (s.setFlag TIME_STAT.pps_missing).raise Ev.ppsMissing 0 0

def State.fifo (s : State) (n : Nat) : List Nat := s.time.fifo.getD n []

/-- A FIFO changes, with its level. -/
def State.setFifo (s : State) (n : Nat) (l : List Nat) : State :=
  ({ s with time := { s.time with fifo := s.time.fifo.set n l } }).put (TIME_TIN_STAT.level n) l.length

/-- A stamp meets the FIFO of input `n` (R174). -/
def State.fifoPush (s : State) (n v : Nat) : State :=
  if (s.fifo n).length < 64 then s.setFifo n (s.fifo n ++ [v])
  else
    let first := !s.time.ovf.getD n false
    let s1 := { s with time := { s.time with ovf := s.time.ovf.set n true } }
    ((s1.bump (TIME_TIN_STAT.lost n)).setFlag (TIME_TIN_STAT.ovf n)).raiseIf first Ev.timeinOverflow n

/-- An edge on TIMEIN_`n` (R173 to R175). -/
def State.timeinEdge (s : State) (n : Nat) (rising : Bool) (coarse code : Nat) : State :=
  let sel := s.get (TIME_TIN_CFG.edge n)
  let x := s.hubStamp n (bit (!rising)) coarse code
  let en := s.flag (TIME_TIN_CFG.enable n)
  if s.hubTdcDead n ∨ bits sel (bit (!rising)) 1 = 0 then s
  else if s.inDead n x then s.when en (fun s => s.bump (TIME_TIN_STAT.lost n))
  else
    let s1 := (s.noteEdge n x).statsEdge n x
    s1.when en (fun s => s.fifoPush n (x * 256 % 2 ^ 64 + 1 + 2 * bit rising))

/-- A read of TIME_TIN_n_STAMP (R174): the oldest entry, removed; 0 from an empty FIFO. -/
def State.fifoPop (s : State) (n : Nat) : Nat × State :=
  match s.fifo n with
  | [] => (0, s)
  | v :: l => (v, ({ s with time := { s.time with ovf := s.time.ovf.set n false } }).setFifo n l)

def execDeviceTimeWrap (s : State) : Res := .next s.timeWrap
/-- An offset in units of 2⁻¹⁶ ns; `wrap` is the source's wrap count (gPTP). -/
def execServoOffset (src : Fin 4) (off : BitVec 64) (wrap : Word32) (s : State) : Res := .next (s.servoOffset src off.toInt wrap.toNat)
def execTrimUpdate (s : State) : Res := .next s.trimUpdate
def execHoldoverEntry (s : State) : Res := .next s.holdover
def execTimeStepWrite (v : BitVec 64) (s : State) : Res := .next (s.timeStepWrite v.toInt)
def execWarmReached (held : Word16) (s : State) : Res := .next (s.warmReached held.toNat)
def execOcxoWarmChange (level : Bool) (s : State) : Res := .next (s.ocxoChange level)
def execRpllLock (s : State) : Res := .next s.rpllLock
def execRpllLossOfLock (s : State) : Res := .next s.rpllLoss
def execPpsEdge (coarse : BitVec 49) (code : Fin 160) (s : State) : Res := .next (s.ppsEdge coarse.toNat code)
def execPpsMissing (s : State) : Res := .next s.ppsMissing
def execTimeinEdge (n : Fin 4) (rising : Bool) (coarse : BitVec 49) (code : Fin 160) (s : State) : Res :=
  .next (s.timeinEdge n rising coarse.toNat code)
def execTimeinStampRead (p : Port) (n : Fin 4) (s : State) : Res :=
  .next (s.viaPort p fun s => let r := s.fifoPop n; r.2.emit (.readData p (TIME_TIN_STAMP.addr n) r.1))
/-- A write of start = 1 through a port (R409, R413): 0x04 for the host's ports, 0x05 for a control cluster. -/
def execStatsStart (p : Port) (s : State) : Res := .next (s.viaPort p fun s => s.statsStartBy p)
def execStatsAbort (s : State) : Res := .next s.statsAbort
def execStatsSample (s : State) : Res := .next s.statsSample
def execStatsDone (s : State) : Res := .next s.statsDone

end Sys2Proof.Machine
end

