-- ==== Sys2Proof/Machine/Cal.lean ====
section
/-! DEFINITION. The calibration store, offset and skew calibration, and in-service self-test (R378 to R393). -/

namespace Sys2Proof.Machine

/-- The first byte of a region of the NOR flash and its size: 0 the factory region, 1 and 2 the field halves (R378). -/
def norBase (r : Nat) : Nat := if r = 0 then 0 else 0x400000 + 0x400000 * r
def norSize (r : Nat) : Nat := if r = 0 then 0x800000 else 0x400000

/-- Payload bytes of a record type (R380), none for a reserved type. -/
def recLen (ty : Nat) : Option Nat :=
  if ty = 0x01 then some 1600
  else if ty = 0x02 then some 64
  else if ty = 0x03 then some 520
  else if ty = 0x10 then some 1040
  else if ty = 0x11 then some 260
  else if ty = 0x12 then some 260
  else if ty = 0x13 then some 188
  else if ty = 0x14 then some 4
  else if ty = 0x15 then some 528
  else none

/-- Payload bytes with their padding (R379). -/
def padded (n : Nat) : Nat := (n + 3) / 4 * 4

/-- Does a record pass its check: check word, version and size (R379, R381, R382)? -/
def recOk (l : List Byte) : Bool :=
  let p := padded (tblNat l 4 4)
  tblByte l 1 == 1 && recLen (tblByte l 0) == some (tblNat l 4 4) && l.length == 20 + p && tblNat l (16 + p) 4 == crc32 (l.take (16 + p))

/-- The bytes of the record at offset `o` of a memory, of a size that its header names and `room` bounds. -/
def recAt (m : List Host.Cell) (o room : Nat) : Option (List Byte) :=
  let n := 20 + padded (memNat m (o + 4) 4)
  if (recLen (memNat m o 1)).isSome ∧ n ≤ room then some (memBytes m o n) else none

/-- The records of a region, one after the other from its start, up to the first place that holds none; `gen` is the generation that
its records carry (R379). -/
def norRecs (m : List Host.Cell) (gen : Nat) : Nat → Nat → Nat → List CalRec
  | 0, _, _ => []
  | k + 1, o, room =>
    match recAt m o room with
    | none => []
    | some l =>
      if tblNat l 8 4 = gen then ⟨tblByte l 0, tblNat l 2 2, l⟩ :: norRecs m gen k (o + l.length) (room - l.length) else []

/-- The generation of a field half, where its commit marker is valid (R378): generation, complement and CRC-32 in its last 64 KB
sector. -/
def norMarker (m : List Host.Cell) (h : Nat) : Option Nat :=
  let a := norBase (1 + h) + 0x3F0000
  let g := memNat m a 4
  if memNat m (a + 4) 4 = 0xFFFFFFFF - g ∧ memNat m (a + 8) 4 = crc32 (memBytes m a 8) then some g else none

/-- The active half: the valid half with the higher generation, compared modularly (R378). -/
def norActive (m : List Host.Cell) : Option Nat :=
  match norMarker m 0, norMarker m 1 with
  | none, none => none
  | some _, none => some 0
  | none, some _ => some 1
  | some a, some b => if modGe 32 a b then some 0 else some 1

/-- The good record of a type and index among those found. -/
def recFind (l : List CalRec) (ty ix : Nat) : Option CalRec := l.find? (fun r => r.type == ty && r.index == ix && recOk r.bytes)

/-- The records that a load looks for (R380, R381): CDT of the tiles' capture units and of the five hub TDCs, and the others. -/
def cdtTileKeys : List (Nat × Nat) :=
  (List.range 6).flatMap (fun t => (List.range 552).map (fun i => (0x01, 1024 * t + i)))
def factoryKeys : List (Nat × Nat) :=
  (List.range 10).map (fun i => (0x01, 6144 + i)) ++ (List.range 6).map (fun t => (0x02, t)) ++ (List.range 6).map (fun t => (0x03, t))
def fieldKeys : List (Nat × Nat) :=
  (List.range 6).map (fun t => (0x10, t)) ++ (List.range 6).map (fun t => (0x11, t)) ++ (List.range 6).map (fun t => (0x12, t)) ++
    [(0x13, 0), (0x14, 0), (0x15, 0)]

/-- A record failed its check or is absent (R381). -/
def State.recMissing (s : State) (k : Nat × Nat) : State := (s.incr CAL_NVM_LOAD.bad_records).raise Ev.nvmError (1 + 256 * k.1 + 65536 * k.2) 0

/-- A capture unit of a tile has no usable CDT record (R89); that its channel's TDC also raises tdc-fault is the model's choice (log
entry 186). -/
def State.cdtMissing (s : State) (ix : Nat) : State :=
  let t := ix / 1024
  let s1 := ((s.incr CAL_NVM_LOAD.bad_records).setFlag (TILE_TDC_STAT.cdt_invalid t)).raise (Ev.cdtInvalid t) t 0
  s1.tdcFault t (ix % 1024 / 2)

/-- What the absence of a factory record does (R381). -/
def State.factoryMissing (s : State) (k : Nat × Nat) : State :=
  let s1 := s.recMissing k
  if k.1 = 0x01 then
    let n := (k.2 - 6144) / 2
    let s2 := { s1 with cal := { s1.cal with hubDead := uniq (n :: s1.cal.hubDead) } }
    if n < 4 then s2.clearFlag (TIME_TIN_CFG.enable n) else s2
  else if k.1 = 0x02 then
    (s1.setReg (TILE_TDC_FAIL.addr k.2 8) (s1.reg (TILE_TDC_FAIL.addr k.2 8) ||| 0xFFFF)).sparesCount k.2
  else { s1 with cal := { s1.cal with skewBad := k.2 :: s1.cal.skewBad } }

/-- A field record's contents go into the registers it feeds (R380). -/
def State.recApply (s : State) (r : CalRec) : State :=
  let t := r.index
  if r.type = 0x10 then
    (List.range 260).foldl (fun (s : State) c =>
      (((s.put (CAL_CH.sel_lo_h t c) (r.num (4 * c) 1)).put (CAL_CH.sel_hi_h t c) (r.num (4 * c + 1) 1)).put
        (CAL_CH.sel_lo_l t c) (r.num (4 * c + 2) 1)).put (CAL_CH.sel_hi_l t c) (r.num (4 * c + 3) 1)) s
  else if r.type = 0x11 then (List.range 260).foldl (fun (s : State) c => s.put (CAL_CH.tap t c) (r.num c 1)) s
  else if r.type = 0x12 then
    (List.range 128).foldl (fun (s : State) i => s.put (TILE_WALK.corr t (i / 64) (i % 64)) (r.num (4 + 2 * i) 2))
      (s.put (TILE_WALK_STEP.step t) (r.num 0 4))
  else if r.type = 0x13 then
    let s1 := (List.range 6).foldl (fun (s : State) t => s.put (ECHO_TILE_PATH.path t) (r.num (4 * t) 4)) s
    let s2 := (List.range 24).foldl (fun (s : State) i => s.put (ECHO_REF_PATH.path (i / 4) (i % 4)) (r.num (24 + 4 * i) 4)) s1
    (List.range 16).foldl (fun (s : State) n => s.put (FIRE_STROBE_CFG.trim n) (r.num (124 + 4 * n) 4))
      (s2.put ECHO_RANGE_OFFSET.range_offset (r.num 120 4))
  else if r.type = 0x14 then { s with cal := { s.cal with pilotOk := true, pilotCurrent := r.num 0 1 } }
  else if r.type = 0x15 then
    let s1 := (List.range 16).foldl (fun (s : State) i =>
      (s.put (HK_CAL.offset i) (r.num (8 * i) 3)).put (HK_CAL.gain i) (r.num (8 * i + 4) 4)) s
    (List.range 100).foldl (fun (s : State) j =>
      if j % 25 = 24 then
        (s.put (HK_LIN_CFG.order_x (j / 25)) (r.num (128 + 4 * j) 1)).put (HK_LIN_CFG.order_t (j / 25)) (r.num (128 + 4 * j) 1 / 16)
      else s.put (HK_LIN.coef (j / 25) (j % 25)) (r.num (128 + 4 * j) 4)) s1
  else s

/-- A field record (R381): from the active half, else from the other half if that is valid. -/
def State.fieldLoad (s : State) (act other : List CalRec) (k : Nat × Nat) : State :=
  match recFind act k.1 k.2 with
  | some r => ({ s with cal := { s.cal with loaded := s.cal.loaded ++ [r] } }).recApply r
  | none =>
    let s1 := s.recMissing k
    match recFind other k.1 k.2 with
    | some r => (({ s1 with cal := { s1.cal with loaded := s1.cal.loaded ++ [r] } }).setFlag CAL_NVM_LOAD.fallback_used).recApply r
    | none => s1

/-- The records of a field half, none while it is not valid. -/
def State.halfRecs (s : State) (h : Nat) : List CalRec :=
  match norMarker s.nor h with
  | none => []
  | some g => norRecs s.nor g 4096 (norBase (1 + h)) 0x3F0000

/-- In BOOT, Snuffer loads the calibration store (R381). -/
def State.calLoad (s : State) : State :=
  if s.mode = 1 ∧ ¬ s.boot.calLoaded then
    let act := norActive s.nor
    let h := act.getD 0
    let fac := norRecs s.nor 0 8192 0 0x800000
    let held := (cdtTileKeys ++ factoryKeys).filterMap (fun k => recFind fac k.1 k.2)
    let s1 := { s with cal := { s.cal with loaded := held, hubDead := [], skewBad := [], pilotOk := false },
                       boot := { s.boot with calLoaded := true } }
    let s2 := ((s1.put CAL_NVM_STAT.active_half h).put CAL_NVM_GEN.generation ((norMarker s.nor h).getD 0)).put CAL_NVM_STAT.wear
      (Nat.min 65535 (Nat.max (s.cal.wear.getD 0 0) (s.cal.wear.getD 1 0)))
    let s3 := (cdtTileKeys.filter (fun k => (recFind fac k.1 k.2).isNone)).foldl (fun (s : State) k => s.cdtMissing k.2) s2
    let s4 := (factoryKeys.filter (fun k => (recFind fac k.1 k.2).isNone)).foldl (fun (s : State) k => s.factoryMissing k) s3
    fieldKeys.foldl (fun (x : State) k => x.fieldLoad (s.halfRecs h) (s.halfRecs (1 - h)) k) s4
  else s

/-- An NVM operation ends with an err (R382 to R384). -/
def State.nvmErr (s : State) (e : Nat) : State :=
  ((s.put CAL_NVM_STAT.err e).setFlag CAL_NVM_STAT.fail_seen).raise Ev.nvmError (e + 1) 0

/-- Step 1 of a write (R382): the records of staging from offset `o`, or the err. -/
def stageRecs (m : List Host.Cell) : Nat → Nat → Except Nat (List (List Byte))
  | 0, _ => .error 4
  | k + 1, o =>
    let ty := memNat m o 1
    let n := 20 + padded (memNat m (o + 4) 4)
    if 0x100000 < o + 20 then .error 4
    else if ty = 0 then
      let l := memBytes m o 20
      if tblByte l 1 = 1 ∧ tblNat l 4 4 = 0 ∧ tblNat l 16 4 = crc32 (l.take 16) then .ok [] else .error 4
    else if 0x100000 < o + n then .error 4
    else
      let l := memBytes m o n
      if ¬ recOk l then .error 4
      else if ty < 0x10 then .error 5
      else
        match stageRecs m k (o + n) with
        | .ok r => .ok (l :: r)
        | .error e => .error e

/-- A write of op = 0b01 with go (R382, R383). -/
def State.nvmWrite (s : State) : State :=
  let s1 := s.put CAL_NVM_CTL.op 1
  if s.flag CAL_NVM_STAT.busy then s1.nvmErr 7
  else
    if s.flag THM_STAT.nvm_inhibit then s1.nvmErr 1
    else
      match stageRecs s.calStage 52429 0 with
      | .error e => s1.nvmErr e
      | .ok l =>
        let s2 := ((s1.put CAL_NVM_STAT.err 0).setFlag CAL_NVM_STAT.busy).setFlag CAL_NVM_CTL.go
        { s2 with cal := { s2.cal with nvmSet := some l.flatten } }

/-- The records of a set with the generation that they are programmed with, and their new check words (R379, R382). -/
def withGen (g : Nat) : Nat → List Byte → List Byte
  | 0, _ => []
  | k + 1, l =>
    let p := padded (tblNat l 4 4)
    if l.length < 20 + p then []
    else
      let body := l.take 8 ++ toLE 4 g ++ (l.drop 12).take (4 + p)
      body ++ toLE 4 (crc32 body) ++ withGen g k (l.drop (20 + p))

/-- The inactive half, which a set is written into (R382). -/
def State.nvmHalf (s : State) : Nat := 1 - s.get CAL_NVM_STAT.active_half

/-- The sectors of a half that a set of `n` bytes and the marker need are erased (R382); the half is worn once more. -/
def State.nvmErase (s : State) (h n : Nat) : State :=
  let b := norBase (1 + h)
  let e := b + (n + 0xFFFF) / 0x10000 * 0x10000
  let gone := fun (a : Nat) => (decide (b ≤ a) && decide (a < e)) || (decide (b + 0x3F0000 ≤ a) && decide (a < b + 0x400000))
  let w := s.cal.wear.set h (s.cal.wear.getD h 0 + 1)
  let s1 := { s with nor := s.nor.filter (fun p => !gone p.1), cal := { s.cal with wear := w } }
  s1.put CAL_NVM_STAT.wear (Nat.min 65535 (Nat.max (w.getD 0 0) (w.getD 1 0)))

/-- A field-set write ends (R382, R383): Snuffer stopped for the inhibit, or the read-back differed, or the marker is written. What
an abandoned write has erased by then is free. -/
def State.nvmDone (s : State) (stopped verifyFail : Bool) : State :=
  match s.cal.nvmSet with
  | none => s
  | some l =>
    let s1 := ({ s with cal := { s.cal with nvmSet := none } }).clearFlag CAL_NVM_STAT.busy |>.clearFlag CAL_NVM_CTL.go
    let h := s.nvmHalf
    if stopped ∨ s.flag THM_STAT.nvm_inhibit then
      let r := s1.fresh
      (if r.1 % 2 = 1 then r.2.nvmErase h l.length else r.2).nvmErr 2
    else if verifyFail then (s1.nvmErase h l.length).nvmErr 3
    else
      let g := (s.get CAL_NVM_GEN.generation + 1) % 2 ^ 32
      let m := toLE 4 g ++ toLE 4 (0xFFFFFFFF - g)
      let s2 := s1.nvmErase h l.length
      let nor1 := memStore s2.nor (norBase (1 + h)) (withGen g 52429 l)
      let nor2 := memStore nor1 (norBase (1 + h) + 0x3F0000) (m ++ toLE 4 (crc32 m))
      (({ s2 with nor := nor2 }).put CAL_NVM_GEN.generation g).put CAL_NVM_STAT.err 0

/-- Snuffer's supply goes while it writes a field set (R382): the write is over, its half stays inactive, and what it has erased by then is
free. -/
def State.nvmCut (s : State) : State :=
  match s.cal.nvmSet with
  | none => s
  | some l =>
    let s1 := ({ s with cal := { s.cal with nvmSet := none } }).clearFlag CAL_NVM_STAT.busy |>.clearFlag CAL_NVM_CTL.go
    let r := s1.fresh
    if r.1 % 2 = 1 then r.2.nvmErase s.nvmHalf l.length else r.2

/-- VSNF has stood below 2.70 V for 1 µs (R417): Snuffer resets, its outputs are off, the selector is blanked, and what it had under way is
over: a reset by LOR_REQ, its temperature samples, a write to its NOR store (R382). -/
def State.brownout (s : State) : State :=
  let s1 := s.nvmCut.tablesGone.snfTempsGone
  { s1 with snf := { SnfSt.init with powered := false, sel := .blanked },
            saf := { s1.saf with lorHigh := false, lorIgnored := false, lorAccepted := false, contacts := SafSt.init.contacts,
                                 pulse := SafSt.init.pulse } }

/-- go with an op that names no operation: refused while one runs (R384), else nothing. -/
def State.nvmNone (s : State) : State := if s.flag CAL_NVM_STAT.busy then s.nvmErr 7 else s

/-- A write of op = 0b10 with go (R384). -/
def State.nvmRead (s : State) (ty ix : Nat) : State :=
  let s1 := ((s.put CAL_NVM_CTL.op 2).put CAL_NVM_CTL.rec_type ty).put CAL_NVM_CTL.rec_index ix
  if s.flag CAL_NVM_STAT.busy then s1.nvmErr 7
  else
    match s.calRec ty ix with
    | none => s1.nvmErr 6
    | some r => ({ s1 with calStage := memStore s1.calStage 0 r.bytes }).put CAL_NVM_STAT.err 0

/-- The tiles of a mask. -/
def maskTiles (m : Nat) : List Nat := (List.range 6).filter (fun t => bits m t 1 == 1)

/-- The kind of a calibration as used: 0b00 as 0b11 (R387). -/
def calKind (k : Nat) : Nat := if k % 4 = 0 then 3 else k % 4

/-- The err of CAL_CTL.go, 0 where it is accepted (R387, R381). -/
def State.calErr (s : State) (tiles kind : Nat) : Nat :=
  if s.flag CAL_STAT.busy then 4
  else if s.mode ≠ 4 then 1
  else if s.flag FIRE_FRAME_STAT.running then 2
  else if (maskTiles tiles).any (fun t => s.tileOff t || !s.flag (TILE_GANG_STAT.locked t)) then 3
  else if 2 ≤ calKind kind ∧ (maskTiles tiles).any (fun t => s.cal.skewBad.contains t) then 5
  else 0

/-- A write of CAL_CTL.go = 1 (R387). -/
def State.calGo (s : State) (tiles kind : Nat) : State :=
  let s1 := ((s.put CAL_CTL.tiles tiles).put CAL_CTL.kind kind).put CAL_STAT.err (s.calErr tiles kind)
  if s.calErr tiles kind = 0 then
    ({ s1 with cal := { s1.cal with job := some (tiles, calKind kind, false) } }).setFlag CAL_STAT.busy
  else s1

/-- The pedestal of a comparator-range pair (R385), in 0.05 mV: 20.0 mV in the high-gain range, 80.0 mV in the low-gain range. -/
def calPedestal (k : Fin 4) : Int := if k.val < 2 then 400 else 1600

/-- An offset: the trip point less the pedestal (R385). -/
def calOff (k : Fin 4) (trip : Word16) : Int := (trip.toNat : Int) - calPedestal k

/-- The combination selected for a comparator-range pair: that of the smallest |offset|, the lower number at a tie (R385). -/
def calPick (r : CalResult) (k : Fin 4) : Nat :=
  let l := (r.trips[k]).toList.map (fun v => (calOff k v).natAbs)
  ((List.range 28).find? (fun n => l.all (fun m => decide (l.getD n 0 ≤ m)))).getD 0

/-- The worse of two residuals, the first where they are equally bad (R388). -/
def worse (a b : Int) : Int := if a.natAbs < b.natAbs then b else a

/-- The residual of a comparator-range pair: the offset of the selected combination measured again (R385). -/
def calResidual (r : CalResult) (k : Fin 4) : Int := calOff k r.again[k]

/-- The worse residual of each range, in 0.05 mV (R388). -/
def calResH (r : CalResult) : Int := worse (calResidual r 0) (calResidual r 1)
def calResL (r : CalResult) : Int := worse (calResidual r 2) (calResidual r 3)

/-- A signed number as an 8-bit field holds it, at the nearest value that it can hold. -/
def byteOf (x : Int) : Nat := (clampI (-128) 127 x % 256).toNat

/-- The state that a calibration measures in: a sliced tile with the registers it had before its isolation (R338, R387). -/
def State.calView (s : State) : State :=
  match s.cal.job with
  | some (_, _, true) => s.boot.sliceSaved.foldl (fun (s : State) p => s.setReg p.1 p.2) s
  | _ => s

/-- The pulser-tree skew of a channel (R380), in sixteenths of a stamp unit. -/
def State.treeSkew (s : State) (t c : Nat) : Int :=
  match s.calRec 3 t with
  | none => 0
  | some x => sx 16 (x.num (2 * c) 2)

/-- The mean arrival less the tree skew, with the crossbar offset of a spare (R386), in 1/4096 of a stamp unit. -/
def State.calArrival (s : State) (r : CalResult) (sum : Word64) : Int :=
  sum.toInt - 256 * s.treeSkew r.tile r.chan - 4096 * s.spareOffset r.tile (s.tdcOf r.tile r.chan)

/-- The arrival referred to tap 16 (R386); a tap is four stamp units. -/
def State.calN (s : State) (r : CalResult) : Int :=
  s.calArrival r r.sum1 - ((s.get (CAL_CH.tap r.tile r.chan) : Int) - 16) * 16384

/-- Twice the target of a tile: the median over its channels with a working TDC (R386). -/
def State.calTarget2 (s : State) (l : List CalResult) (t : Nat) : Int :=
  median2 ((l.filter (fun r => r.tile.val == t && s.tdcWorks t r.chan)).map (fun r => s.calN r))

/-- The new tap before it is held to 0 to 31 (R386). -/
def State.calTap (s : State) (target2 : Int) (r : CalResult) : Int := 16 + roundHalfEven (target2 - 2 * s.calN r) 32768

/-- The skew residual in 0.5 ps (R386): half a picosecond is 0.128 stamp units. -/
def State.calSkewRes (s : State) (target2 : Int) (r : CalResult) : Int :=
  roundHalfEven ((2 * s.calArrival r r.sum2 - target2) * 125) 131072

/-- One channel's offset result (R385, R388). -/
def State.calOffset (s : State) (r : CalResult) : Bool × State :=
  let t := r.tile.val
  let c := r.chan.val
  let ok := decide ((calResH r).natAbs ≤ s.get CAL_LIMITS.off_lim_h) && decide ((calResL r).natAbs ≤ s.get CAL_LIMITS.off_lim_l)
  let s1 := (s.put (CAL_CH.off_res_h t c) (byteOf (calResH r))).put (CAL_CH.off_res_l t c) (byteOf (calResL r))
  if ok then
    let w := Nat.max (calResH r).natAbs (calResL r).natAbs
    let s2 := (((s1.put (CAL_CH.sel_lo_h t c) (calPick r 0)).put (CAL_CH.sel_hi_h t c) (calPick r 1)).put
      (CAL_CH.sel_lo_l t c) (calPick r 2)).put (CAL_CH.sel_hi_l t c) (calPick r 3)
    (true, s2.put (CAL_QUAL.off_worst t) (Nat.max w (s2.get (CAL_QUAL.off_worst t))))
  else (false, (s1.setFlag (CAL_CH.off_fail t c)).incr (CAL_QUAL.off_fail t))

/-- One channel's skew result (R386, R388); `v` is the state measured in. -/
def State.calSkew (s v : State) (target2 : Int) (r : CalResult) : Bool × State :=
  let t := r.tile.val
  let c := r.chan.val
  let k := v.calSkewRes target2 r
  let tap := v.calTap target2 r
  let s1 := s.put (CAL_CH.skew_res t c) (byteOf k)
  if k.natAbs ≤ s.get CAL_LIMITS.skew_lim ∧ 0 ≤ tap ∧ tap ≤ 31 then
    let s2 := s1.put (CAL_CH.tap t c) tap.toNat
    (true, s2.put (CAL_QUAL.skew_worst t) (Nat.max k.natAbs (s2.get (CAL_QUAL.skew_worst t))))
  else (false, (s1.setFlag (CAL_CH.skew_fail t c)).incr (CAL_QUAL.skew_fail t))

/-- One channel's results of the kinds that run, `l` being all that were measured in the state `v`; the number rejected so far goes
along. A channel without a working TDC has no skew result (R386). -/
def State.calChan (v : State) (l : List CalResult) (kind : Nat) (a : Nat × State) (r : CalResult) : Nat × State :=
  let o := if kind % 2 = 1 then a.2.calOffset r else (true, a.2)
  let k := if 2 ≤ kind ∧ v.tdcWorks r.tile r.chan then o.2.calSkew v (v.calTarget2 l r.tile) r else (true, o.2)
  (a.1 + bit (!o.1) + bit (!k.1), k.2)

/-- The summary of a tile starts anew for the kinds that run. -/
def State.calClear (s : State) (kind t : Nat) : State :=
  let s1 := if kind % 2 = 1 then (s.put (CAL_QUAL.off_worst t) 0).put (CAL_QUAL.off_fail t) 0 else s
  if 2 ≤ kind then (s1.put (CAL_QUAL.skew_worst t) 0).put (CAL_QUAL.skew_fail t) 0 else s1

/-- A calibration ends (R388). -/
def State.calDone (s : State) (results : List CalResult) : State :=
  match s.cal.job with
  | none => s
  | some (tiles, kind, _) =>
    let mine := results.filter (fun r => bits tiles r.tile.val 1 == 1)
    let s1 := (maskTiles tiles).foldl (fun (s : State) t => s.calClear kind t) { s with cal := { s.cal with job := none } }
    let r := mine.foldl (State.calChan s.calView mine kind) (0, s1)
    let s2 := if r.1 = 0 then r.2 else (r.2.setFlag CAL_STAT.rejected_seen).raise Ev.calRejected (r.1 % 65536) 0
    ((s2.clearFlag CAL_STAT.busy).setFlag CAL_STAT.done).raise Ev.calDone 0 0

/-- Enabled self-test slices (R392). -/
def State.bistOn (s : State) : List Nat := (List.range 18).filter (fun x => bits (s.get BIST_MASK.slices) x 1 == 1)

/-- The first enabled slice at or after `x`, in rotation. -/
def nextSlice (on : List Nat) (x : Nat) : Nat := ((on.find? (fun y => decide (x ≤ y))).orElse (fun _ => on.head?)).getD 0

def State.sliceResult (s : State) (x : Nat) : Nat := s.get (BIST_SLICE_STAT.result x)

/-- Modes in which slices run (R392). -/
def bistMode (m : Nat) : Bool := decide (3 ≤ m ∧ m ≤ 7)

/-- May slice `x` start (R391, R392)? `free` says that the mover has finished its descriptor; the extraction load is that of the last
1 ms. -/
def State.bistMay (s : State) (x : Nat) (free : Bool) : Bool :=
  bistMode s.mode && s.cal.bistRun.isNone &&
    (if x < 9 then decide (s.echoLoadShow.get ECHO_LOAD.util ≤ 224) && !s.flag ECHO_STAT.shedding
     else if x < 14 then free
     else decide (s.mode ≠ 8))

/-- The key store of the standby cluster (R390). -/
def State.standbyKey (s : State) : Nat := if s.flag HUB_HO_STAT.active then 0 else 1

/-- Every enabled slice has run once (R392). -/
def State.bistRotation (s : State) : State :=
  if s.bistOn.all (fun x => s.cal.bistRan.contains x) && !s.bistOn.isEmpty then
    (({ s with cal := { s.cal with bistRan := [] } }).incr BIST_STAT.rotations).raise Ev.bistRotationDone 0 0
  else s

/-- The standby cluster is powered for its slice if needed (R391). -/
def State.standbyUp (s : State) (x : Nat) : State :=
  if 14 ≤ x ∧ s.isOff .clb then
    let s1 := s.domainOn .clb
    { s1 with cal := { s1.cal with bistPower := true } }
  else s

/-- It is switched off again after the slice, unless it is wanted by then (R391, R336). -/
def State.standbyDown (s : State) : State :=
  if s.cal.bistPower then
    let s1 := { s with cal := { s.cal with bistPower := false } }
    if s1.mayOff .clb then s1.domainOff .clb else s1
  else s

/-- The block under test is isolated as under R39: the pending operations on the standby cluster, where that is B, end with an error
(R391). -/
def State.bistIsolate (s : State) (x : Nat) : State :=
  if 14 ≤ x ∧ ¬ s.flag HUB_HO_STAT.active then s.failOps (fun o => decide (o.target = .clb)) else s

/-- A slice is due (R391 to R393): it starts, is deferred, or is skipped while an extraction engine, or the block itself, is isolated. -/
def State.bistDue (s : State) (free : Bool) : State :=
  if ¬ s.flag BIST_CFG.enable ∨ s.bistOn.isEmpty then s
  else
    let x := nextSlice s.bistOn (s.get BIST_STAT.next_slice)
    let s1 := s.put BIST_STAT.next_slice (nextSlice s.bistOn (x + 1))
    if s.sliceResult x = 2 then s1
    else if x < 9 ∧ (List.range 9).any (fun y => s.sliceResult y == 2) then s1.put (BIST_SLICE_STAT.result x) 3
    else if s.bistMay x free then
      let k := if 14 ≤ x then s1.cal.keys.set s.standbyKey false else s1.cal.keys
      (((({ s1 with cal := { s1.cal with bistRun := some x, keys := k } }).setFlag BIST_STAT.running).put (BIST_SLICE_STAT.deferrals x)
        0).standbyUp x).bistIsolate x
    else
      let s2 := s1.bump (BIST_SLICE_STAT.deferrals x)
      s2.raiseIf (decide (s2.get (BIST_SLICE_STAT.deferrals x) = 3)) Ev.bistSliceDeferred x

/-- Does a slice's test pass (R389 to R391): its signature is the one in ROM, and the key store of a cluster's pair read back as zero, for
else its scan enable stays low? -/
def State.bistPasses (s : State) (x : Nat) (misr : Word64) (zeroed : Bool) : Bool :=
  decide (s.cal.rom.slice.toList[x]? = some misr) && (decide (x < 14) || zeroed)

/-- A slice's test ends (R393). -/
def State.bistDone (s : State) (sig : Word64) (zeroed : Bool) : State :=
  match s.cal.bistRun with
  | none => s
  | some x =>
    let misr := sig.toNat
    let pass := s.bistPasses x sig zeroed
    let ran := if s.cal.bistRan.contains x then s.cal.bistRan else x :: s.cal.bistRan
    let k := if 14 ≤ x ∧ pass then s.cal.keys.set s.standbyKey true else s.cal.keys
    let s1 := ({ s with cal := { s.cal with bistRun := none, bistRan := ran, keys := k } }).clearFlag BIST_STAT.running
    let s2 := ((s1.put BIST_LAST_MISR.misr misr).incr (BIST_SLICE_STAT.runs x)).put (BIST_SLICE_STAT.result x) (if pass then 1 else 2)
    let s3 := if pass then s2 else (s2.setFlag BIST_STAT.fail_seen).raise Ev.bistSliceFail x 0
    let s4 := s3.bistRotation.standbyDown
    if s4.boot.hoWait then s4.hoBegin else s4

def execCalStoreLoad (s : State) : Res := .next s.calLoad
def execNvmWriteSet (s : State) : Res := .next s.nvmWrite
/-- `stopped`: the inhibit has started during steps 2 to 4; `verifyFail`: the read-back differed. -/
def execVsnfBrownout (s : State) : Res := .next s.brownout
def execNvmWriteDone (stopped verifyFail : Bool) (s : State) : Res := .next (s.nvmDone stopped verifyFail)
def execNvmReadRecord (type : BitVec 8) (index : Word16) (s : State) : Res := .next (s.nvmRead type.toNat index.toNat)
def execCalGo (tiles : BitVec 6) (kind : Fin 4) (s : State) : Res := .next (s.calGo tiles.toNat kind)
def execCalDone (results : List CalResult) (s : State) : Res := .next (s.calDone results)
/-- `free`: the ring engine's mover under test has finished its descriptor (R391). -/
def execBistSliceDue (free : Bool) (s : State) : Res := .next (s.bistDue free)
/-- The signature found; `pass` says that the block's key store, where it has one, read back as zero before the test (R390). -/
def execBistSliceDone (misr : Word64) (pass : Bool) (s : State) : Res := .next (s.bistDone misr pass)

end Sys2Proof.Machine
end

