-- ==== Sys2Proof/Machine/Flt.lean ====
section
/-! DEFINITION. Binary floating point with rounding to nearest, ties to even: binary32 for the control engine (R372) and binary64
for linearisation (R357). A number is its sign, an integer significand and an exponent of 2; operations compute exactly and
round once. -/

namespace Sys2Proof.Machine

/-- A floating-point datum: not a number, an infinity, or ± m 2^e. -/
inductive Flt where
  | nan
  | inf (neg : Bool)
  | fin (neg : Bool) (m : Nat) (e : Int)
  deriving DecidableEq, Repr

/-- A format: digits of the significand, exponent of the least and of the greatest unit in the last place. -/
structure FltFmt where
  p : Nat
  eMin : Int
  eMax : Int
  deriving DecidableEq, Repr

def f32 : FltFmt := ⟨24, -149, 104⟩
def f64 : FltFmt := ⟨53, -1074, 971⟩

/-- Bits of a positive number. -/
def bitLen (m : Nat) : Nat := if m = 0 then 0 else Nat.log2 m + 1

/-- m ÷ 2^d, rounded to the nearest integer, ties to even. -/
def shiftEven (m d : Nat) : Nat :=
  let q := m / 2 ^ d
  let r := m % 2 ^ d
  if 2 * r < 2 ^ d then q else if 2 ^ d < 2 * r then q + 1 else q + q % 2

/-- ± m 2^e rounded to a format. -/
def FltFmt.round (f : FltFmt) (neg : Bool) (m : Nat) (e : Int) : Flt :=
  if m = 0 then .fin neg 0 0
  else
    let want : Int := e + bitLen m - f.p
    let e1 := if want < f.eMin then f.eMin else want
    let m1 := if e1 ≤ e then m * 2 ^ (e - e1).toNat else shiftEven m (e1 - e).toNat
    let m2 := if 2 ^ f.p ≤ m1 then m1 / 2 else m1
    let e2 := if 2 ^ f.p ≤ m1 then e1 + 1 else e1
    if f.eMax < e2 then .inf neg else .fin neg m2 e2

def Flt.isFinite : Flt → Bool
  | .fin _ _ _ => true
  | _ => false

def Flt.isNan : Flt → Bool
  | .nan => true
  | _ => false

def Flt.neg : Flt → Flt
  | .nan => .nan
  | .inf n => .inf (!n)
  | .fin n m e => .fin (!n) m e

/-- The significand with its sign, on the exponent `e0` at or below its own. -/
def alignTo (neg : Bool) (m : Nat) (e e0 : Int) : Int := (if neg then -1 else 1) * (m * 2 ^ (e - e0).toNat : Nat)

def FltFmt.add (f : FltFmt) (a b : Flt) : Flt :=
  match a, b with
  | .nan, _ => .nan
  | _, .nan => .nan
  | .inf n, .inf k => if n = k then .inf n else .nan
  | .inf n, _ => .inf n
  | _, .inf k => .inf k
  | .fin n m e, .fin k l g =>
    let e0 := if e < g then e else g
    let x := alignTo n m e e0 + alignTo k l g e0
    if x = 0 then .fin (n && k) 0 0 else f.round (decide (x < 0)) x.natAbs e0

def FltFmt.sub (f : FltFmt) (a b : Flt) : Flt := f.add a b.neg

def FltFmt.mul (f : FltFmt) (a b : Flt) : Flt :=
  match a, b with
  | .nan, _ => .nan
  | _, .nan => .nan
  | .inf n, .inf k => .inf (n != k)
  | .inf n, .fin k l _ => if l = 0 then .nan else .inf (n != k)
  | .fin n m _, .inf k => if m = 0 then .nan else .inf (n != k)
  | .fin n m e, .fin k l g => f.round (n != k) (m * l) (e + g)

def FltFmt.div (f : FltFmt) (a b : Flt) : Flt :=
  match a, b with
  | .nan, _ => .nan
  | _, .nan => .nan
  | .inf _, .inf _ => .nan
  | .inf n, .fin k _ _ => .inf (n != k)
  | .fin n _ _, .inf k => .fin (n != k) 0 0
  | .fin n m e, .fin k l g =>
    if l = 0 then (if m = 0 then .nan else .inf (n != k))
    else
      let sh := f.p + 3 + bitLen l
      let q := m * 2 ^ sh / l
      let sticky := if m * 2 ^ sh % l = 0 then 0 else 1
      f.round (n != k) (2 * q + sticky) (e - g - sh - 1)

/-- a < b; false where either is not a number. -/
def Flt.lt (a b : Flt) : Bool :=
  match a, b with
  | .nan, _ => false
  | _, .nan => false
  | .inf n, .inf k => n && !k
  | .inf n, _ => n
  | _, .inf k => !k
  | .fin n m e, .fin k l g =>
    let e0 := if e < g then e else g
    decide (alignTo n m e e0 < alignTo k l g e0)

/-- a ≤ b; false where either is not a number. -/
def Flt.le (a b : Flt) : Bool := !a.isNan && !b.isNan && !b.lt a

/-- An integer in a format. -/
def FltFmt.ofInt (f : FltFmt) (x : Int) : Flt := f.round (decide (x < 0)) x.natAbs 0

/-- The quotient of two integers in a format, rounded once. -/
def FltFmt.ofQuot (f : FltFmt) (x : Int) (d : Nat) : Flt := f.div (.fin (decide (x < 0)) x.natAbs 0) (.fin false d 0)

/-- A binary32 word. -/
def ofF32 (w : Nat) : Flt :=
  let neg := bits w 31 1 == 1
  let ex := bits w 23 8
  let fr := w % 2 ^ 23
  if ex = 255 then (if fr = 0 then .inf neg else .nan)
  else if ex = 0 then .fin neg fr (-149)
  else .fin neg (fr + 2 ^ 23) ((ex : Int) - 150)

/-- The binary32 word of a datum; `nanBits` is the free significand and sign of a result that is not a number. -/
def toF32 (nanBits : Nat) (x : Flt) : Nat :=
  match x with
  | .nan => nanBits / 2 ^ 22 % 2 * 2 ^ 31 + 255 * 2 ^ 23 + (2 ^ 22 + nanBits % 2 ^ 22)
  | .inf n => bit n * 2 ^ 31 + 255 * 2 ^ 23
  | .fin n m e =>
    match f32.round n m e with
    | .fin n m e =>
      if m = 0 then bit n * 2 ^ 31
      else if m < 2 ^ 23 then bit n * 2 ^ 31 + m
      else bit n * 2 ^ 31 + (e + 150).toNat * 2 ^ 23 + (m - 2 ^ 23)
    | _ => bit n * 2 ^ 31 + 255 * 2 ^ 23

/-- A finite datum rounded to an integer, ties to even. -/
def Flt.toInt (x : Flt) : Option Int :=
  match x with
  | .fin n m e =>
    let a : Nat := if 0 ≤ e then m * 2 ^ e.toNat else shiftEven m (-e).toNat
    some (if n then -(a : Int) else a)
  | _ => none

end Sys2Proof.Machine
end

