-- ==== Sys2Proof/Machine/Hk.lean ====
section
/-! DEFINITION. The housekeeping engine (R344 to R359). -/

namespace Sys2Proof.Machine

def State.onHk (s : State) (g : HkSt → HkSt) : State := { s with hk := g s.hk }

/-- A field of a register word. -/
def wordField (w : Nat) (f : FRef) : Nat := bits w f.lo f.len

/-- The setting of an entry that its present phase has latched (R350): 0 CFG, 1 TIM, 2 THR, 3 CAL. -/
def State.hkSet (s : State) (k : Nat) (f : FRef) : Nat := wordField (s.hk.snap.getD k 0) f

/-- Step 2 of a phase latches the entry's settings (R347, R350). -/
def State.hkLatch (s : State) : State :=
  match s.hk.latchAt, s.hk.run with
  | some _, some (e, _) => s.onHk (fun h => { h with
      latchAt := none,
      snap := [(s.reg (HK_SEQ_CFG.addr e)).toNat, (s.reg (HK_SEQ_TIM.addr e)).toNat, (s.reg (HK_THR.addr e)).toNat,
               (s.reg (HK_CAL.addr e)).toNat] })
  | _, _ => s

/-- The settings are latched where step 2 has begun: what a register write changes after it applies from the next phase (R350). -/
def State.hkLatchDue (s : State) : State := if s.hk.latchAt.elim false (fun t => modGe 64 s.now t) then s.hkLatch else s

/-- A phase of an entry starts (R347): step 1 comes first where the modulator is powered down. -/
def State.hkPhase (s : State) (e ph : Nat) : State :=
  let t := if s.hk.powered then s.now else timeAdd s.now (120 * usUnits)
  (s.onHk (fun h => { h with
    run := some (e, ph), lastEntry := e, filterAt := s.now, powered := true, latchAt := some t,
    codes := if ph = 0 then [] else h.codes, ovr := if ph = 0 then false else h.ovr })).hkLatchDue

/-- Modulator and reference between two entries of a round (R348). -/
def State.hkEntryRest (s : State) : State := s.onHk (fun h => { h with powered := h.powered && !(s.get HK_CTL.pd_mode == 2) })

/-- Modulator and reference between rounds (R348): a queued trigger, or the one that continuous conversion gives, keeps them on unless
pd_mode is 0b10. -/
def State.hkRoundRest (s : State) : State :=
  let next := s.flag HK_CTL.enable && (s.flag HK_STAT.queued || s.get HK_CTL.trig_src == 2)
  s.onHk (fun h => { h with powered := h.powered && (s.get HK_CTL.pd_mode == 0 || (next && !(s.get HK_CTL.pd_mode == 2))) })

/-- osr_r as used (R345). -/
def State.hkOsr (s : State) : Nat := clampN 125 50000 (s.get HK_CTL.osr_r)

/-- A round starts (R347, R349, R350). -/
def State.hkRound (s : State) : State :=
  let s1 := (s.setFlag HK_STAT.busy).onHk (fun h =>
    { h with round := (s.get HK_CTL.seq_len_m1, s.hkOsr, s.get HK_CTL.min_phase), pend := [] })
  s1.hkPhase 0 0

/-- Is the engine busy, or does a calibration run (R349)? -/
def State.hkBusy (s : State) : Bool := s.hk.run.isSome || s.hk.calRuns

/-- A dropped trigger is counted; without a queue it raises the event too (R349). -/
def State.hkMissed (s : State) : State := (s.bump HK_STAT.missed).raiseIf (!s.flag HK_CTL.queue_en) Ev.hkMissedTrigger 0

/-- A trigger (R349). -/
def State.hkTrigger (s : State) : State :=
  if ¬ s.flag HK_CTL.enable then s
  else if s.hkBusy then
    if s.flag HK_CTL.queue_en ∧ ¬ s.flag HK_STAT.queued then s.setFlag HK_STAT.queued else s.hkMissed
  else s.hkRound

/-- The calibration that waits begins to convert its entry (R359). -/
def State.hkCalBegin (s : State) : State :=
  match s.hk.cal with
  | some (e, _, _) => s.onHk (fun h => { h with calRuns := true, lastEntry := e, powered := true })
  | none => s

/-- What follows once no round and no calibration runs: a waiting calibration, a queued trigger, or the trigger that continuous mode
gives at the end of every round (R349, R359). -/
def State.hkNext (s : State) : State :=
  if s.hk.cal.isSome then s.hkCalBegin
  else if ¬ s.flag HK_CTL.enable then s
  else if s.flag HK_STAT.queued then (s.clearFlag HK_STAT.queued).hkRound
  else if s.get HK_CTL.trig_src = 2 then s.hkRound
  else s

/-- The engine stops at the end of the present phase (R350). -/
def State.hkStopEnd (s : State) : State :=
  let s1 := (s.clearFlag HK_STAT.busy).onHk (fun h =>
    { h with run := none, stopping := false, codes := [], ovr := false, breaks := [], pend := [], latchAt := none })
  s1.hkRoundRest.hkNext

/-- The entry is measured with 3 wires (R354). -/
def State.hkThree (s : State) (e : Nat) : Bool := s.get (HK_SEQ_CFG.mode e) == 2

/-- The largest code (R352). -/
def hkMax : Int := 8388607

/-- The calibrated code of a raw code, and whether it reached the clamp (R352). -/
def hkCode (raw : Int) (offset : Int) (gain : Nat) : Int × Bool :=
  let c := roundHalfEven ((raw - offset) * gain) (2 ^ 30)
  (clampI (-hkMax) hkMax c, decide (c ≤ -hkMax) || decide (hkMax ≤ c))

/-- The binary64 number nearest to 0.001, by which a value becomes a temperature (R357). -/
def milli64 : Flt := f64.ofQuot 1 1000

/-- x^n in binary64, multiplied up from x. -/
def pow64 (x : Flt) : Nat → Flt
  | 0 => f64.ofInt 1
  | n + 1 => f64.mul (pow64 x n) x

/-- The polynomial of set `k` (R357), its terms added with j running fastest. -/
def State.hkPoly (s : State) (k : Nat) (x t : Flt) : Flt :=
  let ox := Nat.min 5 (s.get (HK_LIN_CFG.order_x k))
  let ot := s.get (HK_LIN_CFG.order_t k)
  (List.range (ox + 1)).foldl (fun acc i =>
    (List.range (ot + 1)).foldl (fun acc j =>
      f64.add acc (f64.mul (f64.mul (ofF32 (s.get (HK_LIN.coef k (4 * i + j)))) (pow64 x i)) (pow64 t j))) acc) (f64.ofInt 0)

/-- The value of a calibrated code: value, saturated, usable (R357). A sum that is not a number, and a sum without its
temperature, give a free value. -/
def State.hkValue (s : State) (c : Int) : (Int × Bool × Bool) × State :=
  let k := s.hkSet 0 (HK_SEQ_CFG.lin_set 0)
  if 4 ≤ k then ((c, false, true), s)
  else
    let needT := decide (0 < s.get (HK_LIN_CFG.order_t k))
    let free := fun (ok : Bool) => let r := s.fresh; ((sx 32 r.1, false, ok), r.2)
    match s.hk.value.getD (s.hkSet 1 (HK_SEQ_TIM.temp_src 0)) none, needT with
    | none, true => free false
    | v, _ =>
      let t := f64.mul (f64.ofInt (v.getD 0)) milli64
      match s.hkPoly k (f64.ofQuot c (2 ^ 23)) t with
      | .nan => free true
      | .inf n => ((if n then -2147483648 else 2147483647, true, true), s)
      | y =>
        let z := y.toInt.getD 0
        ((clampI (-2147483648) 2147483647 z, decide (z < -2147483648) || decide (2147483647 < z), true), s)

/-- The thresholds on a valid value (R358). -/
def State.hkThresholds (s : State) (e : Nat) (v : Int) : State :=
  if s.hkSet 1 (HK_SEQ_TIM.thr_en 0) = 0 then s
  else
    let hi := sx 32 (s.hkSet 2 (HK_THR.hi 0))
    let lo := sx 32 (s.hkSet 2 (HK_THR.lo 0))
    let hy : Int := 256 * (s.hkSet 1 (HK_SEQ_TIM.hyst 0) : Nat)
    let wasHi := s.flag (HK_RES.in_hi e)
    let wasLo := s.flag (HK_RES.in_lo e)
    let nowHi := decide (hi ≤ v) || (wasHi && !decide (v < hi - hy))
    let nowLo := decide (v ≤ lo) || (wasLo && !decide (lo + hy < v))
    let s1 := (s.put (HK_RES.in_hi e) (bit nowHi)).put (HK_RES.in_lo e) (bit nowLo)
    let s2 := if nowHi && !wasHi then (s1.setFlag (HK_RES.hi_seen e)).raiseInst Ev.hkThresholdHigh e else s1
    if nowLo && !wasLo then (s2.setFlag (HK_RES.lo_seen e)).raiseInst Ev.hkThresholdLow e else s2

/-- A valid value reaches those that use it: the temperature of R357, the thermal round (R365), and Shade where the entry is one of
its RTDs (R69, R353). -/
def State.hkDeliver (s : State) (e : Nat) (v : Int) : State :=
  let s1 := s.onHk (fun h => { h with value := h.value.set e (some v), latest := h.latest.set e (some v), newValue := h.newValue.set e true })
  let t := Int.fdiv v 100
  let s2 := if s1.get SHADE_TEMP_CFG.rtd_a = e then s1.tempSample 0 t else s1
  if s2.flag SHADE_TEMP_CFG.rtd_b_en ∧ s2.get SHADE_TEMP_CFG.rtd_b = e then s2.tempSample 1 t else s2

/-- The result of entry `e` loads (R352, R355 to R358). -/
def State.hkLoad (s : State) (e : Nat) (c : Int) (ovr broken fb good : Bool) : State :=
  let r := s.hkValue c
  let ok := !ovr && !broken && good && r.1.2.2
  let s1 := ((r.2.put (HK_RES.code e) (toField 24 c)).put (HK_RES.valid e) (bit ok)).put (HK_RES.ovr e) (bit (ovr || r.1.2.1))
  let s2 := ((s1.put (HK_RES.brk e) (bit broken)).put (HK_RES.fb e) (bit fb)).put (HK_RES.value e) (toField 32 r.1.1)
  let s3 := if ovr then s2.raiseInst Ev.hkOverRange e else s2
  if ok then (s3.hkThresholds e r.1.1).hkDeliver e r.1.1 else s3

/-- The results of the round load, in order (R346), each with the settings of its conversion. -/
def State.hkLoadAll (s : State) : State :=
  let s1 := s.hk.pend.foldl (fun (s : State) p =>
    (s.onHk (fun h => { h with snap := p.snap })).hkLoad p.entry p.code p.ovr p.broken p.fb p.good) s
  s1.onHk (fun h => { h with pend := [], codes := [], ovr := false })

/-- Does the engine stay in continuous mode after a result (R346): one entry, the trigger continuous, and nothing that begins a round anew
(log entry 227)? -/
def State.hkStays (s : State) : Bool :=
  s.flag HK_CTL.enable && s.get HK_CTL.trig_src == 2 && s.get HK_CTL.pd_mode != 2 && s.hk.cal.isNone && !s.flag HK_STAT.queued &&
    s.hk.round == (0, s.hkOsr, s.get HK_CTL.min_phase) && s.get HK_CTL.seq_len_m1 == 0 && s.hkSet 0 (HK_SEQ_CFG.mode 0) != 2

/-- The conversion of entry `e` ends: the next entry's, or the end of the round (R346, R349). In continuous mode the filter is not
restarted, and the settings in use stay. -/
def State.hkAdvance (s : State) (e : Nat) : State :=
  if e < s.hk.round.1 then s.hkEntryRest.hkPhase (e + 1) 0
  else if s.hkStays then (s.hkLoadAll.raise Ev.hkRoundDone 0 0).tempRound
  else
    let s1 := ((s.hkLoadAll.clearFlag HK_STAT.busy).onHk (fun h => { h with run := none })).raise Ev.hkRoundDone 0 0
    s1.tempRound.hkRoundRest.hkNext

/-- A lead code is stored: half the code of the lead phase, rounded half-to-even (R354). -/
def State.hkLead (s : State) (e : Nat) (c : Int) : State :=
  (s.put (HK_LEAD.lead e) (toField 24 (roundHalfEven c 2))).setFlag (HK_LEAD.lead_valid e)

/-- Conversions of entry `e` counted with the present one (R354). -/
def State.hkCount (s : State) (e : Nat) : Nat := s.hk.count.getD e 0 + 1

/-- The phases of the present conversion of entry `e`: a lead phase comes last on every 16th (R354, R356). -/
def State.hkPhases (s : State) (e : Nat) : Nat :=
  if s.hkSet 0 (HK_SEQ_CFG.mode 0) = 2 then
    (if s.hk.fallback.getD e false then 1 else 2) + (if s.hkCount e % 16 = 0 then 1 else 0)
  else 1

/-- A result of entry `e` waits for the end of its round (R346). -/
def State.hkPend (s : State) (e : Nat) (c : Int) (ovr broken fb good : Bool) : State :=
  s.onHk (fun h => { h with pend := h.pend ++ [⟨e, c, ovr, broken, fb, good, h.snap⟩] })

/-- The last phase of a conversion of entry `e` has given its code (R352 to R356): `codes` are the codes of its phases in order,
`over` whether a measuring phase was over-range. -/
def State.hkFinish (s : State) (e : Nat) (codes : List Int) (ovr : Bool) : State :=
  let three := decide (s.hkSet 0 (HK_SEQ_CFG.mode 0) = 2)
  let fb := three && s.hk.fallback.getD e false
  let a := s.hkSet 0 (HK_SEQ_CFG.iex_a 0)
  let b := s.hkSet 0 (HK_SEQ_CFG.iex_b 0)
  let brkA := s.hk.breaks.any (fun x => x == a || !(x == b))
  let brkB := s.hk.breaks.any (fun x => x == b)
  let n := s.hkCount e
  let hasLead := three && decide (n % 16 = 0)
  let s1 := s.onHk (fun h => { h with breaks := [], count := h.count.set e n })
  if fb then
    let raw := codes.getD 0 0 - 2 * sx 24 (s.get (HK_LEAD.lead e))
    let c := clampI (-hkMax) hkMax raw
    let o := ovr || decide (raw ≤ -hkMax) || decide (hkMax ≤ raw)
    let s2 := s1.hkPend e c o brkA true (s.flag (HK_LEAD.lead_valid e))
    if hasLead && !brkB then
      ((s2.hkLead e (codes.getD 1 0)).onHk (fun h => { h with fallback := h.fallback.set e false })).raiseInst Ev.hkWireRestored e
    else s2
  else
    let c := if three then roundHalfEven (codes.getD 0 0 + codes.getD 1 0) 2 else codes.getD 0 0
    let s2 := s1.hkPend e c ovr (brkA || brkB) false true
    let s3 := if hasLead && !brkB then s2.hkLead e (codes.getD 2 0) else s2
    if three && brkB && !brkA then
      s3.onHk (fun h => { h with fallback := h.fallback.set e true, count := h.count.set e 0 })
    else s3

/-- A phase's filter has filled (R347): `raw` is its output, `overload` whether the modulator overloaded during step 5. -/
def State.hkPhaseDone (s : State) (raw : Int) (overload : Bool) : State :=
  let s := s.hkLatch
  match s.hk.run with
  | none => s
  | some (e, ph) =>
    if s.hk.stopping then s.hkStopEnd
    else
      let r := hkCode raw (sx 24 (s.hkSet 3 (HK_CAL.offset 0))) (s.hkSet 3 (HK_CAL.gain 0))
      let n := s.hkPhases e
      let measuring := decide (s.hkSet 0 (HK_SEQ_CFG.mode 0) ≠ 2) || decide (ph < if s.hk.fallback.getD e false then 1 else 2)
      let codes := s.hk.codes ++ [r.1]
      let ovr := s.hk.ovr || (measuring && (overload || r.2))
      if ph + 1 < n then (s.onHk (fun h => { h with codes := codes, ovr := ovr })).hkPhase e (ph + 1)
      else (s.hkFinish e codes ovr).hkAdvance e

/-- A write of enable = 1 (R350): refused for a bad 3-wire entry; a start forgets lead codes, values and counts. -/
def State.hkEnable (s : State) : State :=
  if s.flag HK_CTL.enable then s
  else if (List.range (s.get HK_CTL.seq_len_m1 + 1)).any (fun e =>
      s.hkThree e && s.get (HK_SEQ_CFG.iex_a e) == s.get (HK_SEQ_CFG.iex_b e)) then s.raise Ev.hkConfigRejected 0 0
  else
    let s1 := (List.range 16).foldl (fun s e => s.clearFlag (HK_LEAD.lead_valid e)) (s.setFlag HK_CTL.enable)
    let s2 := s1.onHk (fun h => { h with count := List.replicate 16 0, fallback := List.replicate 16 false,
                                         value := List.replicate 16 none, newValue := List.replicate 16 false, breaks := [] })
    if s2.get HK_CTL.trig_src = 2 ∧ ¬ s2.hkBusy then s2.hkRound else s2

/-- A write of enable = 0 (R350). -/
def State.hkDisable (s : State) : State :=
  let s1 := (s.clearFlag HK_CTL.enable).clearFlag HK_STAT.queued
  s1.onHk (fun h => { h with stopping := h.run.isSome })

/-- A write of sw_trig = 1 (R349): a trigger where trig_src selects it. -/
def State.hkSwTrigger (s : State) : State :=
  if s.get HK_CTL.trig_src = 0 ∨ s.get HK_CTL.trig_src = 3 then s.hkTrigger else s

/-- The round timer (R349). -/
def State.hkTimer (s : State) : State := if s.get HK_CTL.trig_src = 1 then s.hkTrigger else s

/-- A compliance loss of source `x` has lasted 10 µs (R355). -/
def State.hkBreak (s : State) (x : Nat) : State :=
  let s1 := s.onHk (fun h => { h with breaks := if h.breaks.contains x then h.breaks else x :: h.breaks })
  s1.raise Ev.hkWireBreak (s.hk.lastEntry + 16 * x) 0

/-- A rising edge on SYNC_HK (R351): both filter stages start again. -/
def State.hkSync (s : State) : State :=
  if s.flag HK_CTL.sync_en then s.onHk (fun h => { h with filterAt := s.now }) else s

/-- A write of go = 1 (R359); while a calibration waits or runs only the fields are written (R10). -/
def State.hkCalStart (s : State) (e kind fs : Nat) : State :=
  let s1 := ((s.put HK_CAL_CMD.entry e).put HK_CAL_CMD.kind kind).put HK_CAL_CMD.fs_target fs
  if s.flag HK_CAL_CMD.go then s1
  else
    if s.get HK_CTL.seq_len_m1 < e then s1.raise Ev.hkConfigRejected 0 0
    else
      let s2 := ((s1.setFlag HK_CAL_CMD.go).setFlag HK_STAT.cal_busy).onHk (fun h => { h with cal := some (e, kind, fs) })
      if s2.hk.run.isNone then s2.hkCalBegin else s2

/-- Does |x| ÷ |d| lie in [1/2, 2], x and d of one sign and d not 0? -/
def gainPlausible (x d : Int) : Bool :=
  decide (0 < x * d) && decide (d.natAbs ≤ 2 * x.natAbs) && decide (x.natAbs ≤ 2 * d.natAbs)

/-- The result of a calibration whose 16 raw codes sum to `sum` (R359). The spec does not say how gain is rounded: where it does not
come out even the choice between its neighbours is free. -/
def State.hkCalDone (s : State) (sum : Int) : State :=
  match s.hk.cal, s.hk.calRuns with
  | some (e, kind, fs), true =>
    let s0 := (s.clearFlag HK_CAL_CMD.go).clearFlag HK_STAT.cal_busy
    let s1 := s0.onHk (fun h => { h with cal := none, calRuns := false })
    let bad := (s1.setFlag HK_STAT.cal_err).raiseInst Ev.hkCalRejected e
    let s2 := if kind = 0 then
        let o := roundHalfEven sum 16
        if o.natAbs ≤ 2 ^ 20 then (s1.put (HK_CAL.offset e) (toField 24 o)).raiseInst Ev.hkCalDone e else bad
      else
        let x := 16 * sx 24 fs
        let d := sum - 16 * sx 24 (s.get (HK_CAL.offset e))
        if gainPlausible x d then
          let q := x.natAbs * 2 ^ 30 / d.natAbs
          let r := s1.fresh
          if x.natAbs * 2 ^ 30 % d.natAbs = 0 then (s1.put (HK_CAL.gain e) q).raiseInst Ev.hkCalDone e
          else (r.2.put (HK_CAL.gain e) (q + r.1 % 2)).raiseInst Ev.hkCalDone e
        else bad
    s2.hkRoundRest.hkNext
  | _, _ => s

def execHkEnable (s : State) : Res := .next s.hkEnable
def execHkDisable (s : State) : Res := .next s.hkDisable
def execHkSwTrigger (s : State) : Res := .next s.hkSwTrigger
def execHkTimerTrigger (s : State) : Res := .next s.hkTimer
def execHkPhaseDone (raw : BitVec 24) (overload : Bool) (s : State) : Res := .next (s.hkPhaseDone raw.toInt overload)
def execHkWireBreak (source : Fin 4) (s : State) : Res := .next (s.hkBreak source)
def execSyncHkEdge (s : State) : Res := .next s.hkSync
def execHkCalStart (entry : Fin 16) (fullScale : Bool) (fsTarget : BitVec 24) (s : State) : Res :=
  .next (s.hkCalStart entry (bit fullScale) fsTarget.toNat)
/-- `sum` is the sum of the 16 raw codes. -/
def execHkCalDone (sum : BitVec 28) (s : State) : Res := .next (s.hkCalDone sum.toInt)

end Sys2Proof.Machine
end

