-- ==== Sys2Proof/Machine/Chimney.lean ====
section
/-! DEFINITION. The Chimney monitor (R360 to R362). -/

namespace Sys2Proof.Machine

/-- π as a fraction, to 20 decimals. -/
def piNum : Nat := 314159265358979323846
def piDen : Nat := 100000000000000000000

/-- freq_hz and amp as used, in Hz and mV (R360). -/
def State.chmFreq (s : State) : Nat := clampN 1000 20000 (s.get CHM_CTL.freq_hz)
def State.chmAmp (s : State) : Nat := 10 * clampN 10 150 (s.get CHM_CTL.amp)

/-- The denominator of D in units of `unit`⁻¹: D = ΔG ÷ (2π f ΔC) with ΔG in pS and ΔC in 0.01 fF (R360). -/
def lossDen (f : Nat) (dc : Int) : Nat := 2 * piNum * f * dc.toNat

/-- The numerator of D × `unit`. -/
def lossNum (dg : Int) (unit : Nat) : Int := dg * (unit * 100000 * piDen : Nat)

/-- The class of a measurement (R361): 0 clean, 1 water, 2 ice, 3 dirt. -/
def State.chmClass (s : State) (dc dg : Int) : Nat :=
  if dc < 100 * (s.get CHM_CFG.c_min_ff : Nat) then 0
  else if 0 < dc ∧ (s.get CHM_CFG.d_water * lossDen s.chmFreq dc : Nat) ≤ lossNum dg 16 then 1
  else if s.flag CHM_CFG.temp_en ∧
      (s.hk.latest.getD (s.get CHM_CFG.win_entry) none).elim false (fun v => decide (v ≤ 100 * sx 16 (s.get CHM_CFG.ice_temp))) then 2
  else 3

/-- An electrode's reported state becomes `c` (R361). -/
def State.chmReport (s : State) (e c : Nat) : State :=
  let s1 := { s with chm := { s.chm with cand := s.chm.cand.set e (0, 0) } }
  if s1.get (CHM_STAT.state e) = c then s1
  else ((s1.put (CHM_STAT.state e) c).setFlag CHM_STAT.change_seen).raise Ev.chimneyFilmChange (e + 16 * c) 0

/-- A class counts towards persistence (R361). -/
def State.chmPersist (s : State) (e c : Nat) : State :=
  if s.get (CHM_STAT.state e) = c then { s with chm := { s.chm with cand := s.chm.cand.set e (0, 0) } }
  else
    let old := s.chm.cand.getD e (0, 0)
    let n := if old.1 = c then old.2 + 1 else 1
    if Nat.max 1 (s.get CHM_CTL.persist) ≤ n then s.chmReport e c
    else { s with chm := { s.chm with cand := s.chm.cand.set e (c, n) } }

/-- The amplitude of drive `d`, in mV, is judged (R362). -/
def State.chmDrive (s : State) (d mv : Nat) : State :=
  let a := s.chmAmp
  let diff := ((mv : Int) - a).natAbs
  let m := s.get CHM_STAT.drive_fault
  let bad := bits m d 1 == 1
  if a < 5 * diff then
    if bad then s
    else
      let s1 := (s.put CHM_STAT.drive_fault (m + 2 ^ d)).raiseInst Ev.chimneyDriveFault d
      (List.range 4).foldl (fun s j => s.chmReport (4 * d + j) 3) s1
  else if bad ∧ 10 * diff ≤ a then s.put CHM_STAT.drive_fault (m - 2 ^ d)
  else s

/-- D goes into the register (R360): held at 65,535. The spec does not say how D is rounded, nor what a D below 0 reads as. -/
def State.chmLoss (s : State) (e : Nat) (dc dg : Int) : State :=
  if dc ≤ 0 then s
  else
    let r := s.fresh
    if dg = 0 then s.put (CHM_E_MEAS.d e) 0
    else if dg < 0 then r.2.put (CHM_E_MEAS.d e) r.1
    else r.2.put (CHM_E_MEAS.d e) (Nat.min 65535 ((lossNum dg 256).toNat / lossDen s.chmFreq dc + r.1 % 2))

/-- A measurement of electrode `e` completes (R360 to R362): C in 0.01 fF, G in pS, the amplitude of its drive in mV. -/
def State.chmMeasure (s : State) (e : Nat) (c g : Int) (mv : Nat) : State :=
  if s.flag CHM_CTL.enable then
    let m := s.get CHM_STAT.ref_cap
    let s1 := if bits m e 1 = 1 then
        ({ s with chm := { s.chm with refs := s.chm.refs.set e (c, g) } }).put CHM_STAT.ref_cap (m - 2 ^ e)
      else s
    let r := s1.chm.refs.getD e (0, 0)
    let cls := s1.chmClass (c - r.1) (g - r.2)
    let s2 := (((s1.put (CHM_E_MEAS.dc e) (toField 32 (c - r.1))).chmLoss e (c - r.1) (g - r.2)).setFlag (CHM_E_MEAS.valid e)).put
      (CHM_E_MEAS.cls e) cls
    let s3 := s2.chmDrive (e / 4) mv
    if bits (s3.get CHM_STAT.drive_fault) (e / 4) 1 = 1 then s3.chmReport e 3 else s3.chmPersist e cls
  else s

/-- A write of 1s to ref_cap (R360). -/
def State.chmRefCapture (s : State) (mask : Nat) : State := s.put CHM_STAT.ref_cap (Nat.lor (s.get CHM_STAT.ref_cap) mask)

/-- Chimney stops: every state reads clean, and no measurement is valid (R361); a drive's fault clears at a scan alone (R362). -/
def State.chmStop (s : State) : State :=
  let s1 := (List.range 8).foldl (fun s e => (s.put (CHM_STAT.state e) 0).clearFlag (CHM_E_MEAS.valid e)) s
  { s1 with chm := { s1.chm with cand := ChmSt.init.cand } }

def execChimneyMeasure (e : Fin 8) (c g : BitVec 31) (amp : BitVec 16) (s : State) : Res :=
  .next (s.chmMeasure e c.toInt g.toInt amp.toNat)
def execChimneyRefCapture (mask : BitVec 8) (s : State) : Res := .next (s.chmRefCapture mask.toNat)

end Sys2Proof.Machine
end

