-- ==== Sys2Proof/Machine/Thermal.lean ====
section
/-! DEFINITION. Thermal management (R364 to R369). -/

namespace Sys2Proof.Machine

/-- The class of a sensor (R364): 0 tile, 1 hub, 2 Snuffer, 3 emitter board. -/
def sensClass (i : Nat) : Nat := if i < 24 then 0 else if i < 32 then 1 else if i < 34 then 2 else 3

/-- The sensors of a class. -/
def classSens (k : Nat) : List Nat :=
  if k = 0 then List.range 24 else if k = 1 then (List.range 8).map (· + 24) else if k = 2 then [32, 33] else [34, 35, 36, 37]

/-- The neighbours of a sensor (R368); external slots that are not enabled have no sample. -/
def sensNeighbours (i : Nat) : List Nat :=
  let all := if i < 24 then (List.range 4).map (· + 4 * (i / 4))
    else if i < 32 then classSens 1
    else if i < 34 then classSens 2 ++ classSens 1
    else classSens 3
  all.filter (fun j => !(j == i))

def State.suspect (s : State) (i : Nat) : Bool := s.flag (THM_SENS.suspect i)

/-- The sample of an external slot (R365, R353): the latest valid value of its entry, where one has loaded since the last round. -/
def State.extSample (s : State) (x : Nat) : Option Int :=
  let e := s.get (THM_EXT_CFG.entry x)
  if bits (s.get THM_CTL.ext_en) x 1 = 1 ∧ s.hk.newValue.getD e false then (s.hk.value.getD e none).map (fun v => Int.fdiv v 100)
  else none

/-- The samples of a round, by sensor (R365): `die` holds the readings of the on-die sensors. -/
def State.roundSamples (s : State) (die : List (BitVec 16)) : List (Option Int) :=
  ((List.range 34).map (fun i => (die[i]?).elim none (fun v => dieSample v.toInt))) ++ (List.range 4).map (fun x => s.extSample x)

def State.sens (s : State) (i : Nat) : ThmSens := s.thm.sens.getD i ThmSens.init
def State.setSens (s : State) (i : Nat) (x : ThmSens) : State := { s with thm := { s.thm with sens := s.thm.sens.set i x } }

/-- The info of a thermal event (R377). -/
def thmInfo (i : Nat) : Nat := i + 256 * sensClass i

/-- The register shows a sample. -/
def State.sensShow (s : State) (i : Nat) (t : Option Int) : State :=
  match t with
  | none => s.clearFlag (THM_SENS.valid i)
  | some v => (s.put (THM_SENS.temp i) (toField 16 v)).setFlag (THM_SENS.valid i)

/-- The neighbour cross-check of one sensor, on the marks `marked` of before the round (R368). -/
def State.crossCheck (s : State) (l : List (Option Int)) (marked : List Nat) (i : Nat) : State :=
  match l.getD i none with
  | none => s
  | some v =>
    let near := (sensNeighbours i).filterMap (fun j => if marked.contains j then none else l.getD j none)
    if near.length < 2 then s
    else
      let d := (2 * v - median2 near).natAbs
      let x := s.sens i
      let x1 := { x with far := if 160 < d then x.far + 1 else 0, near := if d ≤ 120 then x.near + 1 else 0 }
      if s.suspect i then
        if 16 ≤ x1.near then
          ((s.setSens i { x1 with far := 0, near := 0 }).clearFlag (THM_SENS.suspect i)).raise Ev.thmSensorRestored (thmInfo i) 0
        else s.setSens i x1
      else if 3 ≤ x1.far then
        (((s.setSens i { x1 with far := 0, near := 0 }).setFlag (THM_SENS.suspect i)).setFlag THM_STAT.suspect_seen).raise
          Ev.thmSensorSuspect (thmInfo i) 0
      else s.setSens i x1

/-- A threshold of a class in 0.1 °C: 0 warning, 1 throttle, 2 shutdown (R366). -/
def State.thmThr (s : State) (k j : Nat) : Int :=
  sx 16 (s.get (if j = 0 then THM_CLS_THR.warn k else if j = 1 then THM_CLS_THR.throttle k else THM_CLS_THR.shutdown k))

/-- One state of a sensor after a sample: its run at or above the threshold, and whether it is held (R366). -/
def State.thmHold (s : State) (k j run : Nat) (held : Bool) (v : Int) : Nat × Bool :=
  let thr := s.thmThr k j
  let n := if thr ≤ v then Nat.min 3 (run + 1) else 0
  (n, if held then !decide (v < thr - s.get (THM_CLS_THR.hyst k)) else decide (3 ≤ n))

/-- A mask as its highest bit's number plus 1: the code of a state. -/
def heldCode (m : Nat) : Nat := if bits m 2 1 = 1 then 3 else if bits m 1 1 = 1 then 2 else if bits m 0 1 = 1 then 1 else 0

/-- Snuffer sensor `j` holds no shutdown of its own (R366). -/
def State.snfDrop (s : State) (j : Nat) : State :=
  { s with thm := { s.thm with snfRuns := s.thm.snfRuns.set j 0, snfHeld := s.thm.snfHeld.set j false } }

/-- The states of one sensor (R366): a suspect sensor, and a slot that is not enabled, hold none; a suspect Snuffer sensor gives up what
Snuffer holds of it too. -/
def State.sensStates (s : State) (l : List (Option Int)) (i : Nat) : State :=
  let x := s.sens i
  let off := s.suspect i || (decide (34 ≤ i) && bits (s.get THM_CTL.ext_en) (i - 34) 1 == 0)
  if off then ((s.when (decide (32 ≤ i ∧ i < 34)) (fun s => s.snfDrop (i - 32))).setSens i { x with runs := [0, 0, 0], held := 0 }).put
    (THM_SENS.state i) 0
  else
    match l.getD i none with
    | none => s
    | some v =>
      let r := (List.range 3).map (fun j => s.thmHold (sensClass i) j (x.runs.getD j 0) (bits x.held j 1 == 1) v)
      let held := ofBits (r.map (fun p => p.2))
      (s.setSens i { x with runs := r.map (fun p => p.1), held := held }).put (THM_SENS.state i) (heldCode held)

/-- The first sensor of a class that holds state `j`. -/
def State.holder (s : State) (k j : Nat) : Option Nat := (classSens k).find? (fun i => bits (s.sens i).held j 1 == 1)

/-- One state of a class follows its sensors (R366, R367): `s0` is the state before the round. -/
def State.classState (s s0 : State) (k j : Nat) : State :=
  match s0.holder k j, s.holder k j with
  | none, some i =>
    if j = 0 then s.raise Ev.thmWarning (thmInfo i) 0
    else if j = 1 then s.raise Ev.thmThrottle (thmInfo i) 0
    else if k = 2 then s
    else (s.raise Ev.thmShutdown (thmInfo i) 0).safetyFault 0x0C k
  | some i, none =>
    if j = 0 then s.raise Ev.thmWarningCleared (thmInfo i) 0
    else if j = 1 then s.raise Ev.thmThrottleCleared (thmInfo i) 0
    else s
  | _, _ => s

/-- The class's register field. -/
def State.classShow (s : State) (k : Nat) : State :=
  s.put (THM_STAT.state k) (heldCode (ofBits ((List.range 3).map (fun j => (s.holder k j).isSome))))

/-- The memory controller's limit follows the throttle of the tile and hub classes (R367). -/
def State.memThrottle (s : State) : State :=
  let on := (s.holder 0 1).isSome || (s.holder 1 1).isSome
  let was := s.flag THM_STAT.mem_throttle
  if on = was then s
  else
    let s1 := s.put THM_STAT.mem_throttle (bit on)
    let s2 := if s1.mem.target = some 0 ∧ on then
        (({ s1 with mem := { s1.mem with target := none } }).clearFlag MEM_FREQ_CTL.req).clearFlag MEM_FREQ_CTL.deferred
      else s1
    if on ∧ s2.mem.target.isSome then s2
    else if on ∧ 0 < s2.get MEM_FREQ_CTL.cur_sp then s2
    else s2.freqReq (s2.get MEM_FREQ_CTL.target_sp)

/-- The hub temperature that the hub's code-density tables use: the median of the hub sensors not marked suspect. -/
def State.hubMedian (s : State) (l : List (Option Int)) : State :=
  let v := (classSens 1).filterMap (fun i => if s.suspect i then none else l.getD i none)
  if v.isEmpty then s else { s with time := { s.time with hubTemp := roundHalfEven (median2 v) 2 } }

/-- The thermal round (R365 to R368). -/
def State.thermalRound (s : State) (die : List (BitVec 16)) : State :=
  let l := s.roundSamples die
  let ids := List.range 38
  let marked := ids.filter (fun i => s.suspect i)
  let s1 := ids.foldl (fun (s : State) i => s.sensShow i (l.getD i none)) s
  let s2 := ids.foldl (fun (s : State) i => s.crossCheck l marked i) s1
  let s3 := ids.foldl (fun (s : State) i => s.sensStates l i) s2
  let s4 := (List.range 4).foldl (fun (s : State) k => s.classShow k) s3
  let s5 := (s4.onHk (fun h => { h with newValue := List.replicate 16 false })).hubMedian l
  (List.range 12).foldl (fun (t : State) n => t.classState s (n / 3) (n % 3)) s5.memThrottle

/-- A sensor is usable: its last sample was not absent and it is not suspect (R366). -/
def State.sensUsable (s : State) (i : Nat) : Bool := s.flag (THM_SENS.valid i) && !s.suspect i

/-- A class other than the emitter board has had no usable sensor for 1 s (R366). -/
def State.classStale (s : State) (k : Nat) : State :=
  if k < 3 ∧ (classSens k).all (fun i => !s.sensUsable i) then s.safetyFault 0x0C (0x80 + k) else s

/-- Snuffer's NVM write window (R369): `v` is twice the Snuffer temperature, none while no Snuffer sensor is usable. -/
def State.nvmWindow (s : State) (v : Option Int) : State :=
  let was := s.flag THM_STAT.nvm_inhibit
  let start := fun (s : State) => if was then s else (s.setFlag THM_STAT.nvm_inhibit).raise Ev.thmNvmInhibit (thmInfo 32) 0
  match v with
  | none => start s
  | some t =>
    let out := decide (t < 0) || decide (1700 < t)
    let run := if out then Nat.min 3 (s.thm.nvmRun + 1) else 0
    let taken := Nat.min 3 (s.thm.nvmTaken + 1)
    let s1 := { s with thm := { s.thm with nvmRun := run, nvmTaken := taken } }
    if 3 ≤ run then start s1
    else if was ∧ 3 ≤ taken ∧ 40 ≤ t ∧ t ≤ 1660 then s1.clearFlag THM_STAT.nvm_inhibit
    else s1

/-- Shutdown of one Snuffer sensor, from Snuffer's own samples (R366, R367). -/
def State.snfShutdown (s : State) (j : Nat) (v : Option Int) : State :=
  if s.suspect (32 + j) then s.snfDrop j
  else
    match v with
    | none => s
    | some t =>
      let was := s.thm.snfHeld.any (fun b => b)
      let r := s.thmHold 2 2 (s.thm.snfRuns.getD j 0) (s.thm.snfHeld.getD j false) t
      let s1 := { s with thm := { s.thm with snfRuns := s.thm.snfRuns.set j r.1, snfHeld := s.thm.snfHeld.set j r.2 } }
      if r.2 && !was then (s1.raise Ev.thmShutdown (thmInfo (32 + j)) 0).safetyFault 0x0C 2 else s1

/-- Snuffer samples its two sensors (R367, R369). -/
def State.snufferTemp (s : State) (a b : Int) : State :=
  if s.snf.powered then
    let l := [dieSample a, dieSample b]
    let ok := (List.range 2).filterMap (fun j => if s.suspect (32 + j) then none else l.getD j none)
    let s1 := s.nvmWindow (if ok.isEmpty then none else some (median2 ok))
    (s1.snfShutdown 0 (dieSample a)).snfShutdown 1 (dieSample b)
  else s

/-- `die` holds the readings of sensors 0 to 33 in 0.1 °C. -/
def execThermalRound (die : List (BitVec 16)) (s : State) : Res := .next (s.thermalRound die)
def execThermalClassStale (k : Fin 4) (s : State) : Res := .next (s.classStale k)
def execSnufferTempSample (a b : BitVec 16) (s : State) : Res := .next (s.snufferTemp a.toInt b.toInt)

end Sys2Proof.Machine
end

