-- ==== Sys2Proof/Machine/Ctl.lean ====
section
/-! DEFINITION. The control engine (R370 to R376). Arithmetic is binary32, each operation rounded once, sums and products taken from
left to right as the formulas of R372 are written. -/

namespace Sys2Proof.Machine

def State.loop (s : State) (n : Nat) : LoopSt := s.loops.getD n LoopSt.init
def State.setLoop (s : State) (n : Nat) (x : LoopSt) : State := { s with loops := s.loops.set n x }

/-- A parameter in effect (R375). -/
def State.par (s : State) (n k : Nat) : Flt := ofF32 ((s.loop n).pars.getD k 0)

/-- A binary32 result goes into a field; the bits of one that is not a number are free. -/
def State.putF (s : State) (f : FRef) (x : Flt) : State :=
  if x.isNan then let r := s.fresh; r.2.put f (toF32 r.1 x) else s.put f (toF32 0 x)

/-- The sample period in seconds (R370). -/
def State.loopTs (s : State) (n : Nat) : Flt := f32.ofQuot (s.get (CTL_LOOP_CFG.rate_div n) + 1 : Nat) 50000

/-- Has no position sample come for gap_max_us (R64, R376)? -/
def State.posGap (s : State) : Bool :=
  match s.fire.samples with
  | [] => true
  | p :: _ => decide (Nat.max 1 (s.get FIRE_MIRROR_CFG.gap_max_us) * usUnits < timeDiff s.now p.time)

/-- The input of a loop, none while it is invalid (R370, R376); `mirror` is the mirror speed or amplitude that the engine measures. -/
def State.loopInput (s : State) (n : Nat) (mirror : Nat) : Option Flt :=
  let i := s.get (CTL_LOOP_CFG.in_idx n)
  let src := s.get (CTL_LOOP_CFG.in_src n)
  if src = 0 then
    if i < 16 ∧ s.flag (HK_RES.valid i) then some (f32.ofInt (sx 32 (s.get (HK_RES.value i)))) else none
  else if src = 1 then
    if s.sensUsable i then some (f32.ofQuot (sx 16 (s.get (THM_SENS.temp i))) 10) else none
  else if src = 5 then some (ofF32 (s.get (CTL_LOOP_STAT.val (i % 8) 2)))
  else if s.posGap then none
  else if src = 3 then some (f32.ofQuot (sx 24 (s.get FIRE_MIRROR_STAT.phase_err)) 100)
  else some (ofF32 mirror)

/-- A loop that drives a mirror DAC while the device does not hold MIR_OWN is in track mode (R371). -/
def State.loopTracks (s : State) (n : Nat) : Bool :=
  ((s.loop n).claimed == some 4 || (s.loop n).claimed == some 5) && !s.flag TWN_OWN_CTL.owner

/-- An output value in units of its actuator's resolution, rounded half-to-even (R372), if it lies within `lo` and `hi`. -/
def actuatorUnits (u : Flt) (scale : Nat) (lo hi : Int) : Option Int :=
  match u with
  | .fin n m e =>
    match (Flt.fin n (m * scale) e).toInt with
    | some v => if lo ≤ v ∧ v ≤ hi then some v else none
    | none => none
  | _ => none

/-- The output drives its actuator (R370, R371). The spec does not say what an output outside the actuator's range gives: a free
value within the range. -/
def State.loopDrive (s : State) (n : Nat) (u : Flt) : State :=
  match (s.loop n).claimed with
  | none => s
  | some o =>
    if 6 ≤ o then
      let c := s.get (CTL_LOOP_CFG.cas_loop n)
      let x := s.loop c
      s.setLoop c { x with pars := x.pars.set 0 (toF32 0 u) }
    else if s.loopTracks n then s
    else
      let pwm := decide (o < 4)
      match (if pwm then actuatorUnits u 8000 0 8000 else actuatorUnits u 131072 (-131072) 131072) with
      | some v => s.emit (.actuate o v)
      | none => let r := s.fresh; r.2.emit (.actuate o (if pwm then (r.1 % 8001 : Nat) else ((r.1 % 262145 : Nat) : Int) - 131072))

/-- The working set point at this sample (R374). -/
def State.loopWsp (s : State) (n : Nat) (pv : Flt) : Flt :=
  let sp := s.par n 0
  let ramp := s.par n 8
  let cur := ofF32 (s.get (CTL_LOOP_STAT.val n 1))
  if ramp.le (f32.ofInt 0) && (f32.ofInt 0).le ramp then sp
  else if (s.loop n).restart then pv
  else
    let d := f32.mul ramp (s.loopTs n)
    let gap := f32.sub sp cur
    let up := (f32.ofInt 0).le gap
    let dist := if up then gap else gap.neg
    if dist.le d then sp else if up then f32.add cur d else f32.sub cur d

/-- `x` held to [lo, hi]. -/
def clampF (lo hi x : Flt) : Flt := if x.lt lo then lo else if hi.lt x then hi else x

/-- The parameters of a commit take effect at this sample (R375). -/
def State.loopApply (s : State) (n : Nat) : State :=
  let x := s.loop n
  match x.commit with
  | none => s
  | some p =>
    let s1 := (s.setLoop n { x with pars := p, commit := none, preset := true }).clearFlag (CTL_LOOP_CFG.commit n)
    { s1 with twn := { s1.twn with epoch := (s1.twn.epoch + 1) % 2 ^ 32 } }

/-- The derivative state D of this sample (R372). -/
def State.loopDeriv (s : State) (n : Nat) (pv : Flt) : Flt :=
  let a := s.par n 4
  let old := ((s.loop n).pvPrev.map ofF32).getD pv
  let k := f32.mul (f32.mul (f32.sub (f32.ofInt 1) a) (s.par n 3)) (f32.sub pv old)
  f32.sub (f32.mul a (ofF32 (s.loop n).deriv)) (f32.div k (s.loopTs n))

/-- The integrator and the output of the PID law at this sample: I, u, and whether a preset was clamped (R372, R373). -/
def State.loopPid (s : State) (n : Nat) (e d : Flt) : Flt × Flt × Bool :=
  let lo := s.par n 5
  let hi := s.par n 6
  let p := f32.mul (s.par n 1) e
  let i0 := ofF32 (s.get (CTL_LOOP_STAT.val n 3))
  if (s.loop n).preset then
    let want := f32.sub (f32.sub (ofF32 (s.get (CTL_LOOP_STAT.val n 2))) p) d
    let i := clampF lo hi want
    (i, clampF lo hi (f32.add (f32.add p i) d), want.lt lo || hi.lt want)
  else
    let i := f32.add i0 (f32.mul (f32.mul (s.par n 2) (s.loopTs n)) e)
    let u := f32.add (f32.add p i) d
    let zero := f32.ofInt 0
    if (hi.lt u && zero.lt e) || (u.lt lo && e.lt zero) then (i0, clampF lo hi (f32.add (f32.add p i0) d), false)
    else (i, clampF lo hi u, false)

/-- The output of the hysteretic law (R372). -/
def State.loopHyst (s : State) (n : Nat) (e : Flt) : Flt :=
  let band := s.par n 7
  if band.le e then s.par n 6 else if e.le band.neg then s.par n 5 else ofF32 (s.get (CTL_LOOP_STAT.val n 2))

/-- Has the working set point of loop `n`, which moves by a ramp, a way to go that the next sample may end (R374)? -/
def State.loopRampShort (s : State) (n : Nat) : Bool :=
  let cur := ofF32 (s.get (CTL_LOOP_STAT.val n 1))
  let zero := f32.ofInt 0
  !((s.par n 8).le zero && zero.le (s.par n 8)) && !(cur.le (s.par n 0) && (s.par n 0).le cur)

/-- A valid sample (R372 to R374). -/
def State.loopValid (s : State) (n : Nat) (pv : Flt) : State :=
  let wsp := s.loopWsp n pv
  let e := f32.sub wsp pv
  let was := s.flag (CTL_LOOP_CFG.ramping n)
  let ramping := !(wsp.le (s.par n 0) && (s.par n 0).le wsp)
  let s1 := ((s.putF (CTL_LOOP_STAT.val n 0) pv).putF (CTL_LOOP_STAT.val n 1) wsp).put (CTL_LOOP_CFG.ramping n) (bit ramping)
  let s2 := s1.raiseIf (!ramping && (was || s.loopRampShort n)) Ev.loopRampDone n
  let x := { s2.loop n with pvPrev := some (toF32 0 pv), restart := false }
  if s.flag (CTL_LOOP_CFG.auto n) then
    if s.flag (CTL_LOOP_CFG.law n) then
      let d := s.loopDeriv n pv
      let r := s.loopPid n e d
      let s3 := ((s2.setLoop n { x with deriv := toF32 0 d, preset := false }).putF (CTL_LOOP_STAT.val n 3) r.1).putF
        (CTL_LOOP_STAT.val n 2) r.2.1
      let s4 := if r.2.2 then (s3.setFlag (CTL_LOOP_CFG.windup n)).raiseInst Ev.loopWindup n else s3
      s4.loopDrive n r.2.1
    else
      let u := s.loopHyst n e
      ((s2.setLoop n { x with preset := false }).putF (CTL_LOOP_STAT.val n 2) u).loopDrive n u
  else
    let u := s.par n 9
    ((s2.setLoop n x).putF (CTL_LOOP_STAT.val n 2) u).loopDrive n u

/-- A sample without a valid input (R376). -/
def State.loopMissing (s : State) (n : Nat) (was : Bool) : State :=
  let u := s.par n 10
  let s1 := (s.setFlag (CTL_LOOP_CFG.in_invalid n)).raiseIf (!was) Ev.loopInputInvalid n
  ((s1.setLoop n { s1.loop n with pvPrev := none }).putF (CTL_LOOP_STAT.val n 2) u).loopDrive n u

/-- A sample with the input `pv`: the first after an invalid one presets the integrator (R376, R373). -/
def State.loopFresh (s : State) (n : Nat) (was : Bool) (pv : Flt) : State :=
  (if was then (s.setLoop n { s.loop n with preset := true }).clearFlag (CTL_LOOP_CFG.in_invalid n) else s).loopValid n pv

/-- The input of a sample is taken. -/
def State.loopTake (s : State) (n : Nat) (mirror : Nat) : State :=
  match s.loopInput n mirror with
  | some pv => s.loopFresh n (s.flag (CTL_LOOP_CFG.in_invalid n)) pv
  | none => s.loopMissing n (s.flag (CTL_LOOP_CFG.in_invalid n))

/-- A loop samples its input (R370 to R376). -/
def State.loopSample (s0 : State) (n : Nat) (mirror : Nat) : State :=
  if s0.flag (CTL_LOOP_CFG.enable n) then
    ((s0.loopApply n).put (CTL_LOOP_CFG.tracking n) (bit (s0.loopTracks n))).loopTake n mirror
  else s0

/-- The loops that loop `a` feeds: by a cascade output, or as an input 5 (R370). -/
def State.loopFeeds (s : State) (a : Nat) : List Nat :=
  (List.range 8).filter (fun m =>
    (decide (6 ≤ ((s.loop a).claimed.getD 0)) && s.get (CTL_LOOP_CFG.cas_loop a) == m) ||
    (s.get (CTL_LOOP_CFG.in_src m) == 5 && s.get (CTL_LOOP_CFG.in_idx m) % 8 == a && s.flag (CTL_LOOP_CFG.enable m)))

/-- Does loop `a` feed loop `b`, through at most `k` loops? -/
def State.loopReaches (s : State) (b : Nat) : Nat → Nat → Bool
  | 0, a => a == b
  | k + 1, a => a == b || (s.loopFeeds a).any (fun m => s.loopReaches b k m)

/-- May loop `n` be enabled with its source and cascade (R370, R371)? -/
def State.loopConfigOk (s : State) (n : Nat) : Bool :=
  let src := s.get (CTL_LOOP_CFG.in_src n)
  let c := s.get (CTL_LOOP_CFG.cas_loop n)
  decide (src < 6) && !(decide (6 ≤ s.get (CTL_LOOP_CFG.out n)) &&
    (s.loopReaches n 8 c || (src == 5 && s.loopReaches (s.get (CTL_LOOP_CFG.in_idx n) % 8) 8 c)))

/-- Does an enabled loop cascade into one that feeds it (R371)? -/
def State.loopCycle (s : State) : Bool :=
  (List.range 8).any (fun a => s.flag (CTL_LOOP_CFG.enable a) && decide (6 ≤ s.get (CTL_LOOP_CFG.out a)) &&
    s.loopReaches a 8 (s.get (CTL_LOOP_CFG.cas_loop a)))

/-- Enabled loop `n` with output `o`, as a cascade sees it. -/
def State.loopWith (s : State) (n o : Nat) : State :=
  (s.setLoop n { s.loop n with claimed := some o }).put (CTL_LOOP_CFG.out n) o

/-- A write of a loop's enable (R371, R409). -/
def State.loopEnable (s : State) (n : Nat) (on : Bool) : State :=
  let x := s.loop n
  if on then
    if s.flag (CTL_LOOP_CFG.enable n) then s
    else if s.loopConfigOk n then
      let o := s.get (CTL_LOOP_CFG.out n)
      let s1 := s.claim (10 + o) (0x10 + n) 0
      if s1.holds (10 + o) (0x10 + n) then
        (s1.setLoop n { x with claimed := some o, deriv := 0, pvPrev := none, preset := true, restart := true }).setFlag
          (CTL_LOOP_CFG.enable n)
      else s1
    else s.raiseInst Ev.loopConfigRejected n
  else
    let s1 := match x.claimed with
      | some o => s.unclaim (10 + o) (0x10 + n)
      | none => s
    (((s1.setLoop n { x with claimed := none }).clearFlag (CTL_LOOP_CFG.enable n)).clearFlag (CTL_LOOP_CFG.in_invalid n)).clearFlag
      (CTL_LOOP_CFG.tracking n) |>.clearFlag (CTL_LOOP_CFG.ramping n)

/-- A write of auto (R373, R374): a change to auto presets the integrator and starts the ramp from pv. -/
def State.loopAuto (s : State) (n : Nat) (on : Bool) : State :=
  let s1 := s.put (CTL_LOOP_CFG.auto n) (bit on)
  if on && !s.flag (CTL_LOOP_CFG.auto n) then s1.setLoop n { s1.loop n with preset := true, restart := true } else s1

/-- May the shadow parameters of a loop be committed (R375)? -/
def State.loopParsOk (s : State) (n : Nat) : Bool :=
  let p := fun (k : Nat) => ofF32 (s.get (CTL_LOOP_PAR.par n k))
  let o := s.get (CTL_LOOP_CFG.out n)
  let fits := fun (x : Flt) =>
    if o < 4 then (f32.ofInt 0).le x && x.le (f32.ofInt 1)
    else if o < 6 then (f32.ofInt (-1)).le x && x.le (f32.ofInt 1)
    else true
  (List.range 12).all (fun k => (p k).isFinite) && (p 5).lt (p 6) && fits (p 5) && fits (p 6)

/-- A write of commit = 1 (R375). -/
def State.loopCommit (s : State) (n : Nat) : State :=
  if s.loopParsOk n then
    (s.setLoop n { s.loop n with commit := some ((List.range 12).map (fun k => s.get (CTL_LOOP_PAR.par n k))) }).setFlag
      (CTL_LOOP_CFG.commit n)
  else s.raiseInst Ev.loopConfigRejected n

/-- The output has been pinned at a limit for 1 s (R376). -/
def State.loopSaturated (s : State) (n : Nat) : State :=
  let u := ofF32 (s.get (CTL_LOOP_STAT.val n 2))
  s.raiseIf (s.flag (CTL_LOOP_CFG.enable n) && (u.le (s.par n 5) || (s.par n 6).le u)) Ev.loopSaturated n

/-- |e| has been above dev_alarm for 1 s (R376). -/
def State.loopDeviation (s : State) (n : Nat) : State :=
  let e := f32.sub (ofF32 (s.get (CTL_LOOP_STAT.val n 1))) (ofF32 (s.get (CTL_LOOP_STAT.val n 0)))
  let a := s.par n 11
  let zero := f32.ofInt 0
  s.raiseIf (s.flag (CTL_LOOP_CFG.enable n) && !(a.le zero && zero.le a) && (a.lt e || a.lt e.neg)) Ev.loopDeviation n

def execLoopEnable (n : Fin 8) (on : Bool) (s : State) : Res := .next (s.loopEnable n on)
/-- `mirror` is the measured mirror speed or amplitude, a binary32 word. -/
def execLoopSample (n : Fin 8) (mirror : Word32) (s : State) : Res := .next (s.loopSample n mirror.toNat)
def execLoopAutoSwitch (n : Fin 8) (s : State) : Res := .next (s.loopAuto n true)
def execLoopCommit (n : Fin 8) (s : State) : Res := .next (s.loopCommit n)
def execLoopSaturated (n : Fin 8) (s : State) : Res := .next (s.loopSaturated n)
def execLoopDeviation (n : Fin 8) (s : State) : Res := .next (s.loopDeviation n)

end Sys2Proof.Machine
end

