-- ==== Sys2Proof/Machine/Eth.lean ====
section
/-! DEFINITION. Ethernet ports, scheduled traffic, policing, redundancy, gPTP and point export (R253 to R268). -/

namespace Sys2Proof.Machine

def State.ethPort (s : State) (p : Nat) : EthPort := s.eth.ports.getD p EthPort.init
def State.setEthPort (s : State) (p : Nat) (x : EthPort) : State := { s with eth := { s.eth with ports := s.eth.ports.set p x } }

/-- Does a mode run a PHY (R253)? -/
def ethModeOn (m : Nat) : Bool := decide (1 ≤ m ∧ m ≤ 4)

/-- An effect at port `p`: none while its domain is off or isolated (R39). -/
def State.atPort (s : State) (p : Nat) (f : State → State) : State := if s.isOff (.eth (Fin.ofNat 4 p)) then s else f s

/-- The port rate in Mb/s (R253), of the mode that the lane runs (R255). -/
def State.ethRate (s : State) (p : Nat) : Nat :=
  let m := (s.ethPort p).live
  if m = 1 ∨ m = 2 then 100000 else if m = 3 then 25000 else 10000

/-- Does the port use FEC (R253): always at 100 Gb/s, as fec says at 25 Gb/s, BASE-R only at 10 Gb/s? -/
def State.fecOn (s : State) (p : Nat) : Bool :=
  let m := (s.ethPort p).live
  let f := s.get (ETH_P_CFG.fec p)
  decide (m = 1 ∨ m = 2 ∨ (m = 3 ∧ (f = 1 ∨ f = 2)) ∨ (m = 4 ∧ f = 1))

/-- The port's link goes down (R254, R256). -/
def State.ethDown (s : State) (p : Nat) : State :=
  if s.flag (ETH_P_STAT.link p) then
    ((s.clearFlag (ETH_P_STAT.link p)).setFlag (ETH_P_STAT.down_seen p)).raiseInst Ev.ethLinkDown p
  else s

/-- The port trains in its configured mode, from that mode's stored equaliser set point (R254, R255). -/
def State.ethTrain (s : State) (p : Nat) : State :=
  let m := s.get (ETH_P_CFG.mode p)
  let x := s.ethPort p
  (s.put (ETH_P_STAT.training p) (bit (ethModeOn m))).setEthPort p { x with live := m, eqNow := x.eqStored.getD m 0 }

/-- What waits at the port is applied, and the port trains in the mode of the register: the training is also that of a retrain that waits
or has been going on (R255, R256). -/
def State.ethApply (s : State) (p : Nat) (re : Bool) : State :=
  let s1 := ((s.ethDown p).clearFlag (ETH_P_STAT.deferred p)).clearFlag (ETH_P_CFG.retrain p)
  let x := s1.ethPort p
  (s1.setEthPort p { x with defMode := false, defRetrain := false, retraining := x.retraining || x.defRetrain || re }).ethTrain p

/-- The mode in the register is applied (R254). -/
def State.ethModeApply (s : State) (p : Nat) : State := s.ethApply p false

/-- The port retrains (R256). -/
def State.ethRetrainApply (s : State) (p : Nat) : State := s.ethApply p true

/-- A write of mode (R254); inside an adaptation step, which a deferred request shows too, it waits (R255). -/
def State.ethModeWrite (s : State) (p m : Nat) (inStep : Bool) : State :=
  let s1 := s.put (ETH_P_CFG.mode p) m
  if s1.flag (ETH_P_STAT.link p) && (inStep || s1.flag (ETH_P_STAT.deferred p)) then
    (s1.setEthPort p { s1.ethPort p with defMode := true }).setFlag (ETH_P_STAT.deferred p)
  else s1.ethModeApply p

/-- A write of retrain = 1 (R255, R256). -/
def State.ethRetrainWrite (s : State) (p : Nat) (inStep : Bool) : State :=
  let s1 := s.setFlag (ETH_P_CFG.retrain p)
  if ethModeOn (s.get (ETH_P_CFG.mode p)) then
    if s1.flag (ETH_P_STAT.link p) && (inStep || s1.flag (ETH_P_STAT.deferred p)) then
      (s1.setEthPort p { s1.ethPort p with defRetrain := true }).setFlag (ETH_P_STAT.deferred p)
    else s1.ethRetrainApply p
  else s.clearFlag (ETH_P_CFG.retrain p)

/-- A lane's adaptation step ends (R255): the set point of its mode is stored anew, and a deferred change or retrain begins. -/
def State.eqStepEnd (s : State) (p : Nat) : State :=
  let (v, s1) := s.fresh
  let x := s1.ethPort p
  let s2 := if s1.flag (ETH_P_STAT.link p) then s1.setEthPort p { x with eqNow := v, eqStored := x.eqStored.set x.live v } else s1
  if x.defMode then s2.ethModeApply p else if x.defRetrain then s2.ethRetrainApply p else s2

/-- Twin lane `l` stops carrying blocks (R324): the last one takes the link down. -/
def State.twinLaneDown (s : State) (l : Nat) : State :=
  let m := s.get TWN_STAT.lanes_up
  if bits m l 1 = 1 then
    let s1 := s.put TWN_STAT.lanes_up (m - 2 ^ l)
    if s1.get TWN_STAT.lanes_up = 0 then (s1.clearFlag TWN_STAT.link_up).raise Ev.twinLinkDown 0 0 else s1
  else s

/-- Twin lane `l` retrains from its stored set point (R335). -/
def State.twinRetrain (s : State) (l : Nat) : State :=
  let s1 := { s with twn := { s.twn with laneTrain := s.twn.laneTrain.set l true, laneDef := s.twn.laneDef.set l false,
                                         eqNow := s.twn.eqNow.set l (s.twn.eqStored.getD l 0), laneFails := s.twn.laneFails.set l 0 } }
  (s1.put TWN_STAT.deferred (bit (s1.twn.laneDef.any (fun b => b)))).twinLaneDown l

/-- A retrain of a twin lane is asked for (R335): inside an adaptation step it waits. -/
def State.twinRetrainReq (s : State) (l : Nat) (write inStep : Bool) : State :=
  let s1 := if write then s.put TWN_CTL.retrain (Nat.lor (s.get TWN_CTL.retrain) (2 ^ l)) else s
  if inStep then
    ({ s1 with twn := { s1.twn with laneDef := s1.twn.laneDef.set l true } }).setFlag TWN_STAT.deferred
  else s1.twinRetrain l

/-- A twin lane's adaptation step ends: the lane's set point is stored anew, and a retrain that waits begins (R335). -/
def State.twinStepEnd (s : State) (l : Nat) : State :=
  let (v, s1) := s.fresh
  let s2 := { s1 with twn := { s1.twn with eqNow := s1.twn.eqNow.set l v, eqStored := s1.twn.eqStored.set l v } }
  if s.twn.laneDef.getD l false then s2.twinRetrain l else s2

/-- A port's link comes up (R254, R256). -/
def State.ethUp (s : State) (p : Nat) : State :=
  if s.flag (ETH_P_STAT.training p) then
    let s1 := ((s.clearFlag (ETH_P_STAT.training p)).setFlag (ETH_P_STAT.link p)).raiseInst Ev.ethLinkUp p
    let re := (s.ethPort p).retraining
    (s1.setEthPort p { s1.ethPort p with retraining := false }).raiseIf re Ev.ethRetrainDone p
  else s

/-- A port's link is lost: it trains again in its mode (R254), and what waited for an adaptation step waits no longer (R255). -/
def State.ethLost (s : State) (p : Nat) : State := if s.flag (ETH_P_STAT.link p) then s.ethApply p false else s

/-- An uncorrectable FEC codeword at a port that uses FEC (R253, R277): the event at most once per second. -/
def State.fecBad (s : State) (p : Nat) : State :=
  if !s.fecOn p then s else
  let s1 := (s.bump (ETH_P_CNT.fec_uncorr p)).setFlag (ETH_P_STAT.fec_seen p)
  let x := s1.ethPort p
  if dueAgain x.fecAt s1.now (1000 * oneMs) then
    (s1.setEthPort p { x with fecAt := some s1.now }).raiseInst Ev.ethFecUncorrectable p
  else s1

/-! Scheduled traffic (R260 to R262). -/

/-- Units of device time in 1 ns. -/
def nsU : Nat := 65536

/-- The entries of a list within one cycle: cut at its end, the last one holding until then (R260). -/
def cutSpans : Nat → List (Nat × Nat) → List (Nat × Nat)
  | _, [] => []
  | r, [(g, _)] => [(g, r)]
  | r, (g, d) :: t => if r ≤ d then [(g, r)] else (g, d) :: cutSpans (r - d) t

/-- The operative list as (gates, ns). -/
def State.gateSpans (s : State) (p : Nat) : List (Nat × Nat) :=
  let l := s.get (ETH_P_GATE_CTL.oper_list p)
  let x := s.ethPort p
  cutSpans x.operCycle ((List.range x.operLen).map (fun i => (s.get (ETH_P_GCL.gates p l i), s.get (ETH_P_GCL.interval_ns p l i))))

/-- The gates of port `p` now (R260). -/
def State.gatesNow (s : State) (p : Nat) : Nat :=
  if s.flag (ETH_P_GATE_CTL.gate_en p) then
    s.get (ETH_P_GCL.gates p (s.get (ETH_P_GATE_CTL.oper_list p)) (s.ethPort p).entry)
  else 255

/-- How long queue `q` stays open through these spans. -/
def openRun (q : Nat) : List (Nat × Nat) → Nat
  | [] => 0
  | (g, d) :: t => if bits g q 1 = 1 then d + openRun q t else 0

/-- The longest open interval of queue `q` in spans, with the cycle repeated. -/
def longestOpen (q : Nat) : List (Nat × Nat) → Nat
  | [] => 0
  | x :: t => Nat.max (openRun q (x :: t)) (longestOpen q t)

/-- Does queue `q` never close under the operative list? -/
def State.alwaysOpen (s : State) (p q : Nat) : Bool :=
  !s.flag (ETH_P_GATE_CTL.gate_en p) || (s.gateSpans p).all (fun x => decide (bits x.1 q 1 = 1))

/-- How long queue `q` stays open in units from the start of entry 0 of a list that repeats; `none` where it never closes. -/
def openFrom (q : Nat) (l : List (Nat × Nat)) : Option Nat :=
  if l.all (fun x => decide (bits x.1 q 1 = 1)) then none else some (nsU * openRun q l)

/-- Time in units from now until the gate of queue `q` next closes; `none` where it does not: in the operative list, and from the time of a
pending change on in the new one (R259, R260). -/
def State.openLeft (s : State) (p q : Nat) : Option Nat :=
  if s.flag (ETH_P_GATE_CTL.gate_en p) then
    let x := s.ethPort p
    let l := s.gateSpans p
    let cur := l.getD x.entry (0, 0)
    let left := (x.entryAt + nsU * cur.2 + 2 ^ 64 - s.now % 2 ^ 64) % 2 ^ 64
    let rest := (l.drop (x.entry + 1) ++ l).map (fun e => (e.1, nsU * e.2))
    let run := if s.alwaysOpen p q then none else some (openRun q ((cur.1, left) :: rest))
    match x.change with
    | none => run
    | some (t, n, cyc) =>
      let d := (t + 2 ^ 64 - s.now % 2 ^ 64) % 2 ^ 64
      let adm := 1 - s.get (ETH_P_GATE_CTL.oper_list p)
      let new := cutSpans cyc ((List.range n).map (fun i => (s.get (ETH_P_GCL.gates p adm i), s.get (ETH_P_GCL.interval_ns p adm i))))
      if run.elim false (fun r => decide (r < d)) then run else (openFrom q new).map (fun r => d + r)
  else none

/-- Time on the wire with preamble and gap, in units times the rate in Mb/s. -/
def wireUnits (len : Nat) : Nat := (len + 20) * 8 * 65536000

/-- The shapers of port `p` brought up to date (R262): credit grows at idleSlope while the gate is open and frames wait, recovers
to 0 in an empty queue, and a positive credit is lost when the gate is closed; a queue without its shaper has none. -/
def State.creditSync (s : State) (p : Nat) : State :=
  let x := s.ethPort p
  let g := s.gatesNow p
  let one := fun (q : Nat) =>
    let c := x.credit.getD q 0
    let t := x.creditAt.getD q 0
    if !s.flag (ETH_P_CBS.shaper_en p q) then (0, s.now)
    else if modGe 64 s.now t then
      let grown := c + (s.get (ETH_P_CBS.idle_slope_mbps p q) * ((s.now + 2 ^ 64 - t % 2 ^ 64) % 2 ^ 64) : Nat)
      let open_ := decide (bits g q 1 = 1)
      let v : Int := if open_ then (if (x.queues.getD q []).isEmpty then (if 0 < c then 0 else if 0 < grown then 0 else grown) else grown)
        else if 0 < c then 0 else c
      (v, s.now)
    else (c, t)
  let l := (List.range 8).map one
  s.setEthPort p { x with credit := l.map (fun a => a.1), creditAt := l.map (fun a => a.2) }

/-- Is there room for a frame of `len` bytes in a transmit queue of 32 KB (R259)? In a domain that is off there is none (R39; log entry
188). -/
def State.ethRoom (s : State) (p q len : Nat) : Bool :=
  decide ((((s.ethPort p).queues.getD q []).map (fun (f : TxFrame) => f.len)).sum + len ≤ 32768) && !s.isOff (.eth (Fin.ofNat 4 p))

/-- A frame is offered to a transmit queue (R259). -/
def State.ethQueue (s : State) (p q : Nat) (f : TxFrame) : Bool × State :=
  let s1 := s.creditSync p
  let x := s1.ethPort p
  if s1.ethRoom p q f.len then (true, s1.setEthPort p { x with queues := x.queues.set q (x.queues.getD q [] ++ [f]) }) else (false, s1)

/-- Head frames that could not finish inside the longest open interval of their queue are discarded (R261). -/
def State.sduDropQueue (s : State) (p q : Nat) : List TxFrame → State
  | [] => s
  | f :: l =>
    let spans := s.gateSpans p
    let most := longestOpen q (spans ++ spans)
    if s.alwaysOpen p q ∨ wireUnits f.len ≤ nsU * most * s.ethRate p then s
    else
      let x := s.ethPort p
      let s1 := (s.setEthPort p { x with queues := x.queues.set q l }).bump (ETH_P_GATE_CNT.sdu_drop p)
      let s2 := if dueAgain x.sduAt s1.now oneMs then
          (s1.setEthPort p { s1.ethPort p with sduAt := some s1.now }).raiseInst Ev.gateSduOverrun p
        else s1
      s2.sduDropQueue p q l

/-- May the head frame of queue `q` be sent now (R259)? -/
def State.txEligible (s : State) (p q : Nat) : Bool :=
  match (s.ethPort p).queues.getD q [] with
  | [] => false
  | f :: _ =>
    decide (bits (s.gatesNow p) q 1 = 1) &&
      (!s.flag (ETH_P_CBS.shaper_en p q) || decide (0 ≤ (s.ethPort p).credit.getD q 0)) &&
      (match s.openLeft p q with
       | none => true
       | some t => decide (wireUnits f.len ≤ t * s.ethRate p))

/-- The credit of queue `q` after a frame is sent, and when sending ends (R262). -/
def State.txCharge (s : State) (p q len : Nat) : State :=
  if !s.flag (ETH_P_CBS.shaper_en p q) then s else
  let x := s.ethPort p
  let rate := s.ethRate p
  let d := wireUnits len / rate
  let slope : Int := (s.get (ETH_P_CBS.idle_slope_mbps p q) : Int) - rate
  s.setEthPort p { x with credit := x.credit.set q (x.credit.getD q 0 + slope * d), creditAt := x.creditAt.set q ((s.now + d) % 2 ^ 64) }

/-- A frame as it leaves now (R266): a one-step Sync carries its origin timestamp; of an event message in two steps a following message
carries it. -/
def TxFrame.leaves (f : TxFrame) (now : Nat) : TxFrame × Option FrameKind :=
  match f.kind with
  | .sync true => ({ f with time := now }, none)
  | .sync false => (f, some .followUp)
  | .delayResp => (f, some .delayFollowUp)
  | _ => (f, none)

/-- Is it a gPTP event message (R266)? -/
def FrameKind.isEvent (k : FrameKind) : Bool :=
  match k with
  | .sync _ => true
  | .delayReq => true
  | .delayResp => true
  | _ => false

/-- The length of a gPTP frame with its FCS (IEEE 802.1AS; log entry 96). -/
def FrameKind.ptpLen (k : FrameKind) : Nat :=
  match k with
  | .sync true => 94
  | .sync false => 64
  | .followUp => 94
  | _ => 72

/-- A gPTP message is offered to queue 7 (R257). -/
def State.ptpQueue (s : State) (p : Nat) (k : FrameKind) (time : Nat) : State := (s.ethQueue p 7 ⟨k, k.ptpLen, [], time⟩).2

/-- A transmit opportunity (R259): the highest-numbered queue that may send does. -/
def State.txSelect (s : State) (p : Nat) : State :=
  if s.flag (ETH_P_STAT.link p) then
    let s1 := (List.range 8).foldl (fun (s : State) q => s.sduDropQueue p q ((s.ethPort p).queues.getD q [])) (s.creditSync p)
    match ((List.range 8).reverse).find? (fun q => s1.txEligible p q) with
    | none => s1
    | some q =>
      let x := s1.ethPort p
      match x.queues.getD q [] with
      | [] => s1
      | f :: l =>
        let g := f.leaves s1.now
        let s2 := s1.setEthPort p { x with queues := x.queues.set q l, ptpTx := if f.kind.isEvent then s1.now else x.ptpTx }
        let s3 := (s2.txCharge p q f.len).emit (.frame p q g.1)
        match g.2 with
        | some k => s3.ptpQueue p k s1.now
        | none => s3
  else s

/-- A write of change = 1 (R260). -/
def State.gateChange (s : State) (p : Nat) : State :=
  let adm := 1 - s.get (ETH_P_GATE_CTL.oper_list p)
  let n := s.get (ETH_P_GATE_CTL.admin_len_m1 p) + 1
  let cyc := s.get (ETH_P_GATE_CYCLE.cycle_ns p)
  let zero := (List.range n).any (fun i => s.get (ETH_P_GCL.interval_ns p adm i) == 0)
  if cyc = 0 ∨ zero then
    (((s.clearFlag (ETH_P_GATE_CTL.change p)).clearFlag (ETH_P_GATE_CTL.pending p)).setEthPort p
      { s.ethPort p with change := none }).raiseInst Ev.ethConfigRejected p
  else
    let base := s.get (ETH_P_GATE_BASE.base p)
    let least := (s.now + 10000 * nsU) % 2 ^ 64
    let t := if modGe 64 base least then base
      else
        let d := (least + 2 ^ 64 - base) % 2 ^ 64
        (base + (d + cyc * nsU - 1) / (cyc * nsU) * (cyc * nsU)) % 2 ^ 64
    ((s.setFlag (ETH_P_GATE_CTL.change p)).setFlag (ETH_P_GATE_CTL.pending p)).setEthPort p
      { s.ethPort p with change := some (t, n, cyc) }

/-- The admin list becomes operative (R260). -/
def State.gateSwitch (s : State) (p : Nat) : State :=
  match (s.ethPort p).change with
  | none => s
  | some (t, n, cyc) =>
    let s0 := s.creditSync p
    let s1 := ((s0.put (ETH_P_GATE_CTL.oper_list p) (1 - s0.get (ETH_P_GATE_CTL.oper_list p))).clearFlag
      (ETH_P_GATE_CTL.change p)).clearFlag (ETH_P_GATE_CTL.pending p)
    let s2 := s1.setEthPort p { s1.ethPort p with change := none, operLen := n, operCycle := cyc, cycleAt := t, entryAt := t, entry := 0 }
    (s2.creditSync p).raiseInst Ev.gateListSwitched p

/-- The interval of the present entry ends (R260): the next entry, or entry 0 of the next cycle. -/
def State.gclAdvance (s : State) (p : Nat) : State :=
  let x := s.ethPort p
  let l := s.gateSpans p
  if x.operCycle = 0 then s
  else
    let s0 := s.creditSync p
    let y := s0.ethPort p
    let s1 := if x.entry + 1 < l.length then
        s0.setEthPort p { y with entry := x.entry + 1, entryAt := (x.entryAt + nsU * (l.getD x.entry (0, 0)).2) % 2 ^ 64 }
      else
        let t := (x.cycleAt + nsU * x.operCycle) % 2 ^ 64
        s0.setEthPort p { y with entry := 0, cycleAt := t, entryAt := t }
    s1.creditSync p

/-! Point export (R267, R268). -/

/-- enable = 1 on an export (R267). -/
def State.exportEnable (s : State) (x : Nat) : State :=
  let n := s.get (ETH_EXP_CFG.ring x)
  let taken := (List.range 4).any (fun y => !(y == x) && s.flag (ETH_EXP_CFG.enable y) && s.get (ETH_EXP_CFG.ring y) == n)
  if !s.flag (RING_PR_CFG.enable n) || taken then
    (s.clearFlag (ETH_EXP_CFG.enable x)).raiseInst Ev.ethConfigRejected (s.get (ETH_EXP_CFG.port x))
  else s.setFlag (ETH_EXP_CFG.enable x)

/-- Record `i` of ring `n` (R205). -/
def State.prRecord (s : State) (n i : Nat) : List Byte :=
  let a := s.get (RING_PR_BASE.base n) * 4096 + 32 * i
  memBytes (if s.flag (RING_PR_CFG.loc n) then s.hostMem else s.devMem) a 32

/-- What the records of one packet share (R160, R205): time, channel, bank, frame epoch and cell_seq. -/
def recPacket (r : List Byte) : List Byte × Nat × List Byte :=
  (r.take 8, bits (ofLE ((r.drop 16).take 4)) 20 11, [r.getD 20 0 &&& 0x3F, r.getD 21 0, r.getD 24 0, r.getD 25 0])

/-- The most records, up to `k`, that end a packet. -/
def State.wholePackets (s : State) (n tail level : Nat) : Nat → Nat
  | 0 => 0
  | k + 1 =>
    let key := fun (i : Nat) => recPacket (s.prRecord n ((tail + i) % s.prSize n))
    if level ≤ k + 1 ∨ key k ≠ key (k + 1) then k + 1 else s.wholePackets n tail level k

/-- The device takes `k` records from a point ring (R267). -/
def State.prConsume (s : State) (n k : Nat) : State :=
  let s1 := s.put (RING_PR_TAIL.index n) ((s.get (RING_PR_TAIL.index n) + k) % s.prSize n)
  (s1.setPr n { s1.pr n with fullNow := false }).prLevel n

/-- The Ethernet header up to the Ethertype: addresses, 802.1Q tag and, with redundancy, the R-TAG (R264, R268, R269). -/
def State.ethHeader (s : State) (dst p pcp vid etype : Nat) (rtag : Option Nat) : List Byte :=
  toBE 6 dst ++ toBE 6 (s.get (ETH_P_MAC.address p)) ++ toBE 2 0x8100 ++ toBE 2 (pcp * 8192 + vid) ++
    (match rtag with | some q => toBE 2 0xF1C1 ++ toBE 2 0 ++ toBE 2 q | none => []) ++ toBE 2 etype

/-- A frame of these bytes, padded to the Ethernet minimum; the length counts the FCS. -/
def txFrame (kind : FrameKind) (l : List Byte) : TxFrame :=
  let b := l ++ List.replicate (60 - l.length) 0
  ⟨kind, b.length + 4, b, 0⟩

/-- The ports of an end: both FRER members with frer = 1 while redundancy is on, else the port named (R264). -/
def State.pathsOf (s : State) (port : Nat) (frer : Bool) : List Nat :=
  if frer && s.flag ETH_FRER_CFG.enable then [s.get ETH_FRER_CFG.port_a, s.get ETH_FRER_CFG.port_b] else [port]

/-- An export frame is due: full, or flush_us after its first record (R267, R268). -/
def State.exportSend (s : State) (x : Nat) : State :=
  let n := s.get (ETH_EXP_CFG.ring x)
  let level := s.get (RING_PR_STAT.level n)
  let tail := s.get (RING_PR_TAIL.index n)
  let k := s.wholePackets n tail level (Nat.min 45 level)
  if s.flag (ETH_EXP_CFG.enable x) ∧ 0 < k then
    let e := s.eth.exports.getD x ⟨0, 0⟩
    let frer := s.flag (ETH_EXP_CFG.frer x)
    let paths := s.pathsOf (s.get (ETH_EXP_CFG.port x)) frer
    let pcp := s.get (ETH_EXP_CFG.pcp x)
    let red := frer && s.flag ETH_FRER_CFG.enable
    let body := toBE 1 (16 + 4 * x) ++ toBE 1 k ++ toBE 2 (bit (s.pr n).lossNext) ++ toBE 4 e.seq ++ toBE 8 s.now ++
      ((List.range k).map (fun i => s.prRecord n ((tail + i) % s.prSize n))).flatten
    let frame := fun (s : State) (p : Nat) => txFrame (.exported x) (s.ethHeader (s.get (ETH_EXP_DST.dst_mac x)) p pcp
      (s.get (ETH_EXP_CFG.vid x)) (s.get ETH_ETYPE.exp_etype) (if red then some e.rtag else none) ++ body)
    if paths.all (fun p => s.ethRoom p pcp (frame s p).len) then s.withTag 3 fun s0 =>
      let s1 := paths.foldl (fun s p => (s.ethQueue p pcp (frame s p)).2) s0
      let s2 := s1.prConsume n k
      let s3 := s2.setPr n { s2.pr n with lossNext := false }
      { s3 with eth := { s3.eth with exports := s3.eth.exports.set x ⟨(e.seq + 1) % 2 ^ 32, (e.rtag + 1) % 65536⟩ } }
    else s
  else s

/-! Receive: policing and redundancy (R257, R258, R263, R264). -/

/-- A number of `n` bytes at byte `i` of a frame, in network byte order. -/
def frameNat (l : List Byte) (i n : Nat) : Nat := ofBE ((l.drop i).take n)

/-- A QSL frame taken apart (R269): destination, VID, R-TAG number, PDU with its padding. -/
structure QslFrame where
  dst : Nat
  vid : Nat
  rtag : Option Nat
  pdu : List Byte
  deriving DecidableEq, Repr

/-- Is it a QSL frame (R257)? -/
def State.qslParse (s : State) (l : List Byte) : Option QslFrame :=
  let et := s.get ETH_ETYPE.qsl_etype
  if frameNat l 12 2 = 0x8100 then
    let vid := frameNat l 14 2 % 4096
    if frameNat l 16 2 = 0xF1C1 ∧ frameNat l 22 2 = et then some ⟨frameNat l 0 6, vid, some (frameNat l 20 2), l.drop 24⟩
    else if frameNat l 16 2 = et then some ⟨frameNat l 0 6, vid, none, l.drop 18⟩
    else none
  else none

/-- Is it a gPTP frame (R257)? -/
def isPtp (l : List Byte) : Bool := decide (frameNat l 0 6 = 0x0180C200000E ∧ frameNat l 12 2 = 0x88F7)

/-- psfp-drop, at most once per 1 ms (R263). -/
def State.psfpEvent (s : State) (p : Nat) : State :=
  if dueAgain s.eth.psfpAt s.now oneMs then
    ({ s with eth := { s.eth with psfpAt := some s.now } }).raiseInst Ev.psfpDrop p
  else s

/-- The meter of filter `f` takes a frame of `len` bytes: false marks it red (R263). -/
def State.meter (s : State) (f len : Nat) : Bool × State :=
  let cir := s.get (ETH_PSFP_METER.cir_mbps f)
  if cir = 0 then (true, s)
  else
    let cap := s.get (ETH_PSFP_METER.cbs_kb f) * 1024 * 8 * 65536000
    let tok := match tabGet (fun _ => none) s.eth.meters f with
      | none => cap
      | some (v, t) => Nat.min cap (v + cir * ((s.now + 2 ^ 64 - t % 2 ^ 64) % 2 ^ 64))
    let need := len * 8 * 65536000
    let left := if need ≤ tok then tok - need else tok
    (decide (need ≤ tok), { s with eth := { s.eth with meters := tabSet (fun _ => none) s.eth.meters f (some (left, s.now)) } })

/-- The stream filter that a QSL frame meets (R263). -/
def State.psfpMatch (s : State) (p : Nat) (q : QslFrame) : Option Nat :=
  (List.range 32).find? (fun f => s.flag (ETH_PSFP_CFG.enable f) && bits (s.get (ETH_PSFP_ID.ports f)) p 1 == 1 &&
    s.get (ETH_PSFP_ID.dst_mac f) == q.dst && s.get (ETH_PSFP_ID.vid f) == q.vid)

/-- Policing (R263): whether the frame passes. -/
def State.police (s : State) (p len : Nat) (q : QslFrame) : Bool × State :=
  match s.psfpMatch p q with
  | none => (true, s)
  | some f =>
    let most := s.get (ETH_PSFP_CFG.max_sdu f)
    if s.flag (ETH_PSFP_CFG.gate_open f) then
      if most ≠ 0 ∧ most < len then
        let s1 := s.bump (ETH_PSFP_CNT.drop_sdu f)
        let s2 := if s1.flag (ETH_PSFP_CFG.block_oversize f) then
            (s1.clearFlag (ETH_PSFP_CFG.gate_open f)).raiseInst Ev.psfpGateClosed p
          else s1
        (false, s2.psfpEvent p)
      else
        let r := s.meter f len
        if r.1 then (true, r.2.incr (ETH_PSFP_CNT.passed f)) else (false, (r.2.bump (ETH_PSFP_CNT.drop_other f)).psfpEvent p)
    else (false, (s.bump (ETH_PSFP_CNT.drop_other f)).psfpEvent p)

/-- The history after it moves up by `d` numbers: how many were never received, and the history with the new number taken. -/
def histShift : Nat → List Bool → Nat × List Bool
  | 0, h => (0, h)
  | d + 1, h =>
    let r := histShift d (false :: h.dropLast)
    (r.1 + bit (!(h.getLast?.getD true)), r.2)

/-- hist_len with its limits (R264). -/
def State.histLen (s : State) : Nat := clampN 2 32 (s.get ETH_FRER_CFG.hist_len)

/-- The vector recovery algorithm of IEEE 802.1CB on one stream (R264): whether the number is taken, lost numbers, the stream. -/
def FrerStream.recover (x : FrerStream) (n seq : Nat) : Bool × Nat × FrerStream :=
  if x.takeAny then (true, 0, { x with takeAny := false, recov := seq, hist := true :: List.replicate (n - 1) false })
  else
    let h := x.hist ++ List.replicate (n - x.hist.length) false
    let h := h.take n
    let d := sx 16 (seq + 65536 - x.recov)
    if (n : Int) ≤ d ∨ d ≤ -(n : Int) then (false, 0, { x with hist := h })
    else if d ≤ 0 then
      let i := d.natAbs
      if h.getD i false then (false, 0, { x with hist := h }) else (true, 0, { x with hist := h.set i true })
    else
      let r := histShift d.toNat h
      (true, r.1, { x with recov := seq, hist := r.2.set 0 true })

/-- A frame with an R-TAG on a member port passes sequence recovery (R264): whether it goes on. -/
def State.frerTake (s : State) (p : Nat) (q : QslFrame) (seq : Nat) : Bool × State :=
  let a := s.get ETH_FRER_CFG.port_a
  let b := s.get ETH_FRER_CFG.port_b
  if s.flag ETH_FRER_CFG.enable ∧ (p = a ∨ p = b) then
    let known := s.eth.frer.any (fun x => decide (x.dst = q.dst ∧ x.vid = q.vid))
    let l := if known then s.eth.frer else s.eth.frer ++ [(⟨q.dst, q.vid, 65535, [], true, 0, 0⟩ : FrerStream)]
    let x := (l.find? (fun x => decide (x.dst = q.dst ∧ x.vid = q.vid))).getD ⟨q.dst, q.vid, 65535, [], true, 0, 0⟩
    let r := x.recover s.histLen seq
    let y : FrerStream := if p = a then { r.2.2 with runA := x.runA + 1, runB := 0 } else { r.2.2 with runB := x.runB + 1, runA := 0 }
    let latent := decide ((if p = a then y.runA else y.runB) = 64)
    let s1 := { s with eth := { s.eth with frer := l.map (fun (z : FrerStream) => if z.dst = q.dst ∧ z.vid = q.vid then y else z) } }
    let s2 := s1.put ETH_FRER_STAT.lost (satAdd 65535 (s1.get ETH_FRER_STAT.lost) r.2.1)
    (r.1, s2.raiseIf latent Ev.frerLatentError (if p = a then b else a))
  else (true, s)

/-- reset_ms without a frame of a stream (R264). -/
def State.frerReset (s : State) (dst vid : Nat) : State :=
  if s.eth.frer.any (fun x => decide (x.dst = dst ∧ x.vid = vid)) then
    let s1 := { s with eth := { s.eth with frer := s.eth.frer.map (fun (x : FrerStream) =>
      if x.dst = dst ∧ x.vid = vid then { x with takeAny := true, recov := 65535, hist := [] } else x) } }
    (s1.bump ETH_FRER_STAT.resets).raise Ev.frerReset 0 0
  else s

/-! gPTP (R265, R266). -/

/-- An event message arrives with its timestamp; the protocol machines conclude something from it (R265, R266). -/
def State.ptpReceive (s : State) (p stamp : Nat) (r : PtpResult) : State :=
  if s.flag ETH_PTP_CFG.enable ∧ bits (s.get ETH_PTP_CFG.ports) p 1 = 1 then
    let s1 := s.setEthPort p { s.ethPort p with ptpRx := stamp }
    match r with
    | .keep => s1
    | .offset off wrap =>
      if s1.flag ETH_PTP_STAT.slave_valid ∧ s1.get ETH_PTP_STAT.slave_port = p then s1.servoOffset 1 off.toInt wrap.toNat else s1
    | .grandmaster self slave =>
      let s2 := s1.put ETH_PTP_STAT.is_gm (bit (self && s1.flag ETH_PTP_CFG.gm_capable))
      let s3 := match slave.filter (fun q => bits (s.get ETH_PTP_CFG.ports) q.val 1 == 1) with
        | some q => (s2.put ETH_PTP_STAT.slave_port q.val).setFlag ETH_PTP_STAT.slave_valid
        | none => s2.clearFlag ETH_PTP_STAT.slave_valid
      (s3.setFlag ETH_PTP_STAT.gm_change_seen).raise Ev.ptpGmChange 0 0
    | .askDelay => s1.ptpQueue p .delayReq 0
    | .answerDelay => s1.ptpQueue p .delayResp stamp
  else s

/-- ETH_PTP_CFG has been written: a device that may not be grandmaster is not, and a port that takes no part gives no time (R265); the
grandmaster has then changed (log entry 189). -/
def State.ptpSettle (s : State) : State :=
  let gm := s.flag ETH_PTP_CFG.enable && s.flag ETH_PTP_CFG.gm_capable
  let slave := s.flag ETH_PTP_CFG.enable && bits (s.get ETH_PTP_CFG.ports) (s.get ETH_PTP_STAT.slave_port) 1 == 1
  let s1 := if slave then s else s.clearFlag ETH_PTP_STAT.slave_valid
  if s.flag ETH_PTP_STAT.is_gm && !gm then
    ((s1.clearFlag ETH_PTP_STAT.is_gm).setFlag ETH_PTP_STAT.gm_change_seen).raise Ev.ptpGmChange 0 0
  else s1

/-- As grandmaster the device sends Sync on every enabled port (R265, R266), on queue 7 (R257). -/
def State.ptpSync (s : State) : State :=
  if s.flag ETH_PTP_CFG.enable ∧ s.flag ETH_PTP_CFG.gm_capable ∧ s.flag ETH_PTP_STAT.is_gm then
    let one := fun (s : State) (p : Nat) =>
      if bits (s.get ETH_PTP_CFG.ports) p 1 = 1 ∧ s.flag (ETH_P_STAT.link p) then s.ptpQueue p (.sync (s.flag (ETH_P_CFG.one_step p))) 0 else s
    (List.range 4).foldl one s
  else s

def execEthModeWrite (p : Fin 4) (mode : Fin 8) (inStep : Bool) (s : State) : Res :=
  .next (s.onReg (ETH_P_CFG.addr p) (fun s => s.ethModeWrite p mode inStep))
def execEthLinkUp (p : Fin 4) (s : State) : Res := .next (s.atPort p (fun s => s.ethUp p))
def execEthLinkDown (p : Fin 4) (s : State) : Res := .next (s.atPort p (fun s => s.ethLost p))
/-- Lanes 0 to 3 are the Ethernet ports', 4 to 7 those of the twin link (R255, R335). -/
def execEqAdaptStep (lane : Fin 8) (s : State) : Res := .next (if lane.val < 4 then s.atPort lane.val (fun s => s.eqStepEnd lane.val) else s.twinStepEnd (lane.val - 4))
def execEthRetrain (p : Fin 4) (inStep : Bool) (s : State) : Res :=
  .next (s.onReg (ETH_P_CFG.addr p) (fun s => s.ethRetrainWrite p inStep))
def execFecUncorrectableCodeword (p : Fin 4) (s : State) : Res := .next (s.atPort p (fun s => s.fecBad p))
def execFrerReset (dst : BitVec 48) (vid : BitVec 12) (s : State) : Res := .next (s.frerReset dst.toNat vid.toNat)
def execTxSelect (p : Fin 4) (s : State) : Res := .next (s.atPort p (fun s => s.txSelect p))
def execGateChange (p : Fin 4) (s : State) : Res := .next (s.onReg (ETH_P_GATE_CTL.addr p) (fun s => s.gateChange p))
def execGateListSwitch (p : Fin 4) (s : State) : Res := .next (s.atPort p (fun s => s.gateSwitch p))
def execGclEntryAdvance (p : Fin 4) (s : State) : Res := .next (s.atPort p (fun s => s.gclAdvance p))
def execPtpMessageReceive (p : Fin 4) (stamp : Word64) (r : PtpResult) (s : State) : Res := .next (s.atPort p (fun s => s.ptpReceive p stamp.toNat r))
def execPtpSyncSend (s : State) : Res := .next s.ptpSync
def execExportEnable (x : Fin 4) (s : State) : Res := .next (s.exportEnable x)
def execExportFrameSend (x : Fin 4) (s : State) : Res := .next (s.exportSend x)

end Sys2Proof.Machine
end

