-- ==== Sys2Proof/Machine/Qsl.lean ====
section
/-! DEFINITION. The Qualet Safety Layer and the reception of frames (R257, R258, R269 to R277, R287). -/

namespace Sys2Proof.Machine

/-- The check word of R270: seeded with the identity, most significant bit first, no final inversion. -/
def qslCrc (identity : Nat) (l : List Byte) : Nat := crcUp 32 0xF4ACFB13 identity l

/-- Identities that no connection may have (R271). -/
def qslReserved (i : Nat) : Bool := i == 0 || i == 0xFFFFFFFF

/-- PTP time in µs modulo 2^32, formed from TIME_WRAP and device time (R165, R272, R274). -/
def State.ptpUs (s : State) : Nat := (s.get TIME_WRAP.wraps * 2 ^ 64 + s.now) / usUnits % 2 ^ 32

/-- A QSL PDU (R269). -/
def qslPdu (identity seq tSend window : Nat) (payload : List Byte) : List Byte :=
  let head := toBE 1 0x11 ++ toBE 1 payload.length ++ toBE 4 identity ++ toBE 2 seq ++ toBE 4 tSend ++ toBE 2 window ++ toBE 2 0 ++ payload
  head ++ toBE 4 (qslCrc identity head)

def State.qtx (s : State) (c : Nat) : QslTx := s.eth.qtx.getD c ⟨[], 0, 0⟩
def State.setQtx (s : State) (c : Nat) (x : QslTx) : State := { s with eth := { s.eth with qtx := s.eth.qtx.set c x } }
def State.qrx (s : State) (c : Nat) : QslRx := s.eth.qrx.getD c ⟨0, none⟩
def State.setQrx (s : State) (c : Nat) (x : QslRx) : State := { s with eth := { s.eth with qrx := s.eth.qrx.set c x } }

/-- enable = 1 on a transmit connection (R271): on one that is enabled it changes nothing. -/
def State.qslTxEnable (s : State) (c : Nat) : State :=
  if s.flag (QSL_TX_CFG.enable c) then s
  else if qslReserved (s.get (QSL_TX_ID.identity c)) then s.raiseInst Ev.ethConfigRejected c
  else s.setFlag (QSL_TX_CFG.enable c)

/-- The 64 bytes of the payload area of a transmit connection. -/
def State.qslArea (s : State) (c : Nat) : List Byte :=
  ((List.range 16).map (fun w => toLE 4 (s.get (QSL_TX_PAYLOAD.data c w)))).flatten

/-- commit = 1 (R272). -/
def State.qslCommit (s : State) (c : Nat) : State :=
  (s.setQtx c { s.qtx c with payload := s.qslArea c }).clearFlag (QSL_TX_CFG.commit c)

/-- The period of a transmit connection: a frame enters its queue (R269, R272); one offered to a full queue is dropped and
counted (R259). -/
def State.qslPeriod (s : State) (c : Nat) : State :=
  if s.flag (QSL_TX_CFG.enable c) then
    let x := s.qtx c
    let seq := (x.seq + 1) % 65536
    let frer := s.flag (QSL_TX_CFG.frer c)
    let red := frer && s.flag ETH_FRER_CFG.enable
    let pcp := s.get (QSL_TX_CFG.pcp c)
    let pdu := qslPdu (s.get (QSL_TX_ID.identity c)) seq s.ptpUs (s.get (QSL_TX_TIMING.window c))
      (x.payload.take (Nat.min 64 (s.get (QSL_TX_CFG.len c))))
    let send := fun (s : State) (p : Nat) =>
      let r := s.ethQueue p pcp (txFrame (.qsl c) (s.ethHeader (s.get (QSL_TX_DST.dst_mac c)) p pcp (s.get (QSL_TX_CFG.vid c))
        (s.get ETH_ETYPE.qsl_etype) (if red then some x.rtag else none) ++ pdu))
      if r.1 then r.2 else r.2.bump (QSL_TX_DST.tx_drop c)
    ((s.pathsOf (s.get (QSL_TX_CFG.port c)) frer).foldl send s).setQtx c { x with seq := seq, rtag := (x.rtag + 1) % 65536 }
  else s

/-- A receive connection enters Wait (R273). -/
def State.qslWait (s : State) (c : Nat) : State :=
  ((s.put (QSL_RX_STAT.state c) 1).setQrx c ⟨0, (s.qrx c).mismatchAt⟩).grantsCheck

/-- enable = 1 on a receive connection (R271, R273): on one that is enabled it changes nothing. -/
def State.qslRxEnable (s : State) (c : Nat) : State :=
  if s.flag (QSL_RX_CFG.enable c) then s
  else if qslReserved (s.get (QSL_RX_ID.identity c)) then s.raiseInst Ev.ethConfigRejected c
  else (s.setFlag (QSL_RX_CFG.enable c)).qslWait c

/-- restart = 1 (R273). -/
def State.qslRestart (s : State) (c : Nat) : State := if s.flag (QSL_RX_CFG.enable c) then s.qslWait c else s

/-- A connection fails with a cause (R273, R275, R277): the grants that need it go (R285). -/
def State.qslFail (s : State) (c cause : Nat) : State :=
  let s1 := ((s.put (QSL_RX_STAT.state c) 3).put (QSL_RX_STAT.cause c) cause).setFlag (QSL_RX_STAT.fail_seen c)
  (s1.raise Ev.qslConnFail (c % 8 + 16 * cause) 0).grantsCheck

/-- The watchdog expires (R275); a frame whose acceptance completes in the same cycle wins (R181). -/
def State.qslWatchdog (s : State) (c : Nat) (arrived : Bool) : State :=
  let st := s.get (QSL_RX_STAT.state c)
  if !arrived && (st == 1 || st == 2) then s.qslFail c 1 else s

/-- qsl-unknown-id, at most once per 1 ms (R274). -/
def State.qslUnknown (s : State) : State :=
  if dueAgain s.eth.unknownAt s.now oneMs then
    ({ s with eth := { s.eth with unknownAt := some s.now } }).raise Ev.qslUnknownId 0 0
  else s

/-- Step 2 fails (R274). -/
def State.qslBadCheck (s : State) (c : Nat) : State :=
  let x := s.qrx c
  let s1 := ((s.bump (QSL_RX_CNT.crc_err c)).setQrx c { x with crcRun := x.crcRun + 1 }).raiseInst Ev.qslCheckError c
  if Nat.max 1 (s.get (QSL_RX_CFG.crc_limit c)) ≤ x.crcRun + 1 then s1.qslFail c 2 else s1

/-- A frame is discarded as late or early (step 4 of R274), or as repeated or old (step 5, which raises no event). -/
def State.qslReject (s : State) (c : Nat) (step4 : Bool) : State :=
  (s.bump (QSL_RX_CNT.rejected c)).raiseIf step4 Ev.qslFrameRejected c

/-- The payload is copied whole into QSL_RX_c_PAYLOAD (R274). -/
def State.qslPayload (s : State) (c : Nat) (l : List Byte) : State :=
  (List.range 16).foldl (fun (s : State) w => s.put (QSL_RX_PAYLOAD.data c w) (ofLE ((l.drop (4 * w)).take 4))) s

/-- Both channels accept the frame too (R287): its payload may select a zone set, and the connection is Open to them. -/
def State.qslTake (s : State) (c : Nat) (payload : List Byte) : State :=
  { s with saf := { s.saf with qslIndex := s.saf.qslIndex.set c (tblByte payload 0 % 16), qslTaken := s.saf.qslTaken.set c true } }

/-- A channel's own recomputation disagrees (R287): two within one watchdog period are a fault with cause 0x01. -/
def State.qslMismatch (s : State) (c : Nat) : State :=
  let wd := clampN 2 500 (s.get (QSL_RX_CFG.wd_ms c))
  let again := !dueAgain (s.qrx c).mismatchAt s.now (wd * oneMs)
  let s1 := (s.setQrx c { s.qrx c with mismatchAt := some s.now }).raiseInst Ev.channelDisagree c
  if again then s1.safetyFault 0x01 0 else s1

/-- A frame passes every step (R274): `lost` numbers were skipped. A safety channel that finds a mismatch in it treats it as not accepted
(R287): the channels keep their payload and, where it opened the connection, do not take that as Open. -/
def State.qslAccept (s : State) (c seq lost : Nat) (payload : List Byte) (mismatch : Bool) : State :=
  let open_ := s.get (QSL_RX_STAT.state c) == 2
  let s1 := (s.put (QSL_RX_STAT.last_seq c) seq).put (QSL_RX_CNT.lost c) (satAdd 65535 (s.get (QSL_RX_CNT.lost c)) lost)
  let s2 := ((s1.incr (QSL_RX_CNT.accepted c)).qslPayload c payload).setQrx c { s1.qrx c with crcRun := 0 }
  let s3 := if open_ then s2 else
    ({ s2 with saf := { s2.saf with qslTaken := s2.saf.qslTaken.set c false } }.put (QSL_RX_STAT.state c) 2).raiseInst Ev.qslConnOpen c
  if mismatch then s3.qslMismatch c else s3.qslTake c payload

/-- Steps 3 to 5 of R274 for a frame of connection `c`. -/
def State.qslSteps (s : State) (c : Nat) (l : List Byte) (mismatch : Bool) : State :=
  let len := frameNat l 1 1
  let seq := frameNat l 6 2
  let maxAge := s.get (QSL_RX_AGE.max_age c)
  if frameNat l 0 1 ≠ 0x11 ∨ len ≠ s.get (QSL_RX_CFG.len c) ∨ frameNat l 12 2 ≠ maxAge then s.qslFail c 3
  else
    let a := sx 32 (s.ptpUs + 2 ^ 32 - frameNat l 8 4)
    let timed := s.flag TIME_STAT.src_locked || s.flag TIME_STAT.holdover
    let aged := timed && decide (-50 ≤ a ∧ a ≤ ((maxAge * 10 : Nat) : Int))
    if s.flag (QSL_RX_CFG.age_en c) && !aged then s.qslReject c true
    else
      let payload := (l.drop 16).take len
      if s.get (QSL_RX_STAT.state c) = 2 then
        let d := (seq + 65536 - s.get (QSL_RX_STAT.last_seq c)) % 65536
        if d = 0 ∨ 32768 ≤ d then s.qslReject c false
        else if Nat.max 1 (s.get (QSL_RX_CFG.seq_tol c)) < d then s.qslFail c 4
        else s.qslAccept c seq (d - 1) payload mismatch
      else s.qslAccept c seq 0 payload mismatch

/-- A QSL PDU from port `p` (R274); one for a connection in Failed is not taken. -/
def State.qslReceive (s : State) (p : Nat) (l : List Byte) (mismatch : Bool) : State :=
  let i := frameNat l 2 4
  match (List.range 8).find? (fun c => s.flag (QSL_RX_CFG.enable c) && s.get (QSL_RX_ID.identity c) == i &&
      bits (s.get (QSL_RX_CFG.ports c)) p 1 == 1) with
  | none => s.qslUnknown
  | some c =>
    if s.get (QSL_RX_STAT.state c) = 3 then s
    else
      let n := 16 + frameNat l 1 1
      if n + 4 ≤ l.length ∧ frameNat l n 4 = qslCrc i (l.take n) then s.qslSteps c l mismatch else s.qslBadCheck c

/-- A frame of `n` bytes meets the receive buffer of 256 KB (R258), of which 32 KB hold gPTP and QSL frames only: whether it has room. Of
the bytes the buffer held, those that `note` names are still there. -/
def State.rxRoom (s : State) (p n : Nat) (own : Bool) (note : RxNote) : Bool × State :=
  let x := s.ethPort p
  let a := Nat.min note.own.toNat x.rxOwn
  let b := Nat.min note.other.toNat x.rxOther
  let fits := if own then decide (a + b + n ≤ 262144) else decide (Nat.max a 32768 + b + n ≤ 262144)
  (fits, s.setEthPort p { x with rxOwn := a + (if own && fits then n else 0), rxOther := b + (if !own && fits then n else 0) })

/-- A frame of `n` bytes arrives at port `p`: the codewords that FEC corrected are counted (R253, R277), and the buffer takes the frame or
has no room for it (R258). -/
def State.rxArrive (s : State) (p n : Nat) (own : Bool) (note : RxNote) : Bool × State :=
  let c := satAdd (2 ^ 32 - 1) (s.get (ETH_P_CNT.fec_corr p)) note.corrected.toNat
  (if s.fecOn p then s.put (ETH_P_CNT.fec_corr p) c else s).rxRoom p n own note

/-- A frame arrives at port `p` (R257, R258), without its FCS. QSL frames are policed and recovered before the engine sees them (R263,
R264). -/
def State.ethReceive (s0 : State) (p : Nat) (l : List Byte) (note : RxNote) (mismatch : Bool) : State :=
  let n := l.length + 4
  if s0.flag (ETH_P_STAT.link p) then
    let k := s0.qslParse l
    let room := s0.rxArrive p n (isPtp l || k.isSome) note
    let s := room.2
    if !room.1 ∨ n < 64 ∨ 1522 < n then s.bump (ETH_P_CNT.rx_discard p)
    else if isPtp l then s
    else
      match k with
      | none => s.bump (ETH_P_CNT.rx_discard p)
      | some q =>
        let r := s.police p n q
        if r.1 then
          let t := match q.rtag with
            | some seq => r.2.frerTake p q seq
            | none => (true, r.2)
          if t.1 then t.2.qslReceive p q.pdu mismatch else t.2
        else r.2
  else s0

def execEthFrameReceive (p : Fin 4) (frame : List Byte) (note : RxNote) (mismatch : Bool) (s : State) : Res :=
  .next (s.atPort p (fun s => s.ethReceive p frame note mismatch))
def execQslTxEnable (c : Fin 8) (s : State) : Res := .next (s.qslTxEnable c)
def execQslCommit (c : Fin 8) (s : State) : Res := .next (s.qslCommit c)
def execQslTxPeriod (c : Fin 8) (s : State) : Res := .next (s.qslPeriod c)
def execQslRxEnable (c : Fin 8) (s : State) : Res := .next (s.qslRxEnable c)
def execQslRestart (c : Fin 8) (s : State) : Res := .next (s.qslRestart c)
/-- A QSL PDU that reaches the engine at port `p` (R274). -/
def execQslFrameReceive (p : Fin 4) (pdu : List Byte) (mismatch : Bool) (s : State) : Res := .next (s.qslReceive p pdu mismatch)
def execQslWatchdog (c : Fin 8) (arrived : Bool) (s : State) : Res := .next (s.qslWatchdog c arrived)

end Sys2Proof.Machine
end

