-- ==== Sys2Proof/Machine/Tags.lean ====
section
/-! DEFINITION. The W256 control commands, the tag commands and the claim commands of the hub (R29 to R37, R409 to R413). -/

namespace Sys2Proof.Machine

/-- A write of inject_arm = 1 with inject_bits and inject_loc (R29, R34). -/
def State.injectArm (s : State) (n loc : Nat) : State :=
  ((s.put HUB_W256_CTL.inject_bits n).put HUB_W256_CTL.inject_loc loc).setFlag HUB_W256_CTL.inject_arm

/-- A write of clear_counts (R31). -/
def State.w256Clear (s : State) : State := (s.put HUB_W256_STAT.ce_count 0).put HUB_W256_STAT.ue_count 0

/-- Sum of the floors with `f` as class `c`'s. -/
def State.floorsWith (s : State) (c f : Nat) : Nat :=
  ((List.range 8).map (fun n => if n = c then f else s.get (HUB_TAG_POOL.floor n))).sum

/-- A write of HUB_TAG_POOL_c (R36): refused where the floors would sum to more than 4,096; a limit cut below the tags the class
holds evicts nothing and raises tag-exhaust; a floor cut below them holds back new tags until usage is below it, as does a ceiling. -/
def State.tagPoolWrite (s : State) (c floor ceil : Nat) : State :=
  if 4096 < s.floorsWith c floor then s.raiseInst Ev.tagConfigRejected c
  else
    let u := s.get (HUB_TAG_STAT.in_use c)
    let low := decide (floor < s.get (HUB_TAG_POOL.floor c) ∧ floor < u)
    let top := decide (Nat.max ceil floor < s.tagCeiling c ∧ Nat.max ceil floor < u)
    let lim := if low || ((s.hub.cut.getD c none).isSome && decide (floor ≤ u)) then some floor else none
    (({ s with hub := { s.hub with cut := s.hub.cut.set c lim } }.put (HUB_TAG_POOL.floor c) floor).put (HUB_TAG_POOL.ceiling c)
      ceil).raiseIf (low || top) Ev.tagExhaust c

/-- A write of peak_clear (R36). -/
def State.tagPeakClear (s : State) (c : Nat) : State := s.put (HUB_TAG_STAT.peak c) (s.get (HUB_TAG_STAT.in_use c))

/-- The list without the first element equal to `w`. -/
def dropFirst (w : Waiter) : List Waiter → List Waiter
  | [] => []
  | x :: l => if x = w then l else x :: dropFirst w l

/-- A requester asks for a tag; the oldest waiting requester of its class gets one when one is available (R35). -/
def State.tagGrant (s : State) (w : Waiter) : State :=
  let l := if s.hub.waiters.contains w then s.hub.waiters else s.hub.waiters ++ [w]
  if s.tagFree w.cls then
    match l.find? (fun x => x.cls == w.cls) with
    | some x => ({ s with hub := { s.hub with waiters := dropFirst x l } }).tagTake x.cls x.target x.port
    | none => s
  else ({ s with hub := { s.hub with waiters := l } }).tagWait w.cls

/-- Does operation `o` wait for a response? A descriptor that has ended holds its tag for its completion alone (R202). -/
def State.opWaits (s : State) (o : Op) : Bool :=
  match s.descOf o.port o.inst with
  | some d => !decide (o.cls = 0) || d.outstanding
  | none => true

/-- The completion timeout of the operation with tag instance `i` expires (R37, R26). -/
def State.tagTimeout (s : State) (i : Nat) (arrived : Bool) : State :=
  match s.hub.ops.find? (fun o => o.inst == i) with
  | none => s
  | some o =>
    if arrived || !s.opWaits o then s
    else
      let s1 := (((s.tagRelease i).memDrop i).emit (.opDone o.tag i o.port false)).descFail 7 o
      match o.target with
      | .tile t => s1.raiseInst (Ev.tileTimeout t) t
      | _ => s1.raiseInst Ev.hostTimeout 0

/-- A write of reserve = 1 (R412). -/
def State.claimReserve (s : State) (i : Nat) : State := if i ≤ 15 then s.claim i 1 0 else s

/-- A write of release = 1 (R412): it frees a host reservation only. -/
def State.claimRelease (s : State) (i : Nat) : State := s.unclaim i 1

/-- The device logs a PCIe advanced error (R224). -/
def State.pcieError (s : State) (correctable : Bool) : State :=
  s.raise (if correctable then Ev.aerCorrectable else Ev.aerUncorrectable) 0 0

def execInjectArm (bits : Fin 4) (loc : Fin 8) (s : State) : Res := .next (s.injectArm bits loc)
def execW256ClearCounts (s : State) : Res := .next s.w256Clear
/-- A requester of class `cls` asks for a tag for an operation on `target`. -/
def execTagGrant (cls : Fin 8) (target : Target) (port : Word16) (s : State) : Res := .next (s.tagGrant ⟨cls, target, port.toNat⟩)
def execTagPoolWrite (cls : Fin 8) (floor ceil : BitVec 12) (s : State) : Res :=
  .next (s.tagPoolWrite cls floor.toNat ceil.toNat)
def execTagPeakClear (cls : Fin 8) (s : State) : Res := .next (s.tagPeakClear cls)
/-- `inst` is the operation's tag instance; `arrived`: its response emerges in or before the expiry cycle (R26, R181). -/
def execTagTimeout (inst : Nat) (arrived : Bool) (s : State) : Res := .next (s.tagTimeout inst arrived)
def execClaimReserve (i : Fin 32) (s : State) : Res := .next (s.claimReserve i)
def execClaimRelease (i : Fin 32) (s : State) : Res := .next (s.claimRelease i)
def execPcieAdvancedError (correctable : Bool) (s : State) : Res := .next (s.pcieError correctable)

end Sys2Proof.Machine
end

