-- ==== Sys2Proof/Machine/Twin.lean ====
section
/-! DEFINITION. The twin link: heartbeats, pairing, mirror ownership, time, configuration and overlap (R322 to R335, R341). -/

namespace Sys2Proof.Machine

def State.onTwn (s : State) (g : TwnSt → TwnSt) : State := { s with twn := g s.twn }

/-- Does the link carry messages (R324)? -/
def State.twinRuns (s : State) : Bool := s.flag TWN_CTL.enable && s.flag TWN_STAT.link_up

/-- The heartbeat that the device sends (R323). -/
def State.hbContent (s : State) : Heartbeat where
  unit := s.get TWN_STAT.unit
  mode := s.mode
  baseMode := s.get HUB_MODE_STAT.base_mode
  epoch := s.twn.epoch
  frameEpoch := s.get FIRE_FRAME_STAT.frame_epoch
  tableId := s.get SAF_ZT_ACTIVE.table_id
  crc := s.get SAF_ZT_ACTIVE.crc
  grantA := s.flag SAF_STAT.perm_a
  grantB := s.flag SAF_STAT.perm_b
  owner := s.flag TWN_OWN_CTL.owner
  t0 := s.fire.t0
  frameLen := s.twn.lastFrameLen
  swapPending := s.flag FIRE_FRAME_STAT.swap_pending
  tablePhase := s.get SAF_ZT_STAT.phase
  readyCrc := if 2 ≤ s.get SAF_ZT_STAT.phase then tblCrc s.saf.snf.next else 0

/-- An effect of the twin link: none while its domain is off or isolated (R39). -/
def State.onTwin (s : State) (f : State → State) : State := if s.isOff .twn then s else f s

/-- A message's blocks are read (R29, R31, R32): the model names no address on the link (log entry 193). -/
def State.twinRead (s : State) (x : TwinRx) : State :=
  match x.ecc with
  | .good => s
  | e => let r := s.fresh; r.2.w256 ⟨.twin, r.1, (Config.portId 5).toNat, 0, some x.lane.val, false⟩ e

/-- The present block of a lane has failed (R32): after its first reception and three replays the lane is taken out and retrained. -/
def State.twinFail (s : State) (l : Nat) : State :=
  let n := s.twn.laneFails.getD l 0 + 1
  let s1 := s.onTwn (fun t => { t with laneFails := t.laneFails.set l n })
  if n < 4 then s1 else s1.twinRetrain l

/-- A message comes to the device (R32): with an uncorrectable block it is not delivered, and a replay of the block may deliver it later as
a command of its own. -/
def State.twinGet (s : State) (x : TwinRx) (g : State → State) : State :=
  s.onTwin (fun s => match x.ecc with
    | .bad _ => (s.twinRead x).twinFail x.lane
    | _ => g ((s.twinRead x).onTwn (fun t => { t with laneFails := t.laneFails.set x.lane 0 })))

def State.heartbeatSend (s : State) : State := if s.twinRuns then s.emit (.heartbeat s.hbContent) else s

/-- A received heartbeat as plain numbers. -/
def hbOf (m : HbMsg) : Heartbeat :=
  ⟨bit m.unit, m.mode.toNat, m.baseMode.toNat, m.epoch.toNat, m.frameEpoch.toNat, m.tableId.toNat, m.crc.toNat, m.grantA, m.grantB,
    m.owner, m.t0.toNat, m.frameLen.toNat, m.swapPending, m.tablePhase.toNat, m.readyCrc.toNat⟩

/-- What the peer says goes into the registers (R324, R333). -/
def State.hbShow (s : State) (h : Heartbeat) : State :=
  let same := decide (h.epoch = s.twn.epoch)
  let s1 := ((s.put TWN_STAT.peer_mode h.mode).put TWN_PEER_EPOCH.epoch h.epoch).put TWN_PEER_TABLE.table_id h.tableId
  let s2 := (s1.put TWN_PEER_TABLE.crc h.crc).put TWN_STAT.epoch_match (bit same)
  let s3 := s2.put TWN_OWN_CTL.mir_own_pin (bit (s2.flag TWN_OWN_CTL.owner || h.owner))
  s3.onTwn (fun t => { t with peer := some h, mismatchSeen := t.mismatchSeen && !same })

/-- Which device is first in a SCAN mode, as heartbeats tell it (R325, R328): this one where the peer enters one later or leaves; unit 0
where the first heartbeat since this device entered reports the peer there too. `was`: the heartbeat before reported it there. -/
def State.hbLead (s : State) (was now : Bool) : State :=
  let own := isScan s.mode
  let lead := if !own || (now && was) then s.twn.lead else !now || decide (0 < s.twn.scanHbs) || !s.flag TWN_STAT.unit
  let s1 := s.onTwn (fun t => { t with
    lead := lead
    peerHbs := if now then Nat.min 2 (if was then t.peerHbs + 1 else 1) else 0
    scanHbs := if own then Nat.min 2 (t.scanHbs + 1) else 0 })
  if s.pairMode = 5 then s1.put TWN_STAT.leader (bit lead) else s1

/-- A pair of pending swaps (R326): each device holds its own until the peer's is pending too, and the follower's until the leader has
swapped, which its frame epoch shows. -/
def State.hbPairSwap (s : State) (old : Option Heartbeat) (h : Heartbeat) : State :=
  let own := s.pairSwaps && s.flag FIRE_FRAME_STAT.swap_pending
  s.onTwn (fun t => { t with
    pairHold := t.pairHold || (own && h.swapPending)
    swapLead := t.swapLead || (own && old.elim false (fun p => decide (p.frameEpoch ≠ h.frameEpoch))) })

/-- The follower's start request that the leader's T0 asks for (R325). -/
def State.hbStart (s : State) (old : Option Heartbeat) (h : Heartbeat) : State :=
  if s.twn.following ∧ old.elim true (fun p => decide (p.t0 ≠ h.t0)) then
    let o := s.get TWN_PHASE.pair_offset_ns
    (s.onTwn (fun t => { t with starts := t.starts ++ [timeAdd h.t0 (if o = 0 then h.frameLen / 2 else o * nsUnits)] })).startsDue
  else s

/-- A commit that waits for the peer goes on once it reports ready with the same crc (R341). -/
def State.hbCommit (s : State) : State :=
  if s.get SAF_ZT_STAT.phase = 2 ∧ s.flag SAF_ZT_CTL.commit ∧ s.flag TWN_STAT.hb_valid ∧ s.ztMaySwap then
    (s.put SAF_ZT_STAT.phase 3).ztIdleSwap
  else s

/-- A solo device rejoins (R328); in SCAN-SLICED and HANDOVER its base mode does (R300). -/
def State.hbRejoin (s : State) : State :=
  if s.flag TWN_CTL.auto_rejoin && s.mayRejoin then
    if s.mode = 6 then (s.autoMode 5).raise Ev.twinRejoined 0 0
    else if (s.mode = 7 ∨ s.mode = 8) ∧ s.get HUB_MODE_STAT.base_mode = 6 then
      (s.put HUB_MODE_STAT.base_mode 5).put TWN_STAT.leader (bit s.twn.lead) |>.raise Ev.twinRejoined 0 0
    else s
  else s

/-- 200 µs and 1 ms in device-time units. -/
def hbTimeout : Nat := 200 * usUnits

/-- A heartbeat is delivered (R322, R324). -/
def State.heartbeatReceive (s : State) (h : Heartbeat) : State :=
  if h.unit = s.get TWN_STAT.unit then (s.onTwn (fun t => { t with hbRun := 0 })).setFlag TWN_STAT.id_clash
  else
    let late := s.twn.hbAt.elim true (fun u => decide (hbTimeout < timeDiff s.now u))
    let run := if late then 1 else Nat.min 10 (s.twn.hbRun + 1)
    let s2 := s.onTwn (fun t => { t with hbAt := some s.now, hbRun := run })
    let s3 := (if 10 ≤ run then s2.setFlag TWN_STAT.hb_valid else s2).hbShow h
    let s4 := s3.hbLead (s.twn.peer.elim false (fun p => isScan p.mode)) (isScan h.mode)
    (((s4.hbPairSwap s.twn.peer h).hbStart s.twn.peer h).hbCommit).hbRejoin

/-- 200 µs have passed without a valid heartbeat (R324, R327); `arrived` says that one came in the deciding cycle or before
(R181). -/
def State.heartbeatTimeout (s : State) (arrived : Bool) : State :=
  if arrived then s
  else
    let s1 := s.onTwn (fun t => { t with hbRun := 0 })
    if s1.flag TWN_STAT.hb_valid then
      let s2 := ((s1.clearFlag TWN_STAT.hb_valid).setFlag TWN_STAT.hb_lost_seen).raise Ev.twinHeartbeatLost 0 0
      let s3 := s2.onTwn (fun t => { t with pairHold := false, swapLead := false })
      if s3.mode = 5 then s3.autoMode 6
      else if (s3.mode = 7 ∨ s3.mode = 8) ∧ s3.get HUB_MODE_STAT.base_mode = 5 then s3.put HUB_MODE_STAT.base_mode 6
      else s3
    else s1

/-- Every 100 µs (R332): the message carries its send time, and the send and receive times of the peer's last one. -/
def State.twinTimeSend (s : State) : State := if s.twinRuns then s.emit (.twinTime s.now s.twn.timeRx) else s

/-- The offset of the peer's time base from this one's (R332): `x` - `e` is the way of this device's message, `t` - `now` that of the peer's
against its direction, and a fixed link delay drops out of their mean. A half unit is cut (log entry 225). -/
def twoWay (now t e x : Nat) : Int := Int.fdiv (laterThan x e + laterThan t now) 2

/-- A time message of the peer (R332, R335). -/
def State.twinTime (s : State) (m : TwinStamps) (peerFollows : Bool) : State :=
  let s1 := s.onTwn (fun t => { t with peerFollows := peerFollows, timeRx := some (m.sent.toNat, s.now) })
  match m.echo with
  | none => s1
  | some (e, x) =>
    if dueAgain s.twn.laneUpAt s.now oneMs then s1.servoOffset 3 (twoWay s.now m.sent.toNat e.toNat x.toNat) 0 else s1

/-- The loops that hold a mirror DAC. -/
def State.mirrorLoops (s : State) : List Nat :=
  (List.range 8).filter (fun n => (s.loop n).claimed == some 4 || (s.loop n).claimed == some 5)

/-- The owner's loop state, every 100 µs (R323), with the speed and amplitude that its engine measures. -/
def State.mirrorStateSend (s : State) (speed amplitude : Word32) : State :=
  if s.twinRuns && s.flag TWN_OWN_CTL.owner then
    let w := fun (n j : Nat) => BitVec.ofNat 32 (s.get (CTL_LOOP_STAT.val n j))
    let ph := BitVec.ofNat 32 (toF32 0 (f32.ofQuot (sx 24 (s.get FIRE_MIRROR_STAT.phase_err)) 100))
    s.mirrorLoops.foldl (fun (s : State) n => s.emit (.mirrorState n ⟨w n 1, w n 3, w n 2, speed, amplitude, ph⟩)) s
  else s

/-- Loop `n` takes its state from the warm copy (R331, R371). -/
def State.warmTake (s : State) (n : Nat) : State :=
  match s.twn.warm.find? (fun p => p.1 == n) with
  | none => s
  | some (_, m) =>
    ((s.put (CTL_LOOP_STAT.val n 1) m.wsp.toNat).put (CTL_LOOP_STAT.val n 2) m.out.toNat).put (CTL_LOOP_STAT.val n 3) m.integ.toNat

/-- The owner's loop state arrives (R323, R371). -/
def State.mirrorState (s : State) (n : Nat) (m : LoopMsg) : State :=
  if s.flag TWN_OWN_CTL.owner then s
  else
    let s1 := s.onTwn (fun t => { t with warm := (n, m) :: t.warm.filter (fun p => !(p.1 == n)) })
    if s1.loopTracks n then s1.warmTake n else s1

/-- The device becomes mirror owner (R331): its loops are preset bumplessly from the warm copy, it asserts MIR_OWN and drives. -/
def State.ownTake (s : State) : State :=
  let s1 := s.mirrorLoops.foldl (fun (s : State) n =>
    let t := s.warmTake n
    t.setLoop n { t.loop n with preset := true, restart := false }) s
  let s2 := ((s1.setFlag TWN_OWN_CTL.owner).setFlag TWN_OWN_CTL.mir_own_pin).onTwn (fun t => { t with takeover := false, handoffAt := none })
  s2.raise Ev.mirrorOwnershipChange 0 0

/-- The device ceases to be mirror owner (R330, R331): its DAC outputs are in high impedance. `low` says that the peer holds
MIR_OWN. -/
def State.ownDrop (s : State) (low : Bool) : State :=
  let s1 := ((s.clearFlag TWN_OWN_CTL.owner).clearFlag TWN_OWN_CTL.handoff).put TWN_OWN_CTL.mir_own_pin (bit low)
  (s1.onTwn (fun t => { t with handoffAt := none })).raise Ev.mirrorOwnershipChange 0 0

/-- A write of handoff = 1 (R331): the owner names a sample, at least 500 µs ahead. -/
def State.handoff (s : State) (time : Nat) : State :=
  if ¬ s.flag TWN_STAT.hb_valid then s.setFlag TWN_OWN_CTL.handoff_refused
  else if ¬ s.flag TWN_OWN_CTL.owner then s
  else
    let soon := timeAdd s.now (500 * usUnits)
    let t := if modGe 64 time soon then time else soon
    ((s.setFlag TWN_OWN_CTL.handoff).onTwn (fun x => { x with handoffAt := some t })).emit (.handoff t)

/-- The named sample (R331): the owner releases, the other device takes over. -/
def State.handoffRun (s : State) : State :=
  if s.flag TWN_OWN_CTL.owner then (if s.twn.handoffAt.isSome then s.ownDrop true else s) else s.ownTake

/-- The owner has had no mirror-loop sample for 100 µs (R330). -/
def State.mirrorRelease (s : State) : State := if s.flag TWN_OWN_CTL.owner then s.ownDrop false else s

/-- MIR_OWN has been high for 50 µs since hb_valid cleared (R331). -/
def State.takeoverWait (s : State) : State :=
  if s.flag TWN_OWN_CTL.owner ∨ s.flag TWN_STAT.hb_valid then s
  else (s.clearFlag TWN_OWN_CTL.mir_own_pin).onTwn (fun t => { t with takeover := true })

/-- The unit delay has passed (R331); `high` is the pin. -/
def State.takeoverEnd (s : State) (high : Bool) : State :=
  if s.twn.takeover ∧ ¬ s.flag TWN_OWN_CTL.owner then
    if high then s.ownTake else (s.setFlag TWN_OWN_CTL.mir_own_pin).onTwn (fun t => { t with takeover := false })
  else s

/-- Do two ranges, in units of 0.25 mm, agree within ovl_tol, or are both cells without echo (R334)? -/
def rangesAgree (tol : Nat) : Option Nat → Option Nat → Bool
  | none, none => true
  | some a, some b => decide (((a : Int) - b).natAbs ≤ 4 * tol)
  | _, _ => false

/-- An overlap message arrives (R334). -/
def State.overlapMessage (s : State) (chan bank az : Nat) (range : Option Nat) : State :=
  match s.twn.ovlPrev.find? (fun c => c.chan == chan && c.bank == bank &&
      decide ((sx 20 (az + 2 ^ 20 - c.azimuth % 2 ^ 20)).natAbs ≤ s.get TWN_OVL_CFG.az_tol)) with
  | none => s
  | some c =>
    let bad := !rangesAgree (s.get TWN_OVL_CFG.ovl_tol) c.range range
    s.onTwn (fun t => { t with matched := t.matched + 1, disagreed := t.disagreed + bit bad })

/-- A bulk block arrives (R333): it lands inside the mirror window only, by an access that holds a tag of class 4 (R35, R322). -/
def State.bulkMessage (s : State) (addr : Nat) (data : Flit) : State :=
  let base := s.get TWN_MIRROR_BASE.base * 2 ^ 24
  if base ≤ addr ∧ addr + 32 ≤ base + 2 ^ 24 ∧ s.memHas addr 32 then
    s.withTag 4 (fun s0 => s0.devWrite addr 5 s.pulseTag (toLE 32 data.toNat))
  else s.onTwn (fun t => { t with bulkDropped := t.bulkDropped + 1 })

/-- Firmware sends the peer its configuration set as bulk messages, where this device's epoch is the later one (R323, R333). -/
def State.bulkSend (s : State) : State :=
  if s.twinRuns ∧ 0 < sx 32 (s.twn.epoch + 2 ^ 32 - s.get TWN_PEER_EPOCH.epoch) then
    (Config.mirrorSet s.twn.epoch).foldl (fun (s : State) b => s.emit (.bulk b.1.toNat b.2.toNat)) s
  else s

/-- The configuration epochs have differed for 1 s (R333). -/
def State.epochMismatch (s : State) : State :=
  if s.twn.peer.isSome ∧ ¬ s.flag TWN_STAT.epoch_match ∧ ¬ s.twn.mismatchSeen then
    ((s.onTwn (fun t => { t with mismatchSeen := true })).raise Ev.twinEpochMismatch 0 0).onTwin State.bulkSend
  else s

/-- Twin lane `l` carries blocks (R324, R335). -/
def State.twinLaneUp (s : State) (l : Nat) : State :=
  let m := s.get TWN_STAT.lanes_up
  let re := s.twn.laneTrain.getD l false
  let s1 := (s.put TWN_STAT.lanes_up (Nat.lor m (2 ^ l))).put TWN_CTL.retrain (s.get TWN_CTL.retrain - bits (s.get TWN_CTL.retrain) l 1 * 2 ^ l)
  let s2 := s1.onTwn (fun t => { t with laneTrain := t.laneTrain.set l false, laneUpAt := some s.now })
  let s3 := if m = 0 then (s2.setFlag TWN_STAT.link_up).raise Ev.twinLinkUp 0 0 else s2
  s3.raiseIf re Ev.twinLaneRetrainDone l

def execHeartbeatSend (s : State) : Res := .next (s.onTwin State.heartbeatSend)
def execHeartbeatReceive (h : HbMsg) (lane : Fin 4) (e : Ecc) (s : State) : Res :=
  .next (if s.flag TWN_CTL.enable then s.twinGet ⟨lane, e⟩ (fun s => s.heartbeatReceive (hbOf h)) else s)
def execHeartbeatTimeout (arrived : Bool) (s : State) : Res := .next (s.heartbeatTimeout arrived)
def execTwinTimeSend (s : State) : Res := .next (s.onTwin State.twinTimeSend)
/-- `off`: the message's times; `m`: whether the peer takes its time from the twin link, and how the message came. -/
def execTwinTimeMessage (off : TwinStamps) (m : Bool × TwinRx) (s : State) : Res := .next (s.twinGet m.2 (fun s => s.twinTime off m.1))
def execMirrorStateSend (speed amplitude : Word32) (s : State) : Res := .next (s.onTwin (fun s => s.mirrorStateSend speed amplitude))
def execMirrorStateMessage (n : Fin 8) (m : LoopMsg × TwinRx) (s : State) : Res := .next (s.twinGet m.2 (fun s => s.mirrorState n m.1))
/-- `m`: the range of the nearest echo, and how the message came. -/
def execOverlapMessage (chan : Fin 1536) (bank : Fin 64) (az : BitVec 20) (m : Option (BitVec 24) × TwinRx) (s : State) : Res :=
  .next (s.twinGet m.2 (fun s => s.overlapMessage chan bank az.toNat (m.1.map (fun r => r.toNat))))
def execBulkMessage (addr : Word64) (m : Flit × TwinRx) (s : State) : Res := .next (s.twinGet m.2 (fun s => s.bulkMessage addr.toNat m.1))
def execEpochMismatch (s : State) : Res := .next s.epochMismatch
/-- `write`: a write of the lane's retrain bit; else the lane has failed three replays. `inStep`: inside an adaptation step. -/
def execTwinLaneRetrain (lane : Fin 4) (write inStep : Bool) (s : State) : Res := .next (s.onTwin (fun s => s.twinRetrainReq lane write inStep))
def execTwinLaneUp (lane : Fin 4) (s : State) : Res := .next (s.onTwin (fun s => s.twinLaneUp lane))
def execTwinLaneLoss (lane : Fin 4) (s : State) : Res := .next (s.onTwin (fun s => s.twinLaneDown lane))
/-- `time` is the device time of the sample that the owner names. -/
def execMirrorHandoff (time : Word64) (s : State) : Res :=
  .next (s.onReg TWN_OWN_CTL.addr (fun s => s.handoff time.toNat))
def execMirrorHandoffExecute (s : State) : Res := .next s.handoffRun
def execMirrorRelease (s : State) : Res := .next s.mirrorRelease
def execMirrorTakeoverWait (s : State) : Res := .next s.takeoverWait
def execMirrorTakeover (high : Bool) (s : State) : Res := .next (s.takeoverEnd high)

end Sys2Proof.Machine
end

