-- ==== Sys2Proof/Machine/Bus.lean ====
section
/-! DEFINITION. Reads and writes of the registers of BAR0 (R8, R10 to R12, R39, R178 to R180, R187, R406): the generic effect by
access type, and the registers whose write does more, each of which runs the operation of its own command. -/

namespace Sys2Proof.Machine

/-- The index of `a` among `count` registers from `base` on, `stride` apart. -/
def ixOf (base stride count a : Nat) : Option Nat :=
  if base ≤ a ∧ (a - base) / stride < count ∧ (a - base) % stride = 0 then some ((a - base) / stride) else none

/-- The bits of a register whose access type satisfies `p`. -/
def accBits (l : List Fld) (p : Acc → Bool) : BitVec 64 :=
  BitVec.ofNat 64 (l.foldl (fun n f => if p f.acc then n + (2 ^ f.len - 1) * 2 ^ f.lo else n) 0)

/-- Is the block that holds `a` locked (R12)? -/
def State.lockedAt (s : State) (a : Nat) : Bool :=
  if 0x208000 ≤ a ∧ a < 0x300000 then s.flag SHADE_CTL.lock
  else if 0xC00000 ≤ a ∧ a < 0xD00000 then s.flag MEM_CTL.lock
  else if 0xF00000 ≤ a ∧ a < 0xF80000 then s.flag THM_CTL.lock
  else false

/-- A word of `v` under the access types of `l` (R8, R10): RW bits, and RWL bits while the block is not `locked`, take the bits of
`v` that the mask `m` covers; W1C bits clear and W1S bits set where `v` has a covered 1; all others stay. -/
def accWrite (l : List Fld) (locked : Bool) (old v m : BitVec 64) : BitVec 64 :=
  let rw := accBits l (fun x => decide (x = .rw) || (decide (x = .rwl) && !locked)) &&& m
  let c := accBits l (fun x => decide (x = .w1c))
  let t := accBits l (fun x => decide (x = .w1s)) &&& m
  (((old &&& ~~~rw) ||| (v &&& rw)) &&& ~~~(v &&& c &&& m)) ||| (v &&& t)

/-- A register write with no effect beyond its access types (R10). -/
def State.wr (s : State) (a : Nat) (v m : BitVec 64) : State :=
  match regAt a with
  | none => s
  | some r => s.setReg a (accWrite r.flds (s.lockedAt a) (s.reg a) v m)

/-- W1C bits that hardware sets in the clock of a write stay set (R11). -/
def State.hitKeep (s : State) (a : Nat) (hit : BitVec 64) : State :=
  match regAt a with
  | none => s
  | some r =>
    let c := accBits r.flds (fun x => decide (x = .w1c)) &&& hit
    if c = 0 then s else s.setReg a (s.reg a ||| c)

/-- The mask without bits [lo + len - 1 : lo]. -/
def maskBut (m : BitVec 64) (f : FRef) : BitVec 64 := m &&& ~~~(BitVec.ofNat 64 ((2 ^ f.len - 1) * 2 ^ f.lo))

/-- What a write brings: the bits written (0 where the write does not reach), the register's whole word after it, the mask. -/
structure Wrote where
  bits : Nat
  word : Nat
  val : BitVec 64
  mask : BitVec 64
  deriving DecidableEq, Repr

/-- The field of the bits written. -/
def Wrote.on (w : Wrote) (f : FRef) : Nat := Sys2Proof.Machine.bits w.bits f.lo f.len

/-- The field of the whole word. -/
def Wrote.whole (w : Wrote) (f : FRef) : Nat := Sys2Proof.Machine.bits w.word f.lo f.len

/-- Does the write set the one-bit field? -/
def Wrote.sets (w : Wrote) (f : FRef) : Bool := w.on f == 1

/-- The generic write without the fields `l`. -/
def State.wrBut (s : State) (a : Nat) (w : Wrote) (l : List FRef) : State := s.wr a w.val (l.foldl maskBut w.mask)

/-- A free truth value (R9). -/
def State.coin (s : State) : Bool × State :=
  let r := s.fresh
  (r.1 % 2 == 1, r.2)

/-! One definition per block: the registers whose write does more than its access types say, and the generic write. -/

def State.wrTagStat (s : State) (a : Nat) (w : Wrote) (c : Nat) : State :=
  (s.wr a w.val w.mask).when (w.sets (HUB_TAG_STAT.peak_clear c)) (fun s => s.tagPeakClear c)

def State.wrClaim (s : State) (a : Nat) (w : Wrote) (i : Nat) : State :=
  let s1 := s.wrBut a w [HUB_CLAIM.reserve i]
  let s2 := s1.when (w.sets (HUB_CLAIM.release i)) (fun s => s.claimRelease i)
  s2.when (w.sets (HUB_CLAIM.reserve i)) (fun s => s.claimReserve i)

/-- HUB. -/
def State.wrHub (s : State) (a : Nat) (w : Wrote) : State :=
  if a = HUB_W256_CTL.addr then (s.wr a w.val w.mask).when (w.sets HUB_W256_CTL.clear_counts) (fun s => s.w256Clear)
  else if a = HUB_MODE_REQ.addr then
    (s.wr a w.val w.mask).when (w.sets HUB_MODE_REQ.go) (fun s => s.modeRequest (w.on HUB_MODE_REQ.target))
  else if a = HUB_BOOT_CTL.addr then
    let s1 := s.when (w.sets HUB_BOOT_CTL.retry) (fun s => s.bootRetry false)
    s1.when (w.sets HUB_BOOT_CTL.svn_commit) (fun s => s.svnCommit)
  else if a = HUB_HO_CTL.addr then s.when (w.sets HUB_HO_CTL.start) (fun s => s.hoStart)
  else if a = HUB_SLICE_CTL.addr then
    if w.sets HUB_SLICE_CTL.start then s.sliceStart (w.on HUB_SLICE_CTL.tile) (w.on HUB_SLICE_CTL.action) else s.wr a w.val w.mask
  else
    match ixOf (HUB_TAG_POOL.addr 0) 4 8 a, ixOf (HUB_TAG_STAT.addr 0) 4 8 a, ixOf (HUB_CLAIM.addr 0) 4 32 a with
    | some c, _, _ => s.tagPoolWrite c (w.on (HUB_TAG_POOL.floor c)) (w.on (HUB_TAG_POOL.ceiling c))
    | _, some c, _ => s.wrTagStat a w c
    | _, _, some i => s.wrClaim a w i
    | _, _, _ => s.wr a w.val w.mask

/-- CLK and TIME (R168, R177, R381). -/
def State.wrTime (s : State) (p : Port) (a : Nat) (w : Wrote) : State :=
  if a = TIME_STEP.addr then s.timeStepWrite (sx 64 w.bits)
  else if a = TIME_STATS_CFG.addr then
    let s1 := (s.wrBut a w [TIME_STATS_CFG.start]).when (w.sets TIME_STATS_CFG.abort) (fun s => s.statsAbort)
    s1.when (w.sets TIME_STATS_CFG.start) (fun s => s.statsStartBy p)
  else
    match ixOf (TIME_TIN_CFG.addr 0) 4 4 a with
    | some n =>
      let s1 := s.wr a w.val w.mask
      if s1.hubTdcDead n then s1.clearFlag (TIME_TIN_CFG.enable n) else s1
    | none => s.wr a w.val w.mask

/-- A write of FIRE_FRAME_CTL: first_buf, then the pins (R51), then run, then swap_req. -/
def State.wrFrameCtl (s : State) (a : Nat) (w : Wrote) : State :=
  let s1 := s.wrBut a w [FIRE_FRAME_CTL.run, FIRE_FRAME_CTL.swap_req, FIRE_FRAME_CTL.swap_mode, FIRE_FRAME_CTL.start_mode]
  let s2 := s1.syncPinSelect (w.on FIRE_FRAME_CTL.start_mode) (w.on FIRE_FRAME_CTL.swap_mode)
  let s3 := if w.sets FIRE_FRAME_CTL.run then s2.runSet else s2.runClear
  s3.when (w.sets FIRE_FRAME_CTL.swap_req) (fun s => s.swapReq)

/-- Clearing bits of drv_fault (R62): whether a driver answers its new enumeration is a free value. -/
def State.wrDrvFault (s : State) (mask : Nat) : State :=
  (List.range 16).foldl (fun (s : State) d =>
    if bits mask d 1 = 1 then let r := s.coin; r.2.driverClear d r.1 else s) s

/-- FIRE, the Taper bus and SHADE. A window length that would change while locked raises shade-config-rejected (R68). -/
def State.wrFire (s : State) (a : Nat) (w : Wrote) : State :=
  if a = FIRE_FRAME_CTL.addr then s.wrFrameCtl a w
  else if a = FIRE_CODE_CFG.addr then
    (s.wrBut a w [FIRE_CODE_CFG.rekey]).when (w.sets FIRE_CODE_CFG.rekey) (fun s => s.rekey)
  else if a = FIRE_TAPER_STAT.addr then s.wrDrvFault (w.on FIRE_TAPER_STAT.drv_fault)
  else if a = FIRE_DIAG_CLR.addr then
    s.diagClear (w.on FIRE_DIAG_CLR.bank) (w.on FIRE_DIAG_CLR.segment) (w.sets FIRE_DIAG_CLR.whole_bank) (w.sets FIRE_DIAG_CLR.all_banks)
  else if a = SHADE_CTL.addr then
    s.when (w.sets SHADE_CTL.lock) (fun s => let r := s.coin; r.2.shadeLock r.1)
  else
    match ixOf (FIRE_FRAME_LEN.addr 0) 4 2 a, ixOf (SHADE_WIN_LEN.addr 0) 8 3 a, ixOf (SHADE_WIN_BUDGET.addr 0) 8 3 a,
        ixOf (FIRE_BANK_CFG.addr 0) 4 64 a with
    | some b, _, _, _ => if s.bufProtected b then s else s.wr a w.val w.mask
    | _, _, _, some b => (s.wr a w.val w.mask).bankUnreferenced b
    | _, some x, _, _ =>
      if s.flag SHADE_CTL.lock && !(w.on (SHADE_WIN_LEN.len_us x) == s.get (SHADE_WIN_LEN.len_us x)) then
        s.raise Ev.shadeConfigRejected 0 0
      else s.wr a w.val w.mask
    | _, _, some x, _ => s.budgetWrite x (w.on (SHADE_WIN_BUDGET.budget x))
    | _, _, _, _ => s.wr a w.val w.mask

/-- A zoom setting changes; the old one holds for cells that start within 1.6 µs (R121). -/
def State.wrZoom (s : State) (a t : Nat) (w : Wrote) : State :=
  let x := s.tile t
  (s.setTile t { x with zoomHist := ((s.reg a).toNat, s.now) :: recent s.now x.zoomHist }).wr a w.val w.mask

/-- TILE_t. -/
def State.wrTile (s : State) (a : Nat) (w : Wrote) : State :=
  let t := (a - 0x400000) / 0x100000
  if a = TILE_REF_CLR.addr t then s.when (w.sets (TILE_REF_CLR.clr t)) (fun s => s.refClear t)
  else if a = TILE_ZOOM_CFG.addr t then s.wrZoom a t w
  else if a = TILE_GANG_CTL.addr t then s.gangEnable t (w.sets (TILE_GANG_CTL.gang_en t))
  else
    match ixOf (TILE_CH_EN.addr t 0) 4 8 a, ixOf (TILE_THR_CH.addr t 0) 8 260 a, ixOf (TILE_TDC_FAIL.addr t 0) 4 9 a with
    | some x, _, _ => s.chEnable t x (w.on (TILE_CH_EN.en t x))
    | _, some c, _ => s.thrWrite t c (BitVec.ofNat 64 w.word)
    | _, _, some x => s.tdcFailWrite t x w.bits
    | _, _, _ =>
      match ixOf (TILE_SPARE_MAP.addr t 0) 4 16 a, ixOf (TILE_BANK_LOAD.addr t 0) 4 16 a with
      | some k, _ => s.spareWrite t k (w.on (TILE_SPARE_MAP.target t k)) (w.sets (TILE_SPARE_MAP.valid t k))
      | _, some b => s.when (w.sets (TILE_BANK_LOAD.peak_clr t b)) (fun s => s.loadPeakClr t b)
      | _, _ =>
        (s.wr a w.val w.mask).when (decide (TILE_WALK.addr t 0 0 ≤ a ∧ a < TILE_WALK.addr t 2 0)) (fun s => s.walkCopy a)

/-- HIST and ECHO: slots holds while the taps are enabled (R133); two ECHO writes are refused (R137). -/
def State.wrHist (s : State) (a : Nat) (w : Wrote) : State :=
  if a = HIST_TAP_CTL.addr then
    let s1 := s.tapEnable (w.sets HIST_TAP_CTL.enable) (w.sets HIST_TAP_CTL.overwrite) (w.on HIST_TAP_CTL.wm_level)
    s1.when (w.sets HIST_TAP_CTL.flush) (fun s => let r := s.coin; r.2.tapFlush r.1)
  else if a = HIST_TAP_SLOTS.addr then if s.flag HIST_TAP_CTL.enable then s else (s.wr a w.val w.mask).tapLevel
  else if a = HIST_TAP_TAIL.addr then s.tapTail (w.on HIST_TAP_TAIL.index)
  else if a = ECHO_CFG.addr then
    if w.on ECHO_CFG.max_echo = 0 then s.raise Ev.echoConfigRejected 0 0 else s.wr a w.val w.mask
  else if a = ECHO_KERNEL.addr then if w.word = 0 then s.raise Ev.echoConfigRejected 0 0 else s.wr a w.val w.mask
  else if a = ECHO_LOAD.addr then
    s.when (w.sets ECHO_LOAD.peak_clr) State.echoPeakClr
  else
    match ixOf (HIST_TAP_SEL.addr 0) 4 64 a with
    | some n => s.tapSelect n (w.on (HIST_TAP_SEL.channel n)) (w.sets (HIST_TAP_SEL.enable n)) (w.on (HIST_TAP_SEL.decim n))
    | none => s.wr a w.val w.mask

/-- RING: BASE, MOD and WB hold while their ring is enabled (R192). -/
def State.wrRing (s : State) (a : Nat) (w : Wrote) : State :=
  let v := BitVec.ofNat 32 w.bits
  let held := fun (e : FRef) => if s.flag e then s else s.wr a w.val w.mask
  match ixOf (RING_SQ_BASE.addr 0) 32 128 a, ixOf (RING_SQ_CFG.addr 0) 32 128 a, ixOf (RING_SQ_CTL.addr 0) 32 128 a with
  | some n, _, _ => held (RING_SQ_CFG.enable n)
  | _, some n, _ => s.ringCfgWrite (.sq (Fin.ofNat 128 n)) v
  | _, _, some n => s.when (w.sets (RING_SQ_CTL.flush n)) (fun s => s.sqFlush n)
  | _, _, _ =>
    match ixOf (RING_CQ_BASE.addr 0) 32 128 a, ixOf (RING_CQ_CFG.addr 0) 32 128 a, ixOf (RING_CQ_MOD.addr 0) 32 128 a with
    | some n, _, _ => held (RING_CQ_CFG.enable n)
    | _, some n, _ => s.ringCfgWrite (.cq (Fin.ofNat 128 n)) v
    | _, _, some n => held (RING_CQ_CFG.enable n)
    | _, _, _ =>
      match ixOf (RING_PR_BASE.addr 0) 64 32 a, ixOf (RING_PR_CFG.addr 0) 64 32 a, ixOf (RING_PR_MOD.addr 0) 64 32 a,
          ixOf (RING_PR_WB.addr 0) 64 32 a with
      | some n, _, _, _ => held (RING_PR_CFG.enable n)
      | _, some n, _, _ => s.ringCfgWrite (.pr (Fin.ofNat 32 n)) v
      | _, _, some n, _ => held (RING_PR_CFG.enable n)
      | _, _, _, some n => held (RING_PR_CFG.enable n)
      | _, _, _, _ =>
        match ixOf (RING_PR_QUOTA.addr 0) 64 32 a, ixOf (RING_PR_CTL.addr 0) 64 32 a with
        | some n, _ => s.prQuota n (w.on (RING_PR_QUOTA.quota n))
        | _, some n => s.when (w.sets (RING_PR_CTL.flush n)) (fun s => let r := s.coin; r.2.prFlush n r.1)
        | _, _ => s.wr a w.val w.mask

/-- What initialisation finds on a channel, as a free value. -/
def memFoundOf (x : Nat) : MemFound :=
  ⟨Fin.ofNat 5 (bits x 0 8), bits x 8 1 == 1, bits x 9 1 == 1, bits x 10 1 == 1⟩

/-- MEM. What an initialisation finds on the channels is a free value. -/
def State.wrMem (s : State) (a : Nat) (w : Wrote) : State :=
  if a = MEM_CTL.addr then
    let s1 := s.when (w.sets MEM_CTL.init) (fun s =>
      let (x, s1) := s.fresh
      s1.memInit (w.on MEM_CTL.map_order) (fun i => memFoundOf (bits x (16 * i.val) 16)))
    s1.wrBut a w [MEM_CTL.init]
  else if a = MEM_FREQ_CTL.addr then
    (s.wrBut a w [MEM_FREQ_CTL.req]).when (w.sets MEM_FREQ_CTL.req) (fun s => s.freqReq (w.on MEM_FREQ_CTL.target_sp))
  else if a = MEM_RETIRE_CTL.addr then
    if w.sets MEM_RETIRE_CTL.start then
      (s.when (s.mayRetire (w.on MEM_RETIRE_CTL.ch)) (fun s => s.wrBut a w [MEM_RETIRE_CTL.start, MEM_RETIRE_CTL.ch])).retireStart
        (w.on MEM_RETIRE_CTL.ch)
    else s.wr a w.val w.mask
  else
    match ixOf (MEM_PORT_CFG.addr 0) 16 8 a, ixOf (MEM_PORT_QUOTA.addr 0) 16 8 a, ixOf (MEM_PORT_STAT.addr 0) 16 8 a,
        ixOf (MEM_CH_ERR.addr 0) 8 4 a with
    | some p, _, _, _ => s.memPortWrite p (w.on (MEM_PORT_CFG.target_ns p)) (w.sets (MEM_PORT_CFG.rt p))
    | _, some p, _, _ => s.memQuotaWrite p (w.on (MEM_PORT_QUOTA.quota p))
    | _, _, some p, _ => (s.wr a w.val w.mask).when (w.sets (MEM_PORT_STAT.peak_clr p)) (fun s =>
        s.put (MEM_PORT_STAT.peak p) (s.get (MEM_PORT_STAT.in_use p)))
    | _, _, _, some m => (s.wr a w.val w.mask).when (w.sets (MEM_CH_ERR.clr m)) (fun s => s.memErrClear m)
    | _, _, _, _ => s.wr a w.val w.mask

/-- ETH_Pp_CFG: a changed mode trains anew; whether an adaptation step is under way is a free value (R254 to R256). -/
def State.wrEthCfg (s : State) (a p : Nat) (w : Wrote) : State :=
  let s1 := s.wrBut a w [ETH_P_CFG.mode p, ETH_P_CFG.retrain p]
  let m := w.on (ETH_P_CFG.mode p)
  let r := s1.coin
  let s2 := if m = s1.get (ETH_P_CFG.mode p) then r.2 else r.2.ethModeWrite p m r.1
  s2.when (w.sets (ETH_P_CFG.retrain p)) (fun s => s.ethRetrainWrite p r.1)

/-- An enabling bit: its rise runs `rise`, a write of 0 runs `fall`. -/
def State.wrEnable (s : State) (f : FRef) (on : Bool) (rise fall : State → State) : State :=
  if on then if s.flag f then s else rise s else if s.flag f then fall s else s

/-- A receive connection that is not enabled is Closed (R273): the grants that need it go (R285). -/
def State.qslRxOff (s : State) (c : Nat) : State := ((s.clearFlag (QSL_RX_CFG.enable c)).put (QSL_RX_STAT.state c) 0).grantsCheck

/-- A write of ETH_EXP_x_CFG (R267): one that leaves the export enabled on another ring is judged anew. -/
def State.wrExport (s : State) (a x : Nat) (w : Wrote) : State :=
  let s1 := s.wrBut a w [ETH_EXP_CFG.enable x]
  if !w.sets (ETH_EXP_CFG.enable x) then s1.clearFlag (ETH_EXP_CFG.enable x)
  else if s.flag (ETH_EXP_CFG.enable x) ∧ s1.get (ETH_EXP_CFG.ring x) = s.get (ETH_EXP_CFG.ring x) then s1
  else s1.exportEnable x

/-- ETH and QSL (R260, R262, R264, R265, R267, R271 to R273). -/
def State.wrEth (s : State) (a : Nat) (w : Wrote) : State :=
  if a = ETH_PTP_CFG.addr then (s.wr a w.val w.mask).ptpSettle
  else if a = ETH_FRER_CFG.addr then
    if w.on ETH_FRER_CFG.port_a = w.on ETH_FRER_CFG.port_b then s.raiseInst Ev.ethConfigRejected (w.on ETH_FRER_CFG.port_a)
    else s.wr a w.val w.mask
  else if a < 0xD40000 then
    let p := (a - 0xD00000) / 0x10000
    if a = ETH_P_CFG.addr p then s.wrEthCfg a p w
    else if a = ETH_P_GATE_CTL.addr p then
      let s1 := ((s.creditSync p).wrBut a w [ETH_P_GATE_CTL.change p]).creditSync p
      s1.when (w.sets (ETH_P_GATE_CTL.change p)) (fun s => s.gateChange p)
    else if (ixOf (ETH_P_CBS.addr p 0) 4 8 a).isSome then ((s.creditSync p).wr a w.val w.mask).creditSync p
    else
      match ixOf (ETH_P_GCL.addr p (s.get (ETH_P_GATE_CTL.oper_list p)) 0) 4 64 a with
      | some _ => s.raiseInst Ev.ethConfigRejected p
      | none => s.wr a w.val w.mask
  else
    match ixOf (ETH_EXP_CFG.addr 0) 16 4 a, ixOf (QSL_TX_CFG.addr 0) 0x100 8 a, ixOf (QSL_RX_CFG.addr 0) 0x100 8 a with
    | some x, _, _ => s.wrExport a x w
    | _, some c, _ =>
      let s1 := (s.wrBut a w [QSL_TX_CFG.enable c, QSL_TX_CFG.commit c]).wrEnable (QSL_TX_CFG.enable c)
        (w.sets (QSL_TX_CFG.enable c)) (fun s => s.qslTxEnable c) (fun s => s.clearFlag (QSL_TX_CFG.enable c))
      s1.when (w.sets (QSL_TX_CFG.commit c)) (fun s => s.qslCommit c)
    | _, _, some c =>
      let s1 := (s.wrBut a w [QSL_RX_CFG.enable c, QSL_RX_CFG.restart c]).wrEnable (QSL_RX_CFG.enable c)
        (w.sets (QSL_RX_CFG.enable c)) (fun s => s.qslRxEnable c) (fun s => s.qslRxOff c)
      s1.when (w.sets (QSL_RX_CFG.restart c)) (fun s => s.qslRestart c)
    | _, _, _ => s.wr a w.val w.mask

/-- TWN: retrain bits (R335), and handoff at a sample that the firmware names, a free value here (R330). -/
def State.wrTwn (s : State) (a : Nat) (w : Wrote) : State :=
  if a = TWN_CTL.addr then
    (List.range 4).foldl (fun (s : State) l =>
      if bits (w.on TWN_CTL.retrain) l 1 = 1 then let r := s.coin; r.2.twinRetrainReq l true r.1 else s)
      (s.wrBut a w [TWN_CTL.retrain])
  else if a = TWN_OWN_CTL.addr then
    (s.wrBut a w [TWN_OWN_CTL.handoff]).when (w.sets TWN_OWN_CTL.handoff) (fun s => let r := s.fresh; r.2.handoff r.1)
  else s.wr a w.val w.mask

/-- SAF (R289). -/
def State.wrSaf (s : State) (a : Nat) (w : Wrote) : State :=
  if a = SAF_ZT_CTL.addr then
    let s1 := s.when (w.sets SAF_ZT_CTL.abort) (fun s => s.ztAbort)
    let s2 := s1.when (w.sets SAF_ZT_CTL.prepare) (fun s => s.ztPrepare)
    s2.when (w.sets SAF_ZT_CTL.commit) (fun s => s.ztCommit)
  else s.wr a w.val w.mask

/-- HK and CHIMNEY (R346 to R350, R359 to R361). -/
def State.wrHk (s : State) (a : Nat) (w : Wrote) : State :=
  let s := s.hkLatchDue
  if a = HK_CTL.addr then
    let s1 := (s.wrBut a w [HK_CTL.enable, HK_CTL.sw_trig]).wrEnable HK_CTL.enable (w.sets HK_CTL.enable) (fun s => s.hkEnable)
      (fun s => s.hkDisable)
    s1.when (w.sets HK_CTL.sw_trig) (fun s => s.hkSwTrigger)
  else if a = HK_CAL_CMD.addr then
    if w.sets HK_CAL_CMD.go then s.hkCalStart (w.on HK_CAL_CMD.entry) (w.on HK_CAL_CMD.kind) (w.on HK_CAL_CMD.fs_target)
    else s.wr a w.val w.mask
  else if a = CHM_CTL.addr then
    let s1 := s.wr a w.val w.mask
    if s.flag CHM_CTL.enable && !s1.flag CHM_CTL.enable then s1.chmStop else s1
  else s.wr a w.val w.mask

/-- An enabled loop's output moves: the claim moves with it where it can (R371, R409, R410). -/
def State.loopOut (s : State) (n o : Nat) : State :=
  if s.flag (CTL_LOOP_CFG.enable n) ∧ o ≠ s.get (CTL_LOOP_CFG.out n) then
    let s1 := s.claim (10 + o) (0x10 + n) 0
    if s1.holds (10 + o) (0x10 + n) then
      let s2 := match (s1.loop n).claimed with
        | some old => s1.unclaim (10 + old) (0x10 + n)
        | none => s1
      (s2.setLoop n { s2.loop n with claimed := some o }).put (CTL_LOOP_CFG.out n) o
    else s1
  else s.put (CTL_LOOP_CFG.out n) o

/-- The fields of CTL_LOOP_n_CFG that a write changes by themselves, and its output. An enabled loop takes no source, cascade or output with
which a cascade would feed itself (R371). -/
def State.loopFields (s : State) (a n : Nat) (w : Wrote) : State :=
  let own := [CTL_LOOP_CFG.enable n, CTL_LOOP_CFG.auto n, CTL_LOOP_CFG.commit n, CTL_LOOP_CFG.out n]
  let s1 := s.wrBut a w own
  if s.flag (CTL_LOOP_CFG.enable n) && !s.loopCycle && (s1.loopWith n (w.on (CTL_LOOP_CFG.out n))).loopCycle then
    (s.wrBut a w (own ++ [CTL_LOOP_CFG.in_src n, CTL_LOOP_CFG.in_idx n, CTL_LOOP_CFG.cas_loop n])).raiseInst Ev.loopConfigRejected n
  else s1.loopOut n (w.on (CTL_LOOP_CFG.out n))

/-- A write of CTL_LOOP_n_CFG: a loop that it disables stops first, so that its output makes no claim (R409); then the plain fields, out,
auto, enable, commit, in this order. -/
def State.wrLoop (s : State) (a n : Nat) (w : Wrote) : State :=
  let s0 := s.when (s.flag (CTL_LOOP_CFG.enable n) && !w.sets (CTL_LOOP_CFG.enable n)) (fun s => s.loopEnable n false)
  let s2 := (s0.loopFields a n w).loopAuto n (w.sets (CTL_LOOP_CFG.auto n))
  let s3 := s2.wrEnable (CTL_LOOP_CFG.enable n) (w.sets (CTL_LOOP_CFG.enable n)) (fun s => s.loopEnable n true)
    (fun s => s.loopEnable n false)
  s3.when (w.sets (CTL_LOOP_CFG.commit n)) (fun s => s.loopCommit n)

/-- THM and CTL. -/
def State.wrThm (s : State) (a : Nat) (w : Wrote) : State :=
  match ixOf (CTL_LOOP_CFG.addr 0) 0x80 8 a with
  | some n => s.wrLoop a n w
  | none => s.wr a w.val w.mask

/-- CAL, BIST, EVT and IND (R320, R382 to R384, R387). -/
def State.wrCal (s : State) (a : Nat) (w : Wrote) : State :=
  if a = CAL_CTL.addr then
    if w.sets CAL_CTL.go then s.calGo (w.on CAL_CTL.tiles) (w.on CAL_CTL.kind) else s.wr a w.val w.mask
  else if a = CAL_NVM_CTL.addr then
    if w.sets CAL_NVM_CTL.go then
      if w.on CAL_NVM_CTL.op = 1 then (s.wrBut a w [CAL_NVM_CTL.go]).nvmWrite
      else if w.on CAL_NVM_CTL.op = 2 then s.nvmRead (w.on CAL_NVM_CTL.rec_type) (w.on CAL_NVM_CTL.rec_index)
      else (s.wrBut a w [CAL_NVM_CTL.go]).nvmNone
    else s.wr a w.val w.mask
  else if a = IND_CTL.addr then
    let s1 := s.wrBut a w [IND_CTL.apply]
    s1.when (w.sets IND_CTL.apply) (fun s => s.indApply (w.sets IND_CTL.at_time))
  else if a = IND_STAT.addr then s.indClear (w.on IND_STAT.fault_seen)
  else s.wr a w.val w.mask

/-- The effect of a write of the bits of `v` that `m` covers to the register at `a`, whose domain is powered. -/
def State.wrReg (s : State) (p : Port) (a : Nat) (v m : BitVec 64) : State :=
  let w : Wrote := ⟨(v &&& m).toNat, ((s.reg a &&& ~~~m) ||| (v &&& m)).toNat, v, m⟩
  if a < 0x100000 then s.wrHub a w
  else if a < 0x200000 then s.wrTime p a w
  else if a < 0x400000 then s.wrFire a w
  else if a < 0xA00000 then s.wrTile a w
  else if a < 0xB00000 then s.wrHist a w
  else if a < 0xC00000 then s.wrRing a w
  else if a < 0xD00000 then s.wrMem a w
  else if a < 0xD80000 then s.wrEth a w
  else if a < 0xE00000 then s.wrTwn a w
  else if a < 0xE80000 then s.wrSaf a w
  else if a < 0xF00000 then s.wrHk a w
  else if a < 0xF80000 then s.wrThm a w
  else s.wrCal a w

/-- The port's holding and staging registers (R180). -/
def State.port (s : State) (p : Port) : PortSt := s.ports.getD (portIx p) PortSt.init
def State.setPort (s : State) (p : Port) (x : PortSt) : State := { s with ports := s.ports.set (portIx p) x }

/-- Is a 64-bit register at `a`? -/
def isReg64 (a : Nat) : Bool :=
  match regAt a with
  | some r => r.width == 64
  | none => false

/-- The mask of the low half. -/
def lowMask : BitVec 64 := 0xFFFFFFFF

/-- How a whole register is written or read: the bits of a value that a mask covers; a read with its side effects and the DPORT
error code it met (0 none, R220). -/
abbrev RegWr := State → Port → Nat → BitVec 64 → BitVec 64 → State

/-- What a read answers: the value, an error code (0 none, 2 uncorrectable, 3 isolated, 4 timed out: R220; 5 where it waits for a tag,
so that nothing is answered yet: R35) and the state after it. -/
structure Rd where
  val : Nat
  err : Nat
  st : State
  deriving DecidableEq, Repr

abbrev RegRd := State → Port → Nat → BitVec 64 → Rd

/-- A naturally aligned 32-bit write (R8, R39, R179). -/
def State.write32 (s : State) (f : RegWr) (p : Port) (a v : Nat) : State :=
  if s.isoAt a then s.isoAccess a
  else if isReg64 a then
    let x := s.port p
    if x.stageAddr = some a then
      f (s.setPort p { x with stageAddr := none }) p a (BitVec.ofNat 64 (v % 2 ^ 32 + x.stage * 2 ^ 32)) (BitVec.allOnes 64)
    else f s p a (BitVec.ofNat 64 (v % 2 ^ 32)) lowMask
  else if 4 ≤ a ∧ isReg64 (a - 4) = true then s.setPort p { s.port p with stageAddr := some (a - 4), stage := v % 2 ^ 32 }
  else if (regAt a).isSome then f s p a (BitVec.ofNat 64 (v % 2 ^ 32)) lowMask
  else s

/-- A naturally aligned 64-bit write (R187): a 64-bit register atomically, or two 32-bit writes. -/
def State.write64 (s : State) (f : RegWr) (p : Port) (a v : Nat) : State :=
  if isReg64 a then
    if s.isoAt a then s.isoAccess a else f s p a (BitVec.ofNat 64 v) (BitVec.allOnes 64)
  else (s.write32 f p a (v % 2 ^ 32)).write32 f p (a + 4) (v / 2 ^ 32 % 2 ^ 32)

/-- The load registers show the last 1 ms up to the read (R111, R138), and IND_STAT what the lamps driven by then are diagnosed as
(R321). -/
def State.liveShow (s : State) (a : Nat) : State :=
  if a = ECHO_LOAD.addr then s.echoLoadShow
  else if a = IND_STAT.addr then s.indDiagnose
  else
    match (List.range 6).find? (fun t => (ixOf (TILE_BANK_LOAD.addr t 0) 4 16 a).isSome) with
    | some t => s.loadShow t ((a - TILE_BANK_LOAD.addr t 0) / 4)
    | none => s

/-- The value of a register without a side effect. -/
def State.regLive (s : State) (a : Nat) : Nat :=
  match ixOf (TIME_TIN_STAMP.addr 0) 8 4 a with
  | some n => (s.fifo n).headD 0
  | none => ((s.liveShow a).reg a).toNat

/-- The RC bits of the register at `a`. -/
def rcBits (a : Nat) : BitVec 64 :=
  match regAt a with
  | some r => accBits r.flds (fun x => decide (x = .rc))
  | none => 0

/-- A read with its side effects (R10, R11, R174): RC fields clear, but a bit in `hit`, set in the same clock, is kept for the next
read; a stamp leaves its FIFO. -/
def State.regTake (s : State) (_ : Port) (a : Nat) (hit : BitVec 64) : Rd :=
  match ixOf (TIME_TIN_STAMP.addr 0) 8 4 a with
  | some n => let r := s.fifoPop n; ⟨r.1, 0, r.2⟩
  | none =>
    let c := rcBits a
    let s := s.liveShow a
    ⟨(s.reg a).toNat, 0, if c = 0 then s else s.setReg a ((s.reg a &&& ~~~c) ||| (hit &&& c))⟩

/-- A naturally aligned 32-bit read (R8, R39, R178). -/
def State.read32 (s : State) (g : RegRd) (p : Port) (a : Nat) (hit : BitVec 64) : Rd :=
  if s.isoAt a then ⟨0xFFFFFFFF, 3, s.isoAccess a⟩
  else if isReg64 a then
    let r := g s p a hit
    ⟨r.val % 2 ^ 32, r.err, r.st.setPort p { r.st.port p with holdAddr := some a, hold := r.val / 2 ^ 32 }⟩
  else if 4 ≤ a ∧ isReg64 (a - 4) = true then
    let x := s.port p
    ⟨if x.holdAddr = some (a - 4) then x.hold else s.regLive (a - 4) / 2 ^ 32, 0, s⟩
  else
    let r := g s p a hit
    ⟨r.val % 2 ^ 32, r.err, r.st⟩

/-- A naturally aligned 64-bit read (R187). -/
def State.read64 (s : State) (g : RegRd) (p : Port) (a : Nat) (hit : BitVec 64) : Rd :=
  if isReg64 a then
    if s.isoAt a then ⟨2 ^ 64 - 1, 3, s.isoAccess a⟩ else g s p a hit
  else
    let lo := s.read32 g p a (hit &&& lowMask)
    let hi := lo.st.read32 g p (a + 4) (hit >>> 32)
    ⟨lo.val + 2 ^ 32 * hi.val, Nat.max lo.err hi.err, hi.st⟩

end Sys2Proof.Machine
end

