-- ==== Sys2Proof/Machine/Dport.lean ====
section
/-! DEFINITION. The internal address map (R219), the data port (R216 to R220), the host's register and window accesses (R186 to
R188), the sideband (R222, R223) and CXL.mem (R185, R248, R249). -/

namespace Sys2Proof.Machine

/-- The regions of R219 with the offset in them. -/
inductive Region where
  | regs (a : Nat)
  | fire (a : Nat)
  | zone (a : Nat)
  | cal (a : Nat)
  | dev (d : Nat)
  deriving DecidableEq, Repr

/-- The region of internal address `d`, and where it ends (R219); device memory ends with its usable extent (R246). -/
def State.regionAt (s : State) (d : Nat) : Option (Region × Nat) :=
  if d < 0x1000000 then some (.regs d, 0x1000000)
  else if 0x200000000 ≤ d ∧ d < 0x200080200 then some (.fire (d - 0x200000000), 0x200080200)
  else if 0x300000000 ≤ d ∧ d < 0x300100000 then some (.zone (d - 0x300000000), 0x300100000)
  else if 0x400000000 ≤ d ∧ d < 0x400100000 then some (.cal (d - 0x400000000), 0x400100000)
  else if 0x10000000000 ≤ d ∧ s.memHas (d - 0x10000000000) 1 = true then
    some (.dev (d - 0x10000000000), 0x10000000000 + s.get MEM_EXTENT.extent)
  else none

/-- A FIRE table read of `n` bytes within one hub SRAM word, by the reader that uses memory port `mp` and `tag` (R42, R29, R34; log
entry 29). -/
def State.fireRead (s : State) (mp tag a n : Nat) (e : Ecc) : Rd :=
  let r := s.w256Read ⟨.hubSram, 0x200000000 + a / 32 * 32, (Config.portId mp).toNat, tag, none, false⟩ e
  match r.1 with
  | .bad _ => ⟨0, 2, r.2⟩
  | _ => ⟨memNat s.fireTab a n, 0, r.2⟩

/-- A read of `n` bytes within one word of the zone table's staging area (R219, R29; log entry 29). -/
def State.zoneRead (s : State) (mp tag a n : Nat) (e : Ecc) : Rd :=
  let r := s.w256Read ⟨.hubSram, 0x300000000 + a / 32 * 32, (Config.portId mp).toNat, tag, none, false⟩ e
  match r.1 with
  | .bad _ => ⟨0, 2, r.2⟩
  | _ => ⟨memNat s.ztStage a n, 0, r.2⟩

/-- Is offset `a` of table space in one of the tables (R42)? -/
def fireUsed (a : Nat) : Bool := decide (0x80000 ≤ a) || decide (a % 0x40000 < 0x26800)

/-- A FIRE table write (R42): dropped in a protected buffer, in the energy table once Shade is locked, and between the tables. -/
def State.fireWrite (s : State) (a : Nat) (l : List Byte) : State :=
  if a < 0x80000 ∧ s.bufProtected (a / 0x40000) = true then s.raise Ev.writeToActiveBuffer 0 0
  else if 0x80000 ≤ a ∧ s.flag SHADE_CTL.lock = true then s.raise Ev.shadeConfigRejected 0 0
  else if fireUsed a then
    let s1 := s.w256Write .hubSram (0x200000000 + a / 32 * 32)
    { s1 with fireTab := memStore s1.fireTab a l }
  else s

/-- A read of at most 8 bytes within an aligned 8-byte group at internal address `d` through port `p` (R216, R219, R220): error code 1
where no region is. `mp` is the memory port and `tag` the tag it uses (R233, R35). In register space a read that is no aligned 32-bit or
64-bit access returns 0 (R187). -/
def State.intRead (s : State) (p : Port) (mp tag d n : Nat) (e : Ecc) : Rd :=
  match s.regionAt d with
  | none => ⟨0, 1, s⟩
  | some (.regs a, _) =>
    if n = 8 then s.read64 State.regTake p a 0
    else if n = 4 ∧ a % 4 = 0 then s.read32 State.regTake p a 0
    else ⟨0, 0, s⟩
  | some (.fire a, _) => s.fireRead mp tag a n e
  | some (.zone a, _) => s.zoneRead mp tag a n e
  | some (.cal a, _) => ⟨memNat s.calStage a n, 0, s⟩
  | some (.dev d, _) =>
    let r := s.devRead d n mp tag e
    if r.1 then ⟨memNat s.devMem d n, 0, r.2⟩ else ⟨0, 2, r.2⟩

/-- A write of at most 8 bytes within an aligned 8-byte group at internal address `d` (R216, R218 to R220): the error code and the
state. In register space a write that is no aligned 32-bit or 64-bit access is dropped (R187); calibration staging takes no write
while the NVM is busy (R382). -/
def State.intWrite (s : State) (p : Port) (mp tag d : Nat) (l : List Byte) : Nat × State :=
  match s.regionAt d with
  | none => (1, s)
  | some (.regs a, _) =>
    let s1 := if l.length = 8 then s.write64 State.wrReg p a (ofLE l)
      else if l.length = 4 ∧ a % 4 = 0 then s.write32 State.wrReg p a (ofLE l) else s
    (if s.isoAt a then 3 else 0, s1)
  | some (.fire a, _) => (0, s.fireWrite a l)
  | some (.zone a, _) => (0, { s.w256Write .hubSram (0x300000000 + a / 32 * 32) with ztStage := memStore s.ztStage a l })
  | some (.cal a, _) => (0, if s.flag CAL_NVM_STAT.busy then s else { s with calStage := memStore s.calStage a l })
  | some (.dev d, _) => let r := s.devStore d mp tag l; (if r.1 then 0 else 2, r.2)

/-- The bytes from `d` to the end of its 8-byte group, at most `n`. -/
def groupLen (d n : Nat) : Nat := Nat.min n (8 - d % 8)

/-- A write of a list of bytes, 8-byte group by 8-byte group; the last error code counts. -/
def State.intStore (s : State) (p : Port) (mp tag : Nat) : Nat → Nat → List Byte → Nat → Nat × State
  | 0, _, _, err => (err, s)
  | _ + 1, _, [], err => (err, s)
  | k + 1, d, l, err =>
    let n := groupLen d l.length
    let r := s.intWrite p mp tag d (l.take n)
    r.2.intStore p mp tag k (d + n) (l.drop n) (if r.1 = 0 then err else r.1)

/-- A read of `n` bytes, 8-byte group by 8-byte group, in at most `k` groups: bytes, the last error code, state. The sender's W256
outcome applies to the first group. -/
def State.intFetch (s : State) (p : Port) (mp tag : Nat) : Nat → Nat → Nat → Ecc → List Byte × Nat × State
  | 0, _, _, _ => ([], 0, s)
  | k + 1, d, n, e =>
    if n = 0 then ([], 0, s)
    else
      let len := groupLen d n
      let r := s.intRead p mp tag d len e
      let q := r.st.intFetch p mp tag k (d + len) (n - len) .good
      (toLE len r.val ++ q.1, if q.2.1 = 0 then r.err else q.2.1, q.2.2)

/-- The address the data port stands at. -/
def State.dportAddr (s : State) : Nat := s.get DPORT_ADDR.address * 8

/-- DPORT_ADDR changes: the window count clears (R218). -/
def State.setDportAddr (s : State) (a : Nat) : State :=
  let s1 := (s.put DPORT_ADDR.address (a / 8)).put DPORT_STAT.win_count 0
  { s1 with host := { s1.host with aperture := [] } }

/-- An error of the data port (R220). -/
def State.dportErr (s : State) (code : Nat) : State :=
  if code = 0 then s else ((s.setFlag DPORT_STAT.err).put DPORT_STAT.err_code code).raise Ev.dportError 0 0

/-- A tagged operation towards internal address `d` has timed out (R37, R397): a tile's timeout, or host-timeout. -/
def State.timeoutAt (s : State) (d : Nat) : State :=
  if 0x400000 ≤ d ∧ d < 0xA00000 then s.raiseInst (Ev.tileTimeout ((d - 0x400000) / 0x100000)) ((d - 0x400000) / 0x100000)
  else s.raiseInst Ev.hostTimeout 0

/-- A data-port access at internal address `d` that times out: code 4, and the timeout event (R220, R37). -/
def State.dportLate (s : State) (d : Nat) : State := (s.timeoutAt d).dportErr 4

/-- The 8-byte read of DPORT_DATA (R216, R220): `late` says that it times out (R37). With no tag of class 7 to be had it waits (R35). -/
def State.dportRead (s : State) (p : Port) (e : Ecc) (late : Bool) : Rd :=
  if s.mode = 0 then ⟨0, 0, s⟩
  else if !s.tagFree 7 then ⟨0, 5, s.tagWait 7⟩
  else
    let a := s.dportAddr
    let s0 := s.tagPulse 7
    if late then ⟨0, 4, (s0.dportLate a).setDportAddr (a + 8)⟩
    else
      let r := s0.intRead p 7 s.pulseTag a 8 e
      ⟨r.val, r.err, (r.st.dportErr r.err).setDportAddr (a + 8)⟩

/-- A write of DPORT_DATA, whole or its low half alone (R216, R217); whether one that times out has stored is a free value. -/
def State.dportWrite (s : State) (p : Port) (l : List Byte) (late : Bool) : State :=
  if s.mode = 0 then s
  else s.withTag 7 fun s0 =>
    let a := s.dportAddr
    if late then
      let r := s0.coin
      let s1 := if r.1 then (r.2.intWrite p 7 s.pulseTag a l).2 else r.2
      (s1.dportLate a).setDportAddr (a + 8)
    else
      let r := s0.intWrite p 7 s.pulseTag a l
      (r.2.dportErr r.1).setDportAddr (a + 8)

/-- Bytes [o, o + n) of the window are written: the bytes of each word that have been, by word (R218). -/
def markBytes (m : List (Nat × Nat)) (o : Nat) : Nat → List (Nat × Nat)
  | 0 => m
  | n + 1 => markBytes (tabSet (fun _ => 0) m (o / 4) (Nat.lor (tabGet (fun _ => 0) m (o / 4)) (2 ^ (o % 4)))) (o + 1) n

/-- Words of the window whose four bytes have been written. -/
def wholeWords (m : List (Nat × Nat)) : Nat := (m.filter (fun p => p.2 == 15)).length

/-- An aperture write of bytes at offset `o` (R218); whether one that times out has stored is a free value (R220). -/
def State.apertureWrite (s : State) (p : Port) (o : Nat) (l : List Byte) (late : Bool) : State :=
  if s.mode = 0 then s
  else s.withTag 7 fun s0 =>
    let a := s.dportAddr
    let l := l.take (4096 - o)
    let c := if late then s0.coin else (true, s0)
    let r := if c.1 then c.2.intStore p 7 s.pulseTag l.length (a + o) l 0 else (0, c.2)
    let s1 := if late then r.2.dportLate (a + o) else r.2.dportErr r.1
    let m := markBytes s1.host.aperture o l.length
    if wholeWords m = 1024 then s1.setDportAddr (a + 4096)
    else ({ s1 with host := { s1.host with aperture := m } }).put DPORT_STAT.win_count (wholeWords m)

/-- An aperture read of `n` bytes at offset `o` (R218). -/
def State.apertureRead (s : State) (p : Port) (o n : Nat) (e : Ecc) (late : Bool) : Rd :=
  if s.mode = 0 then ⟨0, 0, s⟩
  else if !s.tagFree 7 then ⟨0, 5, s.tagWait 7⟩
  else
    let a := s.dportAddr + o
    let s0 := s.tagPulse 7
    if late then ⟨0, 4, s0.dportLate a⟩
    else
      let r := s0.intFetch p 7 s.pulseTag n a (Nat.min n (4096 - o)) e
      ⟨ofLE r.1, r.2.1, r.2.2.dportErr r.2.1⟩

/-- A write of a BAR0 or BAR2 register (R186, R216); `late`: an access it makes through DPORT_DATA times out. -/
def State.wrAny (late : Bool) (s : State) (p : Port) (a : Nat) (v m : BitVec 64) : State :=
  if a = DPORT_ADDR.addr then s.setDportAddr (((s.reg a &&& ~~~m) ||| (v &&& m)).toNat)
  else if a = DPORT_DATA.addr then s.dportWrite p ((toLE 8 v.toNat).take (if m = BitVec.allOnes 64 then 8 else 4)) late
  else if 0x1000000 ≤ a then s.wr a v m
  else s.wrReg p a v m

/-- A read of a BAR0 or BAR2 register, with the outcome of a memory word and a timeout for DPORT_DATA (R216, R217). -/
def State.rdAny (e : Ecc) (late : Bool) (s : State) (p : Port) (a : Nat) (hit : BitVec 64) : Rd :=
  if a = DPORT_DATA.addr then s.dportRead p e late else s.regTake p a hit

/-- The word of the MSI-X table and PBA at offset `o` of page 511 (R188): plain storage (log entry 33). -/
def msixAddr (o : Nat) : Nat := 0x21FF000 + o

/-- A 32-bit write at offset `a` of BAR4 (R188). -/
def State.bar4Write (s : State) (a v : Nat) : State :=
  let page := a / 4096
  let x := BitVec.ofNat 32 v
  if page = 511 then s.setReg (msixAddr (a % 4096)) (BitVec.ofNat 64 (v % 2 ^ 32))
  else if a % 4096 = 0 then
    if page < 128 then s.sqDoorbell page x
    else if page < 256 then s.cqDoorbell (page - 128) x
    else if page < 288 then s.prDoorbell (page - 256) x
    else s
  else s

/-- Must an access of `n` bytes at `a` wait, because it is an access of DPORT_DATA and class 7 has no tag to give (R35)? -/
def State.dportHeld (s : State) (a n : Nat) : Bool :=
  decide (a = DPORT_DATA.addr) && decide (n = 4 ∨ n = 8) && !decide (s.mode = 0) && !s.tagFree 7

/-- A host register write of `n` bytes at BAR0 offset `a`, BAR2 offset `a` - 0x1000000 or BAR4 offset `a` - 0x2000000: aligned 4 or 8
bytes, any other size or alignment is dropped (R187); a doorbell takes any write that covers bytes 0 to 3 of its page (R188). -/
def State.hostWrite (s : State) (p : Port) (a n v : Nat) (late : Bool) : State :=
  if 0x2000000 ≤ a then
    let o := a - 0x2000000
    if o / 4096 = 511 then
      if n = 4 ∧ a % 4 = 0 then s.bar4Write o v
      else if n = 8 ∧ a % 8 = 0 then (s.bar4Write o (v % 2 ^ 32)).bar4Write (o + 4) (v / 2 ^ 32)
      else s
    else if 4 ≤ n ∧ o % 4096 = 0 then s.bar4Write o (v % 2 ^ 32)
    else s
  else if s.dportHeld a n then s.tagWait 7
  else if n = 4 ∧ a % 4 = 0 then s.write32 (State.wrAny late) p a v
  else if n = 8 ∧ a % 8 = 0 then s.write64 (State.wrAny late) p a v
  else s

/-- A read of `n` bytes of the pop window from byte `o` on, through port `p` (R212): with byte 0 it pops. -/
def State.popRead (s : State) (p : Port) (o n : Nat) : List Byte × State :=
  let s1 := if o = 0 ∧ 0 < n then s.evPop p else s
  (((s1.ev.hold.getD (portIx p) []).drop o).take n, s1)

/-- A host read of BAR4 (R188): a doorbell reads at 0x000 only; the pop window and the MSI-X page answer their bytes. -/
def State.bar4Read (s : State) (p : Port) (o n : Nat) : Rd :=
  let w := fun (o : Nat) => (s.reg (msixAddr (o % 4096))).toNat
  if o / 4096 = 511 then
    if n = 4 ∧ o % 4 = 0 then ⟨w o, 0, s⟩
    else if n = 8 ∧ o % 8 = 0 then ⟨w o + 2 ^ 32 * w (o + 4), 0, s⟩
    else ⟨0, 0, s⟩
  else if o / 4096 = 288 ∧ o % 4096 < 32 then
    let r := s.popRead p (o % 4096) n
    ⟨ofLE r.1, 0, r.2⟩
  else if o % 4096 = 0 ∧ o / 4096 < 288 then ⟨s.doorbell (o / 4096) % 2 ^ (8 * Nat.min 4 n), 0, s⟩
  else ⟨0, 0, s⟩

/-- A host register read (R187): any other size or alignment returns 0. -/
def State.hostRead (s : State) (p : Port) (a n : Nat) (hit : BitVec 64) (e : Ecc) (late : Bool) : Rd :=
  if 0x2000000 ≤ a then s.bar4Read p (a - 0x2000000) n
  else if s.dportHeld a n then ⟨0, 5, s.tagWait 7⟩
  else if n = 4 ∧ a % 4 = 0 then s.read32 (State.rdAny e late) p a hit
  else if n = 8 ∧ a % 8 = 0 then s.read64 (State.rdAny e late) p a hit
  else ⟨0, 0, s⟩

/-- What a read leaves on its port: the value, or Completer Abort (R32); nothing yet where it waits. -/
def Rd.answer (r : Rd) (p : Port) (a : Nat) : State :=
  if r.err = 5 then r.st
  else if r.err = 2 then r.st.emit (.readAbort p a) else r.st.emit (.readData p a r.val)

/-! The sideband (R222, R223). -/

/-- A sideband address that names something: aligned, in a window that exists. -/
def sbValid (a : Nat) : Bool :=
  decide (a % 4 = 0) && decide (a / 2 ^ 26 = 0) &&
    (match bits a 24 2 with
     | 0 => true
     | 1 => decide (a % 2 ^ 24 < 0x20)
     | 2 => decide (a % 2 ^ 24 < 0x20)
     | _ => false)

/-- Is the sideband up: PORST_N released, with PD_AON powered? -/
def State.sbUp (s : State) : Bool := !s.boot.porstLow

/-- The static SMBus address: 0x4C plus the two-bit strap (R222). -/
def sbStatic : Nat := 0x4C + Config.sbAddr.toNat

/-- Does a transfer call this device (R222): in I3C the dynamic address it has taken, as an SMBus target its static one? -/
def State.sbCalled (s : State) (x : SbXfer) : Bool :=
  s.sbUp && (if x.i3c then decide (s.host.sbAddr = some x.target.toNat) else decide (x.target.toNat = sbStatic))

/-- A sideband write. -/
def State.sbWrite (s : State) (a v : Nat) (x : SbXfer) : State :=
  if s.sbCalled x then
    if x.ok && sbValid a then
      if bits a 24 2 = 2 then s else s.hostWrite .sideband (a % 2 ^ 24 + 0x1000000 * bits a 24 2) 4 v false
    else s.raise Ev.sidebandError 0 0
  else s

/-- The status byte of a read that met an error code of R220. -/
def sbStatus (err : Nat) : Nat := if err = 3 then 1 else if err = 2 then 2 else if err = 4 then 3 else 0

/-- A sideband read (R222, R223, R212). -/
def State.sbRead (s : State) (a : Nat) (x : SbXfer) (e : Ecc) (late : Bool) : State :=
  if s.sbCalled x then
    if x.ok && sbValid a then
      if bits a 24 2 = 2 then
        let r := s.popRead .sideband (a % 2 ^ 24) 4
        r.2.emit (.sideband (ofLE r.1) 0)
      else
        let r := s.hostRead .sideband (a % 2 ^ 24 + 0x1000000 * bits a 24 2) 4 0 e late
        if r.err = 5 then r.st else r.st.emit (.sideband r.val (sbStatus r.err))
    else (s.raise Ev.sidebandError 0 0).emit (.sideband 0 4)
  else s

/-! CXL.mem (R185): accesses of one 64-byte line. -/

/-- A CXL.mem read of the line that holds `d`: poison before memory is active (R249), above the extent (R248), and on an
uncorrectable word (R32). -/
def State.cxlRead (s : State) (d : Nat) (e : Ecc) : State :=
  let d := d / 64 * 64
  let poison := fun (s : State) => s.emit (.cxlData d true [])
  if s.flag RING_LINK_STAT.cxl_mem_en then
    if s.memHas d 64 then
      s.withTag 2 fun s0 =>
        let r := s0.devRead d 64 2 s.pulseTag e
        if r.1 then r.2.emit (.cxlData d false (memBytes s.devMem d 64)) else poison r.2
    else if s.flag MEM_STAT.mem_active then poison s.extentViolation
    else poison s
  else s

/-- A CXL.mem write of bytes of one line, dropped where memory is not active or above the extent (R248, R249). -/
def State.cxlWrite (s : State) (d : Nat) (l : List Byte) : State :=
  let l := l.take (64 - d % 64)
  if s.flag RING_LINK_STAT.cxl_mem_en then
    if s.memHas d l.length then s.withTag 2 (fun s0 => s0.devWrite d 2 s.pulseTag l)
    else if s.flag MEM_STAT.mem_active then s.extentViolation
    else s
  else s

/-- A write through `p` of `bytes` bytes at a BAR0 offset (BAR2 from 0x1000000, BAR4 from 0x2000000 up); the W1C bits in `hit` are set
by hardware in the same clock (R11). -/
def execRegisterWrite (p : Port) (a : BitVec 26) (bytes : Fin 9) (v hit : Word64) (s : State) : Res := .next <| s.viaPort p fun s =>
  let s1 := s.hostWrite p a.toNat bytes v.toNat false
  if bytes.val = 8 ∧ isReg64 a.toNat = false then (s1.hitKeep a.toNat (hit &&& lowMask)).hitKeep (a.toNat + 4) (hit >>> 32)
  else s1.hitKeep a.toNat hit
/-- A read through `p`; the RC bits in `hit` are set by hardware in the same clock (R11). -/
def execReadClear (p : Port) (a : BitVec 26) (bytes : Fin 9) (hit : Word64) (s : State) : Res :=
  .next (s.viaPort p fun s => (s.hostRead p a.toNat bytes hit .good false).answer p a.toNat)
def execThmLock (s : State) : Res := .next (s.setFlag THM_CTL.lock)
/-- `a` is the offset of a 64-bit register; `e` and `late` are the outcome of the transfer where it is DPORT_DATA (R217). -/
def execLowHalfRead (p : Port) (a : BitVec 25) (e : Ecc) (late : Bool) (s : State) : Res :=
  .next (s.viaPort p fun s => (s.hostRead p a.toNat 4 0 e late).answer p a.toNat)
/-- `a` is the offset of a 64-bit register, `v` its high half. -/
def execHighHalfWrite (p : Port) (a : BitVec 25) (v : Word32) (s : State) : Res :=
  .next (s.viaPort p fun s => s.hostWrite p (a.toNat + 4) 4 v.toNat false)
def execLowHalfWrite (p : Port) (a : BitVec 25) (v : LowHalf) (s : State) : Res :=
  .next (s.viaPort p fun s => s.hostWrite p a.toNat 4 v.value.toNat v.late)
def execDportAddrWrite (v : Word64) (s : State) : Res := .next (if s.mode = 0 then s else s.setDportAddr v.toNat)
def execDportDataRead (p : Port) (e : Ecc) (late : Bool) (s : State) : Res :=
  .next (s.viaPort p fun s => (s.dportRead p e late).answer p DPORT_DATA.addr)
def execDportDataWrite (p : Port) (v : Word64) (late : Bool) (s : State) : Res :=
  .next (s.viaPort p fun s => s.dportWrite p (toLE 8 v.toNat) late)
def execDportApertureWrite (o : ApertureOff) (data : List Byte) (s : State) : Res :=
  .next (s.apertureWrite .pcie o.off data o.late)
/-- A read of `len` bytes. -/
def execDportApertureRead (o : Fin 4096) (len : Fin 4097) (e : Ecc) (late : Bool) (s : State) : Res :=
  .next ((s.apertureRead .pcie o len e late).answer .pcie (0x1001000 + o))
def execSidebandEntdaa (dyn : BitVec 7) (s : State) : Res :=
  .next (if s.sbUp then { s with host := { s.host with sbAddr := some dyn.toNat } } else s)
def execSidebandWrite (a v : Word32) (x : SbXfer) (s : State) : Res := .next (s.sbWrite a.toNat v.toNat x)
def execSidebandRead (a : Word32) (x : SbXfer) (e : Ecc) (late : Bool) (s : State) : Res := .next (s.sbRead a.toNat x e late)
/-- A read held off for 100 µs (R222): it answers status 0x03 with data 0. -/
def execSidebandTimeout (s : State) : Res := .next (if s.sbUp then s.emit (.sideband 0 3) else s)
def execCxlMemRead (d : Word64) (e : Ecc) (s : State) : Res := .next (s.cxlRead d.toNat e)
def execCxlMemWrite (d : Word64) (data : List Byte) (s : State) : Res := .next (s.cxlWrite d.toNat data)

end Sys2Proof.Machine
end

