-- ==== Sys2Proof/Machine/Descs.lean ====
section
/-! DEFINITION. Executing descriptors (R194 to R197, R201): the next descriptor of a submission ring that may start, and the meaning
of each opcode. -/

namespace Sys2Proof.Machine

/-- Is a descriptor one of those that run strictly in ring order with respect to one another (R197)? -/
def Desc.ordered (d : Desc) : Bool := decide (d.opcode = 3) || decide (d.opcode = 4) || decide (d.opcode = 6)

/-- May `d` start behind the descriptors `before` of its ring that have not completed (R194, R197)? -/
def Desc.mayStart (d : Desc) (before : List Desc) : Bool :=
  !(d.fence && !before.isEmpty) &&
    !before.any (fun x => match x.st with
      | .waiting _ => true
      | .running => d.ordered && x.ordered
      | _ => false)

/-- The first descriptor that has not started, behind the ones in `before`. -/
def nextDesc (before : List Desc) : List Desc → Option Desc
  | [] => none
  | d :: l => if d.st = .fetched then if d.mayStart before then some d else none else nextDesc (before ++ [d]) l

/-- The descriptor of SQ `n` that starts next: descriptors start in ring order. -/
def State.startNext (s : State) (n : Nat) : Option Desc :=
  if s.flag (RING_SQ_STAT.flushing n) then none else nextDesc [] (s.sq n).descs

/-- Is SQ `n` below its credit (R199)? -/
def State.sqBelow (s : State) (n : Nat) : Bool :=
  decide (s.get (RING_SQ_STAT.in_flight n) < s.get (RING_SQ_CFG.credit_m1 n) + 1)

/-- Does SQ `m` start a descriptor before SQ `n` starts `d` (R198)? High-priority SQs come before any normal one; within a class descriptors
start in the order in which the rotation has picked them at their fetch. -/
def State.startsBefore (s : State) (m n : Nat) (d : Desc) : Bool :=
  s.sqBelow m &&
    match s.startNext m with
    | some x => if s.flag (RING_SQ_CFG.prio m) = s.flag (RING_SQ_CFG.prio n) then decide (x.inst < d.inst) else s.flag (RING_SQ_CFG.prio m)
    | none => false

/-- The descriptor of SQ `n` that starts now, if its opcode is one that `p` accepts and no other SQ comes first. -/
def State.startable (s : State) (n : Nat) (p : Nat → Bool) : Option Desc :=
  match s.startNext n with
  | some d => if p d.opcode && !s.host.sq.any (fun x => s.startsBefore x.1 n d) then some d else none
  | none => none

/-- A descriptor of SQ `n` goes on executing in state `st`. -/
def State.descSt (s : State) (n inst : Nat) (st : DescSt) : State :=
  let q := s.sq n
  s.setSq n { q with descs := q.descs.map (fun d => if d.inst = inst then { d with st := st } else d) }

/-- What an access to internal address `a` targets: the tile whose registers it names (R37, R397). -/
def addrTarget (a : Nat) : Target :=
  if 0x400000 ≤ a ∧ a < 0xA00000 then .tile (Fin.ofNat 6 ((a - 0x400000) / 0x100000)) else .host

/-- What descriptor `d` targets: the tile whose registers it reads or writes, of a REG_WRITE those of its first pair; else it counts as the
host's (R397; log entry 222). -/
def Desc.target (d : Desc) : Target :=
  if d.opcode = 1 then
    match (if d.byte 24 1 = 1 then addrTarget d.src else .host) with
    | .host => if d.byte 25 1 = 1 then addrTarget d.dst else .host
    | t => t
  else if d.opcode = 2 then (if d.byte 32 1 = 1 then addrTarget d.dst else .host)
  else if d.opcode = 3 then addrTarget (d.byte 8 4)
  else if d.opcode = 4 then addrTarget d.src
  else .host

/-- Descriptor `d` of SQ `n` starts to execute (R199): it holds a tag of class 0 and counts in in_flight. -/
def State.descStart (s : State) (n : Nat) (d : Desc) : State :=
  let s1 := (s.tagTakeAs 0 d.target n d.inst).put (RING_SQ_STAT.in_flight n) (s.get (RING_SQ_STAT.in_flight n) + 1)
  let q := s1.sq n
  s1.setSq n { q with descs := q.descs.map (fun x => if x.inst = d.inst then { x with started := true } else x) }

/-- The reserved bits that every descriptor has (R194) are 0. -/
def Desc.plain (d : Desc) : Bool := decide (d.byte 1 1 < 8) && decide (d.byte 56 8 = 0)

/-- The `k`th COPY or FILL of SQ `n` with opcode `op` that is under way, in ring order. -/
def State.movingDesc (s : State) (n op k : Nat) : Option Desc :=
  ((s.sq n).descs.filter (fun d => d.isMoving && decide (d.opcode = op)))[k]?

/-- The ring engine reads descriptor `d` from its buffer (R29, R32): with an uncorrectable word it ends with uncorrectable data. -/
def State.descRead (s : State) (n : Nat) (d : Desc) (g : State → State) : State :=
  let s1 := s.hubScan 3 (s.tagOf d.inst) (descBuf d.inst) 64
  if s.hubBad (descBuf d.inst) 64 then s1.descEnd n d.inst 4 0 else g s1

/-- Starts the next descriptor of SQ `n` if its opcode is `op`, once its SQ's credit and a tag allow (R199). With a reserved bit set it is
not executed and ends with invalid field (R194). -/
def State.runDesc (s : State) (n op : Nat) (g : State → Desc → State) : State :=
  match s.startable n (fun x => x == op) with
  | none => s
  | some d => s.descRead n d (fun s =>
    if !d.plain then s.descEnd n d.inst 2 0
    else if !s.sqBelow n then s
    else if s.tagFree 0 then g (s.descStart n d) d
    else s.tagWait 0)

/-- The movers of the ring engine that take new work: not one under test, nor one whose slice has failed (R391, R393). -/
def State.movers (s : State) : Nat :=
  ((List.range 5).filter (fun m => !(s.cal.bistRun == some (9 + m)) && !(s.get (BIST_SLICE_STAT.result (9 + m)) == 2))).length

/-- Is a mover free for one more COPY or FILL: each that is under way has one (R391; log entry 228)? -/
def State.moverFree (s : State) : Bool :=
  decide ((s.host.sq.map (fun p => (p.2.descs.filter Desc.isMoving).length)).sum < s.movers)

/-- A turn of a COPY or FILL of SQ `n`: the next descriptor starts once a mover is free, or a move under way goes on (R197). -/
def State.moveTurn (s : State) (n op : Nat) (turn : MoveTurn) (g : State → Desc → State) : State :=
  match turn.resume with
  | none => if s.moverFree then s.runDesc n op g else s
  | some k => (s.movingDesc n op k).elim s (g s)

/-- Does internal address `d` reach a tile over a Jexannar link that is down (R19, R201)? -/
def State.linkLost (s : State) (d : Nat) : Bool :=
  if 0x400000 ≤ d ∧ d < 0xA00000 then
    let t := (d - 0x400000) / 0x100000
    (s.link (12 + t)).down || ((s.link (tileUp t 0)).down && (s.link (tileUp t 1)).down)
  else false

/-- The status of an internal range before anything moves (R196, R201): 3 unmapped, crossing a region's end, or not 4-byte aligned in
register space; 0xA over a dead link. -/
def State.rangeErr (s : State) (d n : Nat) : Nat :=
  match s.regionAt d with
  | none => 3
  | some (r, last) =>
    if last < d + n then 3
    else
      match r with
      | .regs _ => if d % 4 ≠ 0 ∨ n % 4 ≠ 0 then 3 else if s.linkLost d then 0xA else 0
      | _ => 0

/-- The status that an error code of R220 becomes (R201). -/
def codeStatus (c : Nat) : Nat := if c = 3 then 9 else if c = 2 then 4 else if c = 4 then 7 else if c = 1 then 3 else 0

/-- Reads one piece of up to 8 bytes from host memory (space 0) or an internal address (space 1): bytes, status, state. -/
def State.pieceRead (s : State) (space d n tag : Nat) (e : Ecc) : List Byte × Nat × State :=
  if space = 0 then (memBytes s.hostMem d n, 0, s)
  else
    let r := s.intFetch .pcie 3 tag n d n e
    (r.1, codeStatus r.2.1, r.2.2)

/-- Writes one piece of up to 8 bytes. -/
def State.pieceWrite (s : State) (space d tag : Nat) (l : List Byte) : Nat × State :=
  if space = 0 then (0, { s with hostMem := memStore s.hostMem d l })
  else
    let r := s.intStore .pcie 3 tag l.length d l 0
    (codeStatus r.1, r.2)

/-- What ends the turn after `m` bytes, as a status; 0x100 where the move goes on later. -/
def stopAt (stop : Option DescStop) (m : Nat) : Nat :=
  match stop with
  | none => 0
  | some (.hostError k) => if k ≤ m then 6 else 0
  | some (.timeout k) => if k ≤ m then 7 else 0
  | some (.hold k) => if k ≤ m then 0x100 else 0

/-- Is an address of a space in register space? -/
def inRegs (space a : Nat) : Bool := decide (space = 1) && decide (a < 0x1000000)

/-- The next piece: up to the end of an 8-byte group of a register side, else of both sides; host memory has no groups. -/
def pieceLen (ss src ds dst n : Nat) : Nat :=
  if inRegs ss src != inRegs ds dst then groupLen (if inRegs ss src then src else dst) n else groupLen src (groupLen dst n)

/-- Moves bytes piece by piece up to `n`, `m` of which have moved; answers status, bytes moved and state. The sender's W256 outcome
applies to the first piece. -/
def State.copyGo (s : State) (ss src ds dst tag : Nat) (e : Ecc) (stop : Option DescStop) (n : Nat) : Nat → Nat → Nat × Nat × State
  | 0, m => (0, m, s)
  | k + 1, m =>
    if n ≤ m then (0, m, s)
    else if stopAt stop m ≠ 0 then (stopAt stop m, m, s)
    else
      let len := pieceLen ss (src + m) ds (dst + m) (n - m)
      let r := s.pieceRead ss (src + m) len tag e
      if r.2.1 = 0 then
        let w := r.2.2.pieceWrite ds (dst + m) tag r.1
        if w.1 = 0 then w.2.copyGo ss src ds dst tag .good stop n k (m + len) else (w.1, m, w.2)
      else (r.2.1, m, r.2.2)

/-- The bytes that a move may reach in this turn (R204): all, or the next 64-byte boundary while its SQ is being flushed. -/
def State.moveEnd (s : State) (n : Nat) (d : Desc) : Nat :=
  if s.flag (RING_SQ_STAT.flushing n) then Nat.min d.len ((d.moved + 63) / 64 * 64) else d.len

/-- What a turn of a move leaves (R196, R201, R204): it goes on later, is truncated by a flush, or has ended. -/
def State.moveDone (s : State) (n : Nat) (d : Desc) (status moved tgt : Nat) : State :=
  if status = 0x100 then s.descSt n d.inst (.moving moved)
  else if status = 0 then s.descEnd n d.inst (if moved < d.len then 5 else 0) moved
  else if status = 7 then (s.timeoutAt tgt).descEnd n d.inst 7 moved
  else s.descEnd n d.inst status moved

/-- COPY (R196). -/
def State.copyRun (s : State) (n : Nat) (e : Ecc) (stop : Option DescStop) (d : Desc) : State :=
  let ss := d.byte 24 1
  let ds := d.byte 25 1
  if d.len = 0 ∨ 16777216 < d.len ∨ 1 < ss ∨ 1 < ds ∨ d.byte 26 30 ≠ 0 then s.descEnd n d.inst 2 0
  else
    let es := if ss = 1 then s.rangeErr d.src d.len else 0
    let ed := if ds = 1 then s.rangeErr d.dst d.len else 0
    if !d.isMoving && es ≠ 0 then s.descEnd n d.inst es 0
    else if !d.isMoving && ed ≠ 0 then s.descEnd n d.inst ed 0
    else
      let r := s.copyGo ss d.src ds d.dst (s.tagOf d.inst) e stop (s.moveEnd n d) d.len d.moved
      r.2.2.moveDone n d r.1 r.2.1 (if inRegs ss d.src then d.src else if inRegs ds d.dst then d.dst else 0)

/-- Writes the pattern up to byte `n`, 8 bytes at a time; `m` bytes stand. -/
def State.fillGo (s : State) (ds dst tag : Nat) (pat : List Byte) (stop : Option DescStop) (n : Nat) : Nat → Nat → Nat × Nat × State
  | 0, m => (0, m, s)
  | k + 1, m =>
    if n ≤ m then (0, m, s)
    else if stopAt stop m ≠ 0 then (stopAt stop m, m, s)
    else
      let w := s.pieceWrite ds (dst + m) tag pat
      if w.1 = 0 then w.2.fillGo ds dst tag pat stop n k (m + 8) else (w.1, m, w.2)

/-- FILL (R196): a destination that is not 8-byte aligned is an address error. -/
def State.fillRun (s : State) (n : Nat) (stop : Option DescStop) (d : Desc) : State :=
  let ds := d.byte 32 1
  if d.len = 0 ∨ d.len % 8 ≠ 0 ∨ 16777216 < d.len ∨ 1 < ds ∨ d.src ≠ 0 ∨ d.byte 33 23 ≠ 0 then s.descEnd n d.inst 2 0
  else
    let ed := if d.dst % 8 ≠ 0 then 3 else if ds = 1 then s.rangeErr d.dst d.len else 0
    if !d.isMoving && ed ≠ 0 then s.descEnd n d.inst ed 0
    else
      let r := s.fillGo ds d.dst (s.tagOf d.inst) (toLE 8 (d.byte 24 8)) stop (s.moveEnd n d) (d.len / 8) d.moved
      r.2.2.moveDone n d r.1 r.2.1 (if inRegs ds d.dst then d.dst else 0)

/-- The register writes of a REG_WRITE in order: an ordinary register access each (R196, R187); answers the status. -/
def State.regWriteGo (s : State) (d : Desc) (wide : Nat) : Nat → Nat → Nat × State
  | 0, _ => (0, s)
  | k + 1, i =>
    let a := d.byte (8 + 12 * i) 4
    if 0x1000000 ≤ a then (3, s)
    else if s.isoAt a then (9, s.isoAccess a)
    else if s.linkLost a then (0xA, s)
    else (s.hostWrite .pcie a (if bits wide i 1 = 1 then 8 else 4) (d.byte (12 + 12 * i) 8) false).regWriteGo d wide k (i + 1)

/-- REG_WRITE (R196). -/
def State.regWriteRun (s : State) (n : Nat) (d : Desc) : State :=
  let c := bits d.len 0 3
  if c = 0 ∨ 4 < c ∨ bits d.len 3 5 ≠ 0 ∨ bits d.len 12 20 ≠ 0 then s.descEnd n d.inst 2 0
  else
    let r := s.regWriteGo d (bits d.len 8 4) c 0
    r.2.descEnd n d.inst r.1 0

/-- The registers of a REG_READ run in order, a 64-bit register whole where the run holds all of it (R196): status, bytes, state. -/
def State.regReadGo (s : State) : Nat → Nat → Nat → List Byte → Nat × List Byte × State
  | 0, _, _, acc => (0, acc, s)
  | k + 1, a, n, acc =>
    if n = 0 then (0, acc, s)
    else if s.isoAt a then (9, acc, s.isoAccess a)
    else if s.linkLost a then (0xA, acc, s)
    else if isReg64 a ∧ 8 ≤ n then
      let r := s.read64 State.regTake .pcie a 0
      r.st.regReadGo k (a + 8) (n - 8) (acc ++ toLE 8 r.val)
    else
      let r := s.read32 State.regTake .pcie a 0
      r.st.regReadGo k (a + 4) (n - 4) (acc ++ toLE 4 r.val)

/-- REG_READ (R196). -/
def State.regReadRun (s : State) (n : Nat) (stop : Option DescStop) (d : Desc) : State :=
  if d.len = 0 ∨ d.len % 4 ≠ 0 ∨ 4096 < d.len ∨ d.byte 24 32 ≠ 0 then s.descEnd n d.inst 2 0
  else if d.src % 4 ≠ 0 ∨ 0x1000000 < d.src + d.len then s.descEnd n d.inst 3 0
  else
    let r := s.regReadGo (d.len / 4) d.src d.len []
    if r.1 ≠ 0 then r.2.2.descEnd n d.inst r.1 0
    else if stopAt stop d.len = 6 then r.2.2.descEnd n d.inst 6 0
    else if stopAt stop d.len = 7 then (r.2.2.timeoutAt d.src).descEnd n d.inst 7 0
    else ({ r.2.2 with hostMem := memStore r.2.2.hostMem d.dst r.2.1 }).descEnd n d.inst 0 r.2.1.length

/-- WAIT_TIME (R196). -/
def State.waitRun (s : State) (n : Nat) (d : Desc) : State :=
  if d.len ≠ 0 ∨ d.src ≠ 0 ∨ d.dst ≠ 0 then s.descEnd n d.inst 2 0
  else
    let t := d.byte 24 8
    if modGe 64 s.now t then s.descEnd n d.inst 0 1 else s.descSt n d.inst (.waiting t)

/-- The awaited time is reached (R196, R165). -/
def State.waitReached (s : State) (n : Nat) : State :=
  match (s.sq n).descs.find? (fun d => match d.st with
    | .waiting t => modGe 64 s.now t
    | _ => false) with
  | some d => s.descEnd n d.inst 0 0
  | none => s

/-- MODE_REQ (R196, R301): HUB_MODE_REQ shows its outcome too. -/
def State.modeReqRun (s : State) (n : Nat) (d : Desc) : State :=
  let t := d.byte 24 1
  if d.len ≠ 0 ∨ d.src ≠ 0 ∨ d.dst ≠ 0 ∨ 11 < t then s.descEnd n d.inst 2 0
  else
    let r := s.requestMode t (some (n, d.inst))
    match r.1 with
    | .done => (r.2.put HUB_MODE_REQ.result r.2.mode).descEnd n d.inst 0 r.2.mode
    | .denied => ((r.2.setFlag HUB_MODE_REQ.denied).put HUB_MODE_REQ.result r.2.mode).descEnd n d.inst 8 r.2.mode
    | .pending => r.2.descSt n d.inst .running

/-- A reserved opcode (R195). -/
def State.badOpcode (s : State) (n : Nat) : State :=
  match s.startable n (fun x => decide (7 ≤ x)) with
  | some d => s.descRead n d (fun s => s.descEnd n d.inst 1 0)
  | none => s

def execNop (n : Fin 128) (s : State) : Res := .next (s.runDesc n 0 (fun s d => s.descEnd n d.inst 0 0))
/-- `e` is the W256 outcome of the first word read; `stop` says which move has its turn and what stops it. -/
def execCopy (n : Fin 128) (e : Ecc) (stop : MoveTurn) (s : State) : Res :=
  .next (s.moveTurn n 1 stop (fun s d => s.copyRun n e stop.stop d))
def execFill (n : Fin 128) (stop : MoveTurn) (s : State) : Res :=
  .next (s.moveTurn n 2 stop (fun s d => s.fillRun n stop.stop d))
def execRegWrite (n : Fin 128) (s : State) : Res := .next (s.runDesc n 3 (fun s d => s.regWriteRun n d))
def execRegRead (n : Fin 128) (stop : Option DescStop) (s : State) : Res :=
  .next (s.runDesc n 4 (fun s d => s.regReadRun n stop d))
def execWaitTime (n : Fin 128) (s : State) : Res := .next (s.runDesc n 5 (fun s d => s.waitRun n d))
def execWaitTimeReached (n : Fin 128) (s : State) : Res := .next (s.waitReached n)
def execModeReq (n : Fin 128) (s : State) : Res := .next (s.runDesc n 6 (fun s d => s.modeReqRun n d))
def execInvalidOpcode (n : Fin 128) (s : State) : Res := .next (s.badOpcode n)

end Sys2Proof.Machine
end

