-- ==== Sys2Proof/Machine/Jex.lean ====
section
/-! DEFINITION. Jexannar links (R16 to R19, R33, R37): flits, messages, credits and the loss of a link. -/

namespace Sys2Proof.Machine

/-- The link on which the answers to a link's messages go; a pilot link has none (R16). -/
def backLink (l : Nat) : Option Nat :=
  if l < 12 then some (12 + l / 2)
  else if l < 18 then some (2 * (l - 12))
  else if l = 18 then some 19
  else if l = 19 then some 18
  else none

/-- The tile of a tile link. -/
def linkTile (l : Nat) : Option (Fin 6) :=
  if l < 12 then some (Fin.ofNat 6 (l / 2)) else if l < 18 then some (Fin.ofNat 6 (l - 12)) else none

/-- The source port identifier of the receiver of Jexannar link `l` among `Config.portId`'s (log entry 30). -/
def jexPort (l : Nat) : Nat := 11 + l

/-- A header flit (R17): message type, virtual channel, number of data flits, and the header's fields; type_specific is 0. -/
def jexHeader (msgType vc len : Nat) (h : JexHdr) : Flit :=
  BitVec.ofNat 256 (msgType % 16 + vc % 4 * 2 ^ 4 + h.tag.toNat * 2 ^ 6 + len % 16 * 2 ^ 18 + h.addr.toNat * 2 ^ 22 + h.port.toNat * 2 ^ 86)

/-- The message type of a header flit: 8 to 15 are reserved (R17). -/
def hdrType (f : Flit) : Nat := bits f.toNat 0 4

/-- Tag, address and port of a header flit (R17). -/
def hdrOf (f : Flit) : JexHdr := ⟨BitVec.ofNat 12 (bits f.toNat 6 12), BitVec.ofNat 64 (bits f.toNat 22 64), BitVec.ofNat 16 (bits f.toNat 86 16)⟩

/-- `n` data flits from bytes, the first byte in bits [7:0] (R7). -/
def bytesFlits : Nat → List Byte → List Flit
  | 0, _ => []
  | n + 1, l => BitVec.ofNat 256 (ofLE (l.take 32)) :: bytesFlits n (l.drop 32)

/-- Flits leave on link `l`: the sender's replay buffer keeps the last 64 (R19). -/
def State.linkSent (s : State) (l : Nat) (fs : List Flit) : State :=
  let x := s.link l
  s.setLink l { x with sent := (fs.reverse ++ x.sent).take 64 }

/-- A response leaves on the opposite link (R17): header flit and data flits. Its header carries the request's tag and address and the
responder's port (log entry 170). -/
def State.jexAnswer (s : State) (l msgType : Nat) (h : JexHdr) (data : List Byte) : State :=
  match backLink l with
  | some b =>
    let n := data.length / 32
    let f := jexHeader msgType 1 n ⟨h.tag, h.addr, Config.portId (jexPort l)⟩
    ((s.creditTake b 1 (1 + n)).linkSent b (f :: bytesFlits n data)).emit (.jex b f data)
  | none => s

/-- May the response of `n` data flits leave now (R18)? -/
def State.jexRoom (s : State) (l n : Nat) : Bool :=
  match backLink l with
  | some b => decide (1 + n ≤ s.credit b 1) && !(s.link b).down
  | none => false

/-- 32 bytes of free data. -/
def State.freeWord (s : State) : List Byte × State :=
  let (a, s1) := s.fresh
  let (b, s2) := s1.fresh
  let (c, s3) := s2.fresh
  let (d, s4) := s3.fresh
  (toLE 8 a ++ toLE 8 b ++ toLE 8 c ++ toLE 8 d, s4)

/-- Word `w` of a channel's buffer (R110): 256 words of coarse bins, 16 of fine bins, 32 of stamps. -/
def HistBuf.word (b : HistBuf) (w : Nat) : Option (List Byte) :=
  if w < 256 then some ((List.range 16).flatMap (fun i => toLE 2 (cntGet b.coarse (16 * w + i))))
  else if w < 272 then some ((List.range 16).flatMap (fun i => toLE 2 (cntGet b.fine (16 * (w - 256) + i))))
  else if w < 304 then some ((List.range 8).flatMap (fun i => toLE 4 (b.stampAt (8 * (w - 272) + i))))
  else none

/-- Place `i` of the stamp store takes a word. -/
def HistBuf.setStamp (b : HistBuf) (i v : Nat) : HistBuf :=
  if i < b.stamps.length then { b with stamps := b.stamps.modify i (fun p => (p.1, v)) } else { b with raw := cntSet b.raw i v }

/-- Word `w` of a channel's buffer takes 32 bytes: bins their counts, places of the stamp store their words. -/
def HistBuf.setWord (b : HistBuf) (w : Nat) (l : List Byte) : HistBuf :=
  let half := fun (i : Nat) => ofLE ((l.drop (2 * i)).take 2)
  if w < 256 then { b with coarse := (List.range 16).foldl (fun m i => cntSet m (16 * w + i) (half i)) b.coarse }
  else if w < 272 then { b with fine := (List.range 16).foldl (fun m i => cntSet m (16 * (w - 256) + i) (half i)) b.fine }
  else if w < 304 then (List.range 8).foldl (fun b i => b.setStamp (8 * (w - 272) + i) (ofLE ((l.drop (4 * i)).take 4))) b
  else b

/-- What word `a` of tile `t`'s SRAM reads as (R110). In the areas of summaries, reports and the staged stream, whose layout the spec does
not give, a word reads as Jexannar wrote it until the tile uses its area again, else as free data (log entry 154). -/
def State.tileWord (s : State) (t a : Nat) : List Byte × State :=
  let buf := fun (c : ChanSt) => (c.buf (a / bufWords % 2)).word (a % bufWords)
  let l := if a < chanWords then buf (s.chan t (a / (2 * bufWords))) else (tabGet (fun _ => none) (s.tile t).rest a).map (toLE 32)
  match l with
  | some l => (l, s)
  | none => s.freeWord

/-- A write of word `a` of tile `t`'s SRAM. -/
def State.setTileWord (s : State) (t a : Nat) (l : List Byte) : State :=
  let x := s.tile t
  let c := a / (2 * bufWords)
  let i := a / bufWords % 2
  let s1 := if a < chanWords then s.setChan t c ((x.chan c).setBuf i (((x.chan c).buf i).setWord (a % bufWords) l))
    else s.setTile t { x with rest := tabSet (fun _ => none) x.rest a (some (ofLE l)) }
  s1.w256Write .tileSram (tileWords * t + a)

/-- A tile SRAM read of `n` words from word address `a` on (R31, R32): whether all are correctable, and their bytes. -/
def State.sramWords (s : State) (l t a tag : Nat) : Nat → Bool × List Byte × State
  | 0 => (true, [], s)
  | n + 1 =>
    let r := s.sramRead t (tileWords * t + a) (jexPort l) tag .good
    let c := a / (2 * bufWords)
    let i := a / bufWords % 2
    let s1 := match r.1 with
      | .good => r.2
      | .corrected _ => if a < chanWords then r.2.bufCorrected t c i else r.2
      | .bad _ => if a < chanWords then r.2.dropBuf t c i else r.2
    let d := s1.tileWord t a
    let q := d.2.sramWords l t (a + 1) tag n
    (q.1 && (match r.1 with | .bad _ => false | _ => true), d.1 ++ q.2.1, q.2.2)

/-- The data flits of the read response to a request (R17): the words asked for; of a register at most one. -/
def JexMsg.answerLen (m : JexMsg) : Nat := if m.space = .register then Nat.min 1 m.words else m.words

/-- A read request is served (R17): read response, or error response where the address holds nothing or a word is uncorrectable. -/
def State.jexRead (s : State) (l : Nat) (m : JexMsg) : State :=
  let a := m.hdr.addr.toNat
  let tag := m.hdr.tag.toNat
  match m.space with
  | .devMem =>
    if s.memHas a (32 * m.words) then
      let r := s.devRead a (32 * m.words) (jexPort l) tag .good
      if r.1 then r.2.jexAnswer l 2 m.hdr (memBytes s.devMem a (32 * m.words)) else r.2.jexAnswer l 4 m.hdr []
    else s.jexAnswer l 4 m.hdr []
  | .register =>
    let r := if isReg64 a then s.read64 State.regTake .safety a 0 else s.read32 State.regTake .safety a 0
    if m.words = 0 then s.jexAnswer l 2 m.hdr []
    else if r.err = 0 then r.st.jexAnswer l 2 m.hdr (toLE 32 r.val) else r.st.jexAnswer l 4 m.hdr []
  | .tileSram =>
    match linkTile l with
    | some t =>
      if a + m.words ≤ tileWords then
        let r := s.sramWords l t.val a tag m.words
        if r.1 then r.2.2.jexAnswer l 2 m.hdr r.2.1 else r.2.2.jexAnswer l 4 m.hdr []
      else s.jexAnswer l 4 m.hdr []
    | none => s.jexAnswer l 4 m.hdr []

/-- The bytes of data flits. -/
def flitBytes (l : List Flit) : List Byte := (l.map (fun f => toLE 32 f.toNat)).flatten

/-- A write request is served (R17): write acknowledge, or error response. -/
def State.jexWrite (s : State) (l : Nat) (m : JexMsg) : State :=
  let a := m.hdr.addr.toNat
  let tag := m.hdr.tag.toNat
  let d := flitBytes m.data
  match m.space with
  | .devMem => if s.memHas a d.length then (s.devWrite a (jexPort l) tag d).jexAnswer l 3 m.hdr [] else s.jexAnswer l 4 m.hdr []
  | .register =>
    let s1 := if d.isEmpty then s else if isReg64 a then s.write64 State.wrReg .safety a (ofLE (d.take 8)) else s.write32 State.wrReg .safety a (ofLE (d.take 4))
    s1.jexAnswer l (if s.isoAt a then 4 else 3) m.hdr []
  | .tileSram =>
    match linkTile l with
    | some t =>
      if a + m.data.length ≤ tileWords then
        ((List.range m.data.length).foldl (fun (s : State) i => s.setTileWord t.val (a + i) ((d.drop (32 * i)).take 32)) s).jexAnswer l 3 m.hdr []
      else s.jexAnswer l 4 m.hdr []
    | none => s.jexAnswer l 4 m.hdr []

/-- One buffered message is served if it is a request whose answer has room, or the place of an error response (R33). -/
def State.jexServeOne (s : State) (l : Nat) (m : JexMsg) : Bool × State :=
  if m.served then (true, s)
  else if m.refused then if s.jexRoom l 0 then (true, s.jexAnswer l 4 m.hdr []) else (false, s)
  else if m.msgType = 0 then if s.jexRoom l m.answerLen then (true, s.jexRead l m) else (false, s)
  else if m.msgType = 1 then if s.jexRoom l 0 then (true, s.jexWrite l m) else (false, s)
  else (true, s)

/-- The messages in order; one that must wait holds back the ones of its virtual channel behind it, and no others (R18). -/
def State.jexServeGo (s : State) (l : Nat) (held : List Nat) : List JexMsg → List JexMsg × State
  | [] => ([], s)
  | m :: rest =>
    let r := if held.contains m.vc then (false, s) else s.jexServeOne l m
    let q := r.2.jexServeGo l (if r.1 then held else m.vc :: held) rest
    ({ m with served := m.served || r.1 } :: q.1, q.2)

/-- The receiver of link `l` serves what it holds (R18). -/
def State.jexServe (s : State) (l : Nat) : State :=
  let r := s.jexServeGo l [] (s.link l).rx
  r.2.setLink l { r.2.link l with rx := r.1 }

/-- Safety messages stand ahead of the others (R18). -/
def rxInsert (m : JexMsg) (l : List JexMsg) : List JexMsg :=
  if m.vc = 3 then l.filter (fun x => x.vc == 3) ++ [m] ++ l.filter (fun x => !(x.vc == 3)) else l ++ [m]

/-- Is this message the replay of one whose header was uncorrectable, which does nothing now (R33)? -/
def Replayed.drops (r : Replayed) (m : JexMsg) : Bool :=
  match r with
  | .asUsual => false
  | .requestOff => decide (m.msgType ≤ 1)
  | .anyOff => true

/-- The tile at the far end of a link, a pilot link (20 of TILE_2, 21 of TILE_3) among them (R16; log entry 25). -/
def linkDie (l : Nat) : Option (Fin 6) := if l = 20 then some 2 else if l = 21 then some 3 else linkTile l

/-- Is the die at the far end of link `l` off or isolated, so that its outputs are clamped (R39)? -/
def State.linkOff (s : State) (l : Nat) : Bool :=
  match linkDie l with
  | some t => s.isOff (.tile t)
  | none => false

/-- Can a message come whole on link `l` now (R19, R39): the link is up, its die is not clamped, and no replay is due, behind which
every flit that followed comes again in its order? -/
def State.linkOpen (s : State) (l : Nat) : Bool := !(s.link l).down && !(s.link l).replay && !s.linkOff l

/-- A message arrives: its sender held credits for every flit, and it can come whole (R18, R19); else there is no message. The replay of
a message that R33 has answered or discarded only takes its place in the buffer. -/
def State.jexArrive (s : State) (l : Nat) (m : JexMsg) (g : State → State) : State :=
  if m.flits ≤ s.credit l m.vc ∧ s.linkOpen l = true then
    let drop := (s.link l).next.drops m
    let m1 := { m with served := m.served || drop }
    let s1 := (s.creditTake l m.vc m.flits).linkSent l (jexHeader m.msgType m.vc m.data.length m.hdr :: m.data)
    let s2 := (s1.setLink l { s1.link l with rx := rxInsert m1 (s1.link l).rx, next := .asUsual }).jexServe l
    if drop then s2 else g s2
  else s

/-- A response completes the operation with its tag and tag instance; a retired one is discarded and counted (R37). -/
def State.opEnd (s : State) (tag inst : Nat) (ok : Bool) : State :=
  match s.hub.ops.find? (fun o => o.inst == inst && o.tag == tag) with
  | some o => (s.tagRelease inst).emit (.opDone tag inst o.port ok)
  | none => { s with hub := { s.hub with late := s.hub.late + 1 } }

def jexMsg (vc msgType : Nat) (hdr : JexHdr) (data : List Flit) : JexMsg :=
  ⟨vc, 1 + data.length, msgType, .register, 0, hdr, data, false, false⟩

/-- A header with a tag only. -/
def tagHdr (tag : BitVec 12) : JexHdr := ⟨tag, 0, 0⟩

/-- What JEX_FLIT_RECEIVE logs of a flit (R33, R34): a header whose port field names its requester or not, or a data flit. Where the
requester is not known, the port is the one in which the message arrived. Its event is that of the link's tile, a pilot link's among them
(R396); for a flit of Snuffer's links, which R397 gives the same sources, it is that of TILE_0 (DESIGN CHOICE, log entry 204). -/
def flitReport (l : Nat) (hdr : Option (Option Flit)) : W256Report :=
  let t := some (((linkDie l).map (fun t => t.val)).getD 0)
  match hdr with
  | none => ⟨.jexannar, 0, (Config.portId (jexPort l)).toNat, 0, t, false⟩
  | some none => ⟨.jexannar, 2 ^ 64 - 1, (Config.portId (jexPort l)).toNat, 0, t, true⟩
  | some (some f) => let h := hdrOf f; ⟨.jexannar, h.addr.toNat, h.port.toNat, h.tag.toNat, t, true⟩

/-- The place of an error response that waits for its credit (R18, R33): it holds nothing of the receiver's buffer. -/
def refusedMsg (h : JexHdr) : JexMsg := ⟨0, 0, 0, .register, 0, h, [], false, true⟩

/-- A command error on link `l` (R33), once for the replays of one flit: a request whose requester is known draws an error response and
its replay is not executed; a message whose requester is not known is discarded. -/
def State.commandError (s : State) (l : Nat) (hdr : Option Flit) : State :=
  let x := s.link l
  match hdr with
  | none => s.setLink l { x with next := .anyOff }
  | some f =>
    if hdrType f ≤ 1 then (s.setLink l { x with next := .requestOff, rx := rxInsert (refusedMsg (hdrOf f)) x.rx }).jexServe l else s

/-- A flit arrives on link `l` (R19): accepted, corrected, or rejected so that the sender replays it and all that followed. A failed
replay is counted and logged, and raises nothing further (R397). -/
def State.flitReceive (s : State) (l : Nat) (e : Ecc) (hdr : Option (Option Flit)) : State :=
  let x := s.link l
  if x.down || s.linkOff l then s
  else
    let r := flitReport l hdr
    match e with
    | .bad _ =>
      let s1 := (s.w256 { r with inst := if x.failed = 0 then r.inst else none } e).setLink l { x with failed := x.failed + 1, replay := true }
      match hdr with
      | some h => if x.failed = 0 then s1.commandError l h else s1
      | none => s1
    | _ => (s.w256 { r with command := false } e).setLink l { x with failed := 0, replay := false, accepted := x.accepted + 1 }

/-- Does an operation on `t` wait on link `l`? The spec does not say which of a die's links an operation on it waits on: one on a tile waits
on each of its links, one on Snuffer on both of its (DESIGN CHOICE, log entry 203). -/
def linkHits (l : Nat) (t : Target) : Bool :=
  match t with
  | .tile u => decide (linkTile l = some u)
  | .snuffer => decide (l = 18) || decide (l = 19)
  | _ => false

/-- What a link that goes down leaves of the receiver's buffer: a request that waits in it is answered with an error response (R19). -/
def rxLost (l : List JexMsg) : List JexMsg :=
  (l.filter (fun m => !m.served && (m.refused || decide (m.msgType ≤ 1)))).map (fun m => refusedMsg m.hdr)

/-- Link `l` is declared down (R19, R397): the present flit has failed at its first reception and in three replays. -/
def State.linkFail (s : State) (l : Nat) : State :=
  if (s.link l).down ∨ (s.link l).failed < 4 ∨ s.linkOff l = true then s
  else
    let s1 := s.setLink l { s.link l with down := true, failed := 0, replay := false, rx := rxLost (s.link l).rx, next := .asUsual }
    let s2 := (((s1.hub.ops.filter (fun o => linkHits l o.target)).foldl (fun (s : State) o => s.descFail 0xA o) s1).failOps
      (fun o => linkHits l o.target)).jexServe l
    match linkTile l with
    | some t => s2.raiseInst (Ev.tileLinkDown t) t
    | none => s2.safetyFault 0x02 0

/-- The messages of a virtual channel that `n` returned credits free, oldest first. -/
def rxDrain (vc : Nat) : Nat → List JexMsg → List JexMsg
  | _, [] => []
  | n, m :: l => if m.vc = vc ∧ m.served = true ∧ m.flits ≤ n then rxDrain vc (n - m.flits) l else m :: rxDrain vc n l

/-- Credits return to the sender of link `l` (R18): the receiver's buffer is free of as much, and requests whose answers waited for
them are served. -/
def State.creditReturn (s : State) (l vc n : Nat) : State :=
  let s1 := s.creditGive l vc n
  let s2 := s1.setLink l { s1.link l with rx := rxDrain vc n (s1.link l).rx }
  ((List.range 22).filter (fun k => decide (backLink k = some l))).foldl (fun (s : State) k => s.jexServe k) s2

/-- A stream message on VC 2 (R17, R18). -/
def streamMsg (data : List Flit) : JexMsg := { jexMsg 2 5 (tagHdr 0) data with served := true }

def execJexFlitReceive (l : Fin 22) (e : Ecc) (hdr : Option (Option Flit)) (s : State) : Res := .next (s.flitReceive l e hdr)
def execJexLinkDown (l : Fin 22) (s : State) : Res := .next (s.linkFail l)
/-- A request for `words` words of 32 bytes; one register. -/
def execJexReadRequest (l : Fin 22) (space : JexSpace) (hdr : JexHdr) (words : Fin 16) (s : State) : Res :=
  .next (s.jexArrive l ⟨0, 1, 0, space, words, hdr, [], false, false⟩ (fun s => s))
def execJexWriteRequest (l : Fin 22) (space : JexSpace) (hdr : JexHdr) (data : List Flit) (s : State) : Res :=
  .next (s.jexArrive l ⟨0, 1 + data.length, 1, space, 0, hdr, data, false, false⟩ (fun s => s))
def execJexReadResponse (l : Fin 22) (tag : BitVec 12) (inst : Nat) (data : List Flit) (s : State) : Res :=
  .next (s.jexArrive l (jexMsg 1 2 (tagHdr tag) data) (fun s => s.opEnd tag.toNat inst true))
def execJexWriteAck (l : Fin 22) (tag : BitVec 12) (inst : Nat) (s : State) : Res :=
  .next (s.jexArrive l (jexMsg 1 3 (tagHdr tag) []) (fun s => s.opEnd tag.toNat inst true))
def execJexErrorResponse (l : Fin 22) (tag : BitVec 12) (inst : Nat) (s : State) : Res :=
  .next (s.jexArrive l (jexMsg 1 4 (tagHdr tag) []) (fun s => s.opEnd tag.toNat inst false))
/-- A stream message takes its place in the VC 2 buffer; what each stream does is the effect of its own commands. -/
def execJexStreamMessage (l : Fin 22) (_kind : JexStream) (data : List Flit) (s : State) : Res :=
  .next (s.jexArrive l (streamMsg data) (fun s => s))
def execJexSafetyMessage (l : Fin 22) (data : List Flit) (s : State) : Res :=
  .next (s.jexArrive l { jexMsg 3 6 (tagHdr 0) data with served := true } (fun s => s))
def execJexCreditReturn (l : Fin 22) (vc : Fin 4) (n : Fin 65) (s : State) : Res := .next (s.creditReturn l vc n)

end Sys2Proof.Machine
end

