-- ==== Sys2Proof/Machine/Pilot.lean ====
section
/-! DEFINITION. PILOT-LIGHT (R312 to R317). -/

namespace Sys2Proof.Machine

/-- No control cluster has been active for 10 ms (R312, cause 2). -/
def State.pilotCluster (s : State) : State := if isScan s.mode ∧ s.boot.noCluster then s.enterPilot 2 false else s

/-- 100 ms without a cell-close marker of a priority bank (R312, cause 3): the grants go first. -/
def State.pilotSummary (s : State) : State :=
  if isScan s.mode ∧ s.flag FIRE_FRAME_CTL.run then s.grantsDrop.enterPilot 3 false else s

/-- 100 ms without a strobe (R312, cause 4). -/
def State.pilotStrobe (s : State) : State :=
  if isScan s.mode ∧ s.flag FIRE_FRAME_CTL.run then s.enterPilot 4 false else s

/-- The energy of a pilot shot: all 48 segments at the pilot current code, by Snuffer's own table (R313). -/
def State.pilotEnergy (s : State) (c : ShadeCopy) : Nat := 48 * c.energyOf s.cal.pilotCurrent

/-- Every budget of Snuffer's copies admits a pilot shot of bank `b` in every azimuth bin (R313). -/
def State.pilotBudget (s : State) (c : ShadeCopy) (b : Nat) : Bool :=
  c.windows.all (fun w => (List.range 64).all (fun bin =>
    decide (s.snf.sum (ledgerKey w b bin) + s.pilotEnergy c ≤ c.budgets.getD w 0)))

/-- May Snuffer fire: the pattern runs, its pilot record is usable, and a fresh board temperature lies in its window (R313,
R381, R292). -/
def State.pilotMay (s : State) (c : ShadeCopy) : Bool :=
  decide (s.mode = 9) && s.snf.pilotOn && s.snf.powered && s.cal.pilotOk &&
    (match s.snf.boardTemp with | some t => !tempOutside c t | none => false)

/-- A status frame of the last pilot shot that never came counts as missing; the third in a row stops the pattern (R313). -/
def State.pilotMissing (s : State) : State :=
  if s.snf.pilotAwait then
    let n := s.snf.pilotFails + 1
    { s with snf := { s.snf with pilotAwait := false, pilotFails := n, pilotOn := s.snf.pilotOn && decide (n < 3) } }
  else s

/-- A pilot shot (R313): SHOT to driver 0 without codes, the charge in full to every bin, and the strobe 150 ns later, 4.0 ns high,
without trim. One that would exceed a budget is suppressed. -/
def State.pilotShot (s0 : State) : State :=
  let s := s0.pilotMissing
  match s.snf.shade with
  | none => s
  | some c =>
    if s.pilotMay c then
      let b := s.snf.pilotBank
      let s1 := { s with snf := { s.snf with pilotBank := (b + 1) % 4 } }
      if s.pilotBudget c b then
        let led := chargeAll s1.snf.pilotLedger c.windows (List.range 64) b (s.pilotEnergy c)
        let s2 := { s1 with snf := { s1.snf with pilotLedger := led, pilotSeq := (s.snf.pilotSeq + 1) % 256, pilotAwait := true } }
        let s3 := s2.emit (.taper true 0 (taperFrame 0 1 s.snf.pilotSeq b (2 ^ 48 - 1) s.cal.pilotCurrent))
        s3.emit (.strobe true 0 (timeAdd s.now (150 * nsUnits)) 8)
      else s1
    else s

/-- The pilot buffer of TILE_2 or TILE_3 is sealed after 64 windows and sent on the tile's pilot link (R314); a link that is down
brings nothing. -/
def State.pilotSeal (s : State) (t : Nat) : State :=
  let x := s.tile t
  if 64 ≤ x.pilot.count then
    let s1 := s.setTile t { x with pilot := { x.pilot with count := 0, bins := [] } }
    if (s1.hub.links.getD (18 + t) JexLink.init).down then s1
    else { s1 with snf := { s1.snf with pilotCells := s1.snf.pilotCells.set (t - 2) x.pilot.bins,
                                        pilotSilent := s1.snf.pilotSilent.set (t - 2) false,
                                        pilotNew := s1.snf.pilotNew.set (t - 2) true } }
  else s

/-- A reference return on reference channel 0 of TILE_2 or TILE_3 opens a pilot window (R314); it may be the first of the next
buffer. -/
def State.pilotWindow (s0 : State) (t lead tot : Nat) : State :=
  let s := s0.pilotSeal t
  let x := s.tile t
  if s.mode = 0 ∨ s.tileOff t ∨ s.inputsTied t = true ∨ tot < 256 then s
  else s.setTile t { x with pilot := { x.pilot with windows := lead :: x.pilot.windows.filter (fun w => decide (stampDiff lead w < 131072)),
                                                    count := x.pilot.count + 1 } }

/-- Reference returns have continued for 100 µs without a shot notice: the tile powers all its channels (R314). -/
def State.pilotPower (s : State) (t : Nat) : State :=
  let x := s.tile t
  s.setTile t { x with pilot := { x.pilot with powerAll := some (x.pilot.powerAll.getD s.now) } }

/-- The `n` largest of a list leave it: one at a time. -/
def dropLargest : Nat → List Nat → List Nat
  | 0, l => l
  | n + 1, l => dropLargest n (l.erase (l.foldl Nat.max 0))

/-- The nearest detection of one channel of a pilot cell (R315): a bin i from 4 on whose three-bin sum reaches
3b + 4√(3b) + 8, with b = `t` ÷ 236. -/
def pilotDetect (bins : Nat → Nat) : Option Nat :=
  let t := (dropLargest 16 ((List.range 252).map (fun i => bins (i + 4)))).sum
  (List.range 250).map (fun i => i + 4) |>.find? (fun i =>
    let sum3 := bins i + bins (i + 1) + bins (i + 2)
    let x : Int := 236 * ((sum3 : Int) - 8) - 3 * t
    decide (0 ≤ x) && decide ((48 * 236 * t : Nat) ≤ x * x))

/-- The largest vertex range, 0.25 mm, of the protective zones of the active set that bind pair A (R315). -/
def State.pilotReach (s : State) : Nat :=
  let t := s.saf.snf.table
  let k := s.get SAF_STAT.active_set
  let zs := (List.range (tblZones t k)).map (fun z => tblZone t k z)
  let rs := ((zs.filter (fun z => z.protective && z.binds .a)).map (fun z => z.verts.map (fun v => v.2.toNat))).flatten
  rs.foldl Nat.max 0

/-- Is a pilot cell occupied (R315)? Bin i stands at i × 0.29979 m. -/
def State.pilotOccupied (s : State) (cell : List (Nat × Nat)) : Bool :=
  let reach := s.pilotReach + s.get TIME_WARM_CFG.zone_margin * 40 + 1200
  (List.range 256).any (fun c =>
    match pilotDetect (fun i => cntGet cell (256 * c + i)) with
    | some i => decide (i * 119916 ≤ 100 * reach)
    | none => false)

/-- The pilot store that Snuffer looks at: that of TILE_2, or of TILE_3 while TILE_2's pilot link is silent or the tile is isolated (R314,
R339). -/
def State.pilotView (s : State) : Nat := if s.snf.pilotSilent.getD 0 false || s.tileOff 2 then 1 else 0

/-- Snuffer's evaluation is blind whatever comes: it has no copy of the Shade settings or no pilot record, or its pattern has stopped (R313,
R381). -/
def State.pilotBlinded (s : State) : Bool := s.snf.shade.isNone || !s.cal.pilotOk || !s.snf.pilotOn

/-- Snuffer evaluates the newest pilot cell of the tile it looks at, once (R314, R315); where none has come since, it has nothing to
evaluate. -/
def State.pilotEvaluate (s : State) : State :=
  let v := s.pilotView
  if s.pilotBlinded || s.snf.pilotNew.getD v false then
    let occ := s.pilotBlinded || s.pilotOccupied (s.snf.pilotCells.getD v [])
    ({ s with snf := { s.snf with pilotOccupied := occ, pilotNew := s.snf.pilotNew.set v false } }).grantsCheck
  else s

/-- No pilot cell for 2 ms: the evaluation is blind and counts as occupied (R315). -/
def State.pilotBlind (s : State) : State := ({ s with snf := { s.snf with pilotOccupied := true } }).grantsCheck

/-- Snuffer's grant of pair A reaches the safety processor (R315). -/
def State.pilotGrant (s : State) : State :=
  ({ s with snf := { s.snf with pilotMsg := s.flag SAF_STAT.snf_grant_a && s.snf.powered } }).grantsCheck

def execPilotClusterSilence (s : State) : Res := .next s.pilotCluster
def execPilotSummarySilence (s : State) : Res := .next s.pilotSummary
def execPilotStrobeSilence (s : State) : Res := .next s.pilotStrobe
def execPilotShot (s : State) : Res := .next s.pilotShot
/-- `high` names TILE_3, else TILE_2; leading stamp and ToT of the return. -/
def execPilotWindow (high : Bool) (lead : BitVec 56) (tot : BitVec 14) (s : State) : Res :=
  .next (s.pilotWindow (if high then 3 else 2) lead.toNat tot.toNat)
def execPilotBufferSeal (high : Bool) (s : State) : Res := .next (s.pilotSeal (if high then 3 else 2))
def execPilotPowerAll (high : Bool) (s : State) : Res := .next (s.pilotPower (if high then 3 else 2))
def execPilotEvaluate (s : State) : Res := .next s.pilotEvaluate
def execPilotBlind (s : State) : Res := .next s.pilotBlind
def execPilotGrantMessage (s : State) : Res := .next s.pilotGrant

end Sys2Proof.Machine
end

