-- ==== Sys2Proof/Machine/PinReset.lean ====
section
/-! DEFINITION. The reset pins (R303, R289, R294, R404, R412, R42): what PORST_N and WARM_RST_N reset and what they keep, and the
release into BOOT (R302). -/

namespace Sys2Proof.Machine

/-- Registers of PD_SNF that a reset pin leaves (R294, R303): the SAF block but for the commit of a table (R289). -/
def snfKeeps (a : Nat) : Bool := Nat.ble 0xE00000 a && Nat.blt a 0xE80000 && !(Nat.ble SAF_ZT_CTL.addr a && Nat.ble a SAF_ZT_ACTIVE.addr)

/-- Registers of PD_AON that WARM_RST_N leaves (R38, R303, R404): the HUB and TIME blocks and the event configurations. -/
def aonKeeps (a : Nat) : Bool := Nat.blt a 0x200000 || (Nat.ble (EVT_SRC_CFG.addr 0) a && Nat.blt a (EVT_SRC_CFG.addr 250))

/-- A safety channel whose table is gone (R289): nothing to evaluate, no verdict. -/
def State.safAfterReset (s : State) : SafSt :=
  { s.saf with sp := SafChan.init, snf := SafChan.init, spans := s.saf.spans.take 1, nextSet := none, blindAt := none,
               clockStopped := [false, false], dciBad := List.replicate 4 false, qslIndex := SafSt.init.qslIndex,
               qslTaken := SafSt.init.qslTaken }

/-- Snuffer after a reset pin: the selector stays blanked, else it takes the hub state; its pilot pattern ends (R15, R313). -/
def State.snfAfterReset (s : State) : SnfSt :=
  { s.snf with sel := if s.snf.sel = .blanked then .blanked else .hub, pilotOn := false, pilotMsg := false }

/-- What both reset pins do (R303): every state but PD_SNF's at its reset value, the registers that `keep` names left. Waiting
commands, memories outside the device, flash, and the contents of memories that nothing clears stay. -/
def State.pinReset (s : State) (keep : Nat → Bool) : State :=
  { State.reset with
    pending := s.pending
    regs := s.regs.filter (fun p => keep p.1)
    hub := { HubSt.init with nextInst := s.hub.nextInst }
    saf := s.safAfterReset
    snf := s.snfAfterReset
    thm := { ThmSt.init with nvmTaken := s.thm.nvmTaken, nvmRun := s.thm.nvmRun, snfRuns := s.thm.snfRuns, snfHeld := s.thm.snfHeld }
    cal := { CalSt.init with wear := s.cal.wear, rom := s.cal.rom }
    boot := { BootSt.init with porstLow := s.boot.porstLow, warmLow := s.boot.warmLow, keyHash := s.boot.keyHash }
    ztStage := s.ztStage
    devMem := s.devMem
    hostMem := s.hostMem
    nor := s.nor
    calStage := s.calStage
    out := s.out
    freeCtr := s.freeCtr }

/-- No pair is granted, and no set changes, without a table (R289); what Snuffer and the pins MIR_OWN and OCXO_WARM hold is shown
again; and
HUB_MODE_STAT shows HOLD (R302), with the copy of lock-out. -/
def State.holdShow (s old : State) : State :=
  let s1 := (((s.put SAF_STAT.sp_grant_a 0).put SAF_STAT.sp_grant_b 0).put SAF_STAT.snf_grant_a 0).put SAF_STAT.snf_grant_b 0
  let s1 := ((s1.put SAF_DCI_STAT.agreed 0).put SAF_DCI_STAT.pending 0).setReg SAF_ZONE_STAT.addr 0
  let s2 := ((s1.put SAF_STAT.perm_a 0).put SAF_STAT.perm_b 0).put SAF_STAT.switching 0
  let s3 := (s2.put THM_STAT.nvm_inhibit (old.get THM_STAT.nvm_inhibit)).put TWN_OWN_CTL.mir_own_pin
    (bit (old.flag TWN_OWN_CTL.mir_own_pin && !old.flag TWN_OWN_CTL.owner))
  let s4 := s3.put TIME_STAT.ocxo_warm (old.get TIME_STAT.ocxo_warm)
  (s4.setReg HUB_MODE_STAT.addr 0).put HUB_MODE_STAT.lockout (old.get SAF_STAT.lockout)

/-- Tiles that HUB_CAP.tiles does not show stay isolated (R407). -/
def State.capIsolate (s : State) : State :=
  let l := (List.finRange 6).filter (fun t => decide (bits (s.get HUB_CAP.tiles) t.val 1 = 0))
  { s with hub := { s.hub with isolated := l.map Domain.tile } }

/-- PORST_N goes low (R303); `tiles` are those that answer on their links (R407). What one-time-programmable memory holds stays. -/
def State.porst (s : State) (tiles : Nat) : State :=
  let s1 := s.pinReset (fun a => snfKeeps a || decide (a = HUB_SVN_FLOOR.addr) || decide (a = HUB_CAP.addr))
  let s2 := { s1 with saf := { s1.saf with bistCond := false }, boot := { s1.boot with porstLow := true } }
  ((s2.holdShow s).put HUB_CAP.tiles tiles).capIsolate

/-- The claims but host reservations are freed (R412). -/
def State.claimsWarm (s : State) : State :=
  (List.range 32).foldl (fun (s : State) i => if s.get (HUB_CLAIM.owner i) = 1 then s else s.put (HUB_CLAIM.owner i) 0) s

/-- HUB and TIME fields that show what other domains did end with it: tags in use, handover, slice and statistics run, and START-TEST, which
has not ended since this reset (R310). -/
def State.aonIdle (s : State) : State :=
  let s1 := (List.range 8).foldl (fun (s : State) n => s.put (HUB_TAG_STAT.in_use n) 0) s
  let s2 := (((s1.put HUB_HO_STAT.active 0).put HUB_HO_STAT.busy 0).put HUB_HO_CTL.start 0).put HUB_SLICE_STAT.busy 0
  let s2 := s2.clearFlag HUB_BIST_RES.done
  ((s2.put HUB_SLICE_CTL.start 0).put TIME_STATS_STAT.busy 0).put TIME_STATS_CFG.start 0

/-- WARM_RST_N goes low (R303); warm says that one has occurred since por was cleared. -/
def State.warmRst (s : State) : State :=
  let s1 := s.pinReset (fun a => snfKeeps a || aonKeeps a)
  let s2 := { s1 with time := { s.time with run := none, samples := [] },
                      host := { HostSt.init with sbAddr := s.host.sbAddr },
                      ports := s1.ports.set 1 (s.ports.getD 1 PortSt.init),
                      hub := { s1.hub with logFull := s.hub.logFull },
                      boot := { s1.boot with warmLow := true } }
  let s3 := (((s2.holdShow s).put HUB_MODE_STAT.last_mode s.mode).when (!s.flag HUB_RESET_CAUSE.por) (fun s => s.setFlag HUB_RESET_CAUSE.warm))
  (s3.claimsWarm.aonIdle).capIsolate

/-- Both resets are high (R302): HOLD ends in BOOT, Lamplighter starts, and TWIN_ID is read (R322). -/
def State.resetRelease (s : State) (twinId : Bool) : State :=
  let s1 := { s with boot := { s.boot with porstLow := false, warmLow := false } }
  if s1.mode = 0 then
    (((s1.resetReg HUB_BOOT_STAT.addr).put HUB_BOOT_CTL.retry 0).put TWN_STAT.unit (bit twinId)).enterMode 1
  else s1

/-- `tiles` are the tiles that answer on their Jexannar links (R407). -/
def execPorstNAssert (tiles : BitVec 6) (s : State) : Res := .next (s.porst tiles.toNat)
def execWarmRstNAssert (s : State) : Res := .next s.warmRst
def execResetRelease (twinId : Bool) (s : State) : Res := .next (s.resetRelease twinId)

end Sys2Proof.Machine
end

