-- ==== Sys2Proof/Machine/Dispatch.lean ====
section
/-! DEFINITION. What each command does: one arm per command, each a call of its meaning. -/

namespace Sys2Proof.Machine

/-- The effect of a command on everything but the queue. -/
def exec (i : Instr) (s : State) : Host.Outcome State Fault Refusal :=
  match i with
  | .porstNAssert tiles => Sys2Proof.Machine.execPorstNAssert tiles s
  | .warmRstNAssert => Sys2Proof.Machine.execWarmRstNAssert s
  | .resetRelease twinId => Sys2Proof.Machine.execResetRelease twinId s
  | .registerWrite p a bytes v hit => Sys2Proof.Machine.execRegisterWrite p a bytes v hit s
  | .readClear p a bytes hit => Sys2Proof.Machine.execReadClear p a bytes hit s
  | .thmLock => Sys2Proof.Machine.execThmLock s
  | .jexFlitReceive l e hdr => Sys2Proof.Machine.execJexFlitReceive l e hdr s
  | .jexLinkDown l => Sys2Proof.Machine.execJexLinkDown l s
  | .jexReadRequest l space hdr words => Sys2Proof.Machine.execJexReadRequest l space hdr words s
  | .jexWriteRequest l space hdr data => Sys2Proof.Machine.execJexWriteRequest l space hdr data s
  | .jexReadResponse l tag inst data => Sys2Proof.Machine.execJexReadResponse l tag inst data s
  | .jexWriteAck l tag inst => Sys2Proof.Machine.execJexWriteAck l tag inst s
  | .jexErrorResponse l tag inst => Sys2Proof.Machine.execJexErrorResponse l tag inst s
  | .jexStreamMessage l kind data => Sys2Proof.Machine.execJexStreamMessage l kind data s
  | .jexSafetyMessage l data => Sys2Proof.Machine.execJexSafetyMessage l data s
  | .jexCreditReturn l vc n => Sys2Proof.Machine.execJexCreditReturn l vc n s
  | .injectArm bits loc => Sys2Proof.Machine.execInjectArm bits loc s
  | .w256ClearCounts => Sys2Proof.Machine.execW256ClearCounts s
  | .tagGrant cls target port => Sys2Proof.Machine.execTagGrant cls target port s
  | .tagPoolWrite cls floor ceil => Sys2Proof.Machine.execTagPoolWrite cls floor ceil s
  | .tagPeakClear cls => Sys2Proof.Machine.execTagPeakClear cls s
  | .tagTimeout inst arrived => Sys2Proof.Machine.execTagTimeout inst arrived s
  | .powerDomainOff d => Sys2Proof.Machine.execPowerDomainOff d s
  | .powerDomainOn d => Sys2Proof.Machine.execPowerDomainOn d s
  | .rpllLock => Sys2Proof.Machine.execRpllLock s
  | .rpllLossOfLock => Sys2Proof.Machine.execRpllLossOfLock s
  | .runSet => Sys2Proof.Machine.execRunSet s
  | .runClear => Sys2Proof.Machine.execRunClear s
  | .swapReq => Sys2Proof.Machine.execSwapReq s
  | .syncPinSelect startMode swapMode => Sys2Proof.Machine.execSyncPinSelect startMode swapMode s
  | .taperEnumDone answered => Sys2Proof.Machine.execTaperEnumDone answered s
  | .frameValidationDone => Sys2Proof.Machine.execFrameValidationDone s
  | .decisionPoint => Sys2Proof.Machine.execDecisionPoint s
  | .frameStart => Sys2Proof.Machine.execFrameStart s
  | .frameEnd => Sys2Proof.Machine.execFrameEnd s
  | .syncInEdge => Sys2Proof.Machine.execSyncInEdge s
  | .mirrorIndex count => Sys2Proof.Machine.execMirrorIndex count s
  | .mirrorIndexMissing => Sys2Proof.Machine.execMirrorIndexMissing s
  | .positionSample pos => Sys2Proof.Machine.execPositionSample pos s
  | .entryPrefetch => Sys2Proof.Machine.execEntryPrefetch s
  | .shadeCheck => Sys2Proof.Machine.execShadeCheck s
  | .shadeBucketAdvance w => Sys2Proof.Machine.execShadeBucketAdvance w s
  | .shotNotice => Sys2Proof.Machine.execShotNotice s
  | .shotCommandSend => Sys2Proof.Machine.execShotCommandSend s
  | .strobe => Sys2Proof.Machine.execStrobe s
  | .taperStatusReceive lane v => Sys2Proof.Machine.execTaperStatusReceive lane v s
  | .statusEvaluate => Sys2Proof.Machine.execStatusEvaluate s
  | .taperDriverFault d => Sys2Proof.Machine.execTaperDriverFault d s
  | .drvFaultClear d answered => Sys2Proof.Machine.execDrvFaultClear d answered s
  | .shotWindowClose => Sys2Proof.Machine.execShotWindowClose s
  | .rekey => Sys2Proof.Machine.execRekey s
  | .shadeLock same => Sys2Proof.Machine.execShadeLock same s
  | .shadeBudgetWrite w v => Sys2Proof.Machine.execShadeBudgetWrite w v s
  | .shadeTempInhibit => Sys2Proof.Machine.execShadeTempInhibit s
  | .shadeTempStale rtd => Sys2Proof.Machine.execShadeTempStale rtd s
  | .diagClear bank seg whole all => Sys2Proof.Machine.execDiagClear bank seg whole all s
  | .referenceReturn t k lead tot => Sys2Proof.Machine.execReferenceReturn t k lead tot s
  | .refWindowClose t => Sys2Proof.Machine.execRefWindowClose t s
  | .segmentOpen bank seg => Sys2Proof.Machine.execSegmentOpen bank seg s
  | .diagPeriodEnd => Sys2Proof.Machine.execDiagPeriodEnd s
  | .comparatorEvent t c cl rl ct rt above peak => Sys2Proof.Machine.execComparatorEvent t c cl rl ct rt above peak s
  | .totTimeout t c cl rl peak => Sys2Proof.Machine.execTotTimeout t c cl rl peak s
  | .gainSwitchPoint t c => Sys2Proof.Machine.execGainSwitchPoint t c s
  | .gainBlankEnd t c => Sys2Proof.Machine.execGainBlankEnd t c s
  | .chEnableWrite t w v => Sys2Proof.Machine.execChEnableWrite t w v s
  | .eventAccumulate t c ecc => Sys2Proof.Machine.execEventAccumulate t c ecc s
  | .cdtRecompute t temps => Sys2Proof.Machine.execCdtRecompute t temps s
  | .cdtStale t => Sys2Proof.Machine.execCdtStale t s
  | .tdcHealthCheck t n unit span => Sys2Proof.Machine.execTdcHealthCheck t n unit span s
  | .tdcStampSilence t n => Sys2Proof.Machine.execTdcStampSilence t n s
  | .tdcFailWrite t w v => Sys2Proof.Machine.execTdcFailWrite t w v s
  | .spareMapWrite t k target valid => Sys2Proof.Machine.execSpareMapWrite t k target valid s
  | .gangPhaseMeasure t err => Sys2Proof.Machine.execGangPhaseMeasure t err s
  | .gangLock t => Sys2Proof.Machine.execGangLock t s
  | .gangUnlock t => Sys2Proof.Machine.execGangUnlock t s
  | .refClear t => Sys2Proof.Machine.execRefClear t s
  | .walkWrite t g ix v => Sys2Proof.Machine.execWalkWrite t g ix v s
  | .zoomSnapshot t b => Sys2Proof.Machine.execZoomSnapshot t b s
  | .summarySend t k => Sys2Proof.Machine.execSummarySend t k s
  | .zoomAnswer t late => Sys2Proof.Machine.execZoomAnswer t late s
  | .zoomWindowInstall t c => Sys2Proof.Machine.execZoomWindowInstall t c s
  | .cellSeal t b => Sys2Proof.Machine.execCellSeal t b s
  | .cellPacketSend t k w e => Sys2Proof.Machine.execCellPacketSend t k w e s
  | .handoffComplete t c => Sys2Proof.Machine.execHandoffComplete t c s
  | .cellRecordReceive t e => Sys2Proof.Machine.execCellRecordReceive t e s
  | .tapSelect n ch en decim => Sys2Proof.Machine.execTapSelect n ch en decim s
  | .tapEnable en ovr wm => Sys2Proof.Machine.execTapEnable en ovr wm s
  | .tapFlush partly => Sys2Proof.Machine.execTapFlush partly s
  | .tapTailWrite v => Sys2Proof.Machine.execTapTailWrite v s
  | .tapSlotCommit => Sys2Proof.Machine.execTapSlotCommit s
  | .echoExtract e => Sys2Proof.Machine.execEchoExtract e s
  | .pointPacketWrite held => Sys2Proof.Machine.execPointPacketWrite held s
  | .ifFrameEvaluate => Sys2Proof.Machine.execIfFrameEvaluate s
  | .deviceTimeWrap => Sys2Proof.Machine.execDeviceTimeWrap s
  | .servoOffset src off wrap => Sys2Proof.Machine.execServoOffset src off wrap s
  | .trimUpdate => Sys2Proof.Machine.execTrimUpdate s
  | .holdoverEntry => Sys2Proof.Machine.execHoldoverEntry s
  | .timeStepWrite v => Sys2Proof.Machine.execTimeStepWrite v s
  | .warmReached held => Sys2Proof.Machine.execWarmReached held s
  | .ocxoWarmChange level => Sys2Proof.Machine.execOcxoWarmChange level s
  | .ppsEdge coarse code => Sys2Proof.Machine.execPpsEdge coarse code s
  | .ppsMissing => Sys2Proof.Machine.execPpsMissing s
  | .timeinEdge n rising coarse code => Sys2Proof.Machine.execTimeinEdge n rising coarse code s
  | .timeinStampRead p n => Sys2Proof.Machine.execTimeinStampRead p n s
  | .statsStart p => Sys2Proof.Machine.execStatsStart p s
  | .statsAbort => Sys2Proof.Machine.execStatsAbort s
  | .statsSample => Sys2Proof.Machine.execStatsSample s
  | .statsDone => Sys2Proof.Machine.execStatsDone s
  | .lowHalfRead p a e late => Sys2Proof.Machine.execLowHalfRead p a e late s
  | .highHalfWrite p a v => Sys2Proof.Machine.execHighHalfWrite p a v s
  | .lowHalfWrite p a v => Sys2Proof.Machine.execLowHalfWrite p a v s
  | .linkUp cxl width speed cxlMem => Sys2Proof.Machine.execLinkUp cxl width speed cxlMem s
  | .linkDown => Sys2Proof.Machine.execLinkDown s
  | .flr => Sys2Proof.Machine.execFlr s
  | .ringCfgWrite r v => Sys2Proof.Machine.execRingCfgWrite r v s
  | .sqDoorbell n v => Sys2Proof.Machine.execSqDoorbell n v s
  | .descriptorFetch ok => Sys2Proof.Machine.execDescriptorFetch ok s
  | .nop n => Sys2Proof.Machine.execNop n s
  | .copy n e stop => Sys2Proof.Machine.execCopy n e stop s
  | .fill n stop => Sys2Proof.Machine.execFill n stop s
  | .regWrite n => Sys2Proof.Machine.execRegWrite n s
  | .regRead n stop => Sys2Proof.Machine.execRegRead n stop s
  | .waitTime n => Sys2Proof.Machine.execWaitTime n s
  | .waitTimeReached n => Sys2Proof.Machine.execWaitTimeReached n s
  | .modeReq n => Sys2Proof.Machine.execModeReq n s
  | .invalidOpcode n => Sys2Proof.Machine.execInvalidOpcode n s
  | .descriptorComplete n => Sys2Proof.Machine.execDescriptorComplete n s
  | .cqDoorbell n v => Sys2Proof.Machine.execCqDoorbell n v s
  | .cqNoticeTimer n => Sys2Proof.Machine.execCqNoticeTimer n s
  | .sqFlush n => Sys2Proof.Machine.execSqFlush n s
  | .sqFlushDone n => Sys2Proof.Machine.execSqFlushDone n s
  | .prDoorbell n v => Sys2Proof.Machine.execPrDoorbell n v s
  | .prQuotaWrite n v => Sys2Proof.Machine.execPrQuotaWrite n v s
  | .headWordWrite n => Sys2Proof.Machine.execHeadWordWrite n s
  | .prNoticeTimer n => Sys2Proof.Machine.execPrNoticeTimer n s
  | .prFlush n partly => Sys2Proof.Machine.execPrFlush n partly s
  | .eventPop p off len => Sys2Proof.Machine.execEventPop p off len s
  | .dportAddrWrite v => Sys2Proof.Machine.execDportAddrWrite v s
  | .dportDataRead p e late => Sys2Proof.Machine.execDportDataRead p e late s
  | .dportDataWrite p v late => Sys2Proof.Machine.execDportDataWrite p v late s
  | .dportApertureWrite o data => Sys2Proof.Machine.execDportApertureWrite o data s
  | .dportApertureRead o wide e late => Sys2Proof.Machine.execDportApertureRead o wide e late s
  | .sidebandEntdaa dyn => Sys2Proof.Machine.execSidebandEntdaa dyn s
  | .sidebandWrite a v ok => Sys2Proof.Machine.execSidebandWrite a v ok s
  | .sidebandRead a ok e late => Sys2Proof.Machine.execSidebandRead a ok e late s
  | .sidebandTimeout => Sys2Proof.Machine.execSidebandTimeout s
  | .cxlMemRead d e => Sys2Proof.Machine.execCxlMemRead d e s
  | .cxlMemWrite d data => Sys2Proof.Machine.execCxlMemWrite d data s
  | .memInit order f0 f1 f2 f3 => Sys2Proof.Machine.execMemInit order f0 f1 f2 f3 s
  | .memInitDone => Sys2Proof.Machine.execMemInitDone s
  | .memLock => Sys2Proof.Machine.execMemLock s
  | .memRequest p d write => Sys2Proof.Machine.execMemRequest p d write s
  | .memCommandSlot m => Sys2Proof.Machine.execMemCommandSlot m s
  | .memCompletion p e => Sys2Proof.Machine.execMemCompletion p e s
  | .refreshDue m => Sys2Proof.Machine.execRefreshDue m s
  | .refreshPreempt m b => Sys2Proof.Machine.execRefreshPreempt m b s
  | .mr4RateChange m mult => Sys2Proof.Machine.execMr4RateChange m mult s
  | .retrainStep m ok => Sys2Proof.Machine.execRetrainStep m ok s
  | .freqChangeReq sp throttle => Sys2Proof.Machine.execFreqChangeReq sp throttle s
  | .freqChangeApply => Sys2Proof.Machine.execFreqChangeApply s
  | .memQuotaWrite p v => Sys2Proof.Machine.execMemQuotaWrite p v s
  | .memPortCfgWrite p target rt => Sys2Proof.Machine.execMemPortCfgWrite p target rt s
  | .memPortPeakClr p => Sys2Proof.Machine.execMemPortPeakClr p s
  | .scrubPassEnd => Sys2Proof.Machine.execScrubPassEnd s
  | .ceRateCheck m => Sys2Proof.Machine.execCeRateCheck m s
  | .memErrClear m => Sys2Proof.Machine.execMemErrClear m s
  | .retireStart ch => Sys2Proof.Machine.execRetireStart ch s
  | .migrateStripe bad => Sys2Proof.Machine.execMigrateStripe bad s
  | .retireDone => Sys2Proof.Machine.execRetireDone s
  | .ethModeWrite p mode inStep => Sys2Proof.Machine.execEthModeWrite p mode inStep s
  | .ethLinkUp p => Sys2Proof.Machine.execEthLinkUp p s
  | .ethLinkDown p => Sys2Proof.Machine.execEthLinkDown p s
  | .eqAdaptStep lane => Sys2Proof.Machine.execEqAdaptStep lane s
  | .ethRetrain p inStep => Sys2Proof.Machine.execEthRetrain p inStep s
  | .ethFrameReceive p frame note mismatch => Sys2Proof.Machine.execEthFrameReceive p frame note mismatch s
  | .frerReset dst vid => Sys2Proof.Machine.execFrerReset dst vid s
  | .txSelect p => Sys2Proof.Machine.execTxSelect p s
  | .gateChange p => Sys2Proof.Machine.execGateChange p s
  | .gateListSwitch p => Sys2Proof.Machine.execGateListSwitch p s
  | .gclEntryAdvance p => Sys2Proof.Machine.execGclEntryAdvance p s
  | .ptpMessageReceive p stamp r => Sys2Proof.Machine.execPtpMessageReceive p stamp r s
  | .ptpSyncSend => Sys2Proof.Machine.execPtpSyncSend s
  | .exportEnable x => Sys2Proof.Machine.execExportEnable x s
  | .exportFrameSend x => Sys2Proof.Machine.execExportFrameSend x s
  | .qslTxEnable c => Sys2Proof.Machine.execQslTxEnable c s
  | .qslCommit c => Sys2Proof.Machine.execQslCommit c s
  | .qslTxPeriod c => Sys2Proof.Machine.execQslTxPeriod c s
  | .qslRxEnable c => Sys2Proof.Machine.execQslRxEnable c s
  | .qslRestart c => Sys2Proof.Machine.execQslRestart c s
  | .qslFrameReceive p pdu mismatch => Sys2Proof.Machine.execQslFrameReceive p pdu mismatch s
  | .qslWatchdog c arrived => Sys2Proof.Machine.execQslWatchdog c arrived s
  | .safetySummary c v => Sys2Proof.Machine.execSafetySummary c v s
  | .cellCloseMarker c bank azimuth firstShot => Sys2Proof.Machine.execCellCloseMarker c bank azimuth firstShot s
  | .zoneEvaluate c => Sys2Proof.Machine.execZoneEvaluate c s
  | .verdictExchange => Sys2Proof.Machine.execVerdictExchange s
  | .verdictTimeout c arrived => Sys2Proof.Machine.execVerdictTimeout c arrived s
  | .permissionClockStop p => Sys2Proof.Machine.execPermissionClockStop p s
  | .restartDelay c p => Sys2Proof.Machine.execRestartDelay c p s
  | .ztPrepare => Sys2Proof.Machine.execZtPrepare s
  | .ztChannelCheckDone c => Sys2Proof.Machine.execZtChannelCheckDone c s
  | .ztCommit => Sys2Proof.Machine.execZtCommit s
  | .ztAbort => Sys2Proof.Machine.execZtAbort s
  | .tableRecheck c ok => Sys2Proof.Machine.execTableRecheck c ok s
  | .zoneSetAgree => Sys2Proof.Machine.execZoneSetAgree s
  | .zoneSwitchEnd => Sys2Proof.Machine.execZoneSwitchEnd s
  | .dciSample contacts => Sys2Proof.Machine.execDciSample contacts s
  | .dciDiscrepancyTimeout n second => Sys2Proof.Machine.execDciDiscrepancyTimeout n second s
  | .testPulse output off => Sys2Proof.Machine.execTestPulse output off s
  | .outputReadback level settled => Sys2Proof.Machine.execOutputReadback level settled s
  | .shadeDigest => Sys2Proof.Machine.execShadeDigest s
  | .shadeDigestTimeout => Sys2Proof.Machine.execShadeDigestTimeout s
  | .pilotLinkSilence link => Sys2Proof.Machine.execPilotLinkSilence link s
  | .lorReqRise => Sys2Proof.Machine.execLorReqRise s
  | .lorReqFall spMs snfMs present => Sys2Proof.Machine.execLorReqFall spMs snfMs present s
  | .lorReqLong => Sys2Proof.Machine.execLorReqLong s
  | .lorReqRearm => Sys2Proof.Machine.execLorReqRearm s
  | .lockoutClear => Sys2Proof.Machine.execLockoutClear s
  | .vsnfRise => Sys2Proof.Machine.execVsnfRise s
  | .vsnfOutOfRange => Sys2Proof.Machine.execVsnfOutOfRange s
  | .vsafOutOfRange => Sys2Proof.Machine.execVsafOutOfRange s
  | .vsnfBrownout => Sys2Proof.Machine.execVsnfBrownout s
  | .modeRequest target => Sys2Proof.Machine.execModeRequest target s
  | .standbyEntry => Sys2Proof.Machine.execStandbyEntry s
  | .bootConfigRead copy0 copy1 => Sys2Proof.Machine.execBootConfigRead copy0 copy1 s
  | .imageCheck a b => Sys2Proof.Machine.execImageCheck a b s
  | .bootRetry readErr keyOk sigOk hashOk => Sys2Proof.Machine.execBootRetry readErr keyOk sigOk hashOk s
  | .svnCommit => Sys2Proof.Machine.execSvnCommit s
  | .calStoreLoad => Sys2Proof.Machine.execCalStoreLoad s
  | .bootComplete factoryEn => Sys2Proof.Machine.execBootComplete factoryEn s
  | .startTestEnd tileFail hubFail snfFail rows => Sys2Proof.Machine.execStartTestEnd tileFail hubFail snfFail rows s
  | .pilotClusterSilence => Sys2Proof.Machine.execPilotClusterSilence s
  | .pilotSummarySilence => Sys2Proof.Machine.execPilotSummarySilence s
  | .pilotStrobeSilence => Sys2Proof.Machine.execPilotStrobeSilence s
  | .pilotShot => Sys2Proof.Machine.execPilotShot s
  | .pilotWindow high lead tot => Sys2Proof.Machine.execPilotWindow high lead tot s
  | .pilotBufferSeal high => Sys2Proof.Machine.execPilotBufferSeal high s
  | .pilotPowerAll high => Sys2Proof.Machine.execPilotPowerAll high s
  | .pilotEvaluate => Sys2Proof.Machine.execPilotEvaluate s
  | .pilotBlind => Sys2Proof.Machine.execPilotBlind s
  | .pilotGrantMessage => Sys2Proof.Machine.execPilotGrantMessage s
  | .indApply atTime => Sys2Proof.Machine.execIndApply atTime s
  | .indApplyTakeEffect => Sys2Proof.Machine.execIndApplyTakeEffect s
  | .lampDiag n short => Sys2Proof.Machine.execLampDiag n short s
  | .indFaultClear mask => Sys2Proof.Machine.execIndFaultClear mask s
  | .heartbeatSend => Sys2Proof.Machine.execHeartbeatSend s
  | .heartbeatReceive h lane e => Sys2Proof.Machine.execHeartbeatReceive h lane e s
  | .heartbeatTimeout arrived => Sys2Proof.Machine.execHeartbeatTimeout arrived s
  | .twinTimeMessage off m => Sys2Proof.Machine.execTwinTimeMessage off m s
  | .mirrorStateMessage n m => Sys2Proof.Machine.execMirrorStateMessage n m s
  | .overlapMessage chan bank az m => Sys2Proof.Machine.execOverlapMessage chan bank az m s
  | .bulkMessage addr m => Sys2Proof.Machine.execBulkMessage addr m s
  | .epochMismatch => Sys2Proof.Machine.execEpochMismatch s
  | .twinLaneRetrain lane write inStep => Sys2Proof.Machine.execTwinLaneRetrain lane write inStep s
  | .twinLaneUp lane => Sys2Proof.Machine.execTwinLaneUp lane s
  | .mirrorHandoff time => Sys2Proof.Machine.execMirrorHandoff time s
  | .mirrorHandoffExecute => Sys2Proof.Machine.execMirrorHandoffExecute s
  | .mirrorRelease => Sys2Proof.Machine.execMirrorRelease s
  | .mirrorTakeoverWait => Sys2Proof.Machine.execMirrorTakeoverWait s
  | .mirrorTakeover high => Sys2Proof.Machine.execMirrorTakeover high s
  | .handoverStart => Sys2Proof.Machine.execHandoverStart s
  | .handoverReady => Sys2Proof.Machine.execHandoverReady s
  | .handoverSwitch => Sys2Proof.Machine.execHandoverSwitch s
  | .handoverEnd => Sys2Proof.Machine.execHandoverEnd s
  | .handoverAbort timeout readErr keyOk sigOk hashOk => Sys2Proof.Machine.execHandoverAbort timeout readErr keyOk sigOk hashOk s
  | .clusterWatchdog => Sys2Proof.Machine.execClusterWatchdog s
  | .sliceStart tile action => Sys2Proof.Machine.execSliceStart tile action s
  | .sliceIsolate => Sys2Proof.Machine.execSliceIsolate s
  | .sliceActionDone passed tdcs => Sys2Proof.Machine.execSliceActionDone passed tdcs s
  | .sliceRejoin => Sys2Proof.Machine.execSliceRejoin s
  | .hkEnable => Sys2Proof.Machine.execHkEnable s
  | .hkDisable => Sys2Proof.Machine.execHkDisable s
  | .hkSwTrigger => Sys2Proof.Machine.execHkSwTrigger s
  | .hkTimerTrigger => Sys2Proof.Machine.execHkTimerTrigger s
  | .hkPhaseDone raw overload => Sys2Proof.Machine.execHkPhaseDone raw overload s
  | .hkWireBreak source => Sys2Proof.Machine.execHkWireBreak source s
  | .syncHkEdge => Sys2Proof.Machine.execSyncHkEdge s
  | .hkCalStart entry fullScale fsTarget => Sys2Proof.Machine.execHkCalStart entry fullScale fsTarget s
  | .hkCalDone sum => Sys2Proof.Machine.execHkCalDone sum s
  | .chimneyMeasure e c g amp => Sys2Proof.Machine.execChimneyMeasure e c g amp s
  | .chimneyRefCapture mask => Sys2Proof.Machine.execChimneyRefCapture mask s
  | .thermalRound die => Sys2Proof.Machine.execThermalRound die s
  | .thermalClassStale k => Sys2Proof.Machine.execThermalClassStale k s
  | .snufferTempSample a b => Sys2Proof.Machine.execSnufferTempSample a b s
  | .loopEnable n on => Sys2Proof.Machine.execLoopEnable n on s
  | .loopSample n mirror => Sys2Proof.Machine.execLoopSample n mirror s
  | .loopAutoSwitch n => Sys2Proof.Machine.execLoopAutoSwitch n s
  | .loopCommit n => Sys2Proof.Machine.execLoopCommit n s
  | .loopSaturated n => Sys2Proof.Machine.execLoopSaturated n s
  | .loopDeviation n => Sys2Proof.Machine.execLoopDeviation n s
  | .nvmWriteSet => Sys2Proof.Machine.execNvmWriteSet s
  | .nvmWriteDone stopped verifyFail => Sys2Proof.Machine.execNvmWriteDone stopped verifyFail s
  | .nvmReadRecord type index => Sys2Proof.Machine.execNvmReadRecord type index s
  | .calGo tiles kind => Sys2Proof.Machine.execCalGo tiles kind s
  | .calDone results => Sys2Proof.Machine.execCalDone results s
  | .bistSliceDue free => Sys2Proof.Machine.execBistSliceDue free s
  | .bistSliceDone misr pass => Sys2Proof.Machine.execBistSliceDone misr pass s
  | .overflowRecordEnter => Sys2Proof.Machine.execOverflowRecordEnter s
  | .claimReserve ix => Sys2Proof.Machine.execClaimReserve ix s
  | .claimRelease ix => Sys2Proof.Machine.execClaimRelease ix s
  | .bankLoadPeakClr t b => Sys2Proof.Machine.execBankLoadPeakClr t b s
  | .echoLoadPeakClr => Sys2Proof.Machine.execEchoLoadPeakClr s
  | .safetyLockstepMismatch => Sys2Proof.Machine.execSafetyLockstepMismatch s
  | .twinLaneLoss lane => Sys2Proof.Machine.execTwinLaneLoss lane s
  | .pcieAdvancedError correctable => Sys2Proof.Machine.execPcieAdvancedError correctable s
  | .fecUncorrectableCodeword p => Sys2Proof.Machine.execFecUncorrectableCodeword p s
  | .twinTimeSend => Sys2Proof.Machine.execTwinTimeSend s
  | .mirrorStateSend speed amplitude => Sys2Proof.Machine.execMirrorStateSend speed amplitude s
  | .trainingStepEnd m => Sys2Proof.Machine.execTrainingStepEnd m s

end Sys2Proof.Machine
end

