-- ==== Sys2Proof/Safety.lean ====
section
/-! DEFINITION. What claims are stated with: the canonical form of the tables and memories, and what a command leaves alone. -/

namespace Sys2Proof.Machine

/-- A memory in its one canonical form: addresses strictly rising, no byte listed that reads as an unlisted one. -/
def Memory.wf (m : List Host.Cell) : Bool := tabWf byteDefault m

/-- The register file and every memory of the state are in canonical form. -/
structure State.Canon (s : State) : Prop where
  regs : tabWf resetOf s.regs = true
  fireTab : Memory.wf s.fireTab = true
  ztStage : Memory.wf s.ztStage = true
  devMem : Memory.wf s.devMem = true
  hostMem : Memory.wf s.hostMem = true
  nor : Memory.wf s.nor = true
  calStage : Memory.wf s.calStage = true

/-- The tables of like things keep the number of entries that the spec gives the device (R5, R16, R18, R172, R173, R180, R253, R257, R269,
R318, R360, R364, R370). -/
structure State.Shape (s : State) : Prop where
  ports : s.ports.length = 5
  links : s.hub.links.length = 22
  credits : s.hub.links.all (fun x => x.credits.length == 4) = true
  tiles : s.tiles.length = 6
  fifo : s.time.fifo.length = 4
  ovf : s.time.ovf.length = 4
  lastEdge : s.time.lastEdge.length = 5
  ethPorts : s.eth.ports.length = 4
  queues : s.eth.ports.all (fun x => x.queues.length == 8) = true
  qtx : s.eth.qtx.length = 8
  qrx : s.eth.qrx.length = 8
  active : s.ind.active.length = 8
  refs : s.chm.refs.length = 8
  cand : s.chm.cand.length = 8
  sens : s.thm.sens.length = 38
  loops : s.loops.length = 8

/-- Registers of the event system that a raise moves (R401 to R403): EVT_PEND_w, EVT_STAT and RING_EV_STAT. -/
def evReg (a : Nat) : Bool :=
  (Nat.ble (EVT_PEND.addr 0) a && Nat.blt a (EVT_PEND.addr 8)) || a == EVT_STAT.addr || a == RING_EV_STAT.addr

/-- Registers of W256: its control, its status and its log (R31, R34). -/
def w256Reg (a : Nat) : Bool := (Nat.ble 0x300 a && Nat.blt a 0x310) || (Nat.ble 0x1000 a && Nat.blt a 0x1800)

/-- HUB_TAG_STAT_0 to HUB_TAG_STAT_7, which a tag that goes back can move (R35). -/
def tagStats : List Nat := (List.range 8).map HUB_TAG_STAT.addr

/-- Registers that stopping the generator can move: W256 counters and log, the claim on SYNC_OUT, FIRE, TAPER, SHADE and the tiles. -/
def killReg (a : Nat) : Bool :=
  w256Reg a || a == 0x804 || (Nat.ble 0x200000 a && Nat.blt a 0xA00000)

/-- Registers that a change of mode can move beside the event system: those of stopping the generator, the mode, handover and slice
registers, the phase leader and the grants (R302). -/
def modeReg (a : Nat) : Bool :=
  killReg a || a == HUB_MODE_STAT.addr || a == HUB_HO_STAT.addr || a == HUB_HO_CTL.addr || a == HUB_SLICE_STAT.addr ||
    a == HUB_SLICE_CTL.addr || a == TWN_STAT.addr || a == SAF_STAT.addr

/-- Every memory holds what it held, and the queue of commands too. -/
def State.SameMem (s t : State) : Prop :=
  t.fireTab = s.fireTab ∧ t.ztStage = s.ztStage ∧ t.devMem = s.devMem ∧ t.hostMem = s.hostMem ∧ t.nor = s.nor ∧
    t.calStage = s.calStage ∧ t.pending = s.pending

/-- Nothing but registers changed, and of these only those at the addresses of `l`. -/
def State.OnlyRegs (s t : State) (l : List Nat) : Prop := t = { s with regs := t.regs } ∧ ∀ a, a ∉ l → t.reg a = s.reg a

/-- As `OnlyRegs`, beside what raising events moves: the event system and messages to the host. -/
def State.OnlyRegsEv (s t : State) (l : List Nat) : Prop :=
  t = { s with regs := t.regs, ev := t.ev, out := t.out } ∧ ∀ a, a ∉ l → evReg a = false → t.reg a = s.reg a

/-- Of the registers outside the event system only those at the addresses of `l` changed. -/
def State.RegsBut (s t : State) (l : List Nat) : Prop := ∀ a, a ∉ l → evReg a = false → t.reg a = s.reg a

/-- The bit of EVT_PEND that shows source `src` (R401). -/
def State.Pends (s : State) (src : Nat) : Prop := (s.reg (EVT_PEND.addr (src / 32))).toNat.testBit (src % 32) = true

/-- A field of a register keeps its value. -/
def State.Keeps (s t : State) (f : FRef) : Prop := t.get f = s.get f

/-- Does port `p` make accesses (R39, R391): its cluster is not clamped and not under test? -/
def State.portLive (s : State) (p : Port) : Bool := !(decide (p = .clusterB) && s.isOff .clb) && !s.portInTest p

/-- What a fault of R293 leaves: lock-out, both grants and both pairs off, the pad selector blanked, SAFE entered from the modes that
R302 allows, the first cause kept with its time and later ones counted; of the registers outside the event system, those at the
addresses of `l` may change besides. -/
def State.SafeAfter (s t : State) (cause info : Nat) (l : List Nat) : Prop :=
  t.mode = (if (1 ≤ s.mode ∧ s.mode ≤ 9) ∨ s.mode = 11 then 10 else s.mode) ∧
    t.get SAF_STAT.lockout = 1 ∧ t.get HUB_MODE_STAT.lockout = 1 ∧ t.get SAF_STAT.perm_a = 0 ∧ t.get SAF_STAT.perm_b = 0 ∧
    (∀ (c : SafSel) (p : Pair), t.get (grantBit c p) = 0) ∧ t.snf.sel = .blanked ∧ t.saf.latched = true ∧
    (s.saf.latched = false → t.get SAF_FAULT.cause = cause ∧ t.get SAF_FAULT.info = info ∧ t.get SAF_FAULT.later = 0 ∧
      t.get SAF_FAULT_TIME.time = s.now) ∧
    (s.saf.latched = true → t.get SAF_FAULT.cause = s.get SAF_FAULT.cause ∧ t.get SAF_FAULT_TIME.time = s.get SAF_FAULT_TIME.time ∧
      t.get SAF_FAULT.later = satAdd 65535 (s.get SAF_FAULT.later) 1) ∧
    t.Pends Ev.safetyFault ∧ s.SameMem t ∧
    ∀ a, a ∉ SAF_FAULT.addr :: SAF_FAULT_TIME.addr :: HUB_MODE_REQ.addr :: l → modeReg a = false → evReg a = false → t.reg a = s.reg a

/-- What marking TDC `n` of tile `k`, none of the spares, as failed leaves (R97): the mark and its event, and for a channel it serves a
substitute spare where one is free and automatic substitution is on, else spares-exhausted. -/
def State.TdcMarked (s t : State) (k n : Nat) : Prop :=
  t.tdcFailed k n = true ∧ t.Pends (Ev.tdcFault k) ∧
    (∀ c j : Nat, s.tdcServes k n = some c →
      (List.range 16).find? (fun j => !s.flag (TILE_SPARE_MAP.valid k j) && !s.tdcFailed k (256 + j)) = some j →
      s.get (TILE_TDC_CFG.auto_sub k) = 1 → t.get (TILE_SPARE_MAP.target k j) = c ∧ t.get (TILE_SPARE_MAP.valid k j) = 1 ∧
        t.get (TILE_SPARE_MAP.auto k j) = 1 ∧ t.Pends (Ev.tdcSubstituted k)) ∧
    (∀ c : Nat, s.tdcServes k n = some c → s.get (TILE_TDC_CFG.auto_sub k) = 0 → t.Pends (Ev.sparesExhausted k)) ∧
    t = { s with regs := t.regs, ev := t.ev, tiles := t.tiles, out := t.out } ∧
    ∀ a, a < 0x400000 + 0x100000 * k ∨ 0x500000 + 0x100000 * k ≤ a → evReg a = false → t.reg a = s.reg a

/-- What transmit queue `q` of Ethernet port `p` holds. -/
def State.txQueue (s : State) (p q : Nat) : List TxFrame := (s.ethPort p).queues.getD q []

/-- Does receive connection `c` take a PDU that arrives at port `p`: enabled, with its identity, and listening there (R274)? -/
def State.qslTakes (s : State) (p c : Nat) (l : List Byte) : Bool :=
  s.flag (QSL_RX_CFG.enable c) && s.get (QSL_RX_ID.identity c) == frameNat l 2 4 && (s.get (QSL_RX_CFG.ports c)).testBit p

/-- The receive connection that a PDU at port `p` meets is `c`. -/
def State.qslMeets (s : State) (p c : Nat) (l : List Byte) : Prop :=
  s.qslTakes p c l = true ∧ ∀ d, d < c → s.qslTakes p d l = false

/-- The PDU carries its own length and the check word of its identity (step 2 of R274). -/
def qslChecked (l : List Byte) : Prop :=
  16 + frameNat l 1 1 + 4 ≤ l.length ∧ frameNat l (16 + frameNat l 1 1) 4 = qslCrc (frameNat l 2 4) (l.take (16 + frameNat l 1 1))

/-- No grant of a pair that the safety table binds to receive connection `c` stands (R285). -/
def State.NoGrantOf (s t : State) (c : Nat) : Prop :=
  ∀ (x : SafSel) (p : Pair), (tblByte (s.chanOf x).table (30 + pairIx p)).testBit c = true → t.get (grantBit x p) = 0

/-- What a trigger of the housekeeping sequence leaves (R347, R349, R350): nothing while disabled; a round from entry 0 when idle; when
busy, one trigger queued if that is on, else one missed, which without a queue raises the event. -/
def State.HkTriggered (s t : State) : Prop :=
  (s.get HK_CTL.enable = 0 → t = s) ∧
    (s.get HK_CTL.enable = 1 → s.hk.run = none → s.hk.calRuns = false → t.get HK_STAT.busy = 1 ∧ t.hk.run = some (0, 0) ∧
      t.hk.round = (s.get HK_CTL.seq_len_m1, clampN 125 50000 (s.get HK_CTL.osr_r), s.get HK_CTL.min_phase) ∧
      t.hk.value = s.hk.value ∧ t = { s with regs := t.regs, hk := t.hk } ∧ s.RegsBut t [HK_STAT.addr]) ∧
    (s.get HK_CTL.enable = 1 → s.hk.run.isSome = true ∨ s.hk.calRuns = true → s.get HK_CTL.queue_en = 1 → s.get HK_STAT.queued = 0 →
      t.get HK_STAT.queued = 1 ∧ s.OnlyRegs t [HK_STAT.addr]) ∧
    (s.get HK_CTL.enable = 1 → s.hk.run.isSome = true ∨ s.hk.calRuns = true → s.get HK_CTL.queue_en = 0 →
      t.get HK_STAT.missed = satAdd 65535 (s.get HK_STAT.missed) 1 ∧ t.Pends Ev.hkMissedTrigger ∧ s.OnlyRegsEv t [HK_STAT.addr]) ∧
    (s.get HK_CTL.enable = 1 → s.hk.run.isSome = true ∨ s.hk.calRuns = true → s.get HK_CTL.queue_en = 1 → s.get HK_STAT.queued = 1 →
      t.get HK_STAT.missed = satAdd 65535 (s.get HK_STAT.missed) 1 ∧ s.OnlyRegs t [HK_STAT.addr])

/-- Descriptor `d`, with opcode `op`, is the one of SQ `n` that the ring engine starts next (R197, R198). -/
def State.Meets (s : State) (n op : Nat) (d : Desc) : Prop := s.startable n (fun x => x == op) = some d

/-- It starts now: its words can be read, no reserved bit is set, its ring is below its credit and a tag of class 0 is free (R32, R194,
R199). -/
def State.Starts (s : State) (n op : Nat) (d : Desc) : Prop :=
  s.Meets n op d ∧ s.hubBad (descBuf d.inst) 64 = false ∧ d.plain = true ∧ (s.hubScan 3 (s.tagOf d.inst) (descBuf d.inst) 64).sqBelow n = true ∧
    (s.hubScan 3 (s.tagOf d.inst) (descBuf d.inst) 64).tagFree 0 = true

/-- The state in which a descriptor that starts has its effect: its words are read, and it holds its tag and counts in in_flight. -/
def State.started (s : State) (n : Nat) (d : Desc) : State := (s.hubScan 3 (s.tagOf d.inst) (descBuf d.inst) 64).descStart n d

/-- What a response of `flits` flits on link `l` leaves (R17, R37): the operation with its tag and tag instance completes, well or not, and
gives its tag back; a response whose operation is gone only counts. -/
def State.ResponseTaken (s : State) (l : Fin 22) (x : JexLink) (c : Nat) (tag : BitVec 12) (inst : Nat) (ok : Bool) (flits : Nat)
    (r : Host.Outcome State Fault Refusal) : Prop :=
  (∀ o : Op, s.hub.ops.find? (fun o => o.inst == inst) = some o → o.tag = tag.toNat →
    ∃ t : State, r = .next t ∧ t.out = .opDone o.tag inst o.port ok :: s.out ∧
      t.hub.ops = s.hub.ops.filter (fun o => !(o.inst == inst)) ∧
      t.get (HUB_TAG_STAT.in_use o.cls) = s.get (HUB_TAG_STAT.in_use o.cls) - 1 ∧
      (∃ u, t.hub.links[l.val]? = some u ∧ u.credits = x.credits.set 1 (c - flits)) ∧
      t = { s with regs := t.regs, hub := t.hub, out := t.out } ∧ ∀ a, a ≠ HUB_TAG_STAT.addr o.cls → t.reg a = s.reg a) ∧
    (s.hub.ops.find? (fun o => o.inst == inst && o.tag == tag.toNat) = none →
      ∃ t : State, r = .next t ∧ t.hub.late = s.hub.late + 1 ∧ t.hub.ops = s.hub.ops ∧ t = { s with hub := t.hub })

/-- Is a message a value that drives an actuator of the control loops (R370)? -/
def outDrives (x : Out) : Bool :=
  match x with
  | .actuate _ _ => true
  | _ => false

end Sys2Proof.Machine
end

