-- ==== Sys2Proof/Certificates/Slice0/Obligations.lean ====
section
/-! DEFINITION. The statements about the model. The rules in brackets say where the clauses of a statement come from; a statement says of
them what its clauses say, no more. -/

open Sys2Proof Sys2Proof.Machine

/-- The reset pins (R302, R303): what PORST_N and WARM_RST_N leave, and the release into BOOT. Log entries 18, 158, 159, 160, 161, 162
and 163 bear on its clauses: what they fix is the model's choice. -/
def Obligations.ResetPins : Prop :=
  ∀ s : State,
    (∀ tiles : BitVec 6, ∃ t : State, exec (.porstNAssert tiles) s = .next t ∧ t.mode = 0 ∧ t.get HUB_CAP.tiles = tiles.toNat ∧
      t.get SAF_STAT.perm_a = 0 ∧ t.get SAF_STAT.perm_b = 0 ∧ s.Keeps t SAF_STAT.lockout ∧
      t.get HUB_MODE_STAT.lockout = s.get SAF_STAT.lockout ∧
      (∀ a, a < 0xE00000 ∨ 0xE80000 ≤ a → a ∉ [HUB_MODE_STAT.addr, HUB_CAP.addr, HUB_SVN_FLOOR.addr, THM_STAT.addr, TWN_OWN_CTL.addr, TIME_STAT.addr] →
        t.reg a = resetOf a) ∧
      (∀ a, 0xE00000 ≤ a → a < 0xE80000 → a < SAF_ZT_CTL.addr ∨ SAF_ZT_ACTIVE.addr < a → a ≠ SAF_STAT.addr → t.reg a = s.reg a) ∧
      t.reg HUB_SVN_FLOOR.addr = s.reg HUB_SVN_FLOOR.addr ∧ t.pending = s.pending ∧ t.devMem = s.devMem ∧ t.nor = s.nor) ∧
    (∃ t : State, exec .warmRstNAssert s = .next t ∧ t.mode = 0 ∧ t.get HUB_MODE_STAT.last_mode = s.mode ∧
      t.get SAF_STAT.perm_a = 0 ∧ t.get SAF_STAT.perm_b = 0 ∧
      (s.get HUB_RESET_CAUSE.por = 0 → t.get HUB_RESET_CAUSE.warm = 1) ∧ s.Keeps t HUB_RESET_CAUSE.por ∧
      (∀ a, 0x400000 ≤ a → a < 0xE00000 → a ≠ TWN_OWN_CTL.addr → a ≠ THM_STAT.addr → t.reg a = resetOf a) ∧ t.pending = s.pending ∧ t.devMem = s.devMem ∧ t.nor = s.nor) ∧
    (∀ twinId : Bool, s.mode = 0 → s.fire.engaged = false → ∃ t : State, exec (.resetRelease twinId) s = .next t ∧ t.mode = 1 ∧
      t.get TWN_STAT.unit = bit twinId ∧ t.reg HUB_BOOT_STAT.addr = resetOf HUB_BOOT_STAT.addr ∧ t.get HUB_BOOT_CTL.retry = 0)

/-- Arming an injection and clearing the W256 counters (R34), the ownership claims of the host (R410, R412), and the PCIe advanced
errors (R224). -/
def Obligations.HubControls : Prop :=
  (∀ s : State,
    (∀ (n : Fin 4) (loc : Fin 8), ∃ t : State, exec (.injectArm n loc) s = .next t ∧
      t.get HUB_W256_CTL.inject_arm = 1 ∧ t.get HUB_W256_CTL.inject_bits = n.val ∧ t.get HUB_W256_CTL.inject_loc = loc.val ∧
      s.Keeps t HUB_W256_CTL.writeback_en ∧ s.Keeps t HUB_W256_CTL.log_ce ∧ s.OnlyRegs t [HUB_W256_CTL.addr]) ∧
    (∃ t : State, exec .w256ClearCounts s = .next t ∧
      t.get HUB_W256_STAT.ce_count = 0 ∧ t.get HUB_W256_STAT.ue_count = 0 ∧
      s.Keeps t HUB_W256_STAT.log_head ∧ s.Keeps t HUB_W256_STAT.log_wrapped ∧ s.OnlyRegs t [HUB_W256_STAT.addr])) ∧
  (∀ (s : State) (i : Fin 32),
    (i.val ≤ 15 → s.get (HUB_CLAIM.owner i) = 0 ∨ s.get (HUB_CLAIM.owner i) = 1 → ∃ t : State, exec (.claimReserve i) s = .next t ∧
      t.get (HUB_CLAIM.owner i) = 1 ∧ s.Keeps t (HUB_CLAIM.last_denied i) ∧ s.OnlyRegs t [HUB_CLAIM.addr i]) ∧
    (i.val ≤ 15 → 1 < s.get (HUB_CLAIM.owner i) → ∃ t : State, exec (.claimReserve i) s = .next t ∧
      s.Keeps t (HUB_CLAIM.owner i) ∧ t.get (HUB_CLAIM.last_denied i) = 1 ∧ t.get (HUB_CLAIM.denied_seen i) = 1 ∧
      t.Pends (Ev.claimDenied 0) ∧ s.OnlyRegsEv t [HUB_CLAIM.addr i]) ∧
    (15 < i.val → exec (.claimReserve i) s = .next s) ∧
    (s.get (HUB_CLAIM.owner i) = 1 → ∃ t : State, exec (.claimRelease i) s = .next t ∧
      t.get (HUB_CLAIM.owner i) = 0 ∧ s.Keeps t (HUB_CLAIM.last_denied i) ∧ s.OnlyRegs t [HUB_CLAIM.addr i]) ∧
    (s.get (HUB_CLAIM.owner i) ≠ 1 → exec (.claimRelease i) s = .next s) ∧
    (∀ c : Bool, ∃ t : State, exec (.pcieAdvancedError c) s = .next t ∧
      t.Pends (if c then Ev.aerCorrectable else Ev.aerUncorrectable) ∧ s.OnlyRegsEv t []))

/-- The tag pools (R35, R36): a grant, a refused and an accepted limit, the peak; and the completion timeout of a tagged operation
(R37): it leaves the tag space, its requester is told, its owner's event is raised, and a descriptor whose operation it was ends with
timeout (R201); where the response came in or before the expiry cycle, or the operation is gone, nothing happens. Log entries 6, 7, 137,
168 and 222 bear on its clauses: what they fix is the model's choice. -/
def Obligations.TagPools : Prop :=
  (∀ (s : State) (c : Fin 8),
    (∀ (g : Target) (p : Word16), s.tagFree c = true → s.hub.waiters.all (fun w => w.cls != c.val) = true →
      ∃ (t : State) (o : Op), exec (.tagGrant c g p) s = .next t ∧
        t.hub.ops = s.hub.ops ++ [o] ∧ o.cls = c.val ∧ o.target = g ∧ o.port = p.toNat ∧ o.inst = s.hub.nextInst ∧
        t.hub.waiters = s.hub.waiters ∧
        t.get (HUB_TAG_STAT.in_use c) = (s.get (HUB_TAG_STAT.in_use c) + 1) % 4096 ∧
        t = { s with regs := t.regs, hub := t.hub } ∧ ∀ a, a ≠ HUB_TAG_STAT.addr c → t.reg a = s.reg a) ∧
    (∀ f x : BitVec 12, s.floorsWith c f.toNat ≤ 4096 → ∃ t : State, exec (.tagPoolWrite c f x) s = .next t ∧
      t.get (HUB_TAG_POOL.floor c) = f.toNat ∧ t.get (HUB_TAG_POOL.ceiling c) = x.toNat ∧
      t = { s with regs := t.regs, hub := { s.hub with cut := t.hub.cut }, ev := t.ev, out := t.out } ∧
      s.RegsBut t [HUB_TAG_POOL.addr c] ∧
      (f.toNat < s.get (HUB_TAG_POOL.floor c) → f.toNat < s.get (HUB_TAG_STAT.in_use c) → s.hub.cut.length = 8 →
        t.tagFree c = false ∧ t.Pends Ev.tagExhaust)) ∧
    (∀ f x : BitVec 12, 4096 < s.floorsWith c f.toNat → ∃ t : State, exec (.tagPoolWrite c f x) s = .next t ∧
      t.Pends Ev.tagConfigRejected ∧ s.OnlyRegsEv t []) ∧
    (∃ t : State, exec (.tagPeakClear c) s = .next t ∧ t.get (HUB_TAG_STAT.peak c) = s.get (HUB_TAG_STAT.in_use c) ∧
      s.Keeps t (HUB_TAG_STAT.in_use c) ∧ s.OnlyRegs t [HUB_TAG_STAT.addr c])) ∧
  (∀ (s : State) (k : Nat),
    (∀ o, s.hub.ops.find? (fun x => x.inst == k) = some o → s.opWaits o = true → ∃ t : State, exec (.tagTimeout k false) s = .next t ∧
      t.hub.ops = s.hub.ops.filter (fun x => !(x.inst == k)) ∧ Out.opDone o.tag k o.port false ∈ t.out ∧
      t.Pends (match o.target with | .tile i => Ev.tileTimeout i | _ => Ev.hostTimeout)) ∧
    (∀ o, s.hub.ops.find? (fun x => x.inst == k) = some o → o.cls = 0 → ∀ d, s.descOf o.port k = some d → d.result? = none →
      d.outstanding = true → ∃ t : State, exec (.tagTimeout k false) s = .next t ∧ t.descOf o.port k = some { d with st := .done 7 d.moved }) ∧
    (∀ o, s.hub.ops.find? (fun x => x.inst == k) = some o → s.opWaits o = false → exec (.tagTimeout k false) s = .next s) ∧
    (exec (.tagTimeout k true) s = .next s) ∧
    (s.hub.ops.find? (fun x => x.inst == k) = none → exec (.tagTimeout k false) s = .next s))

/-- A granted tag is one that no operation in flight holds, while one of the 4,096 is free (R35). Log entries 6, 7, 137 and 168 bear on
its clauses: what they fix is the model's choice. -/
def Obligations.GrantedTagIsFree : Prop :=
  ∀ (s : State) (c : Fin 8) (g : Target) (p : Word16) (k : Nat), k < 4096 → s.hub.ops.all (fun o => o.tag != k) = true →
    s.tagFree c = true → s.hub.waiters.all (fun w => w.cls != c.val) = true →
    ∃ (t : State) (o : Op), exec (.tagGrant c g p) s = .next t ∧ t.hub.ops = s.hub.ops ++ [o] ∧
      o.tag < 4096 ∧ s.hub.ops.all (fun x => x.tag != o.tag) = true

/-- Power domains (R38, R39): a switch-off that the table allows, one that it does not, and power on again, of a tile that HUB_CAP shows
as present (R407). Log entries 25, 130, 143 and 185 bear on its clauses: what they fix is the model's choice. -/
def Obligations.PowerDomains : Prop :=
  ∀ (s : State) (d : Domain),
    (s.mayOff d = true → ∃ t : State, exec (.powerDomainOff d) s = .next t ∧ t.isOff d = true ∧
      (∀ e, e ≠ d → t.isOff e = s.isOff e) ∧ t.devMem = s.devMem ∧ t.nor = s.nor ∧ t.tiles = s.tiles) ∧
    (s.mayOff d = false → exec (.powerDomainOff d) s = .next s) ∧
    (s.isOff d = true → s.domainHere d = true → ∃ t : State, exec (.powerDomainOn d) s = .next t ∧ t.isOff d = false ∧ (∀ e, e ≠ d → t.isOff e = s.isOff e) ∧
      t.devMem = s.devMem ∧ t.nor = s.nor ∧ t.out = s.out ∧
      ∀ p : Fin 4, d = .eth p → t.eth.ports = s.eth.ports.set p.val EthPort.init ∧
        ∀ a, t.reg a = if 0xD00000 + 0x10000 * p.val ≤ a ∧ a < 0xD00000 + 0x10000 * (p.val + 1) then resetOf a else s.reg a) ∧
    (s.isOff d = false ∨ s.domainHere d = false → exec (.powerDomainOn d) s = .next s)

/-- The access types of R10 and R11: what the generic write does to each bit of each field of the register map, and a host write of 4 or
8 bytes to a register of each type, other sizes and alignments dropped (R187); the lock of R12, and an access to an isolated tile (R39);
and writes of a 64-bit register in two halves (R179): the high half waits on the port, the write of the low half carries it. Log entries
7, 8, 10, 33, 137, 139, 140, 143 and 146 bear on its clauses: what they fix is the model's choice. -/
def Obligations.RegisterWrites : Prop :=
  (∀ (a : Nat) (r : RegFam), regAt a = some r → ∀ f : Fld, f ∈ r.flds → ∀ j : Nat, f.lo ≤ j → j < f.lo + f.len →
    (f.acc = .wo → (resetOf a).getLsbD j = false) ∧
    ∀ (s : State) (v m : BitVec 64), s.OnlyRegs (s.wr a v m) [a] ∧
      ((s.wr a v m).reg a).getLsbD j = match f.acc with
        | .rw => if m.getLsbD j then v.getLsbD j else (s.reg a).getLsbD j
        | .rwl => if m.getLsbD j && !s.lockedAt a then v.getLsbD j else (s.reg a).getLsbD j
        | .w1c => (s.reg a).getLsbD j && !(v.getLsbD j && m.getLsbD j)
        | .w1s => (s.reg a).getLsbD j || (v.getLsbD j && m.getLsbD j)
        | .ro | .wo | .rc => (s.reg a).getLsbD j) ∧
  (∀ (s : State) (p : Port), s.portLive p = false → ∀ (a : BitVec 26) (n : Fin 9) (v hit : Word64),
    exec (.registerWrite p a n v hit) s = .next s) ∧
  (∀ (s : State) (p : Port), s.portLive p = true →
    (∀ v hit : Word64, ∃ t : State, exec (.registerWrite p 0x460 4 v hit) s = .next t ∧
      t.get HUB_TAG_TIMEOUT.timeout_us = v.toNat % 65536 ∧ s.OnlyRegs t [HUB_TAG_TIMEOUT.addr]) ∧
    (∀ v hit : Word64, ∃ t : State, exec (.registerWrite p 0x208 4 v hit) s = .next t ∧
      (∀ j, j < 2 → (t.reg HUB_RESET_CAUSE.addr).getLsbD j = ((s.reg HUB_RESET_CAUSE.addr).getLsbD j && !v.getLsbD j || hit.getLsbD j)) ∧
      s.OnlyRegs t [HUB_RESET_CAUSE.addr]) ∧
    (∀ v hit : Word64, ∃ t : State, exec (.registerWrite p 0x200 4 v hit) s = .next t ∧ s.OnlyRegs t []) ∧
    (∀ v hit : Word64, s.get THM_CTL.lock = 1 → ∃ t : State, exec (.registerWrite p 0xF00010 8 v hit) s = .next t ∧
      t.get (THM_CLS_THR.warn 0) = v.toNat % 2 ^ 16 ∧ s.Keeps t (THM_CLS_THR.shutdown 0) ∧ s.OnlyRegs t [THM_CLS_THR.addr 0]) ∧
    (∀ v hit : Word64, s.get THM_CTL.lock = 0 → ∃ t : State, exec (.registerWrite p 0xF00010 8 v hit) s = .next t ∧
      t.get (THM_CLS_THR.warn 0) = v.toNat % 2 ^ 16 ∧ t.get (THM_CLS_THR.throttle 0) = v.toNat / 2 ^ 16 % 2 ^ 16 ∧
      t.get (THM_CLS_THR.shutdown 0) = v.toNat / 2 ^ 32 % 2 ^ 16 ∧ t.get (THM_CLS_THR.hyst 0) = v.toNat / 2 ^ 48 % 2 ^ 8 ∧
      s.OnlyRegs t [THM_CLS_THR.addr 0]) ∧
    (∀ (a : BitVec 26) (n : Fin 9) (v : Word64), (n.val ≠ 4 ∧ n.val ≠ 8) ∨ (n.val = 4 ∧ a.toNat % 4 ≠ 0) ∨ (n.val = 8 ∧ a.toNat % 8 ≠ 0) →
      a.toNat < 0x2000000 ∨ n.val < 4 → exec (.registerWrite p a n v 0) s = .next s) ∧
    (∀ (a : BitVec 26) (v : Word64) (u : Fin 6), 0x400000 + 0x100000 * u.val ≤ a.toNat → a.toNat < 0x500000 + 0x100000 * u.val →
      a.toNat % 4 = 0 → s.isOff (.tile u) = true → ∃ t : State, exec (.registerWrite p a 4 v 0) s = .next t ∧
        t.Pends Ev.isolatedAccess ∧ s.OnlyRegsEv t []) ∧
    (∀ v hit : Word64, ∃ t : State, exec (.registerWrite p 0xA00014 4 v hit) s = .next t ∧ s.OnlyRegs t []) ∧
    (∀ v hit : Word64, ∃ t : State, exec (.registerWrite p 0xF00000 4 v hit) s = .next t ∧
      t.get THM_CTL.lock = Nat.lor (s.get THM_CTL.lock) (v.toNat / 2 ^ THM_CTL.lock.lo % 2)) ∧
    (∀ v hit : Word64, v.toNat / 8 % 2 = 1 → ∃ t : State, exec (.registerWrite p 0x300 4 v hit) s = .next t ∧
      t.get HUB_W256_CTL.clear_counts = s.get HUB_W256_CTL.clear_counts ∧ t.get HUB_W256_STAT.ce_count = 0 ∧
      t.get HUB_W256_STAT.ue_count = 0) ∧
    (∃ t : State, exec .thmLock s = .next t ∧ t.get THM_CTL.lock = 1 ∧ s.OnlyRegs t [THM_CTL.addr])) ∧
  (∀ (s : State) (p : Port), s.portLive p = true →
    (∀ (a : BitVec 25) (v : Word32), a.toNat % 4 = 0 → a.toNat + 4 < 0x2000000 → isReg64 a.toNat = true → isReg64 (a.toNat + 4) = false →
      s.isoAt (a.toNat + 4) = false → exec (.highHalfWrite p a v) s = .next (s.setPort p { s.port p with
        stageAddr := some a.toNat, stage := v.toNat })) ∧
    (∀ (v : Word32) (l : Bool), s.get THM_CTL.lock = 0 → (s.port p).stageAddr = some 0xF00010 → ∃ t : State,
      exec (.lowHalfWrite p 0xF00010 ⟨v, l⟩) s = .next t ∧ t.get (THM_CLS_THR.warn 0) = v.toNat % 2 ^ 16 ∧
      t.get (THM_CLS_THR.throttle 0) = v.toNat / 2 ^ 16 ∧ t.get (THM_CLS_THR.shutdown 0) = (s.port p).stage % 2 ^ 16 ∧
      t = { s.setPort p { s.port p with stageAddr := none } with regs := t.regs } ∧ ∀ a, a ≠ THM_CLS_THR.addr 0 → t.reg a = s.reg a) ∧
    (∀ (v : Word32) (l : Bool), s.get THM_CTL.lock = 0 → (s.port p).stageAddr ≠ some 0xF00010 → ∃ t : State,
      exec (.lowHalfWrite p 0xF00010 ⟨v, l⟩) s = .next t ∧ t.get (THM_CLS_THR.warn 0) = v.toNat % 2 ^ 16 ∧
      s.Keeps t (THM_CLS_THR.shutdown 0) ∧ s.Keeps t (THM_CLS_THR.hyst 0) ∧ s.OnlyRegs t [THM_CLS_THR.addr 0]))

/-- Reads (R10, R11, R178, R187): a field that a read clears, a 64-bit register in two halves, and a read of another size. Log entries
7, 10, 33, 137, 143 and 145 bear on its clauses: what they fix is the model's choice. -/
def Obligations.RegisterReads : Prop :=
  ∀ (s : State) (p : Port), s.portLive p = true →
    (∀ hit : Word64, ∃ t : State, exec (.readClear p 0xA00014 4 hit) s = .next t ∧ t.get HIST_DROP_CNT.hub_ue = hit.toNat % 65536 ∧
      t.out = .readData p 0xA00014 ((s.reg HIST_DROP_CNT.addr).toNat % 2 ^ 32) :: s.out ∧
      t = { s with regs := t.regs, out := t.out } ∧ ∀ a, a ≠ HIST_DROP_CNT.addr → t.reg a = s.reg a) ∧
    (∀ (a : BitVec 26) (n : Fin 9) (hit : Word64), (n.val ≠ 4 ∧ n.val ≠ 8) ∨ (n.val = 4 ∧ a.toNat % 4 ≠ 0) ∨ (n.val = 8 ∧ a.toNat % 8 ≠ 0) →
      exec (.readClear p a n hit) s = .next (s.emit (.readData p a.toNat 0))) ∧
    (∀ a : BitVec 25, a.toNat % 4 = 0 → a.toNat ≠ DPORT_DATA.addr → isReg64 a.toNat = true → s.isoAt a.toNat = false →
      ixOf (TIME_TIN_STAMP.addr 0) 8 4 a.toNat = none → rcBits a.toNat = 0 →
      exec (.lowHalfRead p a .good false) s = .next ((s.setPort p { s.port p with
        holdAddr := some a.toNat, hold := (s.reg a.toNat).toNat / 2 ^ 32 }).emit (.readData p a.toNat ((s.reg a.toNat).toNat % 2 ^ 32)))) ∧
    (∀ a : BitVec 26, 4 ≤ a.toNat → a.toNat < 0x2000000 → a.toNat % 4 = 0 → isReg64 a.toNat = false → isReg64 (a.toNat - 4) = true →
      s.isoAt a.toNat = false → (s.port p).holdAddr = some (a.toNat - 4) →
      exec (.readClear p a 4 0) s = .next (s.emit (.readData p a.toNat (s.port p).hold)))

/-- The data port (R216 to R220) on zone-table staging: each data command reads or stores at the port's address and moves it on by 8;
what it stores is nothing but those bytes. The window (R218): a write of whole words counts them and stores at the port's address plus
the offset, a read answers the bytes there; the address does not move before the window is full. Log entries 6, 7, 29, 137, 139, 144,
145, 146, 147 and 168 bear on its clauses: what they fix is the model's choice. -/
def Obligations.DataPort : Prop :=
  (∀ (s : State) (p : Port), s.portLive p = true →
    (∀ v : Word64, s.mode ≠ 0 → ∃ t : State, exec (.dportAddrWrite v) s = .next t ∧ t.get DPORT_ADDR.address = v.toNat / 8 ∧
      t.get DPORT_STAT.win_count = 0 ∧ t.host = { s.host with aperture := [] } ∧
      t = { s with regs := t.regs, host := t.host } ∧ s.RegsBut t [DPORT_ADDR.addr, DPORT_STAT.addr]) ∧
    (∀ (v : Word64) (e : Ecc) (late : Bool), s.mode ≠ 0 → s.tagFree 7 = false →
      ∃ t : State, exec (.dportDataRead p e late) s = .next t ∧ exec (.dportDataWrite p v late) s = .next t ∧
        t.get (HUB_TAG_STAT.exhaust 7) = 1 ∧ t.Pends (Ev.tagExhaust) ∧ s.OnlyRegsEv t [HUB_TAG_STAT.addr 7]) ∧
    (∀ (y : BitVec 16) (o : Nat), s.mode ≠ 0 → s.dportAddr = 0x300000000 + o → o < 0x100000 → s.hub.injected = [] → s.tagFree 7 = true →
      ∃ t : State, exec (.dportDataRead p (.bad y) false) s = .next t ∧ .readAbort p DPORT_DATA.addr ∈ t.out ∧ t.dportAddr = s.dportAddr + 8 ∧
        t.get DPORT_STAT.err = 1 ∧ t.get DPORT_STAT.err_code = 2 ∧ t.Pends Ev.dportError ∧ t.ztStage = s.ztStage ∧ t.mode = s.mode) ∧
    (∀ o : Nat, s.mode ≠ 0 → s.dportAddr = 0x300000000 + o → o < 0x100000 → s.hub.injected = [] → s.tagFree 7 = true →
      ∃ t : State, exec (.dportDataRead p .good false) s = .next t ∧
        t.out = .readData p DPORT_DATA.addr (memNat s.ztStage o 8) :: s.out ∧ t.dportAddr = s.dportAddr + 8 ∧
        t.get DPORT_STAT.win_count = 0 ∧ t = { s with regs := t.regs, host := t.host, out := t.out } ∧
        s.RegsBut t [DPORT_ADDR.addr, DPORT_STAT.addr, HUB_TAG_STAT.addr 7]) ∧
    (∀ (v : Word64) (o : Nat), s.mode ≠ 0 → s.dportAddr = 0x300000000 + o → o < 0x100000 → s.tagFree 7 = true →
      ∃ t : State, exec (.dportDataWrite p v false) s = .next t ∧ memNat t.ztStage o 8 = v.toNat ∧
        (∀ a, a < o ∨ o + 8 ≤ a → tabGet byteDefault t.ztStage a = tabGet byteDefault s.ztStage a) ∧ t.dportAddr = s.dportAddr + 8 ∧
        t = { s with regs := t.regs, hub := { s.hub with injected := t.hub.injected }, host := t.host, ztStage := t.ztStage } ∧
        s.RegsBut t [DPORT_ADDR.addr, DPORT_STAT.addr, HUB_TAG_STAT.addr 7, HUB_W256_CTL.addr]) ∧
    (∀ v : Word64, s.mode ≠ 0 → s.regionAt s.dportAddr = none → ∃ t : State, exec (.dportDataWrite p v false) s = .next t ∧
      t.get DPORT_STAT.err = 1 ∧ t.get DPORT_STAT.err_code = 1 ∧ t.Pends Ev.dportError ∧ t.ztStage = s.ztStage ∧
      t.devMem = s.devMem ∧ t.fireTab = s.fireTab ∧ t.calStage = s.calStage)) ∧
  (∀ s : State,
    (∀ (k : Fin 512) (data : List Byte) (o : Nat), data.length = 8 → s.mode ≠ 0 → s.dportAddr = 0x300000000 + o →
      o + 8 * k.val < 0x100000 → s.tagFree 7 = true → wholeWords (markBytes s.host.aperture (8 * k.val) 8) ≠ 1024 →
      ∃ t : State, exec (.dportApertureWrite ⟨⟨8 * k.val, by omega⟩, false⟩ data) s = .next t ∧
        t.ztStage = memStore s.ztStage (o + 8 * k.val) data ∧ t.dportAddr = s.dportAddr ∧
        t.host = { s.host with aperture := markBytes s.host.aperture (8 * k.val) 8 } ∧
        t.get DPORT_STAT.win_count = wholeWords t.host.aperture % 1024 ∧
        t = { s with regs := t.regs, hub := { s.hub with injected := t.hub.injected }, host := t.host, ztStage := t.ztStage } ∧
        s.RegsBut t [DPORT_STAT.addr, HUB_TAG_STAT.addr 7, HUB_W256_CTL.addr]) ∧
    (∀ (k : Fin 4096) (n : Fin 4097) (o : Nat), s.mode ≠ 0 → s.dportAddr = 0x300000000 + o →
      k.val + n.val ≤ 4096 → o + 4096 ≤ 0x100000 → s.hub.injected = [] → s.tagFree 7 = true →
      ∃ t : State, exec (.dportApertureRead k n .good false) s = .next t ∧
        t.out = .readData .pcie (0x1001000 + k.val) (ofLE (memBytes s.ztStage (o + k.val) n)) :: s.out ∧
        t = { s with regs := t.regs, out := t.out } ∧ s.RegsBut t [HUB_TAG_STAT.addr 7]))

/-- The sideband (R222, R223): the dynamic address, a register written and read, a refused transfer, the held-off read. CXL.mem lines
(R185, R248, R249): a read of words that no injection has damaged answers the 64 bytes of the line, a whole-line write stores nothing
but the line; before memory is active a read is poisoned and a write dropped. Beside them, the training and the loss of the host link
(R184, R190). Log entries 2, 6, 7, 33, 54, 84, 137 and 148 bear on its clauses: what they fix is the model's choice. -/
def Obligations.SidebandAndCxlMem : Prop :=
  (∀ s : State, s.boot.porstLow = false →
    (∀ dyn : BitVec 7, exec (.sidebandEntdaa dyn) s = .next { s with host := { s.host with sbAddr := some dyn.toNat } }) ∧
    (∀ (v : Word32) (x : SbXfer), s.sbCalled x = true → x.ok = true → ∃ t : State, exec (.sidebandWrite 0x460 v x) s = .next t ∧
      t.get HUB_TAG_TIMEOUT.timeout_us = v.toNat % 65536 ∧ s.OnlyRegs t [HUB_TAG_TIMEOUT.addr]) ∧
    (∀ (a v : Word32) (x : SbXfer), s.sbCalled x = false → exec (.sidebandWrite a v x) s = .next s) ∧
    (∀ (a v : Word32) (x : SbXfer), s.sbCalled x = true → (x.ok && sbValid a.toNat) = false → ∃ t : State, exec (.sidebandWrite a v x) s = .next t ∧
      t.Pends Ev.sidebandError ∧ s.OnlyRegsEv t []) ∧
    (∀ (x : SbXfer) (e : Ecc) (late : Bool), s.sbCalled x = true → x.ok = true → exec (.sidebandRead 0x460 x e late) s =
      .next (s.emit (.sideband ((s.reg HUB_TAG_TIMEOUT.addr).toNat % 2 ^ 32) 0))) ∧
    (∀ (a : Word32) (x : SbXfer) (e : Ecc) (late : Bool), s.sbCalled x = true → (x.ok && sbValid a.toNat) = false → ∃ t : State,
      exec (.sidebandRead a x e late) s = .next t ∧ t.Pends Ev.sidebandError ∧ Out.sideband 0 4 ∈ t.out ∧ s.OnlyRegsEv t []) ∧
    (exec .sidebandTimeout s = .next (s.emit (.sideband 0 3)))) ∧
  (∀ (s : State) (d : Word64),
    (s.get RING_LINK_STAT.cxl_mem_en = 1 → s.memHas (d.toNat / 64 * 64) 64 = true → s.hub.injected = [] →
      ∃ t : State, exec (.cxlMemRead d .good) s = .next t ∧
        t.out = .cxlData (d.toNat / 64 * 64) false (memBytes s.devMem (d.toNat / 64 * 64) 64) :: s.out ∧
        t = { s with regs := t.regs, out := t.out } ∧ s.RegsBut t [HUB_TAG_STAT.addr 2]) ∧
    (∀ e : Ecc, s.get RING_LINK_STAT.cxl_mem_en = 1 → s.get MEM_STAT.mem_active = 0 →
      exec (.cxlMemRead d e) s = .next (s.emit (.cxlData (d.toNat / 64 * 64) true []))) ∧
    (∀ data : List Byte, data.length = 64 → d.toNat % 64 = 0 → s.get RING_LINK_STAT.cxl_mem_en = 1 → s.memHas d.toNat 64 = true →
      ∃ t : State, exec (.cxlMemWrite d data) s = .next t ∧ t.devMem = memStore s.devMem d.toNat data ∧
        (∀ a, a < d.toNat ∨ d.toNat + 64 ≤ a → tabGet byteDefault t.devMem a = tabGet byteDefault s.devMem a) ∧
        t = { s with regs := t.regs, hub := t.hub, devMem := t.devMem } ∧
        s.RegsBut t [HUB_TAG_STAT.addr 2, HUB_W256_CTL.addr]) ∧
    (∀ data : List Byte, s.get RING_LINK_STAT.cxl_mem_en = 1 → s.get MEM_STAT.mem_active = 0 →
      exec (.cxlMemWrite d data) s = .next s)) ∧
  (∀ s : State,
    (∀ (cxl m : Bool) (w v : Fin 16), linkShape w v = true → ∃ t : State, exec (.linkUp cxl w v m) s = .next t ∧
      t.get RING_LINK_STAT.proto = (if cxl then 2 else 1) ∧ t.host.linkUp = true) ∧
    (∃ t : State, exec .linkDown s = .next t ∧ t.get RING_LINK_STAT.proto = 0 ∧ t.host.linkUp = false ∧ t.Pends Ev.linkDown))

/-- How a descriptor ends (R200): its state in its ring carries status and result, it joins the order of those that have ended, and its
tag waits for its completion alone; one that has ended does not end again. How one starts (R199): it takes a tag of class 0 and counts
in in_flight. The descriptors that move no data (R194 to R196, R201, R301): NOP, WAIT_TIME, its end, MODE_REQ and a reserved opcode; one
that waits for credit or a tag, one with a reserved bit set, and one whose words cannot be corrected (R32). Beside them, COPY, FILL,
REG_WRITE and REG_READ that run to their end (R196). Log entries 2, 7, 9, 29, 137, 149, 150, 151, 152, 168, 222 and 228 bear on its
clauses: what they fix is the model's choice. -/
def Obligations.PlainDescriptors : Prop :=
  (∀ (s : State) (n inst status result : Nat) (t : State), s.descEnd n inst status result = t →
    (∀ d, s.descOf n inst = some d → d.result? = none →
      t.sq n = { s.sq n with descs := (s.sq n).descs.map (fun d => if d.inst = inst then { d with st := .done status result } else d) } ∧
      (∀ m, m ≠ n → t.sq m = s.sq m) ∧ t.host.ends = s.host.ends ++ [inst] ∧
      t = { s with host := { s.host with sq := t.host.sq, ends := t.host.ends }, hub := { s.hub with ops := t.hub.ops } } ∧
      t.hub.ops = s.hub.ops.map (fun o => if o.inst = inst ∧ d.opcode ≠ 3 then { o with target := .host } else o)) ∧
    ((∀ d, s.descOf n inst = some d → d.result?.isSome = true) → t = s)) ∧
  (∀ (s : State) (n : Fin 128) (d : Desc),
    (s.startable n (fun x => x == d.opcode) = some d → s.hub.injected = [] → ∃ (t : State) (o : Op), s.started n d = t ∧
      t.hub.ops = s.hub.ops ++ [o] ∧ o.inst = d.inst ∧ o.cls = 0 ∧ o.target = d.target ∧
      t.get (RING_SQ_STAT.in_flight n) = (s.get (RING_SQ_STAT.in_flight n) + 1) % 2 ^ (RING_SQ_STAT.in_flight n).len ∧
      t.get (HUB_TAG_STAT.in_use 0) = (s.get (HUB_TAG_STAT.in_use 0) + 1) % 4096 ∧
      t = { s with regs := t.regs, host := t.host, hub := t.hub } ∧ s.RegsBut t [RING_SQ_STAT.addr n, HUB_TAG_STAT.addr 0]) ∧
    (s.Starts n 0 d → exec (.nop n) s = .next ((s.started n d).descEnd n d.inst 0 0)) ∧
    (s.Meets n 0 d → s.hubBad (descBuf d.inst) 64 = true →
      exec (.nop n) s = .next ((s.hubScan 3 (s.tagOf d.inst) (descBuf d.inst) 64).descEnd n d.inst 4 0)) ∧
    (s.Meets n 0 d → s.hub.injected = [] → d.plain = false → exec (.nop n) s = .next (s.descEnd n d.inst 2 0)) ∧
    (s.Meets n 0 d → s.hub.injected = [] → d.plain = true → s.sqBelow n = false → exec (.nop n) s = .next s) ∧
    (s.Meets n 0 d → s.hub.injected = [] → d.plain = true → s.sqBelow n = true → s.tagFree 0 = false → ∃ t : State,
      exec (.nop n) s = .next t ∧ t.get (HUB_TAG_STAT.exhaust 0) = 1 ∧ s.OnlyRegsEv t [HUB_TAG_STAT.addr 0]) ∧
    (s.Starts n 5 d → d.len = 0 → d.src = 0 → d.dst = 0 →
      exec (.waitTime n) s = .next (if modGe 64 s.now (d.byte 24 8) then (s.started n d).descEnd n d.inst 0 1
        else (s.started n d).descSt n d.inst (.waiting (d.byte 24 8)))) ∧
    (∀ w, (s.sq n).descs.find? (fun d => match d.st with | .waiting t => modGe 64 s.now t | _ => false) = some w →
      exec (.waitTimeReached n) s = .next (s.descEnd n w.inst 0 0)) ∧
    (s.Starts n 6 d → d.len = 0 → d.src = 0 → d.dst = 0 → d.byte 24 1 = s.mode →
      s.get HUB_MODE_STAT.req_busy = 0 → modeBarred s.mode = false →
      exec (.modeReq n) s = .next (((s.started n d).put HUB_MODE_REQ.result s.mode).descEnd n d.inst 0 s.mode)) ∧
    (s.Starts n 6 d → d.len = 0 → d.src = 0 → d.dst = 0 → d.byte 24 1 ≤ 11 → modeBarred (d.byte 24 1) = true →
      ∃ t : State, exec (.modeReq n) s = .next (t.descEnd n d.inst 8 s.mode) ∧ t.get HUB_MODE_REQ.denied = 1 ∧
        t.get HUB_MODE_REQ.result = s.mode ∧ t.mode = s.mode ∧ (s.started n d).OnlyRegs t [HUB_MODE_REQ.addr]) ∧
    (s.startable n (fun x => decide (7 ≤ x)) = some d → s.hub.injected = [] →
      exec (.invalidOpcode n) s = .next (s.descEnd n d.inst 1 0))) ∧
  (∀ (s : State) (n : Fin 128) (d : Desc),
    (∀ e : Ecc, s.moverFree = true → s.Starts n 1 d → d.len ≠ 0 → d.len ≤ 16777216 → d.byte 24 1 = 0 → d.byte 25 1 = 0 → d.byte 26 30 = 0 →
      d.src + d.len ≤ d.dst ∨ d.dst + d.len ≤ d.src → ∃ t : State, exec (.copy n e ⟨none, none⟩) s = .next (t.descEnd n d.inst 0 d.len) ∧ t.regs = (s.started n d).regs) ∧
    (s.moverFree = true → s.Starts n 2 d → d.len ≠ 0 → d.len ≤ 16777216 → d.byte 32 1 = 0 → d.byte 33 23 = 0 → d.src = 0 → d.len % 8 = 0 → d.dst % 8 = 0 →
      ∃ t : State, exec (.fill n ⟨none, none⟩) s = .next (t.descEnd n d.inst 0 d.len) ∧ t.regs = (s.started n d).regs) ∧
    (s.Starts n 3 d → d.len = 1 → d.byte 8 4 = 0x460 →
      ∃ t : State, exec (.regWrite n) s = .next (t.descEnd n d.inst 0 0) ∧ t.get HUB_TAG_TIMEOUT.timeout_us = d.byte 12 8 % 65536) ∧
    (s.Starts n 4 d → d.len = 4 → d.src = 0x460 → d.byte 24 32 = 0 →
      ∃ t : State, exec (.regRead n none) s = .next (t.descEnd n d.inst 0 4) ∧ t.regs = (s.started n d).regs))

/-- COPY and FILL in host memory (R196): every byte of the destination takes its value, no other byte of host memory moves, and the
descriptor ends with success and its length; a COPY under way goes on beside the others (R197). Log entries 7, 9, 137, 149, 150, 222 and
228 bear on its clauses: what they fix is the model's choice. -/
def Obligations.CopyFill : Prop :=
  ∀ (s : State) (n : Fin 128) (d : Desc), d.len ≠ 0 → d.len ≤ 16777216 →
    (∀ e : Ecc, s.moverFree = true → s.Starts n 1 d → d.byte 24 1 = 0 → d.byte 25 1 = 0 → d.byte 26 30 = 0 →
      d.src + d.len ≤ d.dst ∨ d.dst + d.len ≤ d.src →
      ∃ t : State, exec (.copy n e ⟨none, none⟩) s = .next (t.descEnd n d.inst 0 d.len) ∧ t = { s.started n d with hostMem := t.hostMem } ∧
        (∀ k, k < d.len → tabGet byteDefault t.hostMem (d.dst + k) = tabGet byteDefault s.hostMem (d.src + k)) ∧
        ∀ a, a < d.dst ∨ d.dst + d.len ≤ a → tabGet byteDefault t.hostMem a = tabGet byteDefault s.hostMem a) ∧
    (s.moverFree = true → s.Starts n 2 d → d.byte 32 1 = 0 → d.byte 33 23 = 0 → d.src = 0 → d.len % 8 = 0 → d.dst % 8 = 0 →
      ∃ t : State, exec (.fill n ⟨none, none⟩) s = .next (t.descEnd n d.inst 0 d.len) ∧ t = { s.started n d with hostMem := t.hostMem } ∧
        (∀ k, k < d.len → tabGet byteDefault t.hostMem (d.dst + k) = (toLE 8 (d.byte 24 8)).getD (k % 8) 0) ∧
        ∀ a, a < d.dst ∨ d.dst + d.len ≤ a → tabGet byteDefault t.hostMem a = tabGet byteDefault s.hostMem a) ∧
    (∀ (e : Ecc) (k : Nat), s.movingDesc n 1 k = some d → s.get (RING_SQ_STAT.flushing n) = 0 → d.byte 24 1 = 0 → d.byte 25 1 = 0 →
      d.byte 26 30 = 0 → d.src + d.len ≤ d.dst ∨ d.dst + d.len ≤ d.src → d.moved < d.len →
      ∃ t : State, exec (.copy n e ⟨some k, none⟩) s = .next (t.descEnd n d.inst 0 d.len) ∧ t = { s with hostMem := t.hostMem } ∧
        (∀ k, d.moved ≤ k → k < d.len → tabGet byteDefault t.hostMem (d.dst + k) = tabGet byteDefault s.hostMem (d.src + k)) ∧
        ∀ a, a < d.dst + d.moved ∨ d.dst + d.len ≤ a → tabGet byteDefault t.hostMem a = tabGet byteDefault s.hostMem a)

/-- REG_WRITE and REG_READ (R196, R187): one register written, one read into host memory. Log entries 2, 7, 9, 29, 137, 149, 151, 168
and 222 bear on its clauses: what they fix is the model's choice. -/
def Obligations.RegisterDescriptors : Prop :=
  ∀ (s : State) (n : Fin 128) (d : Desc),
    (s.Starts n 3 d → d.len = 1 → d.byte 8 4 = 0x460 →
      ∃ t : State, exec (.regWrite n) s = .next (t.descEnd n d.inst 0 0) ∧ t.get HUB_TAG_TIMEOUT.timeout_us = d.byte 12 8 % 65536 ∧
        (s.started n d).OnlyRegs t [HUB_TAG_TIMEOUT.addr]) ∧
    (s.Starts n 4 d → d.len = 4 → d.src = 0x460 → d.byte 24 32 = 0 →
      ∃ t : State, exec (.regRead n none) s = .next (t.descEnd n d.inst 0 4) ∧
        t = { s.started n d with hostMem := memStore s.hostMem d.dst (toLE 4 ((s.reg HUB_TAG_TIMEOUT.addr).toNat % 2 ^ 32)) } ∧
        ∀ a, a < d.dst ∨ d.dst + 4 ≤ a → tabGet byteDefault t.hostMem a = tabGet byteDefault s.hostMem a)

/-- Jexannar requests for device memory (R17, R18): read response and write acknowledge leave on the opposite link, and every flit takes
a credit. Responses on a link (R17, R37): the operation with the tag and tag instance completes and gives back its tag; one that is
retired only counts. Log entries 26, 153 and 170 bear on its clauses: what they fix is the model's choice. -/
def Obligations.JexRequestsAndResponses : Prop :=
  (∀ (s : State) (l : Fin 22) (b : Nat) (x y : JexLink) (c d : Nat) (hdr : JexHdr),
    s.hub.links[l.val]? = some x → s.linkOpen l.val = true → x.next = .asUsual → x.rx.all (fun m => m.served) = true → x.credits[0]? = some c →
    backLink l.val = some b → s.hub.links[b]? = some y → y.down = false → y.credits[1]? = some d →
    (∀ w : Fin 16, 1 ≤ c → 1 + w.val ≤ d → s.hub.injected = [] → s.memHas hdr.addr.toNat (32 * w.val) = true →
      ∃ t : State, exec (.jexReadRequest l .devMem hdr w) s = .next t ∧
        t.out = .jex b (jexHeader 2 1 w.val ⟨hdr.tag, hdr.addr, Config.portId (jexPort l.val)⟩)
          (memBytes s.devMem hdr.addr.toNat (32 * w.val)) :: s.out ∧
        t.hub.links[l.val]? = some { x with credits := x.credits.set 0 (c - 1), sent := (jexHeader 0 0 0 hdr :: x.sent).take 64,
                                            rx := x.rx ++ [⟨0, 1, 0, .devMem, w.val, hdr, [], true, false⟩] } ∧
        (∃ u, t.hub.links[b]? = some u ∧ u.credits = y.credits.set 1 (d - (1 + w.val)) ∧ u.rx = y.rx) ∧
        t = { s with hub := t.hub, out := t.out }) ∧
    (∀ data : List Flit, data ≠ [] → 1 + data.length ≤ c → 1 ≤ d → hdr.addr.toNat % 32 = 0 →
      s.memHas hdr.addr.toNat (32 * data.length) = true →
      ∃ t : State, exec (.jexWriteRequest l .devMem hdr data) s = .next t ∧
        t.out = .jex b (jexHeader 3 1 0 ⟨hdr.tag, hdr.addr, Config.portId (jexPort l.val)⟩) [] :: s.out ∧
        t.devMem = memStore s.devMem hdr.addr.toNat (flitBytes data) ∧
        (∀ a, a < hdr.addr.toNat ∨ hdr.addr.toNat + 32 * data.length ≤ a → tabGet byteDefault t.devMem a = tabGet byteDefault s.devMem a) ∧
        t.hub.links[l.val]? = some { x with credits := x.credits.set 0 (c - (1 + data.length)),
                                            sent := ((jexHeader 1 0 data.length hdr :: data).reverse ++ x.sent).take 64,
                                            rx := x.rx ++ [⟨0, 1 + data.length, 1, .devMem, 0, hdr, data, true, false⟩] } ∧
        t = { s with regs := t.regs, hub := t.hub, devMem := t.devMem, out := t.out } ∧ s.RegsBut t [HUB_W256_CTL.addr])) ∧
  (∀ (s : State) (l : Fin 22) (x : JexLink) (c : Nat) (tag : BitVec 12) (inst : Nat) (data : List Flit),
    s.hub.links[l.val]? = some x → s.linkOpen l.val = true → x.next ≠ .anyOff → x.rx.all (fun m => m.served) = true → x.credits[1]? = some c →
    (1 + data.length ≤ c → s.ResponseTaken l x c tag inst true (1 + data.length) (exec (.jexReadResponse l tag inst data) s)) ∧
    (1 ≤ c → s.ResponseTaken l x c tag inst true 1 (exec (.jexWriteAck l tag inst) s)) ∧
    (1 ≤ c → s.ResponseTaken l x c tag inst false 1 (exec (.jexErrorResponse l tag inst) s)))

/-- Stream and safety messages take their place in the receiver's buffer (R17, R18), safety messages ahead of the others, and returned
credits free it; on a link that is down, clamped or due to replay no message comes whole (R19, R39). Flits (R19, R33): one that is
accepted; one that is rejected and will be replayed, whose request, if its header names one, draws an error response; and a tile link
declared down once the flit has failed and its replays with it: every operation that waits on it completes with an error response, and
so does a request that waits in its buffer. Log entries 25, 26, 138, 153, 155, 156, 169, 170, 203 and 204 bear on its clauses: what they
fix is the model's choice. -/
def Obligations.JexMessagesAndFlits : Prop :=
  (∀ (s : State) (l : Fin 22) (x : JexLink) (data : List Flit), s.hub.links[l.val]? = some x →
    (∀ k : JexStream, s.linkOpen l.val = false → exec (.jexStreamMessage l k data) s = .next s ∧ exec (.jexSafetyMessage l data) s = .next s) ∧
    (∀ (c : Nat) (k : JexStream), s.linkOpen l.val = true → x.next ≠ .anyOff → x.rx.all (fun m => m.served) = true → x.credits[2]? = some c →
      1 + data.length ≤ c → ∃ t : State, exec (.jexStreamMessage l k data) s = .next t ∧
        t.hub.links[l.val]? = some { x with
          credits := x.credits.set 2 (c - (1 + data.length))
          rx := x.rx ++ [streamMsg data]
          next := .asUsual
          sent := ((jexHeader 5 2 data.length (tagHdr 0) :: data).reverse ++ x.sent).take 64 } ∧
        (∀ m, m ≠ l.val → t.hub.links[m]? = s.hub.links[m]?) ∧ t = { s with hub := t.hub }) ∧
    (∀ c : Nat, s.linkOpen l.val = true → x.next ≠ .anyOff → x.rx.all (fun m => m.served) = true → x.credits[3]? = some c → 1 + data.length ≤ c →
      ∃ t : State, exec (.jexSafetyMessage l data) s = .next t ∧
        t.hub.links[l.val]? = some { x with
          credits := x.credits.set 3 (c - (1 + data.length))
          rx := x.rx.filter (fun m => m.vc == 3) ++ [{ jexMsg 3 6 (tagHdr 0) data with served := true }] ++
            x.rx.filter (fun m => !(m.vc == 3))
          next := .asUsual
          sent := ((jexHeader 6 3 data.length (tagHdr 0) :: data).reverse ++ x.sent).take 64 } ∧
        (∀ m, m ≠ l.val → t.hub.links[m]? = s.hub.links[m]?) ∧ t = { s with hub := t.hub }) ∧
    (∀ (vc : Fin 4) (n : Fin 65) (c : Nat), x.credits[vc.val]? = some c →
      (∀ k, k < 22 → backLink k = some l.val → (s.link k).rx.all (fun m => m.served) = true) →
      ∃ t : State, exec (.jexCreditReturn l vc n) s = .next t ∧
        t.hub.links[l.val]? = some { x with credits := x.credits.set vc.val (Nat.min (vcBuffer vc.val) (c + n.val)),
                                            rx := rxDrain vc.val n.val x.rx } ∧
        (∀ m, m ≠ l.val → t.hub.links[m]? = s.hub.links[m]?) ∧ t = { s with hub := t.hub })) ∧
  (∀ (s : State) (l : Fin 22) (x : JexLink) (h : Option (Option Flit)), s.hub.links[l.val]? = some x → x.down = false → s.linkOff l.val = false →
    (exec (.jexFlitReceive l .good h) s = .next (s.setLink l.val { x with failed := 0, replay := false, accepted := x.accepted + 1 })) ∧
    (∀ syn : BitVec 16, h = none ∨ h = some none → ∃ t : State, exec (.jexFlitReceive l (.bad syn) h) s = .next t ∧
      t.hub.links[l.val]? = some { x with failed := x.failed + 1, replay := true,
                                          next := if h = some none ∧ x.failed = 0 then .anyOff else x.next } ∧
      t.get HUB_W256_STAT.ue_count = satAdd 65535 (s.get HUB_W256_STAT.ue_count) 1 ∧
      t = { s with regs := t.regs, hub := t.hub, ev := t.ev, out := t.out }) ∧
    (∀ (syn : BitVec 16) (f : Flit) (b : Nat), hdrType f ≤ 1 → x.failed = 0 → x.rx.all (fun m => m.served) = true →
      backLink l.val = some b → s.jexRoom l 0 = true → ∃ t : State, exec (.jexFlitReceive l (.bad syn) (some (some f))) s = .next t ∧
        Out.jex b (jexHeader 4 1 0 ⟨(hdrOf f).tag, (hdrOf f).addr, Config.portId (jexPort l.val)⟩) [] ∈ t.out ∧
        (t.link l).next = .requestOff ∧ (t.link l).failed = 1 ∧ (t.link l).replay = true) ∧
    (x.failed < 4 → exec (.jexLinkDown l) s = .next s) ∧
    (∀ (u : Fin 6) (m : JexMsg) (b : Nat), linkTile l.val = some u → 4 ≤ x.failed → x.rx = [m] → m.served = false → m.msgType ≤ 1 →
      s.hub.ops = [] → backLink l.val = some b → s.jexRoom l 0 = true → ∃ t : State, exec (.jexLinkDown l) s = .next t ∧
        Out.jex b (jexHeader 4 1 0 ⟨m.hdr.tag, m.hdr.addr, Config.portId (jexPort l.val)⟩) [] ∈ t.out) ∧
    (∀ u : Fin 6, linkTile l.val = some u → 4 ≤ x.failed → x.rx.all (fun m => m.served) = true → ∃ t : State, exec (.jexLinkDown l) s = .next t ∧
      t.hub.links[l.val]? = some { x with down := true, failed := 0, replay := false, rx := [], next := .asUsual } ∧
      t.Pends (Ev.tileLinkDown u.val) ∧
      (∀ o ∈ s.hub.ops, linkHits l.val o.target = true → Out.opDone o.tag o.inst o.port false ∈ t.out ∧ o ∉ t.hub.ops) ∧
      t = { s with regs := t.regs, hub := t.hub, host := t.host, ev := t.ev, out := t.out }))

/-- The host link (R184, R189, R190, R224): training, loss, and a function-level reset, which keeps link and event ring in view. Beside
them, a pop of the best record and the entry of the waiting overflow record (R212, R403). Log entries (14) bear on its clauses: what
they fix is the model's choice. -/
def Obligations.HostLink : Prop :=
  ∀ s : State,
    (∀ (cxl m : Bool) (w v : Fin 16), linkShape w v = false → exec (.linkUp cxl w v m) s = .next s) ∧
    (∀ (cxl m : Bool) (w v : Fin 16), linkShape w v = true → ∃ t : State, exec (.linkUp cxl w v m) s = .next t ∧
      t.get RING_LINK_STAT.proto = (if cxl then 2 else 1) ∧ t.get RING_LINK_STAT.width = w.val ∧ t.get RING_LINK_STAT.speed = v.val ∧
      t.get RING_LINK_STAT.cxl_mem_en = bit (cxl && m) ∧ t.get RING_LINK_STAT.degraded = bit (!(w.val == 8 && v.val == 6)) ∧
      t.host = { s.host with linkUp := true } ∧ t.Pends Ev.linkUp ∧ ((w.val == 8 && v.val == 6) = false → t.Pends Ev.linkDegraded) ∧
      t = { s with regs := t.regs, host := t.host, ev := t.ev, out := t.out } ∧ s.RegsBut t [RING_LINK_STAT.addr]) ∧
    (∃ t : State, exec .linkDown s = .next t ∧ t.get RING_LINK_STAT.proto = 0 ∧ t.get RING_LINK_STAT.down_seen = 1 ∧
      t.host.linkUp = false ∧ t.Pends Ev.linkDown ∧ (∀ n : Fin 128, t.get (RING_SQ_CFG.enable n) = 0 ∧ t.get (RING_CQ_CFG.enable n) = 0) ∧
      (∀ n : Fin 32, s.get (RING_PR_CFG.loc n) = 0 → s.Keeps t (RING_PR_CFG.enable n)) ∧
      t = { s with regs := t.regs, host := t.host, hub := t.hub, ev := t.ev, out := t.out } ∧
      ∀ a, a < 0xB00000 ∨ 0xC00000 ≤ a → a ∉ tagStats → evReg a = false → t.reg a = s.reg a) ∧
    (∃ t : State, exec .flr s = .next t ∧ t.get RING_LINK_STAT.flr_seen = 1 ∧ s.Keeps t RING_LINK_STAT.width ∧
      t.Pends Ev.flr ∧ (∀ n : Fin 128, t.reg (RING_SQ_CFG.addr n) = resetOf (RING_SQ_CFG.addr n) ∧ t.sq n = SqSt.init) ∧
      (∀ n : Fin 32, t.reg (RING_PR_HEAD.addr n) = resetOf (RING_PR_HEAD.addr n)) ∧ t.host = { HostSt.init with
        sbAddr := s.host.sbAddr, linkUp := s.host.linkUp, doorbells := s.host.doorbells, pr := prKept s.host.pr } ∧
      t = { s with regs := t.regs, host := t.host, hub := t.hub, ev := t.ev, out := t.out } ∧
      ∀ a, a < 0xB00000 ∨ (0xC00000 ≤ a ∧ a < 0x1000000) → a ∉ tagStats → evReg a = false → t.reg a = s.reg a) ∧
    (∀ (p : Port) (h : List Byte) (len : Fin 33) (r : EvRec), s.portLive p = true → s.ev.hold[portIx p]? = some h → len ≠ 0 → evBest s.ev.ring = some r → ∃ t : State,
      exec (.eventPop p 0 len) s = .next t ∧ t.out = .popData p ((evBytes r).take len) :: s.out) ∧
    (∀ r : EvRec, s.ev.waiting = some r → s.ev.ring.length < evCapacity { s.ev with waiting := none } → ∃ t : State, exec .overflowRecordEnter s = .next t ∧
      t.ev.waiting = none ∧ t.ev.ring.length = s.ev.ring.length + 1)

/-- Ring configuration and the doorbells (R188, R191 to R193, R202, R206): enabling, a refused configuration, disabling, an accepted and
a refused doorbell of each kind, on a disabled ring and past what the ring allows. Log entries 8, 15 and 16 bear on its clauses: what
they fix is the model's choice. -/
def Obligations.RingDoorbells : Prop :=
  ∀ (s : State) (n : Fin 128) (v : Word32),
    (s.get (RING_CQ_CFG.enable n) = 0 → v.toNat / 32 % 2 = 1 → 4 ≤ v.toNat % 32 → v.toNat % 32 ≤ 16 → ∃ t : State,
      exec (.ringCfgWrite (.cq n) v) s = .next t ∧ t.get (RING_CQ_CFG.enable n) = 1 ∧ t.get (RING_CQ_CFG.size_log2 n) = v.toNat % 32 ∧
      t.get (RING_CQ_STAT.tail n) = 0 ∧ t.get (RING_CQ_STAT.phase n) = 1 ∧ t.cq n = CqSt.init ∧
      t = { s with regs := t.regs, host := t.host } ∧ s.RegsBut t [RING_CQ_CFG.addr n, RING_CQ_STAT.addr n]) ∧
    (s.get (RING_CQ_CFG.enable n) = 0 → v.toNat / 32 % 2 = 1 → v.toNat % 32 < 4 ∨ 16 < v.toNat % 32 → ∃ t : State,
      exec (.ringCfgWrite (.cq n) v) s = .next t ∧ t.get (RING_CQ_CFG.enable n) = 0 ∧ t.Pends Ev.ringConfigRejected ∧
      s.OnlyRegsEv t [RING_CQ_CFG.addr n]) ∧
    (s.get (RING_CQ_CFG.enable n) = 1 → v.toNat / 32 % 2 = 0 → ∃ t : State,
      exec (.ringCfgWrite (.cq n) v) s = .next t ∧ t.get (RING_CQ_CFG.enable n) = 0 ∧ t.cq n = CqSt.init ∧
      s.Keeps t (RING_CQ_CFG.size_log2 n) ∧ t = { s with regs := t.regs, host := t.host } ∧
      s.RegsBut t [RING_CQ_CFG.addr n, RING_CQ_STAT.addr n]) ∧
    (s.get (RING_SQ_CFG.enable n) = 1 → ringDist (s.sqSize n) v.toNat (s.sq n).tail ≤ s.sqSize n - 1 - s.sqLevel n →
      ∃ t : State, exec (.sqDoorbell n v) s = .next t ∧ t.sq n = { s.sq n with tail := v.toNat % s.sqSize n } ∧
        t.doorbell n = v.toNat ∧ t = { s with host := t.host }) ∧
    (s.get (RING_SQ_CFG.enable n) = 0 → ∃ t : State, exec (.sqDoorbell n v) s = .next t ∧ t.get (RING_SQ_STAT.bad_db n) = 1 ∧
      t.Pends Ev.doorbellInvalid ∧ s.OnlyRegsEv t [RING_SQ_STAT.addr n]) ∧
    (s.get (RING_CQ_CFG.enable n) = 1 → ringDist (s.cqSize n) v.toNat (s.cq n).head ≤ s.cqLevel n →
      ∃ t : State, exec (.cqDoorbell n v) s = .next t ∧ (t.cq n).head = v.toNat % s.cqSize n ∧
        t.doorbell (128 + n) = v.toNat ∧ t = { s with host := t.host }) ∧
    (s.get (RING_SQ_CFG.enable n) = 1 → s.sqSize n - 1 - s.sqLevel n < ringDist (s.sqSize n) v.toNat (s.sq n).tail →
      ∃ t : State, exec (.sqDoorbell n v) s = .next t ∧ t.get (RING_SQ_STAT.bad_db n) = 1 ∧
      t.Pends Ev.doorbellInvalid ∧ s.OnlyRegsEv t [RING_SQ_STAT.addr n]) ∧
    (s.get (RING_CQ_CFG.enable n) = 0 ∨ s.cqLevel n < ringDist (s.cqSize n) v.toNat (s.cq n).head →
      ∃ t : State, exec (.cqDoorbell n v) s = .next t ∧ t.get (RING_CQ_STAT.bad_db n) = 1 ∧
      t.Pends Ev.doorbellInvalid ∧ s.OnlyRegsEv t [RING_CQ_STAT.addr n]) ∧
    (∀ k : Fin 32, s.get (RING_PR_CFG.enable k) = 0 ∨ s.exportOf k ≠ none ∨
      s.get (RING_PR_STAT.level k) < ringDist (s.prSize k) v.toNat (s.get (RING_PR_TAIL.index k)) →
      ∃ t : State, exec (.prDoorbell k v) s = .next t ∧ t.get (RING_PR_STAT.bad_db k) = 1 ∧
      t.Pends Ev.doorbellInvalid ∧ s.OnlyRegsEv t [RING_PR_STAT.addr k]) ∧
    (∀ k : Fin 32, s.get (RING_PR_CFG.enable k) = 1 → s.exportOf k = none →
      ringDist (s.prSize k) v.toNat (s.get (RING_PR_TAIL.index k)) ≤ s.get (RING_PR_STAT.level k) → ∃ t : State,
      exec (.prDoorbell k v) s = .next t ∧ t.get (RING_PR_TAIL.index k) = v.toNat % s.prSize k % 2 ^ 28 ∧
        t.doorbell (256 + k) = v.toNat ∧ t = { s with regs := t.regs, host := t.host, ev := t.ev, out := t.out } ∧
        s.RegsBut t [RING_PR_TAIL.addr k, RING_PR_STAT.addr k])

/-- Fetching a descriptor (R193, R197, R198): the ring that the arbiter serves reads 64 bytes of host memory at its head and moves the
head on; a failed fetch stops its ring; with no ring to serve nothing happens. Completing a descriptor (R199, R200, R202, R203): the
entry of the descriptor that ended first is written to the completion ring in host memory, and tag and credit go back; with the ring
full it waits; an entry that fills the ring is told. Log entries 9 and 29 bear on its clauses: what they fix is the model's choice. -/
def Obligations.DescriptorRings : Prop :=
  (∀ (s : State) (ok : Bool), s.sqPick.1 = none → exec (.descriptorFetch ok) s = .next s) ∧
  (∀ (s : State) (n : Nat) (u : State), s.sqPick = (some n, u) →
    (∃ t : State, exec (.descriptorFetch true) s = .next t ∧
      (t.sq n).descs = (u.sq n).descs ++
        [⟨memNat s.hostMem (s.sqEntry n (s.get (RING_SQ_STAT.head n))) 64, s.hub.nextInst, .fetched, false⟩] ∧
      t.get (RING_SQ_STAT.head n) = (s.get (RING_SQ_STAT.head n) + 1) % s.sqSize n % 2 ^ 16 ∧
      (if s.get (RING_SQ_CFG.prio n) = 1 then t.host.lastHigh else t.host.lastSq) = n ∧
      s.Keeps t (RING_SQ_STAT.in_flight n) ∧ t.hub.nextInst = s.hub.nextInst + 1 ∧ t.hub.ops = s.hub.ops ∧
      t = { s with regs := t.regs, host := t.host, hub := t.hub } ∧
      ∀ a, a ≠ RING_SQ_STAT.addr n → a ≠ HUB_W256_CTL.addr → t.reg a = s.reg a) ∧
    (∃ t : State, exec (.descriptorFetch false) s = .next t ∧ (t.sq n).descs = [failedDesc s.hub.nextInst] ∧
      t.host.ends.getLast? = some s.hub.nextInst ∧ t.get (RING_SQ_STAT.fetch_err n) = 1 ∧ t.get (RING_SQ_CFG.enable n) = 0 ∧ t.get (RING_SQ_STAT.in_flight n) = 0 ∧
      t.Pends Ev.descriptorFetchError ∧ t = { s with regs := t.regs, host := t.host, hub := t.hub, ev := t.ev, out := t.out } ∧
      s.RegsBut t (RING_SQ_STAT.addr n :: RING_SQ_CFG.addr n :: tagStats))) ∧
  (∀ (s : State) (n : Fin 128) (d : Desc) (status result : Nat),
    s.nextComplete n = some d → d.result? = some (status, result) →
    (∀ o, s.hub.ops.find? (fun o => o.inst == d.inst) = some o → o.cls = 0 → ∃ t : State, exec (.descriptorComplete n) s = .next t ∧
      t.hub.ops = s.hub.ops.filter (fun o => !(o.inst == d.inst)) ∧
      t.get (HUB_TAG_STAT.in_use 0) = s.get (HUB_TAG_STAT.in_use 0) - 1) ∧
    (d.silent = false → s.host.ends.find? (fun i => s.endsInto (s.sqCq n) i) = some d.inst ∧ ∃ t : State,
      exec (.descriptorComplete n) s = .next t ∧ t.host.ends = s.host.ends.filter (fun i => !(d.inst == i)) ∧
      t.hostMem = memStore s.hostMem (s.get (RING_CQ_BASE.base (s.sqCq n)) * 4096 + 16 * s.get (RING_CQ_STAT.tail (s.sqCq n)))
        (cqEntry d.cid (s.get (RING_SQ_STAT.head n)) result n.val status (s.get (RING_CQ_STAT.phase (s.sqCq n)))) ∧
      (t.sq n).descs = (s.sq n).descs.filter (fun x => !(x.inst == d.inst)) ∧
      t.get (RING_SQ_STAT.in_flight n) = s.get (RING_SQ_STAT.in_flight n) - bit d.started ∧
      (status ≠ 0 → status ≠ 0xB → t.Pends Ev.completionError) ∧
      (t.cqLevel (s.sqCq n) = t.cqSize (s.sqCq n) - 1 → t.get (RING_CQ_STAT.full_seen (s.sqCq n)) = 1 ∧
        ((s.cq (s.sqCq n)).fullNow = false → t.Pends Ev.cqFull)) ∧
      t = { s with regs := t.regs, host := t.host, hub := t.hub, hostMem := t.hostMem, ev := t.ev, out := t.out } ∧
      s.RegsBut t (RING_SQ_STAT.addr n :: RING_CQ_STAT.addr (s.sqCq n) :: tagStats)) ∧
    (d.silent = true → ∃ t : State, exec (.descriptorComplete n) s = .next t ∧ t.hostMem = s.hostMem ∧
      (t.sq n).descs = (s.sq n).descs.filter (fun x => !(x.inst == d.inst)) ∧
      t.get (RING_SQ_STAT.in_flight n) = s.get (RING_SQ_STAT.in_flight n) - bit d.started ∧
      t = { s with regs := t.regs, host := t.host, hub := t.hub } ∧ s.RegsBut t (RING_SQ_STAT.addr n :: tagStats)) ∧
    (status ≠ 0 → d.silent = false)) ∧
  (∀ (s : State) (n : Fin 128), s.nextComplete n = none → exec (.descriptorComplete n) s = .next s) ∧
  (∀ (s : State) (n : Fin 128) (d : Desc), s.cqRoom (s.sqCq n) = false → s.nextComplete n = some d → d.silent = true)

/-- Notices and flushes (R203, R204, R208, R209, R211). Beside them, the own effects of the commands of `RingDoorbells` and
`DescriptorRings`: a completion ring enabled, an accepted doorbell of each kind, a fetch and a completion (R188, R191, R193, R200, R202,
R206). Log entries 2, 8, 9, 15, 16, 17 and 29 bear on its clauses: what they fix is the model's choice. -/
def Obligations.RingService : Prop :=
  ∀ s : State,
    (∀ n : Fin 128, s.get (RING_CQ_MOD.tmo_us n) ≠ 0 → (s.cq n).unnoticed ≠ 0 → s.get (RING_CQ_CFG.irq_en n) = 1 →
      exec (.cqNoticeTimer n) s = .next ((s.setCq n { s.cq n with unnoticed := 0 }).emit (.msix (s.get (RING_CQ_CFG.vector n))))) ∧
    (∀ n : Fin 128, s.get (RING_SQ_CFG.enable n) = 1 → s.get (RING_SQ_STAT.flushing n) = 0 → ∃ t : State, exec (.sqFlush n) s = .next t ∧
      t.get (RING_SQ_STAT.flushing n) = 1 ∧ (∀ d ∈ (t.sq n).descs, d.st ≠ .fetched) ∧
      (t.sq n).discarded = ((s.sq n).descs.filter (fun d => decide (d.st = .fetched))).length ∧
      t = { s with regs := t.regs, host := t.host, hub := t.hub } ∧
      s.RegsBut t (RING_SQ_STAT.addr n :: RING_SQ_CTL.addr n :: tagStats)) ∧
    (∀ n : Fin 128, s.get (RING_SQ_STAT.flushing n) = 1 → exec (.sqFlush n) s = .next s) ∧
    (∀ n : Fin 128, s.get (RING_SQ_STAT.flushing n) = 1 → (s.sq n).descs = [] → s.cqRoom (s.sqCq n) = true → ∃ t : State,
      exec (.sqFlushDone n) s = .next t ∧ t.get (RING_SQ_STAT.flushing n) = 0 ∧ t.get (RING_SQ_CTL.flush n) = 0 ∧
      t.get (RING_SQ_STAT.head n) = (s.sq n).tail % 2 ^ 16 ∧ t.hostMem = memStore s.hostMem
        (s.get (RING_CQ_BASE.base (s.sqCq n)) * 4096 + 16 * s.get (RING_CQ_STAT.tail (s.sqCq n)))
        (cqEntry 0xFFFF (s.get (RING_SQ_STAT.head n)) ((s.sq n).discarded + s.sqLevel n) n.val 0xB (s.get (RING_CQ_STAT.phase (s.sqCq n)))) ∧
      (t.sq n).discarded = 0 ∧ t = { s with regs := t.regs, host := t.host, hostMem := t.hostMem, ev := t.ev, out := t.out } ∧
      s.RegsBut t [RING_SQ_STAT.addr n, RING_SQ_CTL.addr n, RING_CQ_STAT.addr (s.sqCq n)]) ∧
    (∀ n : Fin 32, (s.pr n).headMoved = true → s.get (RING_PR_WB.address n) ≠ 0 → ∃ t : State, exec (.headWordWrite n) s = .next t ∧
      t.hostMem = memStore s.hostMem (s.get (RING_PR_WB.address n) * 8)
        (toLE 8 (s.get (RING_PR_HEAD.index n) + (s.pr n).flushGen % 65536 * 2 ^ 32 + bit (s.pr n).truncNext * 2 ^ 48)) ∧
      t.pr n = { s.pr n with headMoved := false, truncNext := false } ∧ t = { s with host := t.host, hostMem := t.hostMem }) ∧
    (∀ n : Fin 32, s.get (RING_PR_CFG.irq_en n) = 1 → s.get (RING_PR_MOD.tmo_us n) ≠ 0 → (s.pr n).unnoticed ≠ 0 → ∃ t : State,
      exec (.prNoticeTimer n) s = .next t ∧ t.out = .msix (s.get (RING_PR_CFG.vector n)) :: s.out ∧ (t.pr n).unnoticed = 0 ∧
      t = { s with host := t.host, hostMem := t.hostMem, out := t.out }) ∧
    (∀ (n : Fin 32) (partly gone : Bool), s.get (RING_PR_CFG.enable n) = 1 →
      (partly && s.echo.out.head?.any (fun p => p.1 == n.val)) = gone → ∃ t : State, exec (.prFlush n partly) s = .next t ∧
      t.get (RING_PR_TAIL.index n) = s.get (RING_PR_HEAD.index n) ∧ (t.pr n).flushGen = ((s.pr n).flushGen + 1) % 65536 ∧
      ((t.pr n).truncNext = ((s.pr n).truncNext || gone)) ∧ t.Pends Ev.pointRingFlushed ∧
      t.echo = { s.echo with out := if gone then s.echo.out.tail else s.echo.out } ∧
      t = { s with regs := t.regs, host := t.host, ev := t.ev, echo := t.echo, out := t.out } ∧
      s.RegsBut t [RING_PR_TAIL.addr n, RING_PR_STAT.addr n, RING_PR_CNT.addr n]) ∧
    (∀ (n : Fin 32) (v : BitVec 28), ∃ t : State, exec (.prQuotaWrite n v) s = .next t ∧ t.get (RING_PR_QUOTA.quota n) = v.toNat ∧
      (t.prLimit n < s.get (RING_PR_STAT.level n) → t.get (RING_PR_STAT.quota_cut n) = 1 ∧ t.Pends Ev.pointQuotaCut) ∧
      t = { s with regs := t.regs, host := t.host, ev := t.ev, out := t.out } ∧
      s.RegsBut t [RING_PR_QUOTA.addr n, RING_PR_STAT.addr n]) ∧
    (∀ (n : Fin 128) (v : Word32), s.get (RING_CQ_CFG.enable n) = 0 → v.toNat / 32 % 2 = 1 → 4 ≤ v.toNat % 32 → v.toNat % 32 ≤ 16 → ∃ t : State,
      exec (.ringCfgWrite (.cq n) v) s = .next t ∧ t.get (RING_CQ_CFG.enable n) = 1 ∧ t.get (RING_CQ_CFG.size_log2 n) = v.toNat % 32) ∧
    (∀ (n : Fin 128) (v : Word32), s.get (RING_SQ_CFG.enable n) = 1 → ringDist (s.sqSize n) v.toNat (s.sq n).tail ≤ s.sqSize n - 1 - s.sqLevel n →
      ∃ t : State, exec (.sqDoorbell n v) s = .next t ∧ (t.sq n).tail = v.toNat % s.sqSize n) ∧
    (∀ (n : Fin 128) (v : Word32), s.get (RING_CQ_CFG.enable n) = 1 → ringDist (s.cqSize n) v.toNat (s.cq n).head ≤ s.cqLevel n →
      ∃ t : State, exec (.cqDoorbell n v) s = .next t ∧ (t.cq n).head = v.toNat % s.cqSize n) ∧
    (∀ (k : Fin 32) (v : Word32), s.get (RING_PR_CFG.enable k) = 1 → s.exportOf k = none →
      ringDist (s.prSize k) v.toNat (s.get (RING_PR_TAIL.index k)) ≤ s.get (RING_PR_STAT.level k) → ∃ t : State,
      exec (.prDoorbell k v) s = .next t ∧ t.get (RING_PR_TAIL.index k) = v.toNat % s.prSize k % 2 ^ 28) ∧
    (∀ (n : Nat) (u : State), s.sqPick = (some n, u) → ∃ t : State, exec (.descriptorFetch true) s = .next t ∧
      t.get (RING_SQ_STAT.head n) = (s.get (RING_SQ_STAT.head n) + 1) % s.sqSize n % 2 ^ 16) ∧
    (∀ (n : Fin 128) (d : Desc) (status result : Nat), s.nextComplete n = some d → d.result? = some (status, result) → ∃ t : State, exec (.descriptorComplete n) s = .next t ∧
      (t.sq n).descs = (s.sq n).descs.filter (fun x => !(x.inst == d.inst)))

/-- The event ring (R212, R214, R403): a pop takes the best record, an empty ring answers the idle item, reads inside the window do not
pop, and the waiting overflow record enters once there is a slot. Log entries 5 and 14 bear on its clauses: what they fix is the model's
choice. -/
def Obligations.EventRing : Prop :=
  ∀ (s : State) (p : Port) (h : List Byte), s.portLive p = true → s.ev.hold[portIx p]? = some h →
    (∀ (len : Fin 33) (r : EvRec), len ≠ 0 → evBest s.ev.ring = some r → ∃ t : State,
      exec (.eventPop p 0 len) s = .next t ∧ t.ev.ring = s.ev.ring.filter (fun x => !decide (x = r)) ∧
      t.out = .popData p ((evBytes r).take len) :: s.out ∧ t.get RING_EV_STAT.level = (t.ev.ring.length) % 2 ^ 11 ∧
      t = { s with regs := t.regs, ev := t.ev, out := t.out } ∧ ∀ a, a ≠ RING_EV_STAT.addr → t.reg a = s.reg a) ∧
    (∀ len : Fin 33, len ≠ 0 → s.ev.ring = [] → ∃ t : State, exec (.eventPop p 0 len) s = .next t ∧
      t.out = .popData p ((evIdle s.now (s.get RING_EV_STAT.next_seq)).take len) :: s.out ∧ t.ev.ring = [] ∧
      t = { s with ev := t.ev, out := t.out }) ∧
    (∀ (off : Fin 32) (len : Fin 33), off ≠ 0 → exec (.eventPop p off len) s =
      .next (s.emit (.popData p ((h.drop off).take len)))) ∧
    (∀ r : EvRec, s.ev.waiting = some r → s.ev.ring.length < evCapacity { s.ev with waiting := none } → ∃ t : State, exec .overflowRecordEnter s = .next t ∧
      t.ev.waiting = none ∧ (∃ q ∈ t.ev.ring, q.src = r.src ∧ q.time = r.time ∧ q.seq = r.seq) ∧
      t = { s with regs := t.regs, ev := t.ev, out := t.out }) ∧
    (s.ev.waiting = none ∨ evCapacity { s.ev with waiting := none } ≤ s.ev.ring.length → exec .overflowRecordEnter s = .next s)


/-- Mode requests (R300 to R302, R312): carried out, refused, without effect, towards PILOT-LIGHT, and a request for STANDBY that waits
for the cell boundary until firing has stopped. Log entries (19) bear on its clauses: what they fix is the model's choice. -/
def Obligations.ModeRequests : Prop :=
  ∀ s : State,
    (∀ m : Fin 16, s.get HUB_MODE_STAT.req_busy = 0 → s.boot.hoWait = false → modeBarred m = false → m.val ≠ s.mode → m ≠ 3 → m ≠ 9 →
      s.modeAllowed m = true → ∃ t : State, exec (.modeRequest m) s = .next t ∧ t.mode = m.val ∧
      t.get HUB_MODE_REQ.result = m.val ∧ t.get HUB_MODE_STAT.last_mode = s.mode ∧ s.Keeps t HUB_MODE_REQ.denied ∧
      (s.mode = 6 → t.Pends Ev.twinRejoined) ∧ s.SameMem t ∧
      ∀ a, a ≠ HUB_MODE_REQ.addr → modeReg a = false → evReg a = false → t.reg a = s.reg a) ∧
    (s.get HUB_MODE_STAT.req_busy = 0 → s.boot.hoWait = false → s.mode ≠ 9 → s.modeAllowed 9 = true → ∃ t : State, exec (.modeRequest 9) s = .next t ∧
      t.mode = 9 ∧ t.get HUB_MODE_STAT.pilot_cause = 1 ∧ t.get HUB_MODE_STAT.pilot_by_req = 1 ∧ t.snf.pilotOn = true ∧
      t.get HUB_MODE_REQ.result = 9 ∧ t.get SAF_STAT.perm_b = 0 ∧ Out.taperSync true ∈ t.out ∧ s.SameMem t) ∧
    (∀ m : Fin 16, s.get HUB_MODE_STAT.req_busy = 1 ∨ s.boot.hoWait = true ∨ modeBarred m = true ∨ (m.val ≠ s.mode ∧ s.modeAllowed m = false) → ∃ t : State,
      exec (.modeRequest m) s = .next t ∧ t.get HUB_MODE_REQ.denied = 1 ∧ t.get HUB_MODE_REQ.result = s.mode ∧
      s.OnlyRegs t [HUB_MODE_REQ.addr]) ∧
    (∀ m : Fin 16, s.get HUB_MODE_STAT.req_busy = 0 → s.boot.hoWait = false → modeBarred m = false → m.val = s.mode → ∃ t : State,
      exec (.modeRequest m) s = .next t ∧ t.get HUB_MODE_REQ.result = m.val ∧ s.Keeps t HUB_MODE_REQ.denied ∧
      s.OnlyRegs t [HUB_MODE_REQ.addr]) ∧
    (s.get HUB_MODE_STAT.req_busy = 0 → s.boot.hoWait = false → s.mode ≠ 3 → s.modeAllowed 3 = true → (s.fire.engaged = true ∧ s.cellOpen = true) ∨ s.fire.pending = true →
      ∃ t : State, exec (.modeRequest 3) s = .next t ∧ t.get HUB_MODE_STAT.req_busy = 1 ∧ t.mode = s.mode ∧
      (s.fire.phase = .frame → t.fire = { s.fire with stopReq := true }) ∧ (s.fire.phase = .stopping → t.fire = s.fire) ∧
      (s.fire.phase = .waiting → s.get FIRE_FRAME_STAT.running = 0 → t.fire.engaged = false) ∧ t.fire.committed = s.fire.committed ∧
      t.fire.shots = s.fire.shots ∧ t.fire.cells = s.fire.cells ∧ t.boot = { s.boot with modeReqBy := none } ∧
      t = { s with regs := t.regs, fire := t.fire, boot := t.boot } ∧
      s.RegsBut t [HUB_MODE_STAT.addr, FIRE_FRAME_CTL.addr, FIRE_FRAME_STAT.addr, 0x804]) ∧
    (s.get HUB_MODE_STAT.req_busy = 0 → s.boot.hoWait = false → s.mode ≠ 3 → s.modeAllowed 3 = true → s.cellOpen = false → s.fire.pending = false → ∃ t : State,
      exec (.modeRequest 3) s = .next t ∧ t.mode = 3 ∧ t.get HUB_MODE_REQ.result = 3 ∧ s.Keeps t HUB_MODE_REQ.denied ∧ s.SameMem t) ∧
    (s.get HUB_MODE_STAT.req_busy = 1 → s.fire.phase = .off ∨ s.fire.phase = .stopping → s.fire.pending = false → ∃ t : State,
      exec .standbyEntry s = .next t ∧ t.mode = 3 ∧ t.get HUB_MODE_STAT.req_busy = 0 ∧ t.get HUB_MODE_REQ.result = 3 ∧
      t.get HUB_MODE_STAT.last_mode = s.mode ∧ s.Keeps t HUB_MODE_REQ.denied ∧ t.boot.modeReqBy = none ∧ s.SameMem t ∧
      ∀ a, a ≠ HUB_MODE_REQ.addr → modeReg a = false → evReg a = false → t.reg a = s.reg a)

/-- Lamplighter's steps (R303 to R308): the configuration block, the check of a candidate image, a retry from memory, and the floor of
security versions. Beside them, the end of BOOT and of START-TEST (R309, R310). Log entries 3, 72, 85, 196, 220 and 221 bear on its
clauses: what they fix is the model's choice. -/
def Obligations.BootSteps : Prop :=
  ∀ s : State,
    (∀ a b : BitVec 128, s.mode = 1 → cfgValid (toLE 16 a.toNat) = true → ∃ t : State, exec (.bootConfigRead a b) s = .next t ∧
      t.boot.mapOrder = a.toNat / 2 ^ 32 % 4 ∧ t.boot.cfgRead = true ∧
      t.boot.bootPref = (if a.toNat / 2 ^ 40 % 256 ≤ 2 then a.toNat / 2 ^ 40 % 256 else 0) ∧
      t.boot.xspiDtr = decide (a.toNat / 2 ^ 48 % 256 = 1) ∧ t = { s with boot := t.boot }) ∧
    (∀ a b : BitVec 128, s.mode = 1 → cfgValid (toLE 16 a.toNat) = false → cfgValid (toLE 16 b.toNat) = true → ∃ t : State,
      exec (.bootConfigRead a b) s = .next t ∧ t.boot.mapOrder = b.toNat / 2 ^ 32 % 4 ∧ t.boot.cfgRead = true ∧ t = { s with boot := t.boot }) ∧
    (∀ a b : BitVec 128, s.mode = 1 → cfgValid (toLE 16 a.toNat) = false → cfgValid (toLE 16 b.toNat) = false → ∃ t : State,
      exec (.bootConfigRead a b) s = .next t ∧ t.get HUB_BOOT_STAT.cfg_default = 1 ∧
      t.boot = { s.boot with cfgRead := true, mapOrder := 0, bootPref := 0, xspiDtr := false } ∧ t = { s with boot := t.boot, regs := t.regs } ∧
      ∀ a, a ≠ HUB_BOOT_STAT.addr → t.reg a = s.reg a) ∧
    (∀ a b : ImageFound, s.mode = 1 → s.get MEM_STAT.mem_active = 1 → s.get HUB_BOOT_STAT.boot_err = 0 → s.boot.secVersion = none →
      s.boot.tried = [] → s.firstSlot a b = 0 → ∃ t : State, exec (.imageCheck a b) s = .next t ∧ t.boot.tried = [0] ∧
      t.get HUB_BOOT_STAT.err_a = s.imageErr a ∧ s.Keeps t HUB_BOOT_STAT.err_b ∧ s.Keeps t HUB_BOOT_STAT.boot_err ∧
      s.Keeps t HUB_BOOT_STAT.fallback ∧ (s.imageErr a = 0 → t.get HUB_BOOT_STAT.slot = 0 ∧ t.boot.secVersion = some (imgSecVersion a)) ∧
      (s.imageErr a ≠ 0 → t.boot.secVersion = none) ∧ (s.imageErr a = 0 → t.cal.keys = [true, false, true]) ∧
      t = { s with boot := t.boot, regs := t.regs, cal := if s.imageErr a = 0 then { s.cal with keys := t.cal.keys } else s.cal } ∧
      ∀ a, a ≠ HUB_BOOT_STAT.addr → t.reg a = s.reg a) ∧
    (∀ a b : ImageFound, s.mode = 1 → s.get MEM_STAT.mem_active = 1 → s.get HUB_BOOT_STAT.boot_err = 0 → s.boot.secVersion = none →
      s.boot.tried = [0] → ∃ t : State, exec (.imageCheck a b) s = .next t ∧ t.boot.tried = [0, 1] ∧
      t.get HUB_BOOT_STAT.err_b = s.imageErr b ∧ s.Keeps t HUB_BOOT_STAT.err_a ∧ t.get HUB_BOOT_STAT.fallback = 1 ∧
      (s.imageErr b = 0 → t.get HUB_BOOT_STAT.slot = 1 ∧ t.boot.secVersion = some (imgSecVersion b) ∧ t.get HUB_BOOT_STAT.boot_err = 0) ∧
      (s.imageErr b ≠ 0 → t.boot.secVersion = none ∧ t.get HUB_BOOT_STAT.boot_err = 1) ∧
      t = { s with boot := t.boot, regs := t.regs, cal := if s.imageErr b = 0 then { s.cal with keys := [true, false, true] } else s.cal } ∧
      ∀ a, a ≠ HUB_BOOT_STAT.addr → t.reg a = s.reg a) ∧
    (∀ f : Bool, s.get HUB_BOOT_STAT.boot_err = 1 → ∃ t : State, exec (.bootRetry f () () ()) s = .next t ∧
      t.get HUB_BOOT_STAT.err_mem = s.imageErr (s.memImage f) ∧ t.get HUB_BOOT_CTL.retry = 0 ∧
      (s.imageErr (s.memImage f) = 0 → t.get HUB_BOOT_STAT.boot_err = 0 ∧ t.get HUB_BOOT_STAT.slot = 2 ∧
        t.boot.secVersion = some (memNat s.devMem (s.get HUB_BOOT_IMG.address * 4096 + 8) 4)) ∧
      (s.imageErr (s.memImage f) ≠ 0 → t.get HUB_BOOT_STAT.boot_err = 1 ∧ t.boot = s.boot ∧ t.cal = s.cal) ∧
      (∀ r : State, r = s.devScan (s.get HUB_BOOT_IMG.address * 4096) (512 + (s.memImage f).data.length) →
        t = { r with boot := t.boot, regs := t.regs, cal := t.cal } ∧ ∀ a, a ≠ HUB_BOOT_STAT.addr → a ≠ HUB_BOOT_CTL.addr → t.reg a = r.reg a)) ∧
    (∀ v : Nat, s.mode = 3 → s.boot.secVersion = some v → ∃ t : State, exec .svnCommit s = .next t ∧
      t.get HUB_SVN_FLOOR.floor = Nat.max (s.get HUB_SVN_FLOOR.floor) v % 2 ^ 32 ∧ s.OnlyRegs t [HUB_SVN_FLOOR.addr]) ∧
    (s.mode ≠ 3 → exec .svnCommit s = .next s) ∧
    (s.mode = 1 → s.boot.secVersion.isSome = true → s.get MEM_STAT.mem_active = 1 → s.boot.calLoaded = true →
      s.get TIME_STAT.rpll_locked = 1 → ∃ t : State, exec (.bootComplete false) s = .next t ∧ t.mode = 2) ∧
    (∀ (v : Vector Word64 6) (b : HubBist), s.mode = 2 → v = s.cal.rom.tile → b.misr = s.cal.rom.hub → b.keys = 0 → ∃ t : State,
      exec (.startTestEnd v b false []) s = .next t ∧ t.mode = 3 ∧ t.get HUB_BIST_RES.done = 1)

/-- BOOT and START-TEST end (R302, R307 to R310, R390). Beside them, a mode request that is carried out, the entry of STANDBY, and
Lamplighter's steps on their own effect (R300 to R308). Log entries 72, 85, 196, 218, 220 and 221 bear on its clauses: what they fix is
the model's choice. -/
def Obligations.BootEnds : Prop :=
  ∀ s : State,
    (∀ f : Bool, s.mode = 1 → s.boot.secVersion.isSome = true → s.get MEM_STAT.mem_active = 1 → s.boot.calLoaded = true →
      s.get TIME_STAT.rpll_locked = 1 → ∃ t : State, exec (.bootComplete f) s = .next t ∧
      t.mode = (if f ∧ s.get HUB_CAP.factory_closed = 0 then 11 else 2) ∧ t.get HUB_MODE_STAT.last_mode = 1 ∧
      t.get HUB_BOOT_STAT.rpll_wait = 0 ∧ t.mem.hdmSize = s.get MEM_EXTENT.extent ∧ (t.mode = 2 → t.cal.keys = [false, false, false]) ∧ s.SameMem t ∧
      ∀ a, a ≠ HUB_BOOT_STAT.addr → modeReg a = false → evReg a = false → t.reg a = s.reg a) ∧
    (∀ f : Bool, s.mode = 1 → s.boot.secVersion.isSome = true → s.get MEM_STAT.mem_active = 1 → s.boot.calLoaded = true →
      s.get TIME_STAT.rpll_locked = 0 → ∃ t : State, exec (.bootComplete f) s = .next t ∧ t.mode = 1 ∧
      t.get HUB_BOOT_STAT.rpll_wait = 1 ∧ s.OnlyRegs t [HUB_BOOT_STAT.addr]) ∧
    (∀ (v : Vector Word64 6) (b : HubBist), s.mode = 2 → v = s.cal.rom.tile → b.misr = s.cal.rom.hub → b.keys = 0 → ∃ t : State,
      exec (.startTestEnd v b false []) s = .next t ∧ t.mode = 3 ∧ t.get HUB_BIST_RES.done = 1 ∧
      t.get HUB_BIST_RES.tile_fail = 0 ∧ t.get HUB_BIST_RES.hub_fail = 0 ∧ t.get HUB_BIST_RES.snf_fail = 0 ∧
      t.cal.keys = [true, true, true] ∧ s.SameMem t ∧
      ∀ a, a ≠ HUB_BIST_RES.addr → modeReg a = false → evReg a = false → t.reg a = s.reg a) ∧
    (∀ (v : Vector Word64 6) (b : HubBist) (snf : Bool) (rows : List (Fin 6 × Fin 10368)), s.mode = 2 → ∃ t : State,
      exec (.startTestEnd v b snf rows) s = .next t ∧ t.get HUB_BIST_RES.done = 1 ∧
      (∀ k : Fin 6, (t.get HUB_BIST_RES.tile_fail).testBit k = !(v[k] == s.cal.rom.tile[k])) ∧
      t.get HUB_BIST_RES.hub_fail = (if b.misr = s.cal.rom.hub ∧ b.keys = 0 then 0 else 1) ∧ t.get HUB_BIST_RES.snf_fail = bit snf ∧
      ((v[2] ≠ s.cal.rom.tile[2] ∧ v[3] ≠ s.cal.rom.tile[3]) ∨ b.misr ≠ s.cal.rom.hub ∨ b.keys ≠ 0 ∨ snf = true → t.mode = 10 ∧
        t.saf.bistCond = true) ∧
      (v[2] = s.cal.rom.tile[2] ∨ v[3] = s.cal.rom.tile[3] → b.misr = s.cal.rom.hub → b.keys = 0 → snf = false → t.mode = 3 ∧
        ∀ k : Fin 6, v[k] ≠ s.cal.rom.tile[k] → t.isOff (.tile k) = true) ∧
      (snf → t.get SAF_STAT.lockout = 1 ∧ t.Pends Ev.safetyFault) ∧ s.SameMem t) ∧
    (∀ m : Fin 16, s.get HUB_MODE_STAT.req_busy = 0 → s.boot.hoWait = false → modeBarred m = false → m.val ≠ s.mode → m ≠ 3 → m ≠ 9 →
      s.modeAllowed m = true → ∃ t : State, exec (.modeRequest m) s = .next t ∧ t.mode = m.val) ∧
    (s.get HUB_MODE_STAT.req_busy = 1 → s.fire.phase = .off ∨ s.fire.phase = .stopping → s.fire.pending = false → ∃ t : State,
      exec .standbyEntry s = .next t ∧ t.mode = 3) ∧
    (∀ a b : BitVec 128, s.mode = 1 → cfgValid (toLE 16 a.toNat) = true → ∃ t : State, exec (.bootConfigRead a b) s = .next t ∧
      t.boot.mapOrder = a.toNat / 2 ^ 32 % 4 ∧ t.boot.cfgRead = true) ∧
    (∀ a b : ImageFound, s.mode = 1 → s.get MEM_STAT.mem_active = 1 → s.get HUB_BOOT_STAT.boot_err = 0 → s.boot.secVersion = none →
      s.boot.tried = [] → s.firstSlot a b = 0 → ∃ t : State, exec (.imageCheck a b) s = .next t ∧ t.boot.tried = [0] ∧
      t.get HUB_BOOT_STAT.err_a = s.imageErr a) ∧
    (∀ f : Bool, s.get HUB_BOOT_STAT.boot_err = 1 → ∃ t : State, exec (.bootRetry f () () ()) s = .next t ∧
      t.get HUB_BOOT_STAT.err_mem = s.imageErr (s.memImage f)) ∧
    (∀ v : Nat, s.mode = 3 → s.boot.secVersion = some v → ∃ t : State, exec .svnCommit s = .next t ∧
      t.get HUB_SVN_FLOOR.floor = Nat.max (s.get HUB_SVN_FLOOR.floor) v % 2 ^ 32)

/-- Control-cluster handover (R312, R336, R337, R393). Beside them, each step of a tile slice that goes through (R338 to R340). Log
entries 85, 129, 130, 185, 198, 199 and 220 bear on its clauses: what they fix is the model's choice. -/
def Obligations.Handover : Prop :=
  ∀ s : State,
    (s.get HUB_HO_CTL.start = 0 → s.clusterSlice = false → s.mayService = true → ∃ t : State, exec .handoverStart s = .next t ∧
      t.mode = 8 ∧ t.get HUB_MODE_STAT.base_mode = s.mode ∧ t.get HUB_HO_STAT.busy = 1 ∧ t.get HUB_HO_STAT.err = 0 ∧
      t.get HUB_MODE_REQ.result = 8 ∧ t.boot.hoStep = 1 ∧ t.boot.hoSec = s.hoImageSec ∧ s.Keeps t HUB_HO_STAT.active ∧
      (s.get HUB_HO_STAT.active = 0 → t.isOff .clb = false) ∧ s.SameMem t) ∧
    (s.get HUB_HO_CTL.start = 0 → s.mayService = false → s.boot.hoWait = false → ∃ t : State, exec .handoverStart s = .next t ∧
      t.get HUB_MODE_REQ.denied = 1 ∧ t.get HUB_MODE_REQ.result = s.mode ∧ t.get HUB_HO_CTL.start = 0 ∧
      t = { s with regs := t.regs, boot := { s.boot with hoWait := false } } ∧ s.RegsBut t [HUB_HO_CTL.addr, HUB_MODE_REQ.addr]) ∧
    (s.get HUB_HO_CTL.start = 0 → s.clusterSlice = true → s.mayService = true → ∃ t : State, exec .handoverStart s = .next t ∧
      t.get HUB_HO_CTL.start = 1 ∧ t.mode = s.mode ∧ t.boot = { s.boot with hoWait := true } ∧
      t = { s with regs := t.regs, boot := t.boot } ∧ s.RegsBut t [HUB_HO_CTL.addr]) ∧
    (s.get HUB_HO_CTL.start = 1 → ∃ t : State, exec .handoverStart s = .next t ∧ t.get HUB_MODE_REQ.denied = 1 ∧
      t.get HUB_MODE_REQ.result = s.mode ∧ s.OnlyRegs t [HUB_MODE_REQ.addr]) ∧
    (s.boot.hoStep = 1 → s.hoImageErr false = 0 → (∀ k : Fin 4, s.get (BIST_SLICE_STAT.result (14 + k)) ≠ 2) → exec .handoverReady s =
      .next { s with boot := { s.boot with
        hoStep := if s.boot.noCluster then 4 else 3, noCluster := false
        secVersion := if s.boot.noCluster then s.boot.hoSec else s.boot.secVersion } }) ∧
    (s.boot.hoStep = 1 → s.hoImageErr false ≠ 0 → exec .handoverReady s = .next s) ∧
    (s.boot.hoStep = 3 → exec .handoverSwitch s = .next { s with boot := { s.boot with
      hoStep := 4, noCluster := false, secVersion := s.boot.hoSec } }) ∧
    (s.mode = 8 → s.boot.hoStep = 4 → ∃ t : State, exec .handoverEnd s = .next t ∧ t.mode = s.get HUB_MODE_STAT.base_mode ∧
      (s.get HUB_MODE_STAT.base_mode ≠ 8 → t.get HUB_HO_STAT.active = 1 - s.get HUB_HO_STAT.active ∧ t.get HUB_HO_STAT.busy = 0 ∧
        t.get HUB_HO_CTL.start = 0 ∧ t.boot.hoStep = 0 ∧ (s.get HUB_HO_STAT.active = 1 → t.isOff .clb = true)) ∧ s.SameMem t) ∧
    (∀ e r : Bool, s.mode = 8 → s.boot.hoStep = 1 → s.get HUB_MODE_STAT.base_mode ≠ 8 → e ∨ s.hoImageErr r ≠ 0 → ∃ t : State,
      exec (.handoverAbort e r () () ()) s = .next t ∧ t.mode = s.get HUB_MODE_STAT.base_mode ∧
      t.get HUB_HO_STAT.err = (if e then 7 else s.hoImageErr r) ∧ s.Keeps t HUB_HO_STAT.active ∧ t.get HUB_HO_STAT.busy = 0 ∧
      t.boot.hoStep = 0 ∧ s.SameMem t) ∧
    (exec .clusterWatchdog s = .next { s with boot := { s.boot with
      noCluster := !decide (s.boot.hoStep = 3), hoStep := if s.boot.hoStep = 3 then 4 else s.boot.hoStep
      secVersion := if s.boot.hoStep = 3 then s.boot.hoSec else s.boot.secVersion } }) ∧
    (∀ (k : Fin 8) (a : Fin 4), s.sliceErr k = 0 → ∃ t : State, exec (.sliceStart k a) s = .next t ∧ t.mode = 7 ∧
      t.boot.sliceTile = some k.val) ∧
    (∀ k : Fin 6, s.boot.sliceTile = some k.val → s.mode = 7 →
      (s.boot.sliceStep = 1 → ∃ t : State, exec .sliceIsolate s = .next t ∧ t.isOff (.tile k) = true ∧ t.boot.sliceStep = 2) ∧
      (∀ (m : Word64) (d : BitVec 276), s.boot.sliceStep = 2 → s.sliceBarred k = false →
        (s.boot.sliceAct = 0 ∨ s.boot.sliceAct = 3 → m = s.cal.rom.tile[k]) → ∃ t : State, exec (.sliceActionDone ⟨m, true⟩ d) s = .next t ∧ t.boot.sliceStep = 3) ∧
      (s.boot.sliceStep = 3 → s.get HUB_MODE_STAT.base_mode ≠ 7 → ∃ t : State, exec .sliceRejoin s = .next t ∧
        t.mode = s.get HUB_MODE_STAT.base_mode ∧ t.get HUB_SLICE_STAT.done = 1 ∧ t.isOff (.tile k) = false))

/-- Tile slicing (R338 to R340, R381, R387): accepted and refused starts, isolation, the action's outcomes and rejoining. Log entries
129, 130, 185, 199 and 218 bear on its clauses: what they fix is the model's choice. -/
def Obligations.Slices : Prop :=
  ∀ s : State,
    (∀ (k : Fin 8) (a : Fin 4), s.sliceErr k = 0 → ∃ t : State, exec (.sliceStart k a) s = .next t ∧ t.mode = 7 ∧
      t.get HUB_MODE_STAT.base_mode = s.mode ∧ t.get HUB_SLICE_CTL.tile = k.val ∧ t.get HUB_SLICE_CTL.action = a.val ∧
      t.get HUB_SLICE_CTL.start = 1 ∧ t.get HUB_SLICE_STAT.busy = 1 ∧ t.get HUB_SLICE_STAT.err = 0 ∧
      t.get HUB_MODE_REQ.result = 7 ∧ t.boot.sliceTile = some k.val ∧ t.boot.sliceAct = a.val ∧ t.boot.sliceStep = 1 ∧ s.SameMem t ∧
      ∀ a, a ≠ HUB_MODE_REQ.addr → modeReg a = false → evReg a = false → t.reg a = s.reg a) ∧
    (∀ (k : Fin 8) (a : Fin 4), s.sliceErr k ≠ 0 → ∃ t : State, exec (.sliceStart k a) s = .next t ∧
      t.get HUB_SLICE_STAT.err = s.sliceErr k ∧ t.get HUB_MODE_REQ.denied = 1 ∧ t.get HUB_MODE_REQ.result = s.mode ∧
      s.OnlyRegs t [HUB_SLICE_CTL.addr, HUB_SLICE_STAT.addr, HUB_MODE_REQ.addr]) ∧
    (∀ k : Fin 6, s.boot.sliceTile = some k.val → s.mode = 7 → s.boot.sliceStep = 1 → ∃ t : State, exec .sliceIsolate s = .next t ∧
      t.isOff (.tile k) = true ∧ t.boot.sliceStep = 2 ∧ t.mode = 7 ∧
      (s.boot.sliceAct = 1 → s.cal.skewBad.contains k.val = false →
        t.cal.job = some (2 ^ k.val, 3, true) ∧ t.get CAL_STAT.busy = 1) ∧ s.SameMem t) ∧
    (∀ (k : Fin 6) (m : Word64) (d : BitVec 276), s.boot.sliceTile = some k.val → s.mode = 7 → s.boot.sliceStep = 2 →
      (s.boot.sliceAct = 0 ∨ s.boot.sliceAct = 3 → m = s.cal.rom.tile[k]) →
      (s.boot.sliceAct = 1 → s.cal.skewBad.contains k.val = false) → (s.boot.sliceAct = 2 → s.imageErr (s.memImage false) = 0) →
      exec (.sliceActionDone ⟨m, true⟩ d) s = .next { s with boot := { s.boot with
        sliceStep := 3, slicePass := if s.boot.sliceAct = 0 ∨ s.boot.sliceAct = 3 then d.toNat else 0 } }) ∧
    (∀ (k : Fin 6) (m : Word64) (p : Bool) (d : BitVec 276), s.boot.sliceTile = some k.val → s.mode = 7 → s.boot.sliceStep = 2 →
      s.get HUB_MODE_STAT.base_mode ≠ 7 → p = false ∨ (s.boot.sliceAct = 1 ∧ s.cal.skewBad.contains k.val = true) ∨
        (s.boot.sliceAct = 2 ∧ s.imageErr (s.memImage false) ≠ 0) ∨ (s.boot.sliceAct ∈ [0, 3] ∧ m ≠ s.cal.rom.tile[k]) → ∃ t : State,
      exec (.sliceActionDone ⟨m, p⟩ d) s = .next t ∧ t.mode = s.get HUB_MODE_STAT.base_mode ∧ t.get HUB_SLICE_STAT.err = 3 ∧
      t.get HUB_SLICE_STAT.isolated = k.val ∧ t.get HUB_SLICE_STAT.done = 1 ∧ t.get HUB_SLICE_STAT.busy = 0 ∧
      t.get HUB_SLICE_CTL.start = 0 ∧ t.boot.sliceTile = none ∧ s.SameMem t) ∧
    (∀ k : Fin 6, s.boot.sliceTile = some k.val → s.mode = 7 → s.boot.sliceStep = 3 → s.get HUB_MODE_STAT.base_mode ≠ 7 → ∃ t : State,
      exec .sliceRejoin s = .next t ∧ t.mode = s.get HUB_MODE_STAT.base_mode ∧ t.get HUB_SLICE_STAT.done = 1 ∧
      t.get HUB_SLICE_STAT.busy = 0 ∧ t.boot.sliceTile = none ∧ t.isOff (.tile k) = false ∧ s.SameMem t)


/-- The faults of R293 that commands detect (R279, R280, R290 to R293): each latches its cause and leaves the safe state. Log entries
29, 34, 55, 197 and 213 bear on its clauses: what they fix is the model's choice. -/
def Obligations.SafetyFaults : Prop :=
  ∀ s : State,
    (∀ c : SafSel, (s.chanOf c).verdicts = [] → ∃ t : State, exec (.verdictTimeout c false) s = .next t ∧ s.SafeAfter t 0x02 0 []) ∧
    (∀ c : SafSel, exec (.verdictTimeout c true) s = .next s) ∧
    (∀ p : Pair, s.get (grantBit .sp p) = 1 → ∃ t : State, exec (.permissionClockStop p) s = .next t ∧ s.SafeAfter t 0x04 0 [] ∧
      t.saf.clockStopped = s.saf.clockStopped.set (pairIx p) true) ∧
    (∀ p : Pair, s.get (grantBit .sp p) = 0 → ∃ t : State, exec (.permissionClockStop p) s = .next t ∧ t.get (permBit p) = 0 ∧
      t.saf.clockStopped = s.saf.clockStopped.set (pairIx p) true ∧ t.mode = s.mode ∧ s.Keeps t SAF_STAT.lockout ∧
      t = { s with regs := t.regs, ev := t.ev, saf := t.saf, out := t.out } ∧ s.RegsBut t [SAF_STAT.addr]) ∧
    (∀ c : SafSel, (s.chanOf c).table.isEmpty = false → ∃ t : State, exec (.tableRecheck c false) s = .next t ∧ s.SafeAfter t 0x0D 0 []) ∧
    (∀ n : Fin 4, tblDciMode s.saf.snf.table n % 2 = 0 → ∀ x : Bool, exec (.dciDiscrepancyTimeout n x) s = .next s) ∧
    (∀ n : Fin 4, (s.get SAF_DCI_STAT.pending).testBit n = true → tblDciMode s.saf.snf.table n % 2 = 1 → ∃ t : State, exec (.dciDiscrepancyTimeout n false) s = .next t ∧
      s.SafeAfter t 0x08 n [SAF_DCI_STAT.addr] ∧ (t.get SAF_DCI_STAT.pending).testBit n = false ∧ t.saf.dciBad = s.saf.dciBad.set n true) ∧
    (∀ l v : BitVec 4, (s.readbackBad l v 0 || s.readbackBad l v 1) = true → (s.readbackBad l v 2 || s.readbackBad l v 3) = false →
      ∃ t : State, exec (.outputReadback l v) s = .next t ∧ s.SafeAfter t 0x06 0 [] ∧ t.get SAF_STAT.readback = l.toNat) ∧
    (∀ l v : BitVec 4, (s.readbackBad l v 0 || s.readbackBad l v 1) = false → (s.readbackBad l v 2 || s.readbackBad l v 3) = true →
      ∃ t : State, exec (.outputReadback l v) s = .next t ∧ s.SafeAfter t 0x07 0 [] ∧ t.get SAF_STAT.readback = l.toNat) ∧
    (∀ l v : BitVec 4, (∀ k : Fin 4, s.readbackBad l v k = false) → ∃ t : State, exec (.outputReadback l v) s = .next t ∧
      t.get SAF_STAT.readback = l.toNat ∧ s.OnlyRegs t [SAF_STAT.addr]) ∧
    (∃ t : State, exec .shadeDigestTimeout s = .next t ∧ s.SafeAfter t 0x09 0 []) ∧
    (∀ k : Fin 2, s.fire.engaged = true → s.tileOff (2 + k) = false → ∃ t : State, exec (.pilotLinkSilence k) s = .next t ∧ s.SafeAfter t 0x0B k []) ∧
    (∀ k : Fin 2, s.fire.engaged = false ∨ s.tileOff (2 + k) = true → exec (.pilotLinkSilence k) s =
      .next { s with snf := { s.snf with pilotSilent := s.snf.pilotSilent.set k true } }) ∧
    (∃ t : State, exec .vsnfOutOfRange s = .next t ∧ s.SafeAfter t 0x0F 0 []) ∧
    (∃ t : State, exec .vsafOutOfRange s = .next t ∧ s.SafeAfter t 0x0F 1 []) ∧
    (∃ t : State, exec .safetyLockstepMismatch s = .next t ∧ s.SafeAfter t 0x03 0 [])

/-- Closed cells, verdicts and grants (R278, R280, R281, R284, R285, R288, R299): a channel collects summaries and closed cells,
evaluates the oldest cell, withdraws the grants of violated protective zones, and grants after the restart delay. Log entries 21, 29,
36, 37, 39, 40, 70, 190 and 213 bear on its clauses: what they fix is the model's choice. -/
def Obligations.SafetyCells : Prop :=
  ∀ (s : State) (c : SafSel),
    (∀ v : Flit, ∃ t : State, exec (.safetySummary c v) s = .next t ∧
      t.chanOf c = { s.chanOf c with sums := (s.chanOf c).sums ++ [v.toNat] } ∧ t = { s with saf := t.saf } ∧
      ∀ d, d ≠ c → t.chanOf d = s.chanOf d) ∧
    (∀ (b : Fin 64) (az : BitVec 20) (fs : Word64), ∃ t : State, exec (.cellCloseMarker c b az fs) s = .next t ∧
      t.chanOf c = { s.chanOf c with
        sums := (s.chanOf c).sums.filter (fun v => sumBank v != b.val || sumAzimuth v != az.toNat),
        closed := (s.chanOf c).closed ++
          [⟨b, az.toNat, fs.toNat, (s.chanOf c).sums.filter (fun v => sumBank v == b.val && sumAzimuth v == az.toNat)⟩] } ∧
      t = { s with saf := t.saf } ∧ ∀ d, d ≠ c → t.chanOf d = s.chanOf d) ∧
    (∀ (x : ClosedCell) (l : List ClosedCell), (s.chanOf c).closed = x :: l → s.cellOld (s.chanOf c) x = false →
      (c = .sp → s.hubBad (zoneMem s.saf.gen) (s.chanOf c).table.length = false) →
      ∀ u : State, (if c = .sp then s.hubScan 36 0 (zoneMem s.saf.gen) (s.chanOf c).table.length else s) = u → ∃ t : State,
      exec (.zoneEvaluate c) s = .next t ∧ (t.chanOf c).closed = l ∧ (t.chanOf c).olds = (s.chanOf c).olds ∧
      (t.chanOf c).zones = (u.evalSets (s.chanOf c).table (s.chanOf c).zones x (s.cellSets (s.chanOf c) (s.chanOf c).table x)).1 ∧
      (t.chanOf c).verdicts = (s.chanOf c).verdicts ++ [⟨x.bank, x.firstShot,
        (u.evalSets (s.chanOf c).table (s.chanOf c).zones x (s.cellSets (s.chanOf c) (s.chanOf c).table x)).2⟩] ∧
      (∀ (v : ZoneVerdict) (p : Pair), v ∈ (u.evalSets (s.chanOf c).table (s.chanOf c).zones x (s.cellSets (s.chanOf c) (s.chanOf c).table x)).2 →
        v.viol = true → v.protective = true → (tblZone (s.chanOf c).table v.set v.zone).binds p = true →
        t.get (grantBit c p) = 0 ∧ t.get (permBit p) = 0) ∧
      ((s.chanOf c).table.isEmpty = false → t.get SAF_STAT.margin = bit (x.sums.any sumNotWarm)) ∧
      t = { u with regs := t.regs, ev := t.ev, saf := t.saf, out := t.out } ∧ u.RegsBut t [SAF_STAT.addr, SAF_ZONE_STAT.addr] ∧
      ∀ d, d ≠ c → t.chanOf d = s.chanOf d) ∧
    (∀ (x : ClosedCell) (l : List ClosedCell), (s.chanOf c).closed = x :: l → s.cellOld (s.chanOf c) x = true →
      ∀ o : OldTable, (s.chanOf c).old (s.cellGen (s.chanOf c) x) = o →
      (c = .sp → s.hubBad (zoneMem (s.cellGen (s.chanOf c) x)) o.table.length = false) →
      ∀ u : State, (if c = .sp then s.hubScan 36 0 (zoneMem (s.cellGen (s.chanOf c) x)) o.table.length else s) = u → ∃ t : State, exec (.zoneEvaluate c) s = .next t ∧ (t.chanOf c).closed = l ∧
      (t.chanOf c).zones = (s.chanOf c).zones ∧ (t.chanOf c).table = (s.chanOf c).table ∧
      (t.chanOf c).olds = (s.chanOf c).olds.map (fun y => if y.gen = s.cellGen (s.chanOf c) x then
        { y with zones := (u.evalSets o.table o.zones x (s.cellSets (s.chanOf c) o.table x)).1 } else y) ∧
      (t.chanOf c).verdicts = (s.chanOf c).verdicts ++
        [⟨x.bank, x.firstShot, (u.evalSets o.table o.zones x (s.cellSets (s.chanOf c) o.table x)).2⟩] ∧
      (∀ (v : ZoneVerdict) (p : Pair), v ∈ (u.evalSets o.table o.zones x (s.cellSets (s.chanOf c) o.table x)).2 → v.viol = true → v.protective = true →
        (tblZone o.table v.set v.zone).binds p = true → t.get (grantBit c p) = 0 ∧ t.get (permBit p) = 0) ∧
      t = { u with regs := t.regs, ev := t.ev, saf := t.saf, out := t.out } ∧ u.RegsBut t [SAF_STAT.addr, SAF_ZONE_STAT.addr] ∧
      ∀ d, d ≠ c → t.chanOf d = s.chanOf d) ∧
    (∀ (x : ClosedCell) (l : List ClosedCell), s.saf.sp.closed = x :: l → ∀ n : Nat, (s.cellTable s.saf.sp x).1.length = n →
      s.hubBad (zoneMem (s.cellGen s.saf.sp x)) n = true → ∃ t : State, exec (.zoneEvaluate .sp) s = .next t ∧ t.saf.sp.closed = l ∧
      t.saf.sp.verdicts = s.saf.sp.verdicts ∧ t.saf.sp.zones = s.saf.sp.zones ∧ t.saf.sp.olds = s.saf.sp.olds ∧ t.saf.snf = s.saf.snf ∧
      t = { s.hubScan 36 0 (zoneMem (s.cellGen s.saf.sp x)) n with saf := t.saf }) ∧
    ((s.chanOf c).closed = [] → exec (.zoneEvaluate c) s = .next s) ∧
    (∀ (a : Verdict) (l m : List Verdict), s.saf.sp.verdicts = a :: l → s.saf.snf.verdicts = a :: m → ∃ t : State,
      exec .verdictExchange s = .next t ∧ t.saf.sp.verdicts = l ∧ t.saf.snf.verdicts = m ∧
      (∀ z ∈ a.zones, z.rise = true → t.Pends (if z.protective then Ev.protectiveZoneViolated else Ev.warningZoneViolated)) ∧
      t = { s with regs := t.regs, ev := t.ev, saf := t.saf, out := t.out } ∧ s.RegsBut t []) ∧
    (∀ (a b : Verdict) (l m : List Verdict), s.saf.sp.verdicts = a :: l → s.saf.snf.verdicts = b :: m → a ≠ b → ∃ t : State,
      exec .verdictExchange s = .next t ∧ s.SafeAfter t 0x01 0 []) ∧
    (∀ p : Pair, s.grantCond c p = true → s.chanAlive c = true → ∃ t : State, exec (.restartDelay c p) s = .next t ∧
      t.get (grantBit c p) = 1 ∧ t.get (permBit p) = bit (t.permOn p) ∧
      (c = .sp → t.saf.clockStopped = s.saf.clockStopped.set (pairIx p) false) ∧
      t = { s with regs := t.regs, ev := t.ev, saf := t.saf, out := t.out } ∧ s.RegsBut t [SAF_STAT.addr] ∧
      ∀ q, q ≠ p → s.Keeps t (permBit q)) ∧
    (∀ p : Pair, s.grantCond c p = false → exec (.restartDelay c p) s = .next s)

/-- Preparing and committing a safety table, and changing the zone set (R286, R289, R299, R341). Log entries 20, 29, 40, 190, 192 and
213 bear on its clauses: what they fix is the model's choice. -/
def Obligations.ZoneTables : Prop :=
  ∀ s : State,
    (s.get SAF_ZT_STAT.phase = 0 → ∃ t : State, exec .ztPrepare s = .next t ∧
      t.saf.sp.next = (if s.hubBad 0x300000000 s.stageCopy.length then [] else s.stageCopy) ∧ t.saf.snf.next = t.saf.sp.next ∧ t.get SAF_ZT_STAT.phase = 1 ∧
      t.get SAF_ZT_STAT.err = 0 ∧ t.get SAF_ZT_STAT.sp_ok = 0 ∧
      t.get SAF_ZT_STAT.snf_ok = 0 ∧ t.get SAF_ZT_CTL.prepare = 1 ∧ t.saf.sp.table = s.saf.sp.table ∧
      t.saf.snf.table = s.saf.snf.table ∧
      ∀ u : State, (s.hubScan 6 0 0x300000000 s.stageCopy.length).hubWrite (zoneMem (s.saf.gen + 1)) t.saf.sp.next.length = u →
        t = { u with regs := t.regs, saf := t.saf } ∧ u.RegsBut t [SAF_ZT_STAT.addr, SAF_ZT_CTL.addr]) ∧
    (s.get SAF_ZT_STAT.phase ≠ 0 → ∃ t : State, exec .ztPrepare s = .next t ∧ exec .ztAbort s = .next t ∧
      t.get SAF_ZT_STAT.phase = 0 ∧ t.get SAF_ZT_STAT.err = 6 ∧ t.get SAF_ZT_STAT.fail_seen = 1 ∧ t.get SAF_ZT_CTL.commit = 0 ∧
      t.get SAF_ZT_CTL.prepare = 0 ∧ s.OnlyRegs t [SAF_ZT_STAT.addr, SAF_ZT_CTL.addr]) ∧
    (s.get SAF_ZT_STAT.phase = 0 → exec .ztAbort s = .next s) ∧
    (∀ c : SafSel, s.get SAF_ZT_STAT.phase = 1 → s.chanAlive c = true → ∀ u : State,
      (if c = .sp then s.hubScan 36 0 (zoneMem (s.saf.gen + 1)) s.saf.sp.next.length else s) = u →
      ((c = .sp ∧ s.hubBad (zoneMem (s.saf.gen + 1)) s.saf.sp.next.length = true) ∨ tblCheck (s.chanOf c).next ≠ 0) → ∃ t : State,
      exec (.ztChannelCheckDone c) s = .next t ∧ t.get SAF_ZT_STAT.phase = 0 ∧
      t.get SAF_ZT_STAT.err = (if c = .sp ∧ s.hubBad (zoneMem (s.saf.gen + 1)) s.saf.sp.next.length = true then 2
        else tblCheck (s.chanOf c).next % 16) ∧
      t.get SAF_ZT_STAT.fail_seen = 1 ∧ t.Pends Ev.zoneCommitFailed ∧ u.OnlyRegsEv t [SAF_ZT_STAT.addr, SAF_ZT_CTL.addr]) ∧
    (∀ c d : SafSel, s.get SAF_ZT_STAT.phase = 1 → s.chanAlive c = true → tblCheck (s.chanOf c).next = 0 →
      (c = .sp → s.hubBad (zoneMem (s.saf.gen + 1)) s.saf.sp.next.length = false) → ∀ u : State,
      (if c = .sp then s.hubScan 36 0 (zoneMem (s.saf.gen + 1)) s.saf.sp.next.length else s) = u → d ≠ c →
      s.get (okBit d) = 0 → ∃ t : State, exec (.ztChannelCheckDone c) s = .next t ∧ t.get (okBit c) = 1 ∧ t.get (okBit d) = 0 ∧
      t.get SAF_ZT_STAT.phase = 1 ∧ u.OnlyRegs t [SAF_ZT_STAT.addr]) ∧
    (∀ c d : SafSel, s.get SAF_ZT_STAT.phase = 1 → s.chanAlive c = true → tblCheck (s.chanOf c).next = 0 →
      (c = .sp → s.hubBad (zoneMem (s.saf.gen + 1)) s.saf.sp.next.length = false) → ∀ u : State,
      (if c = .sp then s.hubScan 36 0 (zoneMem (s.saf.gen + 1)) s.saf.sp.next.length else s) = u → d ≠ c →
      s.get (okBit d) = 1 → ∃ t : State, exec (.ztChannelCheckDone c) s = .next t ∧
      (tblCrc s.saf.sp.next = tblCrc s.saf.snf.next → t.get SAF_ZT_STAT.phase = 2 ∧ t.get SAF_ZT_CTL.prepare = 0) ∧
      (tblCrc s.saf.sp.next ≠ tblCrc s.saf.snf.next → t.get SAF_ZT_STAT.phase = 0 ∧ t.get SAF_ZT_STAT.err = 5 ∧
        t.Pends Ev.zoneCommitFailed) ∧ u.OnlyRegsEv t [SAF_ZT_STAT.addr, SAF_ZT_CTL.addr]) ∧
    (s.get SAF_ZT_STAT.phase = 2 → s.ztMaySwap = true → s.get FIRE_FRAME_STAT.running = 0 → ∃ t : State, exec .ztCommit s = .next t ∧
      t.saf.sp.table = s.saf.sp.next ∧ t.saf.snf.table = s.saf.snf.next ∧ t.saf.sp.next = [] ∧ t.saf.snf.next = [] ∧
      t.saf.gen = s.saf.gen + 1 ∧ t.saf.spans = ⟨s.now, t.get SAF_STAT.active_set, s.saf.gen + 1⟩ :: keepSpans s.now 0 s.saf.spans ∧
      (∀ c : SafSel, (t.chanOf c).olds = ⟨s.saf.gen, (s.chanOf c).table, (s.chanOf c).zones⟩ :: (s.chanOf c).olds.take 3 ∧
        (t.chanOf c).zones = []) ∧ t.get SAF_ZT_STAT.phase = 0 ∧ t.get SAF_ZT_STAT.err = 0 ∧
      t.get SAF_ZT_ACTIVE.table_id = tblId s.saf.snf.next ∧ t.get SAF_ZT_ACTIVE.crc = tblCrc s.saf.snf.next ∧
      t.twn = { s.twn with epoch := (s.twn.epoch + 1) % 2 ^ 32 } ∧ t.get SAF_STAT.switching = 0 ∧ t.Pends Ev.zoneCommitDone ∧
      t = { s with regs := t.regs, ev := t.ev, saf := t.saf, twn := t.twn, out := t.out } ∧
      s.RegsBut t [SAF_ZT_STAT.addr, SAF_ZT_CTL.addr, SAF_ZT_ACTIVE.addr, SAF_DCI_STAT.addr, SAF_STAT.addr, SAF_ZONE_STAT.addr]) ∧
    (s.get SAF_ZT_STAT.phase = 2 → s.ztMaySwap = true → s.get FIRE_FRAME_STAT.running = 1 → ∃ t : State, exec .ztCommit s = .next t ∧
      t.get SAF_ZT_STAT.phase = 3 ∧ t.get SAF_ZT_CTL.commit = 1 ∧ s.OnlyRegs t [SAF_ZT_STAT.addr, SAF_ZT_CTL.addr]) ∧
    (s.get SAF_ZT_STAT.phase = 2 → s.ztMaySwap = false → ∃ t : State, exec .ztCommit s = .next t ∧
      t.get SAF_ZT_STAT.phase = 2 ∧ t.get SAF_ZT_CTL.commit = 1 ∧ s.OnlyRegs t [SAF_ZT_CTL.addr]) ∧
    (s.saf.snf.table.isEmpty = false → s.setIndex = s.get SAF_STAT.active_set →
      exec .zoneSetAgree s = .next { s with saf := { s.saf with nextSet := none } }) ∧
    (s.saf.snf.table.isEmpty = false → s.setIndex ≠ s.get SAF_STAT.active_set → s.get FIRE_FRAME_STAT.running = 1 →
      exec .zoneSetAgree s = .next { s with saf := { s.saf with nextSet := some s.setIndex } }) ∧
    (s.saf.snf.table.isEmpty = false → s.setIndex ≠ s.get SAF_STAT.active_set → s.get FIRE_FRAME_STAT.running = 0 → ∃ t : State,
      exec .zoneSetAgree s = .next t ∧ t.get SAF_STAT.active_set = s.setIndex % 16 ∧
      t.saf.spans = ⟨s.now, s.setIndex, s.saf.gen⟩ :: keepSpans s.now 0 s.saf.spans ∧ t.saf.nextSet = none ∧ t.get SAF_STAT.switching = bit (decide (0 < tblSwitch s.saf.snf.table)) ∧
      t.Pends Ev.zoneSetChanged ∧ (tblSets s.saf.snf.table ≤ s.setIndex → t.Pends Ev.zoneSetInvalid) ∧
      t = { s with regs := t.regs, ev := t.ev, saf := t.saf, out := t.out } ∧ s.RegsBut t [SAF_STAT.addr, SAF_ZONE_STAT.addr]) ∧
    (∀ (x : ZoneSpan) (l : List ZoneSpan), s.saf.spans = x :: l →
      laterThan s.now x.start < ((msUnits (tblSwitch s.saf.snf.table) : Nat) : Int) → exec .zoneSwitchEnd s = .next s) ∧
    (∀ (x : ZoneSpan) (l : List ZoneSpan), s.saf.spans = x :: l →
      ((msUnits (tblSwitch s.saf.snf.table) : Nat) : Int) ≤ laterThan s.now x.start → ∃ t : State, exec .zoneSwitchEnd s = .next t ∧
      t.get SAF_STAT.switching = 0 ∧ t.saf.spans = keepSpans s.now 0 s.saf.spans ∧ s.Keeps t SAF_STAT.active_set ∧
      (∀ (c : SafSel) (p : Pair), t.get (grantBit c p) ≤ s.get (grantBit c p)) ∧
      t = { s with regs := t.regs, ev := t.ev, saf := t.saf, out := t.out } ∧ s.RegsBut t [SAF_STAT.addr])

/-- Safety inputs, test pulses, the reset by LOR_REQ and Snuffer's supply (R290, R291, R294, R295, R417). Log entries 34, 41, 53 and 174
bear on its clauses: what they fix is the model's choice. -/
def Obligations.SafetyInputs : Prop :=
  ∀ s : State,
    (∀ v : BitVec 8, s.snf.powered = true → ∃ t : State, exec (.dciSample v) s = .next t ∧
      (∀ k : Fin 8, (s.saf.contacts.getD k []).take 2 = [v.getLsbD k, v.getLsbD k] → t.contact k = v.getLsbD k) ∧
      (∀ k : Fin 8, (s.saf.contacts.getD k []).take 2 ≠ [v.getLsbD k, v.getLsbD k] → t.contact k = s.contact k) ∧
      (∀ k : Fin 8, t.saf.contacts.getD k [] = (v.getLsbD k :: s.saf.contacts.getD k []).take 3) ∧
      t = { s with regs := t.regs, ev := t.ev, saf := t.saf, out := t.out } ∧ s.RegsBut t [SAF_DCI_STAT.addr]) ∧
    (∀ v : BitVec 8, s.snf.powered = false → exec (.dciSample v) s = .next s) ∧
    (∀ (k : Fin 4) (b : Bool), s.get (permBit (outPair k)) = 1 → exec (.testPulse k b) s =
      .next { s with saf := { s.saf with pulse := s.saf.pulse.set k b } }) ∧
    (∀ (k : Fin 4) (b : Bool), s.get (permBit (outPair k)) = 0 → exec (.testPulse k b) s = .next s) ∧
    (exec .lorReqRise s = .next { s with saf := { s.saf with lorHigh := true } }) ∧
    (exec .lorReqRearm s = .next { s with saf := { s.saf with lorIgnored := s.saf.lorIgnored && s.saf.lorHigh } }) ∧
    (∀ a b : Word16, s.snf.powered = true → s.saf.lorHigh = true → s.saf.lorIgnored = false → 300 ≤ a.toNat → a.toNat ≤ 5000 → 300 ≤ b.toNat →
      b.toNat ≤ 5000 → s.faultPresent = false → (s.saf.latched = false ∨ causeHard (s.get SAF_FAULT.cause) = false) → ∃ t : State,
      exec (.lorReqFall a b false) s = .next t ∧ t.get SAF_LOR_CNT.accepted = (s.get SAF_LOR_CNT.accepted + 1) % 65536 ∧
      s.Keeps t SAF_LOR_CNT.rejected ∧ (s.get SAF_STAT.lockout = 1 → t.saf.lorAccepted = true) ∧
      t.saf = { s.saf with lorHigh := false, lorAccepted := t.saf.lorAccepted } ∧ t = { s with regs := t.regs, saf := t.saf } ∧
      s.RegsBut t [SAF_LOR_CNT.addr]) ∧
    (∀ (a b : Word16) (x : Bool), s.snf.powered = false → exec (.lorReqFall a b x) s = .next { s with saf := { s.saf with lorHigh := false } }) ∧
    (∀ (a b : Word16) (x : Bool), s.snf.powered = true → s.saf.lorHigh = true → s.saf.lorIgnored = false → (a.toNat < 300 ∨ 5000 < a.toNat ∨ b.toNat < 300 ∨
      5000 < b.toNat ∨ x = true ∨ s.faultPresent = true ∨ (s.saf.latched = true ∧ causeHard (s.get SAF_FAULT.cause) = true)) → ∃ t : State,
      exec (.lorReqFall a b x) s = .next t ∧ t.get SAF_LOR_CNT.rejected = satAdd 65535 (s.get SAF_LOR_CNT.rejected) 1 ∧
      t.Pends Ev.lorRejected ∧ t.saf = { s.saf with lorHigh := false } ∧
      t = { s with regs := t.regs, ev := t.ev, saf := t.saf, out := t.out } ∧ s.RegsBut t [SAF_LOR_CNT.addr]) ∧
    (s.saf.lorHigh = true → s.saf.lorIgnored = false → ∃ t : State, exec .lorReqLong s = .next t ∧ t.saf.lorIgnored = true ∧
      t.get SAF_LOR_CNT.rejected = satAdd 65535 (s.get SAF_LOR_CNT.rejected) 1 ∧ t.Pends Ev.lorRejected ∧
      t = { s with regs := t.regs, ev := t.ev, saf := t.saf, out := t.out } ∧ s.RegsBut t [SAF_LOR_CNT.addr]) ∧
    (s.saf.lorAccepted = true → s.snf.powered = true → ∃ t : State, exec .lockoutClear s = .next t ∧ t.get SAF_STAT.lockout = 0 ∧
      t.get HUB_MODE_STAT.lockout = 0 ∧ t.mode = (if s.mode = 10 then 3 else s.mode) ∧ t.saf.latched = false ∧
      t.saf.lorAccepted = false ∧ (s.mode ≠ 11 → t.snf.sel = modeSel s.mode) ∧ t.Pends Ev.lockoutCleared ∧ s.Keeps t SAF_FAULT.cause ∧ s.SameMem t) ∧
    (s.saf.lorAccepted = false ∨ s.snf.powered = false → exec .lockoutClear s = .next s) ∧
    (∃ t : State, exec .vsnfRise s = .next t ∧ t.get SAF_STAT.lockout = 1 ∧ t.get SAF_FAULT.cause = 0x0E ∧ t.snf = SnfSt.init ∧
      t.get SAF_STAT.perm_a = 0 ∧ t.get SAF_STAT.perm_b = 0 ∧ t.saf.sp.table = [] ∧ t.saf.snf.table = [] ∧ t.mode = s.mode ∧ s.SameMem t) ∧
    (∃ t : State, exec .vsnfBrownout s = .next t ∧ t.snf.powered = false ∧ t.snf.sel = .blanked ∧ t.get SAF_STAT.perm_a = 0 ∧
      t.get SAF_STAT.perm_b = 0 ∧ t.saf.sp.table = [] ∧ t.saf.snf.table = [] ∧ t.mode = s.mode ∧ s.SameMem t)


/-- PILOT-LIGHT (R312 to R315): its three causes besides a request, the pilot shots and windows, and the evaluation of pilot cells. Log
entries 19, 47, 55, 97, 98, 197, 206 and 219 bear on its clauses: what they fix is the model's choice. -/
def Obligations.PilotLight : Prop :=
  ∀ s : State,
    (isScan s.mode = true → s.boot.noCluster = true → ∃ t : State, exec .pilotClusterSilence s = .next t ∧ t.mode = 9 ∧
      t.get HUB_MODE_STAT.pilot_cause = 2 ∧ t.get HUB_MODE_STAT.pilot_by_req = 0 ∧ t.get HUB_MODE_STAT.req_busy = 0 ∧
      t.snf.pilotOn = true ∧ t.snf.pilotOccupied = true ∧ t.get SAF_STAT.perm_b = 0 ∧ Out.taperSync true ∈ t.out ∧ s.SameMem t) ∧
    (isScan s.mode = true → s.get FIRE_FRAME_CTL.run = 1 → ∃ t : State, exec .pilotSummarySilence s = .next t ∧ t.mode = 9 ∧
      t.get HUB_MODE_STAT.pilot_cause = 3 ∧ t.get HUB_MODE_STAT.pilot_by_req = 0 ∧ t.snf.pilotOn = true ∧
      (∀ (c : SafSel) (p : Pair), t.get (grantBit c p) = 0 ∧ t.get (permBit p) = 0) ∧ Out.taperSync true ∈ t.out ∧ s.SameMem t) ∧
    (isScan s.mode = true → s.get FIRE_FRAME_CTL.run = 1 → ∃ t : State, exec .pilotStrobeSilence s = .next t ∧ t.mode = 9 ∧
      t.get HUB_MODE_STAT.pilot_cause = 4 ∧ t.get HUB_MODE_STAT.pilot_by_req = 0 ∧ t.snf.pilotOn = true ∧
      Out.taperSync true ∈ t.out ∧ s.SameMem t) ∧
    (∀ c : ShadeCopy, s.snf.shade = some c → s.snf.pilotAwait = false → s.pilotMay c = true → s.pilotBudget c s.snf.pilotBank = true →
      ∃ t : State, exec .pilotShot s = .next t ∧
      t.out = .strobe true 0 (timeAdd s.now (150 * nsUnits)) 8 ::
        .taper true 0 (taperFrame 0 1 s.snf.pilotSeq s.snf.pilotBank (2 ^ 48 - 1) s.cal.pilotCurrent) :: s.out ∧
      t.snf = { s.snf with
        pilotBank := (s.snf.pilotBank + 1) % 4, pilotSeq := (s.snf.pilotSeq + 1) % 256, pilotAwait := true,
        pilotLedger := chargeAll s.snf.pilotLedger c.windows (List.range 64) s.snf.pilotBank (s.pilotEnergy c) } ∧
      t = { s with snf := t.snf, out := t.out }) ∧
    (∀ c : ShadeCopy, s.snf.shade = some c → s.snf.pilotAwait = false → s.pilotMay c = true → s.pilotBudget c s.snf.pilotBank = false →
      exec .pilotShot s = .next { s with snf := { s.snf with pilotBank := (s.snf.pilotBank + 1) % 4 } }) ∧
    (s.snf.pilotAwait = true → s.snf.pilotFails = 2 → exec .pilotShot s =
      .next { s with snf := { s.snf with pilotAwait := false, pilotFails := 3, pilotOn := false } }) ∧
    (∀ (h : Bool) (a : BitVec 56) (b : BitVec 14), (s.tile (if h then 3 else 2)).pilot.count < 64 → s.mode ≠ 0 →
      s.tileOff (if h then 3 else 2) = false → s.inputsTied (if h then 3 else 2) = false → 256 ≤ b.toNat → exec (.pilotWindow h a b) s =
      .next (s.setTile (if h then 3 else 2) { s.tile (if h then 3 else 2) with pilot := { (s.tile (if h then 3 else 2)).pilot with
        windows := a.toNat :: (s.tile (if h then 3 else 2)).pilot.windows.filter (fun w => decide (stampDiff a.toNat w < 131072)),
        count := (s.tile (if h then 3 else 2)).pilot.count + 1 } })) ∧
    (∀ (h : Bool) (a : BitVec 56) (b : BitVec 14), (s.tile (if h then 3 else 2)).pilot.count < 64 →
      s.mode = 0 ∨ s.tileOff (if h then 3 else 2) = true ∨ s.inputsTied (if h then 3 else 2) = true ∨ b.toNat < 256 → exec (.pilotWindow h a b) s = .next s) ∧
    (∀ (h : Bool) (x : TileSt) (l : JexLink), s.tiles[if h then 3 else 2]? = some x → s.hub.links[if h then 21 else 20]? = some l →
      l.down = false → 64 ≤ x.pilot.count → ∃ t : State, exec (.pilotBufferSeal h) s = .next t ∧
      t.tile (if h then 3 else 2) = { x with pilot := { x.pilot with count := 0, bins := [] } } ∧
      t.snf = { s.snf with pilotCells := s.snf.pilotCells.set (if h then 1 else 0) x.pilot.bins,
                           pilotSilent := s.snf.pilotSilent.set (if h then 1 else 0) false,
                           pilotNew := s.snf.pilotNew.set (if h then 1 else 0) true } ∧
      t = { s with tiles := t.tiles, snf := t.snf }) ∧
    (∀ h : Bool, (s.tile (if h then 3 else 2)).pilot.count < 64 → exec (.pilotBufferSeal h) s = .next s) ∧
    (∀ h : Bool, exec (.pilotPowerAll h) s = .next (s.setTile (if h then 3 else 2) { s.tile (if h then 3 else 2) with
      pilot := { (s.tile (if h then 3 else 2)).pilot with
        powerAll := some ((s.tile (if h then 3 else 2)).pilot.powerAll.getD s.now) } })) ∧
    (s.snf.shade.isSome = true → s.cal.pilotOk = true → s.snf.pilotOn = true →
      s.snf.pilotNew.getD (if s.snf.pilotSilent.getD 0 false = true ∨ s.tileOff 2 = true then 1 else 0) false = false →
      exec .pilotEvaluate s = .next s) ∧
    (∀ v : Nat, (if s.snf.pilotSilent.getD 0 false = true ∨ s.tileOff 2 = true then 1 else 0) = v →
      s.snf.shade = none ∨ s.cal.pilotOk = false ∨ s.snf.pilotOn = false ∨ s.snf.pilotNew.getD v false = true →
      ∃ t : State, exec .pilotEvaluate s = .next t ∧
      t.snf = { s.snf with pilotOccupied := t.snf.pilotOccupied, pilotNew := s.snf.pilotNew.set v false } ∧
      (s.snf.shade.isSome = true → s.cal.pilotOk = true → s.snf.pilotOn = true →
        t.snf.pilotOccupied = s.pilotOccupied (s.snf.pilotCells.getD v [])) ∧
      (s.snf.shade = none ∨ s.cal.pilotOk = false ∨ s.snf.pilotOn = false → t.snf.pilotOccupied = true) ∧
      (s.mode = 9 → t.snf.pilotOccupied = true → t.get SAF_STAT.snf_grant_a = 0 ∧ t.get SAF_STAT.perm_a = 0) ∧
      t = { s with regs := t.regs, ev := t.ev, saf := t.saf, snf := t.snf, out := t.out } ∧ s.RegsBut t [SAF_STAT.addr]) ∧
    (∃ t : State, exec .pilotBlind s = .next t ∧ t.snf = { s.snf with pilotOccupied := true } ∧
      (s.mode = 9 → t.get SAF_STAT.snf_grant_a = 0 ∧ t.get SAF_STAT.perm_a = 0) ∧
      t = { s with regs := t.regs, ev := t.ev, saf := t.saf, snf := t.snf, out := t.out } ∧ s.RegsBut t [SAF_STAT.addr]) ∧
    (∃ t : State, exec .pilotGrantMessage s = .next t ∧
      t.snf = { s.snf with pilotMsg := decide (s.get SAF_STAT.snf_grant_a = 1) && s.snf.powered } ∧
      (s.mode = 9 → t.snf.pilotMsg = false → t.get SAF_STAT.sp_grant_a = 0) ∧
      t = { s with regs := t.regs, ev := t.ev, saf := t.saf, snf := t.snf, out := t.out } ∧ s.RegsBut t [SAF_STAT.addr])


/-- Run, swap and re-key requests, the sync pins and validation (R46, R48 to R51, R55, R56, R61, R409, R410). Log entries 42, 43, 44,
45, 173 and 175 bear on its clauses: what they fix is the model's choice. -/
def Obligations.FireRun : Prop :=
  ∀ s : State,
    (modeFires s.mode = true → s.get FIRE_FRAME_CTL.run = 0 → s.fire.engaged = false ∨ s.fire.phase = .stopping → ∃ t : State,
      exec .runSet s = .next t ∧ t.get FIRE_FRAME_CTL.run = 1 ∧
      t.get FIRE_FRAME_STAT.start_latched = 0 ∧
      t.fire = { s.fire with
        seqs := List.replicate 16 0, engaged := true, stopReq := false, enumerating := true, validRun := true,
        runBuf := s.get FIRE_FRAME_CTL.first_buf,
        firstFrame := true, latch := none, latchUsed := false, startNow := none, phase := .off, startPending := false,
        frameEnd := timeAdd s.now (50 * usUnits) } ∧
      Out.taperSync false ∈ t.out ∧ (∀ d : Fin 16, s.laneOn d = true → Out.taper false (d / 8) (taperFrame d 3 0 0 0 0) ∈ t.out) ∧
      (s.get (HUB_CLAIM.owner 1) = 0 → t.get (HUB_CLAIM.owner 1) = 2) ∧
      (s.get (HUB_CLAIM.owner 1) ≠ 0 → s.get (HUB_CLAIM.owner 1) ≠ 2 → t.get (HUB_CLAIM.denied_seen 1) = 1) ∧
      t = { s with regs := t.regs, ev := t.ev, fire := t.fire, out := t.out } ∧
      s.RegsBut t [FIRE_FRAME_CTL.addr, FIRE_FRAME_STAT.addr, HUB_CLAIM.addr 1]) ∧
    (modeFires s.mode = false → exec .runSet s = .next s) ∧
    (modeFires s.mode = true → s.get FIRE_FRAME_CTL.run = 1 → exec .runSet s = .next (s.claim 1 2 0)) ∧
    (modeFires s.mode = true → s.get FIRE_FRAME_CTL.run = 0 → s.fire.engaged = true → s.fire.phase ≠ .stopping → ∃ t : State,
      exec .runSet s = .next t ∧ t.get FIRE_FRAME_CTL.run = 1 ∧ t.fire = { s.fire with stopReq := s.flag HUB_MODE_STAT.req_busy } ∧
      (s.get (HUB_CLAIM.owner 1) = 0 → t.get (HUB_CLAIM.owner 1) = 2) ∧
      (s.get (HUB_CLAIM.owner 1) ≠ 0 → s.get (HUB_CLAIM.owner 1) ≠ 2 → t.get (HUB_CLAIM.denied_seen 1) = 1 ∧ t.Pends (Ev.claimDenied 1)) ∧
      t = { s with regs := t.regs, ev := t.ev, fire := t.fire, out := t.out } ∧ s.RegsBut t [FIRE_FRAME_CTL.addr, HUB_CLAIM.addr 1]) ∧
    (s.fire.engaged = true → s.fire.phase = .frame ∨ (s.fire.phase = .waiting ∧ s.get FIRE_FRAME_STAT.running = 1) → ∃ t : State, exec .runClear s = .next t ∧
      t.get FIRE_FRAME_CTL.run = 0 ∧ t.get FIRE_FRAME_STAT.start_latched = 0 ∧
      t.fire = { s.fire with stopReq := true, latch := none, latchUsed := false, startNow := none } ∧
      t = { s with regs := t.regs, fire := t.fire } ∧ s.RegsBut t [FIRE_FRAME_CTL.addr, FIRE_FRAME_STAT.addr]) ∧
    (s.fire.engaged = false ∨ s.fire.phase = .stopping → ∃ t : State, exec .runClear s = .next t ∧ t.get FIRE_FRAME_CTL.run = 0 ∧
      t.fire = { s.fire with latch := none, latchUsed := false, startNow := none } ∧ t = { s with regs := t.regs, fire := t.fire } ∧
      s.RegsBut t [FIRE_FRAME_CTL.addr, FIRE_FRAME_STAT.addr]) ∧
    (s.fire.engaged = true → s.fire.phase = .off ∨ (s.fire.phase = .waiting ∧ s.get FIRE_FRAME_STAT.running = 0) → ∃ t : State,
      exec .runClear s = .next t ∧ t.get FIRE_FRAME_CTL.run = 0 ∧ t.fire.engaged = false ∧ t.fire.phase = .off ∧ t.fire.syncDue = [] ∧
      t.fire.committed = s.fire.committed ∧ t.fire.shots = s.fire.shots ∧ (s.get (HUB_CLAIM.owner 1) = 2 → t.get (HUB_CLAIM.owner 1) = 0) ∧
      t.out = s.syncFlush.out ∧ t = { s with regs := t.regs, fire := t.fire, out := t.out } ∧ s.RegsBut t [FIRE_FRAME_CTL.addr, FIRE_FRAME_STAT.addr, HUB_CLAIM.addr 1]) ∧
    (s.get FIRE_FRAME_CTL.swap_req = 0 → ∃ t : State, exec .swapReq s = .next t ∧ t.get FIRE_FRAME_CTL.swap_req = 1 ∧
      t.get FIRE_FRAME_STAT.swap_pending = 0 ∧
      t.fire = { s.fire with validSwap := true, swapBuf := 1 - s.get FIRE_FRAME_STAT.active_buf, swapEdge := none, swapLate := false } ∧
      t = { s with regs := t.regs, fire := t.fire } ∧ s.RegsBut t [FIRE_FRAME_CTL.addr, FIRE_FRAME_STAT.addr]) ∧
    (s.get FIRE_FRAME_CTL.swap_req = 1 → exec .swapReq s = .next s) ∧
    (∀ a b : Fin 4, a ≠ 1 → b ≠ 1 → ∃ t : State, exec (.syncPinSelect a b) s = .next t ∧ t.get FIRE_FRAME_CTL.start_mode = a.val ∧
      t.get FIRE_FRAME_CTL.swap_mode = b.val ∧ (s.get (HUB_CLAIM.owner 0) = 2 → t.get (HUB_CLAIM.owner 0) = 0) ∧
      (s.get (HUB_CLAIM.owner 0) ≠ 2 → s.Keeps t (HUB_CLAIM.owner 0)) ∧ s.OnlyRegs t [FIRE_FRAME_CTL.addr, HUB_CLAIM.addr 0]) ∧
    (∀ a b : Fin 4, a = 1 ∨ b = 1 → s.get (HUB_CLAIM.owner 0) = 0 ∨ s.get (HUB_CLAIM.owner 0) = 2 → ∃ t : State,
      exec (.syncPinSelect a b) s = .next t ∧ t.get FIRE_FRAME_CTL.start_mode = a.val ∧ t.get FIRE_FRAME_CTL.swap_mode = b.val ∧
      t.get (HUB_CLAIM.owner 0) = 2 ∧ s.OnlyRegs t [FIRE_FRAME_CTL.addr, HUB_CLAIM.addr 0]) ∧
    (∀ a b : Fin 4, a = 1 ∨ b = 1 → s.get (HUB_CLAIM.owner 0) ≠ 0 → s.get (HUB_CLAIM.owner 0) ≠ 2 → ∃ t : State,
      exec (.syncPinSelect a b) s = .next t ∧ t.get FIRE_FRAME_CTL.start_mode = (if a = 1 then s.get FIRE_FRAME_CTL.start_mode else a.val) ∧
      t.get FIRE_FRAME_CTL.swap_mode = (if b = 1 then s.get FIRE_FRAME_CTL.swap_mode else b.val) ∧ s.Keeps t (HUB_CLAIM.owner 0) ∧
      t.get (HUB_CLAIM.last_denied 0) = 2 ∧ t.get (HUB_CLAIM.denied_seen 0) = 1 ∧ t.Pends (Ev.claimDenied 0) ∧
      s.OnlyRegsEv t [FIRE_FRAME_CTL.addr, HUB_CLAIM.addr 0]) ∧
    (∀ v : Word16, s.fire.enumerating = true → ∃ t : State, exec (.taperEnumDone v) s = .next t ∧
      t.get FIRE_TAPER_STAT.drv_present = v.toNat ∧ t.fire = { s.fire with enumerating := false } ∧
      t = { s with regs := t.regs, fire := t.fire } ∧ s.RegsBut t [FIRE_TAPER_STAT.addr]) ∧
    (s.fire.validRun = true → s.fire.enumerating = false → (s.frameJudge s.fire.runBuf).1.1 = 0 → ∀ r : State,
      (s.frameJudge s.fire.runBuf).2 = r → ∃ t : State, exec .frameValidationDone s = .next t ∧
      t.get FIRE_FRAME_STAT.active_buf = s.fire.runBuf % 2 ∧ t.get FIRE_FRAME_STAT.val_err = 0 ∧
      (s.get FIRE_FRAME_CTL.swap_req = 0 ∨ s.fire.swapBuf ≠ s.fire.runBuf → t.fire = { s.fire with
        validRun := false, phase := .waiting, span := s.get FIRE_CODE_CFG.code_span_ns, codes := s.codesFor (s.get FIRE_CODE_CFG.code_span_ns) }) ∧
      (s.get FIRE_FRAME_CTL.swap_req = 1 → s.fire.swapBuf = s.fire.runBuf → t.get FIRE_FRAME_STAT.swap_pending = 0 ∧ t.fire = { s.fire with
        validRun := false, phase := .waiting, span := s.get FIRE_CODE_CFG.code_span_ns, codes := s.codesFor (s.get FIRE_CODE_CFG.code_span_ns),
        validSwap := true, swapBuf := 1 - s.fire.runBuf % 2, swapLate := false }) ∧
      t = { r with regs := t.regs, fire := t.fire } ∧ r.RegsBut t [FIRE_FRAME_STAT.addr]) ∧
    (s.fire.validRun = true → s.fire.enumerating = false → (s.frameJudge s.fire.runBuf).1.1 ≠ 0 → ∃ t : State,
      exec .frameValidationDone s = .next t ∧ t.get FIRE_FRAME_STAT.val_err = (s.frameJudge s.fire.runBuf).1.1 % 16 ∧
      t.get FIRE_FRAME_VAL.err_index = (s.frameJudge s.fire.runBuf).1.2 % 16384 ∧ t.fire.engaged = false ∧ t.fire.phase = .off ∧
      t.get FIRE_FRAME_CTL.run = 0 ∧ t.get FIRE_FRAME_CTL.swap_req = 0 ∧ t.get FIRE_FRAME_STAT.swap_pending = 0 ∧ t.fire.validSwap = false ∧
      t.Pends Ev.frameValidationFailed ∧ s.SameMem t) ∧
    (s.fire.validRun = false → s.fire.validSwap = true → (s.frameJudge s.fire.swapBuf).1.1 = 0 →
      s.get FIRE_FRAME_CTL.swap_mode ≠ 2 → ∀ r : State, (s.frameJudge s.fire.swapBuf).2 = r →
      ∃ t : State, exec .frameValidationDone s = .next t ∧ t.get FIRE_FRAME_STAT.swap_pending = 1 ∧ t.get FIRE_FRAME_STAT.val_err = 0 ∧
      t.fire = { s.fire with validSwap := false, swapSpan := s.get FIRE_CODE_CFG.code_span_ns, swapLate := false } ∧
      t.twn = { s.twn with pairHold := s.pairSwaps && s.flag TWN_STAT.hb_valid && s.twn.peer.elim false (fun h => h.swapPending) } ∧
      t = { r with regs := t.regs, fire := t.fire, twn := t.twn } ∧ r.RegsBut t [FIRE_FRAME_STAT.addr]) ∧
    (s.fire.validRun = false → s.fire.validSwap = true → (s.frameJudge s.fire.swapBuf).1.1 ≠ 0 → ∀ r : State,
      (s.frameJudge s.fire.swapBuf).2 = r → ∃ t : State, exec .frameValidationDone s = .next t ∧ t.get FIRE_FRAME_CTL.swap_req = 0 ∧
      s.Keeps t FIRE_FRAME_STAT.swap_pending ∧ t.get FIRE_FRAME_STAT.val_err = (s.frameJudge s.fire.swapBuf).1.1 % 16 ∧
      t.fire = { s.fire with validSwap := false } ∧ t.Pends Ev.frameValidationFailed ∧
      t = { r with regs := t.regs, ev := t.ev, fire := t.fire, out := t.out } ∧
      r.RegsBut t [FIRE_FRAME_CTL.addr, FIRE_FRAME_STAT.addr, FIRE_FRAME_VAL.addr]) ∧
    (s.fire.engaged = true → ∃ t : State, exec .rekey s = .next t ∧ t.get FIRE_CODE_CFG.rekey = 1 ∧
      t.fire = { s.fire with nextKey := some (s.get FIRE_CODE_KEY.key) } ∧ t = { s with regs := t.regs, fire := t.fire } ∧
      s.RegsBut t [FIRE_CODE_CFG.addr]) ∧
    (s.fire.engaged = false → ∃ t : State, exec .rekey s = .next t ∧ t.get FIRE_CODE_CFG.rekey = 0 ∧
      t.fire = { s.fire with codes := s.codesFor s.fire.span, nextKey := none } ∧ t.Pends Ev.codeRekeyed ∧
      t = { s with regs := t.regs, ev := t.ev, fire := t.fire, out := t.out } ∧ s.RegsBut t [FIRE_CODE_CFG.addr])

/-- Frames (R43, R45, R47 to R49, R51 to R54, R63, R65, R70, R429): decision points, frame start and end, start requests, the index,
positions, and the step from the prefetch queue to a shot. Log entries 11, 38, 42, 43, 44, 45, 46, 50, 52, 173, 176, 206, 207 and 226
bear on its clauses: what they fix is the model's choice. -/
def Obligations.FireFrames : Prop :=
  ∀ s : State,
    (∀ u : State, s.startsDue = u → u.fire.phase = .off ∨ u.fire.phase = .stopping → exec .decisionPoint s = .next u) ∧
    (∀ u : State, s.startsDue = u → u.fire.phase = .waiting ∨ (u.fire.phase = .frame ∧ 0 < u.fire.entry ∧ u.fire.atBoundary = true) → u.fire.stopReq = true → ∃ t : State,
      exec .decisionPoint s = .next t ∧ t.fire.phase = .stopping ∧ t.fire.stopReq = false ∧ t.fire.engaged = u.fire.engaged ∧
      u.Keeps t FIRE_FRAME_CTL.run ∧ u.Keeps t FIRE_FRAME_STAT.running ∧ t.get FIRE_FRAME_STAT.start_latched = 0 ∧
      t.fire.committed = u.fire.committed ∧ t.fire.shots = u.fire.shots ∧ t.fire.cells = u.fire.cells ∧ t.mode = u.mode ∧ u.SameMem t) ∧
    (∀ u : State, s.startsDue = u → u.fire.phase = .waiting → u.fire.stopReq = false → u.phaseTake.nextStart = none → exec .decisionPoint s = .next u.phaseTake) ∧
    (∀ u : State, s.startsDue = u → ∀ (a : Nat) (e : Option Nat), u.phaseTake.nextStart = some (a, e) → u.fire.phase = .waiting → u.fire.stopReq = false → ∃ t : State,
      exec .decisionPoint s = .next t ∧ t.fire.phase = .frame ∧ t.fire.startPending = true ∧ t.fire.nextT0 = a ∧ t.fire.entry = 0 ∧
      t.fire.nominal = timeAdd a (u.get FIRE_TIMING_CFG.blind_len_us * usUnits) ∧ t.fire.startNow = none ∧
      t.fire.frames = u.fire.frames + 1 ∧ u.fire.committed <+: t.fire.committed ∧
      (∀ c ∈ t.fire.committed.drop u.fire.committed.length, c.proof = true ∧ c.noRx = true) ∧
      (u.phaseTake.swapAtStart a e = true → t.get FIRE_FRAME_STAT.active_buf = u.fire.swapBuf % 2 ∧
        t.get FIRE_FRAME_STAT.frame_epoch = (u.get FIRE_FRAME_STAT.frame_epoch + 1) % 256 ∧ t.get FIRE_FRAME_STAT.swap_pending = 0 ∧
        t.get FIRE_FRAME_CTL.swap_req = 0 ∧ t.Pends Ev.frameSwapped) ∧
      (u.phaseTake.swapAtStart a e = false → u.Keeps t FIRE_FRAME_STAT.active_buf ∧ u.Keeps t FIRE_FRAME_STAT.frame_epoch) ∧
      t.mode = u.mode ∧ u.SameMem t) ∧
    (∀ u : State, s.startsDue = u → u.fire.phase = .frame → u.fire.entry = 0 ∨ u.fire.atBoundary = false → ∀ buf : Nat, u.get FIRE_FRAME_STAT.active_buf = buf →
      ∀ w : Nat, u.entryWord buf u.fire.entry = w → u.fireBad (bufBase buf + 8 * u.fire.entry) 8 = false → ∃ t : State,
      exec .decisionPoint s = .next t ∧ t.fire.entry = u.fire.entry + 1 ∧ t.fire.committed.dropLast = u.fire.committed ∧
      (t.fire.committed.getLast?.map (fun c => (c.bank, c.segset, c.mask, c.current, c.fine, c.nominal, c.buf)) =
        some (entBank w, entSegset w, (if u.fireBad (bufBase buf + 0x20000 + 8 * entSegset w) 8 then 0 else segMask (u.segWord buf (entSegset w))),
          entCurrent w, entFine w, u.fire.nominal, buf)) ∧
      t.fire.nominal = timeAdd u.fire.nominal (entInterval w * nsUnits) ∧
      (t.fire.phase = .waiting ↔ u.get (FIRE_FRAME_LEN.entries buf) ≤ u.fire.entry + 1) ∧
      t = { u with regs := t.regs, hub := t.hub, ev := t.ev, fire := t.fire, out := t.out } ∧
      ∀ a, w256Reg a = false → evReg a = false → t.reg a = u.reg a) ∧
    (∀ u : State, s.startsDue = u → u.fire.phase = .frame → u.fire.entry = 0 ∨ u.fire.atBoundary = false → ∀ buf : Nat, u.get FIRE_FRAME_STAT.active_buf = buf →
      u.fireBad (bufBase buf + 8 * u.fire.entry) 8 = true → ∃ t : State, exec .decisionPoint s = .next t ∧ t.fire.engaged = false ∧
      t.fire.phase = .off ∧ t.fire.committed = [] ∧ t.fire.cells = [] ∧ t.fire.shots = u.fire.shots.filter (fun x => !x.unstruck) ∧
      t.get FIRE_FRAME_CTL.run = 0 ∧ t.mode = u.mode ∧ u.SameMem t) ∧
    (s.fire.startPending = true → s.fire.hadFrame = false → ∃ t : State, exec .frameStart s = .next t ∧
      t.get FIRE_FRAME_STAT.running = 1 ∧ t.fire.t0 = s.fire.nextT0 ∧ t.fire.startPending = false ∧ t.fire.firstFrame = false ∧
      t.fire.prevT0 = none ∧ t.fire.hadFrame = true ∧ t.fire.oldBuf = none ∧
      (s.get (HUB_CLAIM.owner 1) = 2 → t.out = .syncOut s.fire.nextT0 ::
        ((s.fire.syncDue.filter (fun x => modGe 64 s.now x)).map (fun x => Out.syncOut x)).reverse ++ s.out) ∧
      (s.get (HUB_CLAIM.owner 1) ≠ 2 → t.out = s.out) ∧ t.fire.syncDue = s.fire.syncDue.filter (fun x => !modGe 64 s.now x) ∧ t = { s with regs := t.regs, fire := t.fire, out := t.out } ∧
      s.RegsBut t [FIRE_FRAME_STAT.addr]) ∧
    (s.fire.startPending = true → s.fire.hadFrame = true → ∃ t : State, exec .frameStart s = .next t ∧
      t.get FIRE_FRAME_STAT.running = 1 ∧ t.fire.t0 = s.fire.nextT0 ∧ t.fire.startPending = false ∧ t.fire.firstFrame = false ∧
      t.fire.prevT0 = some s.fire.t0 ∧ t.fire.oldBuf = none ∧ t.fire.indexTimes = indexKeep s.fire.t0 s.fire.indexTimes ∧
      (s.fire.latchUsed = true → t.fire.latch = none ∧ t.get FIRE_FRAME_STAT.start_latched = 0) ∧
      t = { s with regs := t.regs, ev := t.ev, fire := t.fire, out := t.out } ∧
      s.RegsBut t [FIRE_FRAME_STAT.addr, FIRE_MIRROR_STAT.addr]) ∧
    (∀ u : State, s.startsDue = u → u.get FIRE_FRAME_STAT.running = 1 → u.fire.phase = .stopping → ∃ t : State, exec .frameEnd s = .next t ∧ t.fire.engaged = false ∧
      t.fire.phase = .off ∧ t.get FIRE_FRAME_STAT.running = 0 ∧ t.get FIRE_FRAME_CTL.run = 0 ∧ t.fire.committed = u.fire.committed ∧
      t.fire.shots = u.fire.shots ∧ t.fire.cells = u.fire.cells ∧ t.mode = u.mode ∧ u.SameMem t) ∧
    (∀ u : State, s.startsDue = u → u.get FIRE_FRAME_STAT.running = 0 → exec .frameEnd s = .next u) ∧
    (∀ u : State, s.startsDue = u → u.get FIRE_FRAME_STAT.running = 1 → u.fire.stopReq = false → u.fire.phase ≠ .stopping → ∃ t : State, exec .frameEnd s = .next t ∧
      t.get FIRE_FRAME_STAT.running = 0 ∧ t.twn.lastFrameLen = timeDiff u.fire.frameEnd u.fire.t0 ∧ t.twn.ovl = [] ∧
      (u.get TWN_OVL_CFG.ovl_frac * u.twn.matched < 256 * u.twn.disagreed → t.Pends Ev.twinOverlapMismatch ∧
        t.get TWN_STAT.ovl_seen = 1) ∧
      (u.fire.latch = none → t.fire = u.fire) ∧
      (∀ e : Nat, u.fire.latch = some e → u.fire.latchUsed = false → u.fire.phase = .waiting →
        t.fire.startNow = some e ∧ t.fire.latch = none ∧ t.get FIRE_FRAME_STAT.start_latched = 0) ∧
      t = { u with regs := t.regs, ev := t.ev, fire := t.fire, twn := t.twn, out := t.out } ∧
      u.RegsBut t [FIRE_FRAME_STAT.addr, TWN_STAT.addr]) ∧
    (s.get FIRE_FRAME_CTL.start_mode = 1 → s.get FIRE_FRAME_CTL.swap_mode ≠ 1 → s.twn.following = false → s.fire.engaged = true →
      s.get FIRE_FRAME_CTL.run = 1 → s.fire.phase = .frame → s.fire.latch = none → ∃ t : State, exec .syncInEdge s = .next t ∧
      t.get FIRE_FRAME_STAT.start_latched = 1 ∧ t.fire = { s.fire with latch := some s.now } ∧
      t = { s with regs := t.regs, fire := t.fire } ∧ s.RegsBut t [FIRE_FRAME_STAT.addr]) ∧
    (∀ e : Nat, s.fire.latch = some e → s.get FIRE_FRAME_CTL.start_mode = 1 → s.get FIRE_FRAME_CTL.swap_mode ≠ 1 →
      s.twn.following = false → s.fire.engaged = true → s.get FIRE_FRAME_CTL.run = 1 → s.fire.phase = .frame → ∃ t : State,
      exec .syncInEdge s = .next t ∧ t.get FIRE_FRAME_STAT.start_overrun = 1 ∧ t.Pends Ev.startOverrun ∧
      s.OnlyRegsEv t [FIRE_FRAME_STAT.addr]) ∧
    (s.get FIRE_FRAME_CTL.start_mode ≠ 1 → s.get FIRE_FRAME_CTL.swap_mode = 1 → s.get FIRE_FRAME_CTL.swap_req = 1 →
      s.fire.swapEdge = none → exec .syncInEdge s = .next { s with fire := { s.fire with swapEdge := some s.now } }) ∧
    (∀ v : Word32, s.get FIRE_FRAME_CTL.start_mode ≠ 2 → ∃ t : State, exec (.mirrorIndex v) s = .next t ∧
      t.fire.indexLatch = (s.now, v.toNat) :: s.fire.indexLatch ∧ t.fire.indexTimes = s.now :: s.fire.indexTimes ∧
      (∀ u : Nat, s.fire.indexTimes.head? = some u → t.fire.indexPeriod = timeDiff s.now u) ∧ t = { s with fire := t.fire }) ∧
    (∀ v : Word32, s.get FIRE_FRAME_CTL.start_mode = 2 → s.twn.following = false → s.fire.engaged = true →
      s.get FIRE_FRAME_CTL.run = 1 → s.fire.phase = .frame → s.fire.latch = none → ∃ t : State, exec (.mirrorIndex v) s = .next t ∧
      t.fire.indexLatch = (s.now, v.toNat) :: s.fire.indexLatch ∧ t.fire.latch = some s.now ∧ t.get FIRE_FRAME_STAT.start_latched = 1 ∧
      t = { s with regs := t.regs, fire := t.fire } ∧ s.RegsBut t [FIRE_FRAME_STAT.addr]) ∧
    (s.get FIRE_FRAME_CTL.start_mode = 2 → s.fire.engaged = true → ∃ t : State, exec .mirrorIndexMissing s = .next t ∧
      t.get FIRE_MIRROR_STAT.index_missing = 1 ∧ t.Pends Ev.mirrorIndexMissing ∧ s.OnlyRegsEv t [FIRE_MIRROR_STAT.addr]) ∧
    (s.get FIRE_FRAME_CTL.start_mode ≠ 2 ∨ s.fire.engaged = false → exec .mirrorIndexMissing s = .next s) ∧
    (∀ v : Word32, s.posSrc ≠ 0 → exec (.positionSample v) s =
      .next { s with fire := { s.fire with
        samples := ⟨s.now, v.toNat, s.fire.indexLatch⟩ ::
          samplesKeep (s.fire.cells.foldl (fun t c => earlierOf t c.firstS) s.now) s.fire.samples,
        indexLatch := [] } }) ∧
    (∀ v : Word32, s.posSrc = 0 → exec (.positionSample v) s = .next s) ∧
    (∀ (c : Committed) (l : List Committed), s.fire.committed = c :: l → s.shortRemoved c.bank c.mask ≠ 0 → ∃ t : State,
      exec .entryPrefetch s = .next t ∧ t.fire.committed = l ∧
      t.fire.shots = s.fire.shots ++ [⟨{ c with mask := s.shortRemoved c.bank c.mask }, s.get (FIRE_BANK_CFG.driver c.bank),
        s.get (FIRE_BANK_CFG.local_bank c.bank), timeAdd c.nominal (c.codeNs * nsUnits + c.fine * 256), .fetched, 0, none, none, false⟩] ∧
      t.fire.syncDue = s.fire.syncDue ++ (if c.syncOut then [timeAdd c.nominal (c.codeNs * nsUnits + c.fine * 256)] else []) ∧
      t = { s with fire := t.fire }) ∧
    (∀ (c : Committed) (l : List Committed), s.fire.committed = c :: l → s.shortRemoved c.bank c.mask = 0 → ∃ t : State,
      exec .entryPrefetch s = .next t ∧ t.fire.committed = l ∧ t.fire.shots = s.fire.shots ∧
      t.get FIRE_SHOT_STAT.suppressed = (s.get FIRE_SHOT_STAT.suppressed + 1) % 2 ^ 32 ∧
      t = { s with regs := t.regs, fire := t.fire } ∧ s.RegsBut t [FIRE_SHOT_STAT.addr])


/-- Shade (R54, R66 to R69, R292): a fetched shot is suppressed, admitted and charged in both ledgers, or refused by a budget; bucket
periods, the lock, budget writes, the temperature inhibit, and Snuffer's comparison of the ledgers. Log entries 22 and 29 bear on its
clauses: what they fix is the model's choice. -/
def Obligations.Shade : Prop :=
  ∀ s : State,
    (∀ x : Shot, s.fire.shotAt .fetched = some x → ∀ u : State, s.fireScan 35 (0x80000 + 2 * x.c.current) 2 = u →
      s.tempBlocked = true ∨ s.drvFaulted x.driver = true ∨ s.fireBad (0x80000 + 2 * x.c.current) 2 = true → ∃ t : State,
      exec .shadeCheck s = .next t ∧ t.fire.shots = s.fire.shots.filter (fun y => !sameShot x y) ∧ t.fire.ledger = s.fire.ledger ∧
      t.get FIRE_SHOT_STAT.suppressed = (s.get FIRE_SHOT_STAT.suppressed + 1) % 2 ^ 32 ∧ t = { u with regs := t.regs, fire := t.fire } ∧
      u.RegsBut t [FIRE_SHOT_STAT.addr]) ∧
    (∀ x : Shot, s.fire.shotAt .fetched = some x → ∀ u : State, s.fireScan 35 (0x80000 + 2 * x.c.current) 2 = u → s.fireBad (0x80000 + 2 * x.c.current) 2 = false →
      s.tempBlocked = false → s.drvFaulted x.driver = false →
      s.budgetOk x.c.bank (s.shotEnergy x) (s.shotBins x.time) = true → s.snf.shade = none → exec .shadeCheck s =
      .next { u with fire := { s.fire with
        shots := s.fire.shots.map (fun y => if sameShot x y then { x with stage := .admitted } else y),
        ledger := chargeAll s.fire.ledger s.shadeWindows (s.shotBins x.time) x.c.bank (s.shotEnergy x) } }) ∧
    (∀ x : Shot, s.fire.shotAt .fetched = some x → ∀ c : ShadeCopy, s.snf.shade = some c →
      ∀ u : State, s.fireScan 35 (0x80000 + 2 * x.c.current) 2 = u →
      s.fireBad (0x80000 + 2 * x.c.current) 2 = false → s.tempBlocked = false →
      s.drvFaulted x.driver = false → s.budgetOk x.c.bank (s.shotEnergy x) (s.shotBins x.time) = true →
      (maskBits x.c.mask).length * c.energyOf x.c.current = s.shotEnergy x →
      ∀ l : List (Nat × List Nat), chargeAll s.snf.ledger c.windows (s.shotBins x.time) x.c.bank (s.shotEnergy x) = l →
      (∀ w ∈ c.windows, ∀ b ∈ s.shotBins x.time, { s.snf with ledger := l }.sum (ledgerKey w x.c.bank b) ≤ c.budgets.getD w 0) →
      (∀ v : Int, s.snf.boardTemp = some v → tempOutside c v = false) → ∃ t : State,
      exec .shadeCheck s = .next t ∧
      t.fire.ledger = chargeAll s.fire.ledger s.shadeWindows (s.shotBins x.time) x.c.bank (s.shotEnergy x) ∧
      t.fire.shots = s.fire.shots.map (fun y => if sameShot x y then { x with stage := .admitted } else y) ∧
      t.snf = { s.snf with ledger := l } ∧ t = { u with fire := t.fire, snf := t.snf }) ∧
    (∀ x : Shot, s.fire.shotAt .fetched = some x → ∀ c : ShadeCopy, s.snf.shade = some c → s.fireBad (0x80000 + 2 * x.c.current) 2 = false →
      s.tempBlocked = false →
      s.drvFaulted x.driver = false → s.budgetOk x.c.bank (s.shotEnergy x) (s.shotBins x.time) = true →
      (maskBits x.c.mask).length * c.energyOf x.c.current ≠ s.shotEnergy x → ∃ t : State,
      exec .shadeCheck s = .next t ∧ s.SafeAfter t 0x09 0 [] ∧
      t.snf.ledger = chargeAll s.snf.ledger c.windows (s.shotBins x.time) x.c.bank ((maskBits x.c.mask).length * c.energyOf x.c.current)) ∧
    (∀ x : Shot, s.fire.shotAt .fetched = some x → ∀ u : State, s.fireScan 35 (0x80000 + 2 * x.c.current) 2 = u → s.fireBad (0x80000 + 2 * x.c.current) 2 = false →
      s.tempBlocked = false → s.drvFaulted x.driver = false →
      s.budgetOk x.c.bank (s.shotEnergy x) (s.shotBins x.time) = false → ∃ t : State, exec .shadeCheck s = .next t ∧
      t.fire.shots = s.fire.shots.filter (fun y => !sameShot x y) ∧ t.fire.ledger = s.fire.ledger ∧
      t.get FIRE_SHOT_STAT.suppressed = (s.get FIRE_SHOT_STAT.suppressed + 1) % 2 ^ 32 ∧
      t.get SHADE_SUPPRESS_CNT.count = satAdd (2 ^ 32 - 1) (s.get SHADE_SUPPRESS_CNT.count) 1 ∧ t.get SHADE_STAT.suppress_seen = 1 ∧
      (s.fire.cells.all (fun y => !(y.id == x.c.cell && y.suppressSeen)) = true → t.Pends Ev.shadeSuppress) ∧
      t = { u with regs := t.regs, ev := t.ev, fire := t.fire, out := t.out } ∧
      u.RegsBut t [FIRE_SHOT_STAT.addr, SHADE_SUPPRESS_CNT.addr, SHADE_STAT.addr]) ∧
    (∀ w : Fin 3, exec (.shadeBucketAdvance w) s = .next { s with
      fire := { s.fire with ledger := advanceLedger s.fire.ledger w },
      snf := { s.snf with ledger := advanceLedger s.snf.ledger w, pilotLedger := advanceLedger s.snf.pilotLedger w } }) ∧
    (s.get SHADE_CTL.lock = 0 → s.snf.powered = true → s.fireBad 0x80000 512 = false → ∃ t : State, exec (.shadeLock true) s = .next t ∧
      t.get SHADE_CTL.lock = 1 ∧ t.snf = { s.snf with shade := some s.shadeCopy, ledger := s.fire.ledger } ∧
      t = { s.fireScan 35 0x80000 512 with regs := t.regs, snf := t.snf } ∧ (s.fireScan 35 0x80000 512).RegsBut t [SHADE_CTL.addr]) ∧
    (∀ b : Bool, s.get SHADE_CTL.lock = 0 → s.snf.powered = true → b = false ∨ s.fireBad 0x80000 512 = true → ∃ t : State,
      exec (.shadeLock b) s = .next t ∧ t.get SHADE_CTL.lock = 1 ∧
      s.SafeAfter t 0x09 0 []) ∧
    (∀ b : Bool, s.get SHADE_CTL.lock = 1 → exec (.shadeLock b) s = .next s) ∧
    (∀ (w : Fin 3) (v : Word32), s.get SHADE_CTL.lock = 0 → ∃ t : State, exec (.shadeBudgetWrite w v) s = .next t ∧
      t.get (SHADE_WIN_BUDGET.budget w) = v.toNat ∧ s.OnlyRegs t [SHADE_WIN_BUDGET.addr w]) ∧
    (∀ (w : Fin 3) (v : Word32), s.get SHADE_CTL.lock = 1 → v.toNat ≤ s.get (SHADE_WIN_BUDGET.budget w) → ∃ t : State,
      exec (.shadeBudgetWrite w v) s = .next t ∧ t.get (SHADE_WIN_BUDGET.budget w) = v.toNat ∧
      t.snf.shade = s.snf.shade.map (fun c => { c with budgets := c.budgets.set w v.toNat }) ∧
      t = { s with regs := t.regs, snf := { s.snf with shade := t.snf.shade } } ∧ s.RegsBut t [SHADE_WIN_BUDGET.addr w]) ∧
    (∀ (w : Fin 3) (v : Word32), s.get SHADE_CTL.lock = 1 → s.get (SHADE_WIN_BUDGET.budget w) < v.toNat → ∃ t : State,
      exec (.shadeBudgetWrite w v) s = .next t ∧ t.Pends Ev.shadeConfigRejected ∧ s.OnlyRegsEv t []) ∧
    (3 ≤ s.fire.tempRuns.getD 0 0 → ∃ t : State, exec .shadeTempInhibit s = .next t ∧ t.get SHADE_STAT.temp_inhibit = 1 ∧
      (s.get SHADE_STAT.temp_inhibit = 0 → t.Pends Ev.shadeTempInhibit ∧ t.fire = { s.fire with tempIn := [false, false] }) ∧
      (s.get SHADE_STAT.temp_inhibit = 1 → t = s) ∧
      t = { s with regs := t.regs, ev := t.ev, fire := t.fire, out := t.out } ∧ s.RegsBut t [SHADE_STAT.addr]) ∧
    (s.fire.tempStale.getD 0 false = false → ∃ t : State, exec (.shadeTempStale 0) s = .next t ∧ t.get SHADE_STAT.temp_stale = 1 ∧
      t.get SHADE_STAT.temp_inhibit = 1 ∧
      (s.get SHADE_STAT.temp_inhibit = 0 → t.Pends Ev.shadeTempStale ∧ t.fire.tempIn = [false, false]) ∧
      (s.get SHADE_STAT.temp_inhibit = 1 → t.ev = s.ev ∧ t.fire.tempIn = s.fire.tempIn) ∧ t.fire.tempStale = s.fire.tempStale.set 0 true ∧ t = { s with regs := t.regs, ev := t.ev, fire := t.fire, snf := t.snf, out := t.out } ∧
      s.RegsBut t [SHADE_STAT.addr]) ∧
    (s.get SHADE_TEMP_CFG.rtd_b_en = 0 → exec (.shadeTempStale 1) s = .next s) ∧
    (s.snf.shade.isSome = true → s.get SHADE_CTL.lock = 1 → s.fire.ledger ≠ s.snf.ledger → ∃ t : State,
      exec .shadeDigest s = .next t ∧ s.SafeAfter t 0x09 0 []) ∧
    (s.fire.ledger = s.snf.ledger → exec .shadeDigest s = .next s)

/-- The Taper bus and emitter diagnosis (R53, R54, R59, R60, R62, R70, R71, R313): command frames, strobes, status frames, driver
faults, and the states of segments. Log entries 47, 48, 49, 51, 173, 177, 178, 206 and 208 bear on its clauses: what they fix is the
model's choice. -/
def Obligations.TaperBus : Prop :=
  ∀ s : State,
    (∀ x : Shot, s.fire.shotAt .noticed = some x → s.drvFaulted x.driver = true → ∃ t : State, exec .shotCommandSend s = .next t ∧
      t.get FIRE_SHOT_STAT.suppressed = (s.get FIRE_SHOT_STAT.suppressed + 1) % 2 ^ 32 ∧
      t.fire.shots = s.fire.shots.map (fun y => if sameShot x y then { x with stage := .judged } else y) ∧ t.fire.seqs = s.fire.seqs ∧
      t = { s with regs := t.regs, fire := t.fire } ∧ s.RegsBut t [FIRE_SHOT_STAT.addr]) ∧
    (∀ x : Shot, s.fire.shotAt .noticed = some x → s.drvFaulted x.driver = false → ∃ t : State, exec .shotCommandSend s = .next t ∧
      t.fire.seqs = s.fire.seqs.set x.driver ((s.fire.seqs.getD x.driver 0 + 1) % 256) ∧
      t.fire.shots = s.fire.shots.map (fun y => if sameShot x y then { x with stage := .commanded, seq := s.fire.seqs.getD x.driver 0 } else y) ∧
      t.out = (if s.laneOn x.driver then [.taper false (x.driver / 8) (taperFrame x.driver 1 (s.fire.seqs.getD x.driver 0)
        (x.localBank + 4 * bit x.c.proof) x.c.mask x.c.current)] else []) ++ s.out ∧ t = { s with fire := t.fire, out := t.out }) ∧
    (∀ x : Shot, s.fire.shotAt .commanded = some x → ∀ u : State, s.syncFlush = u → ∃ t : State, exec .strobe s = .next t ∧
      t.get FIRE_SHOT_STAT.fired = (s.get FIRE_SHOT_STAT.fired + 1) % 2 ^ 32 ∧
      t.fire = { s.fire with
        shots := s.fire.shots.map (fun y => if sameShot x y then { x with stage := .struck } else y)
        syncDue := s.fire.syncDue.filter (fun z => !modGe 64 s.now z) } ∧
      t.out = (if s.get (FIRE_STROBE_CFG.enable x.driver) = 1 ∧ (0 < x.driver ∨ s.snf.sel = .hub) then
        [.strobe false x.driver (toField 64 ((x.time : Int) + sx 11 (s.get (FIRE_STROBE_CFG.trim x.driver)) * 256))
          (s.get (FIRE_STROBE_CFG.width x.driver) + 2)] else []) ++ u.out ∧
      t = { s with regs := t.regs, fire := t.fire, out := t.out } ∧ s.RegsBut t [FIRE_SHOT_STAT.addr]) ∧
    (∀ v : BitVec 96, ∀ x : Shot, s.fire.shots.find? (fun x => decide (x.stage = .struck) && x.driver == v.toNat % 16 && x.status.isNone) =
      some x → s.mode ≠ 9 → v.toNat % 256 / 16 = 8 → v.toNat % 16 < 8 → s.get FIRE_TAPER_CFG.lane0_en = 1 →
      exec (.taperStatusReceive 0 v) s = .next { s with fire := { s.fire with
        shots := s.fire.shots.map (fun y => if sameShot x y then { x with status := some (toLE 12 v.toNat) } else y) } }) ∧
    (∀ v : BitVec 96, s.fire.shots.find? (fun x => decide (x.stage = .struck) && x.driver == v.toNat % 16 && x.status.isNone) = none →
      s.mode ≠ 9 → v.toNat % 256 / 16 = 8 → v.toNat % 16 < 8 → s.get FIRE_TAPER_CFG.lane0_en = 1 → exec (.taperStatusReceive 0 v) s =
      .next { s with fire := { s.fire with
        clears := updFirst (fun p => p.1 == v.toNat % 16 && p.2.2.isNone) (fun p => (p.1, p.2.1, some (toLE 12 v.toNat))) s.fire.clears } }) ∧
    (∀ v : BitVec 96, s.mode = 9 → v.toNat % 16 = 0 → frameCrcOk (toLE 12 v.toNat) = true → exec (.taperStatusReceive 0 v) s =
      .next { s with snf := { s.snf with
        pilotAwait := false, pilotFails := 0, pilotOn := s.snf.pilotOn && !v.toNat.testBit 16 } }) ∧
    (∀ x : Shot, s.fire.shotAt .struck = some x → s.fire.clears.head?.elim true (fun p => !modGe 64 x.time p.2.1) = true → x.status = none → ∃ t : State, exec .statusEvaluate s = .next t ∧
      t.get (FIRE_TAPER_DRV_CNT.missing x.driver) = satAdd 65535 (s.get (FIRE_TAPER_DRV_CNT.missing x.driver)) 1 ∧
      t.fire.fails = s.fire.fails.set x.driver (s.fire.fails.getD x.driver 0 + 1) ∧
      t.fire.shots = s.fire.shots.map (fun y => if sameShot x y then { x with stage := .judged } else y) ∧
      t = { s with regs := t.regs, ev := t.ev, fire := t.fire, out := t.out } ∧ s.RegsBut t [FIRE_TAPER_DRV_CNT.addr x.driver] ∧
      (x.driver < 16 → t.Pends Ev.taperStatusMissing)) ∧
    (∀ x : Shot, s.fire.shotAt .struck = some x → ∀ l : List Byte, x.status = some l →
      s.fire.clears.head?.elim true (fun p => !modGe 64 x.time p.2.1) = true → frameCrcOk l = false → ∃ t : State,
      exec .statusEvaluate s = .next t ∧
      t.get (FIRE_TAPER_DRV_CNT.crc_err x.driver) = satAdd 65535 (s.get (FIRE_TAPER_DRV_CNT.crc_err x.driver)) 1 ∧
      t.fire.fails = s.fire.fails.set x.driver (s.fire.fails.getD x.driver 0 + 1) ∧ (x.driver < 16 → t.Pends Ev.taperCrcError) ∧
      t = { s with regs := t.regs, ev := t.ev, fire := t.fire, out := t.out } ∧ s.RegsBut t [FIRE_TAPER_DRV_CNT.addr x.driver]) ∧
    (∀ x : Shot, s.fire.shotAt .struck = some x → ∀ l : List Byte, x.status = some l →
      s.fire.clears.head?.elim true (fun p => !modGe 64 x.time p.2.1) = true → frameCrcOk l = true →
      (tblByte l 1 ≠ x.seq ∨ (tblByte l 2).testBit 1 = true ∨ (tblByte l 2).testBit 5 = true) → (tblByte l 2).testBit 0 = false →
      x.diagnostic = false → ∃ t : State,
      exec .statusEvaluate s = .next t ∧ t.get FIRE_SHOT_STAT.suppressed = (s.get FIRE_SHOT_STAT.suppressed + 1) % 2 ^ 32 ∧
      t.fire.fails = s.fire.fails.set x.driver 0 ∧ t.Pends Ev.taperNoCommand ∧
      t = { s with regs := t.regs, ev := t.ev, fire := t.fire, out := t.out } ∧ s.RegsBut t [FIRE_SHOT_STAT.addr]) ∧
    (∀ x : Shot, s.fire.shotAt .struck = some x → ∀ l : List Byte, x.status = some l →
      s.fire.clears.head?.elim true (fun p => !modGe 64 x.time p.2.1) = true → frameCrcOk l = true →
      tblByte l 1 = x.seq → (tblByte l 2).testBit 1 = false → (tblByte l 2).testBit 5 = false → (tblByte l 2).testBit 0 = false →
      x.diagnostic = false → ∃ t : State,
      exec .statusEvaluate s = .next t ∧ t.fire.fails = s.fire.fails.set x.driver 0 ∧
      t.fire.shots = s.fire.shots.map (fun y => if sameShot x y then { x with stage := .judged, counts := true } else y) ∧
      t = { s with fire := t.fire }) ∧
    (∀ (q : Nat × Nat × Option (List Byte)) (r : List (Nat × Nat × Option (List Byte))), s.fire.clears = q :: r →
      (s.fire.shotAt .struck).elim true (fun x => modGe 64 x.time q.2.1) = true → ∃ t : State, exec .statusEvaluate s = .next t ∧
      t.fire = { s.fire with clears := r,
                             fails := s.fire.fails.set q.1 (if q.2.2.elim false frameCrcOk then 0 else s.fire.fails.getD q.1 0 + 1) } ∧
      (q.2.2 = none → t.get (FIRE_TAPER_DRV_CNT.missing q.1) = satAdd 65535 (s.get (FIRE_TAPER_DRV_CNT.missing q.1)) 1 ∧
        (q.1 < 16 → t.Pends Ev.taperStatusMissing)) ∧
      (∀ b : List Byte, q.2.2 = some b → frameCrcOk b = false → t.get (FIRE_TAPER_DRV_CNT.crc_err q.1) =
        satAdd 65535 (s.get (FIRE_TAPER_DRV_CNT.crc_err q.1)) 1 ∧ (q.1 < 16 → t.Pends Ev.taperCrcError)) ∧
      t = { s with regs := t.regs, ev := t.ev, fire := t.fire, out := t.out } ∧ s.RegsBut t [FIRE_TAPER_DRV_CNT.addr q.1]) ∧
    (∀ d : Fin 16, 3 ≤ s.fire.fails.getD d 0 → (s.get FIRE_TAPER_STAT.drv_fault).testBit d = false → ∃ t : State,
      exec (.taperDriverFault d) s = .next t ∧ (t.get FIRE_TAPER_STAT.drv_fault) = s.get FIRE_TAPER_STAT.drv_fault + 2 ^ d.val ∧
      s.Keeps t FIRE_TAPER_STAT.drv_present ∧ t.Pends Ev.taperDriverFault ∧ s.OnlyRegsEv t [FIRE_TAPER_STAT.addr]) ∧
    (∀ d : Fin 16, s.fire.fails.getD d 0 < 3 → exec (.taperDriverFault d) s = .next s) ∧
    (∀ (d : Fin 16) (b : Bool), (s.get FIRE_TAPER_STAT.drv_fault).testBit d = true → ∃ t : State,
      exec (.drvFaultClear d b) s = .next t ∧ t.get FIRE_TAPER_STAT.drv_fault = s.get FIRE_TAPER_STAT.drv_fault - 2 ^ d.val ∧
      (t.get FIRE_TAPER_STAT.drv_present).testBit d = b ∧ Out.taperSync false ∈ t.out ∧
      t.fire = { s.fire with seqs := List.replicate 16 0, fails := s.fire.fails.set d 0, clears := s.fire.clears ++ [(d.val, s.now, none)] } ∧
      (s.laneOn d = true → t.out = .taper false (d / 8) (taperFrame d 3 0 0 0 0) :: .taperSync false ::
        .taper false (d / 8) (taperFrame d 4 (s.fire.seqs.getD d 0) 0 0 0) :: s.out) ∧
      t = { s with regs := t.regs, fire := t.fire, out := t.out } ∧ s.RegsBut t [FIRE_TAPER_STAT.addr]) ∧
    (∀ (b : Fin 64) (i : Fin 48), s.diagM ≤ (s.fire.segCnt (b * 48 + i)).misses → s.get (segState b i) < 2 →
      s.get (FIRE_BANK_CFG.ref_tile b) < 6 → ∃ t : State, exec (.segmentOpen b i) s = .next t ∧ t.get (segState b i) = 2 ∧ t.Pends Ev.segmentOpen ∧
      s.OnlyRegsEv t [FIRE_SEG_STATE.addr b (i / 16)]) ∧
    (∀ (b : Fin 64) (i : Fin 48), (s.fire.segCnt (b * 48 + i)).misses < s.diagM ∨ 6 ≤ s.get (FIRE_BANK_CFG.ref_tile b) →
      exec (.segmentOpen b i) s = .next s) ∧
    (∀ (b i : Fin 64), i.val < 48 → ∃ t : State, exec (.diagClear b i false false) s = .next t ∧ t.get (segState b i) = 0 ∧
      t.fire.segCnt (b * 48 + i) = ⟨0, 0, 0⟩ ∧ t = { s with regs := t.regs, fire := t.fire } ∧
      s.RegsBut t [FIRE_SEG_STATE.addr b (i / 16)] ∧ ∀ k, k ≠ b.val * 48 + i.val → t.fire.segCnt k = s.fire.segCnt k) ∧
    (∀ (b : Fin 64) (n : Fin 64), ∃ t : State, exec (.diagClear b n true false) s = .next t ∧
      (∀ i : Fin 48, t.get (segState b i) = 0 ∧ t.fire.segCnt (b * 48 + i) = ⟨0, 0, 0⟩) ∧ t = { s with regs := t.regs, fire := t.fire } ∧
      s.RegsBut t [FIRE_SEG_STATE.addr b 0, FIRE_SEG_STATE.addr b 1, FIRE_SEG_STATE.addr b 2]) ∧
    (∀ (c n : Fin 64) (w : Bool), ∃ t : State, exec (.diagClear c n w true) s = .next t ∧
      (∀ (b : Fin 64) (i : Fin 48), t.get (segState b i) = 0 ∧ t.fire.segCnt (b * 48 + i) = ⟨0, 0, 0⟩) ∧
      t = { s with regs := t.regs, fire := t.fire } ∧ ∀ a, a < 0x201000 ∨ 0x201400 ≤ a → t.reg a = s.reg a) ∧
    (∃ t : State, exec .diagPeriodEnd s = .next t ∧
      (∀ (b : Fin 64) (i : Fin 48), t.get (segState b i) =
        (if s.get (segState b i) = 1 ∧ (s.fire.segCnt (b * 48 + i)).period < s.diagM then 0 else s.get (segState b i)) ∧
        (t.fire.segCnt (b * 48 + i)).period = 0) ∧
      ((List.range 3072).any (fun k => s.diagSegment (s.usedMask (s.get FIRE_FRAME_STAT.active_buf)) k &&
        decide ((s.fire.segCnt k).period < s.diagM)) = true → t.Pends Ev.diagIncomplete) ∧
      t = { s with regs := t.regs, ev := t.ev, fire := t.fire, out := t.out } ∧
      ∀ a, a < 0x201000 ∨ 0x201400 ≤ a → evReg a = false → t.reg a = s.reg a)


/-- The tiles' front end (R54, R57, R70, R75 to R84, R90, R103, R104, R108, R123): shot notices and window closes, events, gain ranges,
channel enables, accumulation, and reference returns. Log entries 23, 35, 51, 140, 154, 179, 181, 184, 194, 195, 209, 210 and 219 bear
on its clauses: what they fix is the model's choice. -/
def Obligations.TileFront : Prop :=
  ∀ s : State, s.tiles.length = 6 →
    (∀ x : Shot, s.fire.shotAt .admitted = some x → ∃ t : State, exec .shotNotice s = .next t ∧
      t.fire.shots = s.fire.shots.map (fun y => if sameShot x y then { x with stage := .noticed } else y) ∧
      (∀ y ∈ s.fire.cells, y.id = x.c.cell → ∃ z ∈ t.fire.cells, z.times = y.times ++ [x.time] ∧ z.seen = y.seen + 1) ∧
      (∀ k : Fin 6, s.tileOff k = true → t.tile k = s.tile k) ∧
      (∀ k : Fin 6, s.tileOff k = false → s.get (FIRE_BANK_CFG.ref_tile x.c.bank) = k.val →
        s.tdcWorks k (256 + s.get (FIRE_BANK_CFG.ref_ch x.c.bank)) = true → s.gangOk k = true →
        (t.tile k).refWins = (s.tile k).refWins ++ [⟨s.get (FIRE_BANK_CFG.ref_ch x.c.bank), x.driver, stampOf x.time, x.c.cell, false⟩]) ∧
      (∀ (k : Fin 6) (c : Fin 256), s.tileOff k = false → x.c.noRx = false → c.val ∈ mapChans (s.cellMap x.c.cell) k →
        s.chanEnabled k c x.time = true → s.tdcWorks k c = true → s.gangOk k = true → (s.tile k).cells = [] →
        s.chan k c = { ChanSt.init with enHist := (s.chan k c).enHist, thrHist := (s.chan k c).thrHist } →
        (t.chan k c).wins = [⟨stampOf x.time, x.c.cell, x.c.idx, false, 0⟩] ∧ (t.chan k c).buf0.cell = some x.c.cell ∧
        (t.chan k c).buf0.rep.used = 1) ∧
      (∀ (k : Fin 6) (c : Fin 256), x.c.noRx = true ∨ c.val ∉ mapChans (s.cellMap x.c.cell) k → t.chan k c = s.chan k c) ∧
      t = { s with regs := t.regs, ev := t.ev, fire := t.fire, tiles := t.tiles, out := t.out } ∧
      ∀ a, a < 0x400000 ∨ 0xA00000 ≤ a → evReg a = false → t.reg a = s.reg a) ∧
    (∀ x : Shot, s.fire.shotAt .judged = some x → ∃ t : State, exec .shotWindowClose s = .next t ∧
      t.fire = { s.fire with shots := s.fire.shots.filter (fun y => !sameShot x y) } ∧
      (∀ (k : Fin 6) (c : Fin 256), (t.chan k c).wins.all (fun w => !(w.cell == x.c.cell && w.s == stampOf x.time)) = true) ∧
      t.mode = s.mode ∧ s.SameMem t ∧ ∀ a, killReg a = false → evReg a = false → t.reg a = s.reg a) ∧
    (∀ (k : Fin 6) (c : Fin 260) (cl ct : BitVec 49) (rl rt : Fin 160) (v h : Word32), v.toNat < 250 →
      exec (.comparatorEvent k c cl rl ct rt v h) s = .next s) ∧
    (∀ (k : Fin 6) (c : Fin 256) (cl : BitVec 49) (rl : Fin 160) (h : Word32), ∀ e : TdcEvent,
      s.eventOf k c h.toNat (fun x => (s.edgeStamp k c 0 cl.toNat rl x, 16383)) = e → s.chanPowered k c = true → s.tdcWorks k c = true →
      fires (s.thrAt k c e.lead) h.toNat e.low false = true → (s.chan k c).deadAt e.lead = false → (s.chan k c).inWindow e = true →
      (s.chan k c).queue.length < 16 → ∃ t : State, exec (.totTimeout k (Fin.ofNat 260 c.val) cl rl h) s = .next t ∧ e.tot = 16383 ∧
      (t.chan k c).queue = (s.chan k c).queue ++ [e] ∧ (t.chan k c).lastLead = some e.lead ∧
      (t.chan k c).latch = ((s.chan k c).latch || (e.sat && !e.low)) ∧ (∀ d : Fin 256, d ≠ c → t.chan k d = s.chan k d) ∧
      t.get (TILE_CH_CNT_B.sat k c) = satAdd (2 ^ (TILE_CH_CNT_B.sat k c).len - 1) (s.get (TILE_CH_CNT_B.sat k c)) (bit e.sat) ∧
      t = { s with regs := t.regs, tiles := t.tiles } ∧ s.RegsBut t [TILE_CH_CNT_B.addr k c]) ∧
    (∀ (k : Fin 6) (c : Fin 256) (cl ct : BitVec 49) (rl rt : Fin 160) (v h : Word32), 400 ≤ v.toNat → ∀ e : TdcEvent,
      s.eventOf k c h.toNat (fun x => (s.edgeStamp k c 0 cl.toNat rl x,
        stampDiff (s.edgeStamp k c 1 ct.toNat rt x) (s.edgeStamp k c 0 cl.toNat rl x))) = e → s.chanPowered k c = true →
      s.tdcWorks k c = true → fires (s.thrAt k c e.lead) h.toNat e.low false = true → (s.chan k c).deadAt e.lead = false →
      (s.chan k c).inWindow e = true → (s.chan k c).queue.length < 16 → ∃ t : State,
      exec (.comparatorEvent k (Fin.ofNat 260 c.val) cl rl ct rt v h) s = .next t ∧
      (t.chan k c).queue = (s.chan k c).queue ++ [e] ∧ (t.chan k c).lastLead = some e.lead ∧
      (∀ d : Fin 256, d ≠ c → t.chan k d = s.chan k d) ∧ t = { s with regs := t.regs, tiles := t.tiles } ∧
      s.RegsBut t [TILE_CH_CNT_B.addr k c]) ∧
    (∀ (k : Fin 6) (c : Fin 260) (cl ct : BitVec 49) (rl rt : Fin 160) (v h : Word32), 400 ≤ v.toNat → ∀ e : TdcEvent,
      s.eventOf k c h.toNat (fun x => (s.edgeStamp k c 0 cl.toNat rl x,
        stampDiff (s.edgeStamp k c 1 ct.toNat rt x) (s.edgeStamp k c 0 cl.toNat rl x))) = e →
      fires (s.thrAt k c e.lead) h.toNat e.low false = false → ∃ t : State,
      exec (.comparatorEvent k c cl rl ct rt v h) s = .next t ∧ (∀ d : Fin 260, t.chan k d = s.chan k d) ∧ t = { s with tiles := t.tiles }) ∧
    (∀ (k : Fin 6) (c : Fin 256) (cl ct : BitVec 49) (rl rt : Fin 160) (v h : Word32), 400 ≤ v.toNat → ∀ e : TdcEvent,
      s.eventOf k c h.toNat (fun x => (s.edgeStamp k c 0 cl.toNat rl x,
        stampDiff (s.edgeStamp k c 1 ct.toNat rt x) (s.edgeStamp k c 0 cl.toNat rl x))) = e → s.chanPowered k c = true →
      s.tdcWorks k c = true → fires (s.thrAt k c e.lead) h.toNat e.low false = true → (s.chan k c).deadAt e.lead = true → ∃ t : State,
      exec (.comparatorEvent k (Fin.ofNat 260 c.val) cl rl ct rt v h) s = .next t ∧ (t.chan k c).queue = (s.chan k c).queue ∧
      (t.chan k c).lastLead = (s.chan k c).lastLead ∧
      t.get (TILE_CH_CNT_A.dead_lost k c) = satAdd (2 ^ (TILE_CH_CNT_A.dead_lost k c).len - 1) (s.get (TILE_CH_CNT_A.dead_lost k c)) 1 ∧
      t = { s with regs := t.regs, tiles := t.tiles } ∧ s.RegsBut t [TILE_CH_CNT_A.addr k c]) ∧
    (∀ (k : Fin 6) (c : Fin 260), ∀ p : Nat × Nat, s.nextShotOn k c = some p → ∀ g : Option (Nat × Bool),
      (s.chan k c).gainCells.find? (fun q => q.1 == p.2) = g → ∃ t : State, exec (.gainSwitchPoint k c) s = .next t ∧
      (t.chan k c).lowGain = gainNext (s.gainMode k c (p.1 * 256)) (g.elim false (fun q => q.2)) (s.chan k c).latch g.isNone ∧
      (t.chan k c).blanked = ((t.chan k c).lowGain != (s.chan k c).lowGain) ∧ (t.chan k c).latch = false ∧
      (t.chan k c).switchS = (if (t.chan k c).blanked then some p.1 else none) ∧
      (t.chan k c).gainCells.head? = some (p.2, (t.chan k c).lowGain) ∧ (t.chan k c).wins = (s.chan k c).wins ∧ (∀ d : Fin 260, d ≠ c → t.chan k d = s.chan k d) ∧
      t = { s with tiles := t.tiles }) ∧
    (∀ (k : Fin 6) (c : Fin 260), s.nextShotOn k c = none → exec (.gainSwitchPoint k c) s = .next s) ∧
    (∀ (k : Fin 6) (c : Fin 260), exec (.gainBlankEnd k c) s = .next (s.setChan k c { s.chan k c with blanked := false })) ∧
    (∀ (k : Fin 6) (w : Fin 8) (v : Word32), s.isOff (.tile k) = false → ∃ t : State, exec (.chEnableWrite k w v) s = .next t ∧
      t.get (TILE_CH_EN.en k w) = v.toNat ∧
      (∀ j : Fin 32, (s.get (TILE_CH_EN.en k w)).testBit j ≠ v.toNat.testBit j →
        t.chan k (32 * w + j) = { s.chan k (32 * w + j) with
          enHist := ((s.get (TILE_CH_EN.en k w)).testBit j, s.now) :: recent s.now (s.chan k (32 * w + j)).enHist }) ∧
      (∀ c : Fin 256, c.val / 32 ≠ w.val → t.chan k c = s.chan k c) ∧
      t = { s with regs := t.regs, tiles := t.tiles } ∧ s.RegsBut t [TILE_CH_EN.addr k w]) ∧
    (∀ (k : Fin 6) (w : Fin 8) (v : Word32), s.isOff (.tile k) = true → ∃ t : State, exec (.chEnableWrite k w v) s = .next t ∧
      t.Pends Ev.isolatedAccess ∧ s.OnlyRegsEv t []) ∧
    (∀ (k : Fin 6) (c : Fin 256), ∀ (e : TdcEvent) (q : List TdcEvent), (s.chan k c).queue = e :: q → ∀ w : RxWin,
      (s.chan k c).wins = [w] → ∀ n : Nat, (s.chan k c).bufOf w.cell = some n → ∀ x : TdcEvent, (s.chan k c).eventFor e w.cell = x → inRx w.s x.lead = true →
      ((s.chan k c).buf n).rep.drop = 0 → w.zoom = false → e.sat = false →
      s.hub.injected.all (fun p => p.1 != W256Loc.tileSram.code) = true → ∀ m : Nat, ∃ t : State,
      exec (.eventAccumulate k c ⟨m, .good⟩) s = .next t ∧
      (t.chan k c).queue = q ∧ (t.chan k c).wins = [w] ∧
      cntGet ((t.chan k c).buf n).coarse (stampDiff x.lead w.s / 512) =
        satAdd 65535 (cntGet ((s.chan k c).buf n).coarse (stampDiff x.lead w.s / 512)) 1 ∧
      (∀ b, b ≠ stampDiff x.lead w.s / 512 → cntGet ((t.chan k c).buf n).coarse b = cntGet ((s.chan k c).buf n).coarse b) ∧
      ((t.chan k c).buf n).fine = ((s.chan k c).buf n).fine ∧ (∀ d : Fin 256, d ≠ c → t.chan k d = s.chan k d) ∧ t.mode = s.mode ∧
      s.SameMem t ∧ ∀ a, killReg a = false → evReg a = false → t.reg a = s.reg a) ∧
    (∀ (k : Fin 6) (c : Fin 256) (e : WordEcc), (s.chan k c).queue = [] → exec (.eventAccumulate k c e) s = .next s) ∧
    (∀ (k : Fin 6) (c : Fin 4) (l : BitVec 56) (v : BitVec 14), 4 * s.get FIRE_DIAG_REF.tot_min ≤ v.toNat → s.tdcWorks k (256 + c) = true →
      s.chanPowered k (256 + c) = true → ∃ t : State, exec (.referenceReturn k c l v) s = .next t ∧
      (t.tile k).refWins = (s.tile k).refWins.map (fun w =>
        if w.k = c.val ∧ stampDiff l.toNat w.s ≤ s.get FIRE_DIAG_REF.ref_window_ns * 256 then { w with seen := true } else w) ∧
      (∀ w : RefWin, (s.tile k).refWins.filter (fun w => w.k == c.val && !w.seen &&
          decide (stampDiff l.toNat w.s ≤ s.get FIRE_DIAG_REF.ref_window_ns * 256)) = [w] → w.driver < 16 →
        t.get (TILE_REF_DRV_AVG.count k c w.driver) = Nat.min 255 (s.get (TILE_REF_DRV_AVG.count k c w.driver) + 1) ∧
        t.get (TILE_REF_DRV_AVG.offset k c w.driver) = refAverage (s.get (TILE_REF_DRV_AVG.offset k c w.driver)) (stampDiff l.toNat w.s)
          (s.get (TILE_REF_DRV_AVG.count k c w.driver)) % 2 ^ 24) ∧ t.mode = s.mode ∧ s.SameMem t) ∧
    (∀ (k : Fin 6) (c : Fin 4) (l : BitVec 56) (v : BitVec 14), v.toNat < 4 * s.get FIRE_DIAG_REF.tot_min ∨
      s.tdcWorks k (256 + c) = false → exec (.referenceReturn k c l v) s = .next s) ∧
    (∀ k : Fin 6, ∀ (w : RefWin) (l : List RefWin), (s.tile k).refWins = w :: l →
      s.fire.shots.find? (fun y => y.driver == w.driver && stampOf y.time == w.s) = none →
      exec (.refWindowClose k) s = .next (s.setTile k { s.tile k with refWins := l })) ∧
    (∀ k : Fin 6, ∀ (w : RefWin) (l : List RefWin), (s.tile k).refWins = w :: l → ∀ y : Shot,
      s.fire.shots.find? (fun y => y.driver == w.driver && stampOf y.time == w.s) = some y → y.stage ≠ .judged → ∃ t : State,
      exec (.refWindowClose k) s = .next t ∧ (t.tile k).refWins = l ∧
      t.fire = { s.fire with shots := s.fire.shots.map (fun z => if sameShot y z then { y with refSeen := some w.seen } else z) } ∧
      t = { s with fire := t.fire, tiles := t.tiles }) ∧
    (∀ k : Fin 6, s.isOff (.tile k) = false → ∃ t : State, exec (.refClear k) s = .next t ∧
      (∀ (c : Fin 4) (d : Fin 16), t.get (TILE_REF_DRV_AVG.offset k c d) = 0 ∧ t.get (TILE_REF_DRV_AVG.count k c d) = 0) ∧
      t = { s with regs := t.regs } ∧ ∀ a, a < TILE_REF_DRV_AVG.addr k 0 0 ∨ TILE_REF_DRV_AVG.addr k 4 0 ≤ a → t.reg a = s.reg a) ∧
    (∀ (k : Fin 6) (g : Fin 2) (n : Fin 64) (v : Word16), s.isOff (.tile k) = false → ∃ t : State, exec (.walkWrite k g n v) s = .next t ∧
      t.get (TILE_WALK.corr k g n) = v.toNat ∧ t.walkAt k g n = sx 16 v.toNat ∧
      (∀ (j : Fin 6) (h : Fin 2) (m : Fin 64), (j ≠ k ∨ h ≠ g ∨ m ≠ n) → t.walkAt j h m = s.walkAt j h m) ∧
      t = { s with regs := t.regs, echo := { s.echo with walk := t.echo.walk } } ∧ s.RegsBut t [TILE_WALK.addr k g n])

/-- TDCs, spares and gang locking (R88, R89, R96 to R101). Log entries 35, 182 and 183 bear on its clauses: what they fix is the model's
choice. -/
def Obligations.TileTiming : Prop :=
  ∀ (s : State) (k : Fin 6), s.tiles.length = 6 → tabWf (fun _ => ChanSt.init) (s.tile k).chans = true →
    (∀ v : List (BitVec 16), ∀ x : Int, s.tileTemp k v = some x →
      Nat.max 2 (s.get (TILE_TDC_CFG.cdt_delta k)) ≤ (x - sx 16 (s.get (TILE_TDC_STAT.cdt_temp k))).natAbs → ∃ t : State,
      exec (.cdtRecompute k v) s = .next t ∧ t.get (TILE_TDC_STAT.cdt_stale k) = 0 ∧ t.get (TILE_TDC_STAT.cdt_temp k) = toField 16 x ∧
      s.OnlyRegs t [TILE_TDC_STAT.addr k]) ∧
    (∀ v : List (BitVec 16), ∀ x : Int, s.tileTemp k v = some x →
      (x - sx 16 (s.get (TILE_TDC_STAT.cdt_temp k))).natAbs < Nat.max 2 (s.get (TILE_TDC_CFG.cdt_delta k)) → ∃ t : State,
      exec (.cdtRecompute k v) s = .next t ∧ t.get (TILE_TDC_STAT.cdt_stale k) = 0 ∧ s.Keeps t (TILE_TDC_STAT.cdt_temp k) ∧
      s.OnlyRegs t [TILE_TDC_STAT.addr k]) ∧
    (∀ v : List (BitVec 16), s.tileTemp k v = none → exec (.cdtRecompute k v) s = .next s) ∧
    (s.get (TILE_TDC_STAT.cdt_stale k) = 0 → ∃ t : State, exec (.cdtStale k) s = .next t ∧ t.get (TILE_TDC_STAT.cdt_stale k) = 1 ∧
      t.Pends (Ev.cdtStale k) ∧
      (∀ c : Fin 260, (s.chan k c).buf0.cell.isSome = true → (s.chan k c).buf0.isSealed = false → (t.chan k c).buf0.rep.stale = true) ∧
      t = { s with regs := t.regs, ev := t.ev, tiles := t.tiles, out := t.out } ∧ s.RegsBut t [TILE_TDC_STAT.addr k]) ∧
    (s.get (TILE_TDC_STAT.cdt_stale k) = 1 → exec (.cdtStale k) s = .next s) ∧
    (∀ (n : Fin 276) (d : Fin 2) (w : BitVec 8), ∀ l : List (Nat × Nat), tabGet (fun _ => []) (s.tile k).codes (2 * n + d) = l →
      s.get (TILE_TDC_CFG.health_en k) = 1 → 65536 ≤ (l.map (fun p => p.2)).sum →
      centresOff (fun r => s.cdtCentre (1024 * k + 2 * n + d) r (sx 16 (s.get (TILE_TDC_STAT.cdt_temp k)))) l = true ∨
        codeSpan l < 120 ∨ 160 < w.toNat → n.val < 256 ∨ 272 ≤ n.val → s.tdcFailed k n = false → ∃ t : State,
      exec (.tdcHealthCheck k n d w) s = .next t ∧ tabGet (fun _ => []) (t.tile k).codes (2 * n + d) = [] ∧ s.TdcMarked t k n) ∧
    (∀ (n : Fin 276) (d : Fin 2) (w : BitVec 8), ∀ l : List (Nat × Nat), tabGet (fun _ => []) (s.tile k).codes (2 * n + d) = l →
      s.get (TILE_TDC_CFG.health_en k) = 1 → 65536 ≤ (l.map (fun p => p.2)).sum →
      centresOff (fun r => s.cdtCentre (1024 * k + 2 * n + d) r (sx 16 (s.get (TILE_TDC_STAT.cdt_temp k)))) l = false →
      120 ≤ codeSpan l → w.toNat ≤ 160 → exec (.tdcHealthCheck k n d w) s =
      .next (s.setTile k { s.tile k with codes := tabSet (fun _ => []) (s.tile k).codes (2 * n + d) [] })) ∧
    (∀ (n : Fin 276) (d : Fin 2) (w : BitVec 8), s.get (TILE_TDC_CFG.health_en k) = 0 ∨
      ((tabGet (fun _ => []) (s.tile k).codes (2 * n + d)).map (fun p => p.2)).sum < 65536 →
      exec (.tdcHealthCheck k n d w) s = .next s) ∧
    (∀ n : Fin 276, s.get (TILE_TDC_CFG.health_en k) = 1 → n.val < 256 ∨ 272 ≤ n.val → s.tdcFailed k n = false → ∃ t : State,
      exec (.tdcStampSilence k n) s = .next t ∧ s.TdcMarked t k n) ∧
    (∀ n : Fin 276, s.get (TILE_TDC_CFG.health_en k) = 0 → exec (.tdcStampSilence k n) s = .next s) ∧
    (∀ (w : Fin 9) (v : Word32), s.isOff (.tile k) = false → ∃ t : State, exec (.tdcFailWrite k w v) s = .next t ∧
      (∀ j : Fin 32, v.toNat.testBit j = true → 32 * w.val + j.val < 276 → t.tdcFailed k (32 * w + j) = true) ∧
      (∀ n : Fin 276, s.tdcFailed k n = true → t.tdcFailed k n = true) ∧
      (∀ n : Fin 276, n.val / 32 ≠ w.val ∨ v.toNat.testBit (n.val % 32) = false → t.tdcFailed k n = s.tdcFailed k n) ∧
      t = { s with regs := t.regs, ev := t.ev, tiles := t.tiles, out := t.out }) ∧
    (∀ (j : Fin 16) (g : BitVec 9), s.isOff (.tile k) = false → ∃ t : State, exec (.spareMapWrite k j g false) s = .next t ∧
      t.get (TILE_SPARE_MAP.valid k j) = 0 ∧ t.get (TILE_SPARE_MAP.auto k j) = 0 ∧ t.get (TILE_SPARE_MAP.target k j) = g.toNat ∧
      s.OnlyRegs t [TILE_SPARE_MAP.addr k j, TILE_TDC_STAT.addr k]) ∧
    (∀ (j : Fin 16) (g : BitVec 9), s.isOff (.tile k) = false → g.toNat ≤ 259 → s.tdcFailed k (256 + j) = false →
      (∀ n : Fin 16, n ≠ j → s.get (TILE_SPARE_MAP.valid k n) = 0 ∨ s.get (TILE_SPARE_MAP.target k n) ≠ g.toNat) → ∃ t : State,
      exec (.spareMapWrite k j g true) s = .next t ∧ t.get (TILE_SPARE_MAP.valid k j) = 1 ∧ t.get (TILE_SPARE_MAP.auto k j) = 0 ∧
      t.get (TILE_SPARE_MAP.target k j) = g.toNat ∧
      ((s.chan k g.toNat).buf0.cell.isSome = true → (s.chan k g.toNat).buf0.isSealed = false → (t.chan k g.toNat).buf0.rep.spare = true) ∧
      (∀ c : Fin 260, c.val ≠ g.toNat → t.chan k c = s.chan k c) ∧ (∀ m : Fin 6, m ≠ k → t.tile m = s.tile m) ∧
      t = { s with regs := t.regs, tiles := t.tiles } ∧ s.RegsBut t [TILE_SPARE_MAP.addr k j, TILE_TDC_STAT.addr k]) ∧
    (∀ (j : Fin 16) (g : BitVec 9), s.isOff (.tile k) = false → 259 < g.toNat ∨ s.tdcFailed k (256 + j) = true → ∃ t : State,
      exec (.spareMapWrite k j g true) s = .next t ∧ t.Pends (Ev.claimDenied k) ∧ s.OnlyRegsEv t []) ∧
    (∀ e : BitVec 9, ∀ x : Int, e.toInt + (s.tile k).phase = x → s.get (TILE_GANG_CTL.gang_en k) = 1 → ∃ t : State,
      exec (.gangPhaseMeasure k e) s = .next t ∧ t.get (TILE_GANG_STAT.phase_err k) = toField 8 (clampI (-127) 127 x) ∧
      (t.tile k).good = (if x.natAbs ≤ 2 then Nat.min 64 ((s.tile k).good + 1) else 0) ∧
      (t.tile k).bad = (if 4 < x.natAbs then Nat.min 3 ((s.tile k).bad + 1) else 0) ∧
      (t.tile k).phase = (s.tile k).phase - x.sign ∧
      t = { s with regs := t.regs, tiles := t.tiles } ∧ s.RegsBut t [TILE_GANG_STAT.addr k]) ∧
    (∀ e : BitVec 9, s.get (TILE_GANG_CTL.gang_en k) = 0 → exec (.gangPhaseMeasure k e) s = .next (s.tileAge k)) ∧
    (64 ≤ (s.tile k).good → s.get (TILE_GANG_CTL.gang_en k) = 1 → s.get (TILE_GANG_STAT.locked k) = 0 → ∃ t : State,
      exec (.gangLock k) s = .next t ∧ t.get (TILE_GANG_STAT.locked k) = 1 ∧ t.tile k = { s.tile k with coarseOff := 0 } ∧
      t = { s with regs := t.regs, tiles := t.tiles } ∧ s.RegsBut t [TILE_GANG_STAT.addr k]) ∧
    ((s.tile k).good < 64 ∨ s.get (TILE_GANG_STAT.locked k) = 1 → exec (.gangLock k) s = .next s) ∧
    (s.get (TILE_GANG_STAT.locked k) = 1 → 3 ≤ (s.tile k).bad → ∃ t : State, exec (.gangUnlock k) s = .next t ∧
      t.get (TILE_GANG_STAT.locked k) = 0 ∧ t.get (TILE_GANG_STAT.unlock_seen k) = 1 ∧ t.Pends (Ev.gangUnlock k) ∧ (t.tile k).good = 0 ∧
      (s.mode ≠ 11 → (t.tile k).cells.all (fun x => x.barred) = true) ∧
      t = { s with regs := t.regs, ev := t.ev, tiles := t.tiles, out := t.out, freeCtr := t.freeCtr } ∧
      ∀ a, a < 0x400000 + 0x100000 * k.val ∨ 0x500000 + 0x100000 * k.val ≤ a → evReg a = false → t.reg a = s.reg a) ∧
    ((s.tile k).bad < 3 → exec (.gangUnlock k) s = .next s)

/-- An event whose leading edge falls while the channel has no open window is discarded and counted in oow (R83): neither the queue nor
a histogram buffer of the channel takes it, nor does any other channel. Log entries 23, 194, 195 and 219 bear on its clauses: what they
fix is the model's choice. -/
def Obligations.EventOutsideWindowsCounted : Prop :=
  ∀ s : State, s.tiles.length = 6 → ∀ (k : Fin 6) (c : Fin 256) (cl ct : BitVec 49) (rl rt : Fin 160) (v h : Word32),
    400 ≤ v.toNat → ∀ e : TdcEvent, s.eventOf k c h.toNat (fun x => (s.edgeStamp k c 0 cl.toNat rl x,
      stampDiff (s.edgeStamp k c 1 ct.toNat rt x) (s.edgeStamp k c 0 cl.toNat rl x))) = e → s.chanPowered k c = true →
    s.tdcWorks k c = true → fires (s.thrAt k c e.lead) h.toNat e.low false = true → (s.chan k c).deadAt e.lead = false →
    (s.chan k c).inWindow e = false → ∃ t : State,
      exec (.comparatorEvent k (Fin.ofNat 260 c.val) cl rl ct rt v h) s = .next t ∧
      (t.chan k c).queue = (s.chan k c).queue ∧ (t.chan k c).buf0 = (s.chan k c).buf0 ∧ (t.chan k c).buf1 = (s.chan k c).buf1 ∧
      t.get (TILE_CH_CNT_A.oow k c) = satAdd 65535 (s.get (TILE_CH_CNT_A.oow k c)) 1 ∧ (∀ d : Fin 256, d ≠ c → t.chan k d = s.chan k d) ∧
      (∀ j : Fin 6, j ≠ k → t.tile j = s.tile j) ∧ t = { s with regs := t.regs, tiles := t.tiles } ∧
      s.RegsBut t [TILE_CH_CNT_A.addr k c, TILE_CH_CNT_B.addr k c]


/-- Snapshots, zoom, seals, hand-off and the cell store (R111, R115 to R119, R122 to R128, R162, R340). Log entries 26, 29, 56, 57, 58,
61, 62, 63, 64, 69, 70, 169, 179 and 180 bear on its clauses: what they fix is the model's choice. -/
def Obligations.Histograms : Prop :=
  ∀ (s : State) (k : Fin 6), s.tiles.length = 6 →
    (∀ v : ScanWord, ∀ y : TileCell, (s.tile k).cells.find? (fun y => y.zoomOn && !y.snapped &&
        s.fire.cells.any (fun c => c.id == y.id && c.bank == v.bank.val)) = some y → ∃ t : State, exec (.zoomSnapshot k v) s = .next t ∧
      (t.tile k).sums.take (s.tile k).sums.length = (s.tile k).sums ∧
      (t.tile k).cells.all (fun z => !(z.id == y.id) || z.snapped) = true ∧ t.mode = s.mode ∧ s.SameMem t ∧
      (∀ q : BitVec 16, v.ecc = .bad q → ∀ n : Nat, (s.chan k v.chan).bufOf y.id = some n → ((s.chan k v.chan).buf n).rep.drop = 0 →
        s.hub.injected.all (fun p => p.1 != W256Loc.tileSram.code) = true →
        ((t.chan k v.chan).buf n).rep.drop = 3 ∧ t.get (TILE_HIST_STAT.sram_ue_seen k) = 1 ∧
        ((t.tile k).sums.drop (s.tile k).sums.length).all (fun z => z.chan != v.chan.val) = true) ∧
      (s.hub.injected.all (fun p => p.1 != W256Loc.tileSram.code) = true → v.ecc = .good →
        (∀ c : Fin 256, ∀ n : Nat, (s.chan k c).bufOf y.id = some n → ((s.chan k c).buf n).rep.drop = 0 →
          ∃ z ∈ (t.tile k).sums, z.chan = c.val ∧ z.cell = y.id ∧ z.box = y.box ∧
            z.shots = ((s.chan k c).buf n).rep.used -
              ((s.chan k c).wins.filter (fun w => w.cell == y.id && !modGe 56 (stampOf s.now) w.s)).length ∧
            z.cands = candidates ((s.chan k c).buf n).coarse y.box ∧ z.sent = false) ∧
        (t.tile k).cells = (s.tile k).cells.map (fun z => if z.id = y.id then { z with snapped := true } else z) ∧
        t = { s with tiles := t.tiles })) ∧
    (∀ j : Fin 2, ∀ x : JexLink, s.hub.links[2 * k.val + j.val]? = some x → ∀ y : Summary, (s.tile k).sums.find? (fun y => !y.sent) = some y →
      3 ≤ x.credits.getD 2 0 → x.down = false → ∃ t : State, exec (.summarySend k j) s = .next t ∧
      (t.tile k).sums = updFirst (fun y => !y.sent) (fun y => { y with sent := true, link := 2 * k.val + j.val }) (s.tile k).sums ∧
      t.hub = { s.hub with links := s.hub.links.set (2 * k + j) { x with credits := x.credits.set 2 (x.credits.getD 2 0 - 3) } } ∧
      t.out = .stream (2 * k + j) (y.bytes k) :: s.out ∧ t = { s with tiles := t.tiles, hub := t.hub, out := t.out }) ∧
    ((s.tile k).sums.find? (fun y => !y.sent) = none → ∀ j : Fin 2, exec (.summarySend k j) s = .next s) ∧
    (∀ j : Fin 2, ∀ x : JexLink, s.hub.links[2 * k.val + j.val]? = some x → x.credits.getD 2 0 < 3 ∨ x.down = true →
      exec (.summarySend k j) s = .next s) ∧
    (∀ l : Bool, ∀ y : Summary, (s.tile k).sums.find? (fun y => y.sent && y.answer.isNone) = some y → ∃ t : State,
      exec (.zoomAnswer k l) s = .next t ∧
      (t.tile k).sums = updFirst (fun y => y.sent && y.answer.isNone) (fun y => { y with answer := some (s.zoomWindows y) }) (s.tile k).sums ∧
      (s.zoomWindows y = [] → t.get HIST_ZOOM_STAT.empty = satAdd 65535 (s.get HIST_ZOOM_STAT.empty) 1) ∧
      (l = true → t.get HIST_ZOOM_STAT.late = satAdd 65535 (s.get HIST_ZOOM_STAT.late) 1) ∧
      t = { s with regs := t.regs, tiles := t.tiles, hub := t.hub } ∧ s.RegsBut t [HIST_ZOOM_STAT.addr]) ∧
    (∀ c : Fin 256, ∀ y : Summary, (s.tile k).sums.find? (fun y => y.chan == c.val && y.answer.isSome) = some y →
      ∀ w : List Nat, y.answer = some w → ∀ n : Nat, (s.chan k c).bufOf y.cell = some n → w ≠ [] → ∃ t : State, exec (.zoomWindowInstall k c) s = .next t ∧
      (t.chan k c).buf n = { (s.chan k c).buf n with zoomWins := w, zoomAt := some s.now } ∧
      (t.tile k).sums = delFirst (fun y => y.chan == c.val && y.answer.isSome) (s.tile k).sums ∧
      (∀ d : Fin 256, d ≠ c → t.chan k d = s.chan k d) ∧ t = { s with tiles := t.tiles }) ∧
    (∀ b : Fin 64, ∀ x : CellInfo, s.fire.cells.find? (fun c => c.bank == b.val && !c.sealedBy.contains k.val && decide (c.planned ≤ c.seen)) =
      some x → s.tileOff k = false → s.cellChans k x ≠ [] → ∃ t : State, exec (.cellSeal k b) s = .next t ∧
      (t.tile k).cells.all (fun y => !(y.id == x.id)) = true ∧
      (t.tile k).outq.take (s.tile k).outq.length = (s.tile k).outq ∧
      ((t.tile k).outq.drop (s.tile k).outq.length).map (fun r => (r.tile, r.chan, r.cell.id, r.seq)) =
        (mapChans x.map k).map (fun c => (k.val, c, x.id, s.get (TILE_HIST_STAT.cell_seq k))) ∧
      (∀ c : Fin 256, c.val ∈ mapChans x.map k → ∀ n : Nat, (s.chan k c).bufOf x.id = some n → ((t.chan k c).buf n).isSealed = true ∧
        (t.chan k c).wins.all (fun w => !(w.cell == x.id)) = true) ∧
      t.get (TILE_HIST_STAT.cell_seq k) = (s.get (TILE_HIST_STAT.cell_seq k) + 1) % 65536 ∧
      t.mode = s.mode ∧ s.SameMem t ∧ ∀ a, killReg a = false → evReg a = false → t.reg a = s.reg a) ∧
    (∀ b : Fin 64, ∀ x : CellInfo, s.fire.cells.find? (fun c => c.bank == b.val && !c.sealedBy.contains k.val && decide (c.planned ≤ c.seen)) =
      some x → s.tileOff k = false → s.cellChans k x = [] → ∃ t : State, exec (.cellSeal k b) s = .next t ∧
      t.hist.store.take s.hist.store.length = s.hist.store ∧ (t.tile k).outq = (s.tile k).outq ∧
      (t.hist.store.drop s.hist.store.length).map (fun r => (r.tile, r.chan, r.cell.id, r.rep.drop, r.rep.used)) =
        (mapChans x.map k).map (fun c => (k.val, c, x.id, 0, 0)) ∧
      s.Keeps t (TILE_HIST_STAT.cell_seq k) ∧ t.mode = s.mode ∧ s.SameMem t) ∧
    (∀ b : Fin 64, ∀ x : CellInfo, s.fire.cells.find? (fun c => c.bank == b.val && !c.sealedBy.contains k.val && decide (c.planned ≤ c.seen)) =
      some x → s.tileOff k = true → ∃ t : State, exec (.cellSeal k b) s = .next t ∧ t.tile k = s.tile k ∧
      t.hist.store.take s.hist.store.length = s.hist.store ∧
      t.hist.store.length = s.hist.store.length + (mapChans x.map k).length ∧
      (∀ r ∈ t.hist.store.drop s.hist.store.length, r.rep.drop = 9 ∧ r.tile = k.val ∧ r.cell.id = x.id) ∧
      t.mode = s.mode ∧ s.SameMem t) ∧
    (∀ (j : Fin 2) (w : Fin 304) (e : Ecc), ∀ x : JexLink, s.hub.links[2 * k.val + j.val]? = some x →
      ∀ (r : ChanRec) (q : List ChanRec), (s.tile k).outq = r :: q → 9 ≤ x.credits.getD 2 0 → x.down = false → (s.tile k).sums.any (fun y => !y.sent) = false →
      r.rep.drop ≠ 0 → ∃ t : State,
      exec (.cellPacketSend k j w e) s = .next t ∧ (t.tile k).outq = q ∧ t.hist.transit = s.hist.transit ++ [(2 * k.val + j.val, r)] ∧
      t.credit (2 * k + j) 2 = x.credits.getD 2 0 - 9 ∧ t.out = .stream (2 * k + j) (r.report ++ List.replicate 192 0) :: s.out ∧
      t = { s with tiles := t.tiles, hub := t.hub, hist := t.hist, out := t.out }) ∧
    (∀ (j : Fin 2) (w : Fin 304) (y : BitVec 16), ∀ x : JexLink, s.hub.links[2 * k.val + j.val]? = some x →
      ∀ (r : ChanRec) (q : List ChanRec), (s.tile k).outq = r :: q → 9 ≤ x.credits.getD 2 0 → x.down = false → (s.tile k).sums.any (fun y => !y.sent) = false →
      r.rep.drop = 0 → s.hub.injected = [] → q.all (fun v => v.chan != r.chan || v.cell.id != r.cell.id) = true →
      ∀ n : Nat, (s.chan k r.chan).sealedBuf r.cell.id = some n → r.chan < 256 → ∃ t : State,
      exec (.cellPacketSend k j w (.bad y)) s = .next t ∧ (t.tile k).outq = q.map (fun v => if v.cell.id = r.cell.id then { v with raised := true } else v) ∧
      (∃ z ∈ t.hist.transit, z.1 = 2 * k.val + j.val ∧ z.2.rep.drop = 3 ∧ z.2.chan = r.chan ∧ z.2.seq = r.seq) ∧
      t.get (TILE_HIST_CNT.dropped k) = satAdd 65535 (s.get (TILE_HIST_CNT.dropped k)) 1 ∧ (r.raised = false → t.Pends (Ev.cellDropped k)) ∧ s.SameMem t) ∧
    (∀ (j : Fin 2) (w : Fin 304), ∀ x : JexLink, s.hub.links[2 * k.val + j.val]? = some x →
      ∀ (r : ChanRec) (q : List ChanRec), (s.tile k).outq = r :: q → 9 ≤ x.credits.getD 2 0 → x.down = false → (s.tile k).sums.any (fun y => !y.sent) = false →
      r.rep.drop = 0 → s.hub.injected = [] → r.chan < 256 →
      ∀ n : Nat, (s.chan k r.chan).sealedBuf r.cell.id = some n → ∀ d : ChanRec, r.fill ((s.chan k r.chan).buf n) = d → ∃ t : State,
      exec (.cellPacketSend k j w .good) s = .next t ∧ (t.tile k).outq = q ∧ t.hist.transit = s.hist.transit ++ [(2 * k.val + j.val, d)] ∧
      t.out = (d.messages.map (fun m => .stream (2 * k + j) m)).reverse ++ s.out ∧
      ((t.chan k r.chan).buf n).coarse = [] ∧ ((t.chan k r.chan).buf n).fine = [] ∧ ((t.chan k r.chan).buf n).stamps = [] ∧
      t = { s with tiles := t.tiles, hub := t.hub, hist := t.hist, out := t.out }) ∧
    (∀ (j : Fin 2) (w : Fin 304) (e : Ecc), ∀ x : JexLink, s.hub.links[2 * k.val + j.val]? = some x →
      x.credits.getD 2 0 < 9 ∨ x.down = true ∨ (s.tile k).sums.any (fun y => !y.sent) = true ∨ (s.tile k).outq = [] →
      exec (.cellPacketSend k j w e) s = .next s) ∧
    (∀ (c : Fin 256) (n : Fin 2), ((s.chan k c).buf n).isSealed = true →
      ((s.chan k c).nextBuf = n.val ∨ ((s.chan k c).nextBuf = 1 - n.val ∧ ((s.chan k c).buf (1 - n)).isSealed = false)) →
      (s.tile k).outq = [] → (s.tile k).marked = [] →
      exec (.handoffComplete k c) s = .next (s.setChan k c ((s.chan k c).setBuf n { HistBuf.init with freeAt := s.now }))) ∧
    (∀ (c : Fin 256) (n : Fin 2), ((s.chan k c).buf n).isSealed = true →
      ((s.chan k c).nextBuf = n.val ∨ ((s.chan k c).nextBuf = 1 - n.val ∧ ((s.chan k c).buf (1 - n)).isSealed = false)) →
      (s.tile k).outq = [] → ∀ r : Nat, (s.tile k).marked = [r] → 10368 * k.val + 19 * (2 * c.val + n.val) ≤ r →
      r < 10368 * k.val + 19 * (2 * c.val + n.val) + 19 → (s.tile k).bankRepairs (rowBank r) < 8 → ∃ t : State,
      exec (.handoffComplete k c) s = .next t ∧ (t.chan k c).buf n = { HistBuf.init with freeAt := s.now } ∧
      (t.tile k).repaired = (s.tile k).repaired ++ [r] ∧ (t.tile k).marked = [] ∧
      t.get (TILE_SRAM_REPAIR.remapped k) = ((s.tile k).repaired.length + 1) % 256 ∧
      t.get (TILE_SRAM_REPAIR.spares_free k) = (127 - (s.tile k).repaired.length) % 256 ∧
      t = { s with regs := t.regs, tiles := t.tiles } ∧ s.RegsBut t [TILE_SRAM_REPAIR.addr k]) ∧
    (∀ x : Nat × ChanRec, s.hist.transit.find? (fun p => p.2.tile == k.val) = some x → ∀ r : ChanRec, x.2 = r → s.hist.used + r.size ≤ 8388608 →
      s.hub.injected = [] → s.get HUB_W256_CTL.inject_arm = 0 → s.get HIST_TAP_CTL.enable = 0 → s.hist.nextSeq.getD k none = some r.seq → ∃ t : State,
      exec (.cellRecordReceive k .good) s = .next t ∧ t.hist.store = s.hist.store ++ [{ r with tapped := true }] ∧
      t.hist.transit = delFirst (fun p => p.2.tile == k.val) s.hist.transit ∧
      t.hist.nextSeq = s.hist.nextSeq.set k (some (if r.last then (r.seq + 1) % 65536 else r.seq)) ∧
      t = { s with hub := t.hub, hist := t.hist }) ∧
    (∀ x : Nat × ChanRec, s.hist.transit.find? (fun p => p.2.tile == k.val) = some x → ∀ r : ChanRec, x.2 = r → s.hist.used + r.size ≤ 8388608 →
      ∀ q : Nat, s.hist.nextSeq.getD k none = some q → q ≠ r.seq → ∃ t : State,
      exec (.cellRecordReceive k .good) s = .next t ∧ t.get HIST_SEQ_STAT.gaps = satAdd 65535 (s.get HIST_SEQ_STAT.gaps) 1 ∧
      t.get HIST_SEQ_STAT.last_tile = k.val ∧ t.get HIST_SEQ_STAT.gap_seen = 1 ∧ t.Pends Ev.cellSeqGap ∧
      t = { s with regs := t.regs, hub := t.hub, hist := t.hist, ev := t.ev, out := t.out } ∧ s.RegsBut t [HIST_SEQ_STAT.addr]) ∧
    (∀ e : Ecc, ∀ x : Nat × ChanRec, s.hist.transit.find? (fun p => p.2.tile == k.val) = some x →
      8388608 < s.hist.used + x.2.size → exec (.cellRecordReceive k e) s = .next s) ∧
    (∀ b : Fin 16, s.isOff (.tile k) = false → ∃ t : State, exec (.bankLoadPeakClr k b) s = .next t ∧
      t.get (TILE_BANK_LOAD.peak k b) = s.bankUtil k b ∧ t.get (TILE_BANK_LOAD.util k b) = s.bankUtil k b ∧
      s.OnlyRegs t [TILE_BANK_LOAD.addr k b])

/-- The raw taps and echo extraction (R127, R129 to R133, R136 to R141, R156, R157, R162, R163, R399). Beside them, each command of
`Histograms` on the operands of its own effect: a snapshot, its summary, answer and windows, a seal, a record's sending, hand-off and
reception, and a bank's load (R117 to R119, R122, R124, R127, R128). Log entries 6, 7, 26, 27, 28, 29, 56, 57, 58, 59, 60, 61, 62, 63,
64, 65, 66, 67, 68, 69, 70, 137, 168, 169, 180, 191, 211, 215, 216 and 217 bear on its clauses: what they fix is the model's choice. -/
def Obligations.TapsAndEchoes : Prop :=
  ∀ s : State,
    (∀ (n : Fin 64) (c : BitVec 11) (e : Bool) (d : Fin 16), e = false ∨ (c.toNat < 1536 ∧ ∀ m : Fin 64, m ≠ n →
        s.get (HIST_TAP_SEL.enable m) = 0 ∨ s.get (HIST_TAP_SEL.channel m) ≠ c.toNat) → ∃ t : State,
      exec (.tapSelect n c e d) s = .next t ∧ t.get (HIST_TAP_SEL.channel n) = c.toNat ∧ t.get (HIST_TAP_SEL.enable n) = bit e ∧
      t.get (HIST_TAP_SEL.decim n) = d.val ∧ t.hist = { s.hist with tapCount := s.hist.tapCount.set n 0 } ∧
      t = { s with regs := t.regs, hist := t.hist } ∧ s.RegsBut t [HIST_TAP_SEL.addr n]) ∧
    (∀ (n m : Fin 64) (c : BitVec 11) (d : Fin 16), m ≠ n → c.toNat < 1536 → s.get (HIST_TAP_SEL.enable m) = 1 →
      s.get (HIST_TAP_SEL.channel m) = c.toNat → ∃ t : State, exec (.tapSelect n c true d) s = .next t ∧
      t.Pends (Ev.claimDenied (c.toNat / 256)) ∧ s.OnlyRegsEv t []) ∧
    (∀ (v : Bool) (w : Word16), ∃ t : State, exec (.tapEnable true v w) s = .next t ∧
      t.get HIST_TAP_CTL.enable = (if 2 ≤ s.get HIST_TAP_SLOTS.slots then 1 else s.get HIST_TAP_CTL.enable) ∧
      t.get HIST_TAP_CTL.overwrite = bit v ∧ t.get HIST_TAP_CTL.wm_level = w.toNat ∧ s.OnlyRegs t [HIST_TAP_CTL.addr]) ∧
    (∀ (v : Bool) (w : Word16), ∃ t : State, exec (.tapEnable false v w) s = .next t ∧ t.get HIST_TAP_CTL.enable = 0 ∧
      t.get HIST_TAP_CTL.overwrite = bit v ∧ t.get HIST_TAP_CTL.wm_level = w.toNat ∧
      t.hist.store = (s.hist.store.filter (fun r => !r.extracted)).map (fun r => { r with tapped := true }) ∧
      t = { s with regs := t.regs, hist := { s.hist with store := t.hist.store } } ∧ s.RegsBut t [HIST_TAP_CTL.addr]) ∧
    (s.get HIST_TAP_SLOTS.slots ≠ 0 → s.get HIST_TAP_HEAD.index < s.get HIST_TAP_SLOTS.slots → ∃ t : State,
      exec (.tapFlush false) s = .next t ∧ t.get HIST_TAP_TAIL.index = s.get HIST_TAP_HEAD.index ∧ t.get HIST_TAP_STAT.level = 0 ∧
      s.Keeps t HIST_TAP_HEAD.index ∧ t.hist.store = s.hist.store ∧
      t = { s with regs := t.regs, ev := t.ev, hist := t.hist, out := t.out } ∧ s.RegsBut t [HIST_TAP_TAIL.addr, HIST_TAP_STAT.addr]) ∧
    (s.hist.store.any (fun r => !r.tapped) = true → ∃ t : State, exec (.tapFlush true) s = .next t ∧
      t.get HIST_TAP_TAIL.index = s.get HIST_TAP_HEAD.index ∧
      t.get HIST_TAP_CNT.truncated = satAdd 65535 (s.get HIST_TAP_CNT.truncated) 1 ∧
      t.hist.store = (updFirst (fun r => !r.tapped) (fun (r : ChanRec) => { r with tapped := true }) s.hist.store).filter
        (fun r => !(r.extracted && r.tapped)) ∧ s.SameMem t) ∧
    (∀ v : Word16, v.toNat < s.get HIST_TAP_SLOTS.slots →
      ringDist (s.get HIST_TAP_SLOTS.slots) v.toNat (s.get HIST_TAP_TAIL.index) ≤ s.get HIST_TAP_STAT.level → ∃ t : State,
      exec (.tapTailWrite v) s = .next t ∧ t.get HIST_TAP_TAIL.index = v.toNat ∧
      t.get HIST_TAP_STAT.level = ringDist (s.get HIST_TAP_SLOTS.slots) (s.get HIST_TAP_HEAD.index) v.toNat ∧
      t = { s with regs := t.regs, ev := t.ev, hist := t.hist, out := t.out } ∧ s.RegsBut t [HIST_TAP_TAIL.addr, HIST_TAP_STAT.addr]) ∧
    (∀ v : Word16, v.toNat ≠ s.get HIST_TAP_TAIL.index → s.get HIST_TAP_SLOTS.slots ≤ v.toNat → exec (.tapTailWrite v) s = .next s) ∧
    (∀ r : ChanRec, s.hist.store.find? (fun r => !r.tapped) = some r → s.get HIST_TAP_STAT.level + 1 < s.get HIST_TAP_SLOTS.slots →
      s.tagFree 1 = true → s.hub.injected = [] → s.memHas (s.get HIST_TAP_BASE.base * 4096 + 10240 * s.get HIST_TAP_HEAD.index) 10240 = true → ∃ t : State,
      exec .tapSlotCommit s = .next t ∧
      t.devMem = memStore s.devMem (s.get HIST_TAP_BASE.base * 4096 + 10240 * s.get HIST_TAP_HEAD.index)
        (match drawnEcc (Config.freeValue s.freeCtr).toNat with
         | .bad _ => if r.rep.drop = 0 then (r.dropped 4).slot else r.slot
         | _ => r.slot) ∧
      ((∃ y : BitVec 16, drawnEcc (Config.freeValue s.freeCtr).toNat = .bad y) → r.rep.drop = 0 →
        t.get HIST_DROP_CNT.hub_ue = satAdd 65535 (s.get HIST_DROP_CNT.hub_ue) 1 ∧ t.Pends Ev.cellRecordUncorrectable) ∧
      t.get HIST_TAP_HEAD.index = (s.get HIST_TAP_HEAD.index + 1) % s.get HIST_TAP_SLOTS.slots ∧ s.Keeps t HIST_TAP_TAIL.index ∧
      s.Keeps t HIST_TAP_CNT.dropped_full ∧ t.hostMem = s.hostMem ∧ t.nor = s.nor ∧ t.mode = s.mode) ∧
    (∀ r : ChanRec, s.hist.store.find? (fun r => !r.tapped) = some r →
      (s.get HIST_TAP_STAT.level + 1 < s.get HIST_TAP_SLOTS.slots ∨ s.get HIST_TAP_CTL.overwrite = 1) → s.tagFree 1 = false →
      exec .tapSlotCommit s = .next (s.tagWait 1)) ∧
    (∀ r : ChanRec, s.hist.store.find? (fun r => !r.tapped) = some r → s.get HIST_TAP_SLOTS.slots ≤ s.get HIST_TAP_STAT.level + 1 →
      s.get HIST_TAP_CTL.overwrite = 0 → ∃ t : State, exec .tapSlotCommit s = .next t ∧
      t.get HIST_TAP_CNT.dropped_full = satAdd 65535 (s.get HIST_TAP_CNT.dropped_full) 1 ∧ (s.hist.tapFull = false → t.Pends Ev.tapFull) ∧
      t.hist.tapFull = true ∧ t = { s with regs := t.regs, ev := t.ev, hist := t.hist, out := t.out } ∧ s.RegsBut t [HIST_TAP_CNT.addr]) ∧
    (∀ r : ChanRec, s.nextRec = some r → ∀ e : Ecc, ∃ t : State, exec (.echoExtract e) s = .next t ∧
      ((e = .good ∧ s.hub.injected = []) ∨ s.tooOld r = true ∨ r.rep.drop ≠ 0 → t.hist.store =
        (updFirst (sameRec r) (fun x => { x with extracted := true }) s.hist.store).filter (fun x => !(x.extracted && x.tapped))) ∧
      (s.tooOld r = false → r.rep.drop = 0 → (∃ y : BitVec 16, e = .bad y) →
        t.get HIST_DROP_CNT.hub_ue = satAdd 65535 (s.get HIST_DROP_CNT.hub_ue) 1 ∧ t.Pends Ev.cellRecordUncorrectable ∧
        t.echo.out = s.echo.out ++ [(s.get (ECHO_ROUTE.ring r.tile), [pointRecord (s.recBase r 0) 1 4 0 0 0 0 0 0 0 0 0])]) ∧
      (s.tooOld r = true → t.get ECHO_CNT_A.shed = satAdd 65535 (s.get ECHO_CNT_A.shed) 1 ∧ t.get ECHO_STAT.shedding = 1 ∧
        t.get ECHO_STAT.shed_seen = 1 ∧
        t.echo.out = s.echo.out ++ [(s.get (ECHO_ROUTE.ring r.tile), [pointRecord (s.recBase r 0) 1 10 0 0 0 0 0 0 0 0 0])]) ∧
      (s.tooOld r = false → r.rep.drop ≠ 0 → t.get ECHO_STAT.shedding = 0 ∧
        t.echo.out = s.echo.out ++ [(s.get (ECHO_ROUTE.ring r.tile), [pointRecord (s.recBase r 0) 1 r.rep.drop 0 0 0 0 0 0 0 0 0])] ∧
        (s.isPrio r.cell.bank = true → Out.safety true (summaryBytes (256 * r.tile + r.chan) r.cell true
          (s.filmOn r.cell.bank (fun v => !(v == 0))) []) ∈ t.out)) ∧
      (s.tooOld r = false → r.rep.drop = 0 → e = .good → s.hub.injected = [] → s.isPrio r.cell.bank = true → r.rep.used ≠ 0 →
        ∃ l : List EchoRes, Out.safety true (summaryBytes (256 * r.tile + r.chan) r.cell false
          (s.filmOn r.cell.bank (fun v => !(v == 0))) l) ∈ t.out) ∧ t.mode = s.mode ∧ s.SameMem t) ∧
    (∀ (x : Nat × List (List Byte)) (l : List (Nat × List (List Byte))), s.echo.out = x :: l →
      ∀ n : Nat, x.1 = n → ∀ p : List (List Byte), x.2 = p → ∀ h : Bool, n < 32 → s.tagFree 1 = true →
      s.hubBad (packetBuf p) (32 * p.length) = false → s.get (RING_PR_CFG.enable n) = 1 → s.get (RING_PR_STAT.level n) + p.length ≤ s.prLimit n → s.get (RING_PR_CFG.loc n) = 0 ∨ h = false →
      ∃ t : State, exec (.pointPacketWrite h) s = .next t ∧ t.echo = { s.echo with out := l } ∧
      t.get (RING_PR_HEAD.index n) = (s.get (RING_PR_HEAD.index n) + p.length) % s.prSize n % 2 ^ 28 ∧
      t.get (RING_PR_CNT.packets n) = (s.get (RING_PR_CNT.packets n) + 1) % 2 ^ (RING_PR_CNT.packets n).len ∧
      t.get ECHO_CNT_A.records = (s.get ECHO_CNT_A.records + p.length) % 2 ^ 32 ∧ t.mode = s.mode) ∧
    (∀ (x : Nat × List (List Byte)) (l : List (Nat × List (List Byte))), s.echo.out = x :: l →
      ∀ n : Nat, x.1 = n → ∀ p : List (List Byte), x.2 = p → ∀ h : Bool, n < 32 → s.tagFree 1 = true →
      s.hubBad (packetBuf p) (32 * p.length) = true ∨ s.get (RING_PR_CFG.enable n) = 0 → ∀ u : State,
      (s.tagPulse 1).hubScan 0 s.pulseTag (packetBuf p) (32 * p.length) = u → ∃ t : State, exec (.pointPacketWrite h) s = .next t ∧ t.echo = { s.echo with out := l } ∧
      s.Keeps t (RING_PR_CNT.packets n) ∧ s.Keeps t ECHO_CNT_A.records ∧ t.hostMem = s.hostMem ∧ t.devMem = s.devMem ∧
      t = { u with regs := t.regs, ev := t.ev, echo := t.echo, host := t.host, out := t.out } ∧
      u.RegsBut t [RING_PR_CNT.addr n]) ∧
    (∀ (x : Nat × List (List Byte)) (l : List (Nat × List (List Byte))) (h : Bool), s.echo.out = x :: l → s.tagFree 1 = false →
      exec (.pointPacketWrite h) s = .next (s.tagWait 1)) ∧
    (s.get ECHO_IF_STAT.active = 0 → (s.get ECHO_IF_CFG.coinc_req = 0 ∨ coincident s.echo.foreign = true) →
      s.get ECHO_IF_CFG.if_cells ≤ Nat.min 65535 s.echo.foreign.length → Nat.max 1 (s.get ECHO_IF_CFG.if_frames) ≤ s.echo.runOn + 1 → ∃ t : State,
      exec .ifFrameEvaluate s = .next t ∧ t.get ECHO_IF_STAT.active = 1 ∧ t.get ECHO_IF_STAT.detected_seen = 1 ∧
      t.get ECHO_IF_STAT.f_last = Nat.min 65535 s.echo.foreign.length ∧ t.Pends Ev.interferenceDetected ∧ t.echo.foreign = [] ∧
      (s.get ECHO_IF_CFG.auto_rekey = 1 → s.echo.hold ≤ 1 → t.Pends Ev.interferenceRekey ∧ t.get ECHO_IF_STAT.rekeyed_seen = 1 ∧
        t.get FIRE_CODE_KEY.key ≠ 0 ∧ t.echo.hold = s.get ECHO_IF_CFG2.rekey_hold) ∧ t.mode = s.mode ∧ s.SameMem t) ∧
    (s.get ECHO_IF_STAT.active = 1 → 2 * s.echo.foreign.length < s.get ECHO_IF_CFG.if_cells →
      Nat.max 1 (s.get ECHO_IF_CFG2.clear_frames) ≤ s.echo.runOff + 1 → ∃ t : State, exec .ifFrameEvaluate s = .next t ∧
      t.get ECHO_IF_STAT.active = 0 ∧ t.Pends Ev.interferenceCleared ∧ t.echo.runOn = 0 ∧ t.echo.foreign = [] ∧
      t = { s with regs := t.regs, ev := t.ev, echo := t.echo, out := t.out } ∧ s.RegsBut t [ECHO_IF_STAT.addr]) ∧
    (∃ t : State, exec .echoLoadPeakClr s = .next t ∧ t.get ECHO_LOAD.peak = t.get ECHO_LOAD.util ∧
      t.get ECHO_LOAD.util = Nat.min 255 ((s.echo.loads.filter (fun u => decide (timeDiff s.now u ≤ 1000 * usUnits))).length * 256 / 120000) ∧
      t = { s with regs := t.regs, echo := { s.echo with loads := t.echo.loads } } ∧ s.RegsBut t [ECHO_LOAD.addr]) ∧
    (∀ k : Fin 6, s.tiles.length = 6 →
      (∀ v : ScanWord, ∀ y : TileCell, (s.tile k).cells.find? (fun y => y.zoomOn && !y.snapped &&
          s.fire.cells.any (fun c => c.id == y.id && c.bank == v.bank.val)) = some y → ∃ t : State,
        exec (.zoomSnapshot k v) s = .next t ∧ (t.tile k).cells.all (fun z => !(z.id == y.id) || z.snapped) = true) ∧
      (∀ j : Fin 2, ∀ x : JexLink, s.hub.links[2 * k.val + j.val]? = some x → ∀ y : Summary, (s.tile k).sums.find? (fun y => !y.sent) = some y →
        3 ≤ x.credits.getD 2 0 → x.down = false → ∃ t : State, exec (.summarySend k j) s = .next t ∧
        t.out = .stream (2 * k + j) (y.bytes k) :: s.out) ∧
      (∀ l : Bool, ∀ y : Summary, (s.tile k).sums.find? (fun y => y.sent && y.answer.isNone) = some y → ∃ t : State,
        exec (.zoomAnswer k l) s = .next t ∧
        (t.tile k).sums = updFirst (fun y => y.sent && y.answer.isNone) (fun y => { y with answer := some (s.zoomWindows y) }) (s.tile k).sums) ∧
      (∀ c : Fin 256, ∀ y : Summary, (s.tile k).sums.find? (fun y => y.chan == c.val && y.answer.isSome) = some y →
        ∀ w : List Nat, y.answer = some w → ∀ n : Nat, (s.chan k c).bufOf y.cell = some n → w ≠ [] → ∃ t : State,
        exec (.zoomWindowInstall k c) s = .next t ∧ ((t.chan k c).buf n).zoomWins = w) ∧
      (∀ b : Fin 64, ∀ x : CellInfo, s.fire.cells.find? (fun c => c.bank == b.val && !c.sealedBy.contains k.val && decide (c.planned ≤ c.seen)) =
        some x → s.tileOff k = false → s.cellChans k x ≠ [] → ∃ t : State, exec (.cellSeal k b) s = .next t ∧
        t.get (TILE_HIST_STAT.cell_seq k) = (s.get (TILE_HIST_STAT.cell_seq k) + 1) % 65536) ∧
      (∀ (j : Fin 2) (w : Fin 304) (e : Ecc), ∀ x : JexLink, s.hub.links[2 * k.val + j.val]? = some x →
        ∀ (r : ChanRec) (q : List ChanRec), (s.tile k).outq = r :: q → 9 ≤ x.credits.getD 2 0 → x.down = false →
        (s.tile k).sums.any (fun y => !y.sent) = false → r.rep.drop ≠ 0 → ∃ t : State, exec (.cellPacketSend k j w e) s = .next t ∧
        (t.tile k).outq = q ∧ t.hist.transit = s.hist.transit ++ [(2 * k.val + j.val, r)]) ∧
      (∀ (c : Fin 256) (n : Fin 2), ((s.chan k c).buf n).isSealed = true → (s.chan k c).nextBuf = n.val → (s.tile k).outq = [] →
        (s.tile k).marked = [] → exec (.handoffComplete k c) s = .next (s.setChan k c ((s.chan k c).setBuf n { HistBuf.init with freeAt := s.now }))) ∧
      (∀ x : Nat × ChanRec, s.hist.transit.find? (fun p => p.2.tile == k.val) = some x → ∀ r : ChanRec, x.2 = r → s.hist.used + r.size ≤ 8388608 →
        s.hub.injected = [] → s.get HUB_W256_CTL.inject_arm = 0 → s.get HIST_TAP_CTL.enable = 0 → s.hist.nextSeq.getD k none = some r.seq →
        ∃ t : State, exec (.cellRecordReceive k .good) s = .next t ∧ t.hist.store = s.hist.store ++ [{ r with tapped := true }]) ∧
      (∀ b : Fin 16, s.isOff (.tile k) = false → ∃ t : State, exec (.bankLoadPeakClr k b) s = .next t ∧
        t.get (TILE_BANK_LOAD.peak k b) = s.bankUtil k b))


/-- Requests of the memory ports (R233 to R237, R245, R248): entry, waiting, command slots, completion, quotas and targets. Log entries
78, 79, 80, 84 and 171 bear on its clauses: what they fix is the model's choice. -/
def Obligations.MemoryRequests : Prop :=
  ∀ s : State,
    (∀ (p : Fin 8) (d : BitVec 64) (w : Bool), s.memHas d.toNat 1 = true → s.tagFree (portClass p) = true →
      s.get (MEM_PORT_STAT.in_use p) < s.memQuota p → (s.mem.queue (s.bankKey d.toNat)).length < 16 → s.mem.waiting = [] → ∃ t : State,
      exec (.memRequest p d w) s = .next t ∧
      t.mem = s.mem.setQueue (s.bankKey d.toNat) (s.mem.queue (s.bankKey d.toNat) ++ [⟨p, d.toNat, w, s.now, some s.hub.nextInst, false⟩]) ∧
      t.get (MEM_PORT_STAT.in_use p) = s.get (MEM_PORT_STAT.in_use p) + 1 ∧
      t.get (MEM_PORT_STAT.peak p) = Nat.max (s.get (MEM_PORT_STAT.in_use p) + 1) (s.get (MEM_PORT_STAT.peak p)) ∧
      t.hub.ops.length = s.hub.ops.length + 1 ∧ t.hub.ops.take s.hub.ops.length = s.hub.ops ∧
      t = { s with regs := t.regs, hub := t.hub, mem := t.mem } ∧ s.RegsBut t [MEM_PORT_STAT.addr p, HUB_TAG_STAT.addr (portClass p)]) ∧
    (∀ (p : Fin 8) (d : BitVec 64) (w : Bool), s.memHas d.toNat 1 = true → s.tagFree (portClass p) = true →
      s.memQuota p ≤ s.get (MEM_PORT_STAT.in_use p) ∨ 16 ≤ (s.mem.queue (s.bankKey d.toNat)).length → s.mem.waiting = [] →
      exec (.memRequest p d w) s = .next { s with mem := { s.mem with waiting := [⟨p, d.toNat, w, s.now, none, false⟩] } }) ∧
    (∀ (p : Fin 8) (d : BitVec 64) (w : Bool), s.memHas d.toNat 1 = true → s.tagFree (portClass p) = false →
      s.get (HUB_TAG_STAT.exhaust (portClass p)) = 0 → s.mem.waiting = [] → ∃ t : State, exec (.memRequest p d w) s = .next t ∧
      t.mem = { s.mem with waiting := [⟨p, d.toNat, w, s.now, none, false⟩] } ∧ t.get (HUB_TAG_STAT.exhaust (portClass p)) = 1 ∧
      t.Pends Ev.tagExhaust ∧ t = { s with regs := t.regs, ev := t.ev, mem := t.mem, out := t.out } ∧
      s.RegsBut t [HUB_TAG_STAT.addr (portClass p)]) ∧
    (∀ (p : Fin 8) (d : BitVec 64) (w : Bool), s.memHas d.toNat 1 = false → p ≠ 2 ∨ s.get MEM_STAT.mem_active = 0 →
      exec (.memRequest p d w) s = .next s) ∧
    (∀ (d : BitVec 64) (w : Bool), s.memHas d.toNat 1 = false → s.get MEM_STAT.mem_active = 1 → s.mem.extentAt = none → ∃ t : State,
      exec (.memRequest 2 d w) s = .next t ∧ t.mem = { s.mem with extentAt := some s.now } ∧ t.Pends Ev.memExtentViolation ∧
      t = { s with regs := t.regs, ev := t.ev, mem := t.mem, out := t.out } ∧ s.RegsBut t []) ∧
    (∀ (m : Fin 4) (k : Nat) (r : MemReq) (u : Nat), (s.bankRound m).all (fun k => s.owedOf k == 0 || (s.bankRt k && !(s.owedOf k == 8))) = true →
      s.bankPick (s.bankRound m) = some (k, r, u) → s.mem.waiting = [] → ∃ t : State, exec (.memCommandSlot m) s = .next t ∧
      t.mem.queue k = (s.mem.queue k).filter (fun q => !decide (q = r)) ∧ (∀ j, j ≠ k → t.mem.queue j = s.mem.queue j) ∧
      t.mem.flight = (if r.done then s.mem.flight else s.mem.flight ++ [r]) ∧
      tabGet (fun _ => none) t.mem.rows k = some (s.memPlace r.d).2.2 ∧
      tabGet (fun _ => []) t.mem.checks k = checkUse (s.memStripeInRow r.d / 4) r.write
        (if s.rowHit k r then tabGet (fun _ => []) s.mem.checks k else []) ∧
      t.mem.last = s.mem.last.set m (k % 16) ∧ t.mem.owed = s.mem.owed ∧
      t = { s with regs := t.regs, mem := t.mem } ∧ s.RegsBut t [MEM_CH_REF.addr m]) ∧
    (∀ m : Fin 4, (s.bankRound m).find? (fun k => s.owedOf k == 8 && s.bankFree k) = none →
      (∀ b : Fin 16, s.mem.queue (16 * m + b) = []) → ∃ t : State, exec (.memCommandSlot m) s = .next t ∧
      (∀ b : Fin 16, s.owedOf (16 * m + b) ≠ 0 → s.bankFree (16 * m + b) = true →
        t.owedOf (16 * m + b) = s.owedOf (16 * m + b) - 1 ∧ tabGet (fun _ => none) t.mem.rows (16 * m + b) = none ∧
        tabGet (fun _ => []) t.mem.checks (16 * m + b) = [] ∧ t.mem.blocked.find? (fun p => p.1 == 16 * m.val + b.val) =
          some (16 * m.val + b.val, (s.now + 65536 * s.get (MEM_CH_INFO.trfcpb_ns m)) % 2 ^ 64)) ∧
      (∀ b : Fin 16, s.owedOf (16 * m + b) = 0 ∨ s.bankFree (16 * m + b) = false → t.owedOf (16 * m + b) = s.owedOf (16 * m + b)) ∧
      t.mem.queues = s.mem.queues ∧ t.mem.flight = s.mem.flight ∧
      t = { s with regs := t.regs, mem := t.mem } ∧ s.RegsBut t [MEM_CH_REF.addr m]) ∧
    (∀ (m : Fin 4) (b : Fin 16), (s.bankRound m).find? (fun k => s.owedOf k == 8 && s.bankFree k) = some (16 * m.val + b.val) →
      exec (.memCommandSlot m) s = exec (.refreshPreempt m b) s) ∧
    (∀ (p : Fin 8) (e : Ecc) (r : MemReq), oldestReq s.now (s.memReady p) = some r → s.mem.waiting = [] → ∃ t : State,
      exec (.memCompletion p e) s = .next t ∧
      t.get (MEM_PORT_STAT.in_use p) = s.get (MEM_PORT_STAT.in_use p) - 1 ∧
      (65536 * s.memTarget p < (s.now + 2 ^ 64 - r.entered % 2 ^ 64) % 2 ^ 64 →
        t.get (MEM_PORT_MISS.misses p) = satAdd (2 ^ 32 - 1) (s.get (MEM_PORT_MISS.misses p)) 1 ∧ t.get (MEM_PORT_STAT.miss_seen p) = 1) ∧
      ((s.now + 2 ^ 64 - r.entered % 2 ^ 64) % 2 ^ 64 ≤ 65536 * s.memTarget p → s.Keeps t (MEM_PORT_MISS.misses p) ∧
        s.Keeps t (MEM_PORT_STAT.miss_seen p)) ∧
      (s.mem.flight.contains r = true → t.mem.flight = s.mem.flight.filter (fun q => !decide (q = r))) ∧
      (s.mem.flight.contains r = false → t.mem.flight = s.mem.flight ∧ ((s.mem.queues.map (fun q => q.1)).Nodup →
        ∀ k, t.mem.queue k = (s.mem.queue k).map (fun q => if q = r then { q with done := true } else q))) ∧
      (∀ o : Op, s.hub.ops.find? (fun o => some o.inst == r.inst) = some o → t.hub.ops = s.hub.ops.filter (fun x => !(x.inst == o.inst))) ∧
      t.mode = s.mode ∧ s.SameMem t) ∧
    (∀ (c : BitVec 16) (r : MemReq) (i : Nat), oldestReq s.now (s.memReady 6) = some r → s.mem.waiting = [] →
      s.mem.flight.contains r = true → r.write = false → r.inst = some i → s.hub.injected = [] → ∃ t : State,
      exec (.memCompletion 6 (.bad c)) s = .next t ∧ .opDone (s.tagOf i) i 6 false ∈ t.out ∧ t.Pends Ev.memUncorrectable) ∧
    (∀ (p : Fin 8) (e : Ecc), s.memReady p = [] → exec (.memCompletion p e) s = .next s) ∧
    (∀ (p : Fin 8) (v : BitVec 11), clampN 1 1024 v.toNat < s.get (MEM_PORT_STAT.in_use p) → ∃ t : State,
      exec (.memQuotaWrite p v) s = .next t ∧ t.get (MEM_PORT_QUOTA.quota p) = v.toNat ∧ t.get (MEM_PORT_STAT.quota_cut p) = 1 ∧
      s.Keeps t (MEM_PORT_STAT.in_use p) ∧ t.Pends Ev.memQuotaCut ∧ s.OnlyRegsEv t [MEM_PORT_QUOTA.addr p, MEM_PORT_STAT.addr p]) ∧
    (∀ (p : Fin 8) (v : BitVec 11), s.get (MEM_PORT_STAT.in_use p) ≤ clampN 1 1024 v.toNat → s.mem.waiting = [] → ∃ t : State,
      exec (.memQuotaWrite p v) s = .next t ∧ t.get (MEM_PORT_QUOTA.quota p) = v.toNat ∧ s.OnlyRegs t [MEM_PORT_QUOTA.addr p]) ∧
    (∀ (p : Fin 8) (v : BitVec 16), Nat.max 1 v.toNat < s.trfcMax + 120 → ∃ t : State, exec (.memPortCfgWrite p v true) s = .next t ∧
      t.Pends Ev.memConfigRejected ∧ s.OnlyRegsEv t []) ∧
    (∀ (p : Fin 8) (v : BitVec 16) (rt : Bool), rt = false ∨ s.trfcMax + 120 ≤ Nat.max 1 v.toNat → ∃ t : State,
      exec (.memPortCfgWrite p v rt) s = .next t ∧ t.get (MEM_PORT_CFG.target_ns p) = v.toNat ∧ t.get (MEM_PORT_CFG.rt p) = bit rt ∧
      s.OnlyRegs t [MEM_PORT_CFG.addr p]) ∧
    (∀ p : Fin 8, ∃ t : State, exec (.memPortPeakClr p) s = .next t ∧ t.get (MEM_PORT_STAT.peak p) = s.get (MEM_PORT_STAT.in_use p) ∧
      s.Keeps t (MEM_PORT_STAT.in_use p) ∧ s.Keeps t (MEM_PORT_STAT.miss_seen p) ∧ s.OnlyRegs t [MEM_PORT_STAT.addr p])

/-- Initialisation, refresh, training and the data rate (R226, R232, R238 to R243, R249, R367). Log entries 77 and 79 bear on its
clauses: what they fix is the model's choice. -/
def Obligations.MemoryUpkeep : Prop :=
  ∀ s : State,
    (∀ (o : Fin 4) (f0 f1 f2 f3 : MemFound), s.get MEM_CTL.lock = 1 ∨ s.boot.cfgRead = false ∨ o.val ≠ s.boot.mapOrder →
      exec (.memInit o f0 f1 f2 f3) s = .next s) ∧
    (∀ (o : Fin 4) (f0 f1 f2 f3 : MemFound), s.get MEM_CTL.lock = 0 → s.boot.cfgRead = true → o.val = s.boot.mapOrder → ∃ t : State, exec (.memInit o f0 f1 f2 f3) s = .next t ∧
      t.get MEM_CTL.map_order = o.val ∧ t.get MEM_CTL.init = 1 ∧
      (∀ m : Fin 4, t.get (MEM_CH_INFO.cap m) = ([f0, f1, f2, f3].getD m f0).cap.val) ∧
      t.get MEM_STAT.ch_present = ((List.range 4).map (fun m => if ([f0, f1, f2, f3].getD m f0).cap.val = 0 then 0 else 2 ^ m)).sum ∧
      t.get MEM_STAT.ch_active = ((List.range 4).map (fun m =>
        if ([f0, f1, f2, f3].getD m f0).cap.val = 0 ∨ ([f0, f1, f2, f3].getD m f0).trained = false then 0 else 2 ^ m)).sum ∧
      t.mem.chs = (List.range 4).filter (fun m =>
        !(([f0, f1, f2, f3].getD m f0).cap.val == 0) && ([f0, f1, f2, f3].getD m f0).trained) ∧
      (∀ m : Fin 4, ([f0, f1, f2, f3].getD m f0).cap.val ≠ 0 → ([f0, f1, f2, f3].getD m f0).trained = false →
        t.get (MEM_CH_INFO.train_fail m) = 1 ∧ t.get MEM_STAT.boot_retired = 1 ∧ t.Pends Ev.memTrainFail) ∧
      (t.mem.chs = [] → t.get HUB_BOOT_STAT.boot_err = 1) ∧
      t = { s with regs := t.regs, ev := t.ev, mem := t.mem, out := t.out, freeCtr := t.freeCtr } ∧
      s.RegsBut t [MEM_CTL.addr, MEM_STAT.addr, HUB_BOOT_STAT.addr, MEM_CH_INFO.addr 0, MEM_CH_INFO.addr 1, MEM_CH_INFO.addr 2,
        MEM_CH_INFO.addr 3]) ∧
    (s.get MEM_CTL.init = 1 → s.mem.chs ≠ [] → ∃ t : State, exec .memInitDone s = .next t ∧ t.get MEM_CTL.init = 0 ∧
      t.get MEM_STAT.init_done = 1 ∧ t.get MEM_STAT.mem_active = 1 ∧
      t.get MEM_EXTENT.extent = 256 * (s.mem.chs.length * s.mem.stripes) % 2 ^ 64 ∧
      t.devMem = [] ∧ t.Pends Ev.memTrainDone ∧ t.Pends Ev.memInitDone ∧
      t = { s with regs := t.regs, ev := t.ev, hub := { s.hub with injected := t.hub.injected }, devMem := [], out := t.out } ∧
      s.RegsBut t [MEM_CTL.addr, MEM_STAT.addr, MEM_EXTENT.addr]) ∧
    (s.get MEM_CTL.init = 0 ∨ s.mem.chs = [] → exec .memInitDone s = .next s) ∧
    (∃ t : State, exec .memLock s = .next t ∧ t.get MEM_CTL.lock = 1 ∧ s.Keeps t MEM_CTL.map_order ∧ s.OnlyRegs t [MEM_CTL.addr]) ∧
    (∀ m : Fin 4, (s.get MEM_STAT.ch_active).testBit m = true → ∃ t : State, exec (.refreshDue m) s = .next t ∧
      (∀ b : Fin 16, s.bankRt (16 * m + b) = true ∨ s.bankFree (16 * m + b) = false →
        t.owedOf (16 * m + b) = Nat.min 8 (s.owedOf (16 * m + b) + 1)) ∧
      (∀ b : Fin 16, s.bankRt (16 * m + b) = false → s.bankFree (16 * m + b) = true →
        t.owedOf (16 * m + b) = Nat.min 8 (s.owedOf (16 * m + b) + 1) - 1 ∧ tabGet (fun _ => none) t.mem.rows (16 * m + b) = none ∧
        t.mem.blocked.find? (fun p => p.1 == 16 * m.val + b.val) =
          some (16 * m.val + b.val, (s.now + 65536 * s.get (MEM_CH_INFO.trfcpb_ns m)) % 2 ^ 64)) ∧
      t.mem.queues = s.mem.queues ∧ t = { s with regs := t.regs, mem := t.mem } ∧ s.RegsBut t [MEM_CH_REF.addr m]) ∧
    (∀ m : Fin 4, (s.get MEM_STAT.ch_active).testBit m = false → exec (.refreshDue m) s = .next s) ∧
    (∀ (m : Fin 4) (b : Fin 16), s.owedOf (16 * m + b) = 8 → ∃ t : State, exec (.refreshPreempt m b) s = .next t ∧
      t.owedOf (16 * m + b) = 7 ∧ (∀ c : Fin 16, c ≠ b → t.owedOf (16 * m + c) = s.owedOf (16 * m + c)) ∧
      t.get (MEM_CH_REF.preempts m) = satAdd 65535 (s.get (MEM_CH_REF.preempts m)) 1 ∧
      (s.mem.limitAt.getD m none = none → t.Pends Ev.memRefreshLimit) ∧
      t = { s with regs := t.regs, ev := t.ev, mem := t.mem, out := t.out } ∧ s.RegsBut t [MEM_CH_REF.addr m]) ∧
    (∀ (m : Fin 4) (b : Fin 16), s.owedOf (16 * m + b) ≠ 8 → exec (.refreshPreempt m b) s = .next s) ∧
    (∀ (m : Fin 4) (x : Fin 3), s.get (MEM_CH_INFO.ref_mult m) ≠ x.val → ∃ t : State, exec (.mr4RateChange m x) s = .next t ∧
      t.get (MEM_CH_INFO.ref_mult m) = x.val ∧ t.Pends Ev.memThermalDerate ∧ s.OnlyRegsEv t [MEM_CH_INFO.addr m]) ∧
    (∀ (m : Fin 4) (x : Fin 3), s.get (MEM_CH_INFO.ref_mult m) = x.val → exec (.mr4RateChange m x) s = .next s) ∧
    (∀ m : Fin 4, s.get MEM_TRAIN_CFG.periodic_en = 1 → (s.get MEM_STAT.ch_active).testBit m = true → ∃ t : State,
      exec (.retrainStep m true) s = .next t ∧ t.mem.stepOn = s.mem.stepOn.set m true ∧ t.mem.fails = s.mem.fails.set m 0 ∧
      (∀ sp : Nat, sp ≠ s.get MEM_FREQ_CTL.cur_sp → (t.mem.trained.getD m []).getD sp 0 = (s.mem.trained.getD m []).getD sp 0) ∧
      t.get MEM_FREQ_CTL.deferred = (if s.mem.target.isSome then 1 else s.get MEM_FREQ_CTL.deferred) ∧ s.Keeps t MEM_FREQ_CTL.req ∧
      t = { s with regs := t.regs, mem := t.mem, freeCtr := t.freeCtr } ∧ s.RegsBut t [MEM_FREQ_CTL.addr]) ∧
    (∀ m : Fin 4, s.get MEM_TRAIN_CFG.periodic_en = 1 → (s.get MEM_STAT.ch_active).testBit m = true → ∃ t : State,
      exec (.retrainStep m false) s = .next t ∧
      t.mem = { s.mem with stepOn := s.mem.stepOn.set m true, fails := s.mem.fails.set m (s.mem.fails.getD m 0 + 1) } ∧
      t.get (MEM_CH_INFO.train_fail m) = 1 ∧ t.Pends Ev.memTrainFail ∧
      t.get MEM_FREQ_CTL.deferred = (if s.mem.target.isSome then 1 else s.get MEM_FREQ_CTL.deferred) ∧
      t = { s with regs := t.regs, ev := t.ev, mem := t.mem, out := t.out } ∧ s.RegsBut t [MEM_CH_INFO.addr m, MEM_FREQ_CTL.addr]) ∧
    (∀ m : Fin 4, ∃ t : State, exec (.trainingStepEnd m) s = .next t ∧ t.mem = { s.mem with stepOn := s.mem.stepOn.set m false } ∧
      (t.mem.stepOn.any id = false → t.get MEM_FREQ_CTL.deferred = 0) ∧ s.Keeps t MEM_FREQ_CTL.req ∧
      t = { s with regs := t.regs, mem := t.mem } ∧ s.RegsBut t [MEM_FREQ_CTL.addr]) ∧
    (∀ (sp : Fin 4) (h : Bool), Nat.max (s.get THM_STAT.mem_throttle) (Nat.min 2 sp) ≠ s.get MEM_FREQ_CTL.cur_sp → ∃ t : State,
      exec (.freqChangeReq sp h) s = .next t ∧ t.mem = { s.mem with target := some (Nat.max (s.get THM_STAT.mem_throttle) (Nat.min 2 sp)) } ∧
      t.get MEM_FREQ_CTL.req = 1 ∧ t.get MEM_FREQ_CTL.deferred = bit (s.mem.stepOn.any id) ∧ s.Keeps t MEM_FREQ_CTL.cur_sp ∧
      (h = false → t.get MEM_FREQ_CTL.target_sp = sp.val) ∧ (h = true → s.Keeps t MEM_FREQ_CTL.target_sp) ∧
      t = { s with regs := t.regs, mem := t.mem } ∧ s.RegsBut t [MEM_FREQ_CTL.addr]) ∧
    (∀ (sp : Fin 4) (h : Bool), Nat.max (s.get THM_STAT.mem_throttle) (Nat.min 2 sp) = s.get MEM_FREQ_CTL.cur_sp → ∃ t : State,
      exec (.freqChangeReq sp h) s = .next t ∧ s.Keeps t MEM_FREQ_CTL.req ∧ s.Keeps t MEM_FREQ_CTL.cur_sp ∧
      (h = false → t.get MEM_FREQ_CTL.target_sp = sp.val) ∧ s.OnlyRegs t [MEM_FREQ_CTL.addr]) ∧
    (∀ n : Nat, s.mem.target = some n → n < 4 → s.mem.stepOn.any id = false → ∃ t : State, exec .freqChangeApply s = .next t ∧
      t.get MEM_FREQ_CTL.cur_sp = n ∧ t.get MEM_FREQ_CTL.req = 0 ∧ t.get MEM_FREQ_CTL.deferred = 0 ∧
      t.mem = { s.mem with target := none } ∧ t.Pends Ev.memFreqChange ∧
      t = { s with regs := t.regs, ev := t.ev, mem := t.mem, out := t.out } ∧ s.RegsBut t [MEM_FREQ_CTL.addr]) ∧
    (s.mem.target = none ∨ s.mem.stepOn.any id = true → exec .freqChangeApply s = .next s)

/-- Scrubbing, error counts and the retirement of a channel (R39, R244 to R248). Log entries 81, 83 and 157 bear on its clauses: what
they fix is the model's choice. -/
def Obligations.MemoryRetirement : Prop :=
  ∀ s : State,
    (s.get MEM_SCRUB_CFG.enable = 1 → s.get MEM_STAT.mem_active = 1 → s.hub.injected = [] → ∃ t : State, exec .scrubPassEnd s = .next t ∧ t.Pends Ev.memScrubDone ∧
      s.OnlyRegsEv t []) ∧
    (∀ (a n : Nat), s.get MEM_SCRUB_CFG.enable = 1 → s.get MEM_STAT.mem_active = 1 → s.hub.injected = [(4, a, n)] → s.memHas a 32 = true →
      a % 32 = 0 → 1 ≤ n → n ≤ 2 → ∃ t : State,
      exec .scrubPassEnd s = .next t ∧ t.Pends Ev.memScrubDone ∧ t.Pends Ev.memCorrectable ∧
      t.hub.injected = (if s.get HUB_W256_CTL.writeback_en = 1 then [] else s.hub.injected) ∧
      t.get HUB_W256_STAT.ce_count = satAdd (2 ^ HUB_W256_STAT.ce_count.len - 1) (s.get HUB_W256_STAT.ce_count) 1 ∧
      s.Keeps t HUB_W256_STAT.ue_count ∧ t.mode = s.mode ∧ s.SameMem t) ∧
    (∀ (a n : Nat), s.get MEM_SCRUB_CFG.enable = 1 → s.get MEM_STAT.mem_active = 1 → s.hub.injected = [(4, a, n)] → s.memHas a 32 = false →
      ∃ t : State, exec .scrubPassEnd s = .next t ∧ t.Pends Ev.memScrubDone ∧ s.OnlyRegsEv t []) ∧
    (s.get MEM_SCRUB_CFG.enable = 0 ∨ s.get MEM_STAT.mem_active = 0 → exec .scrubPassEnd s = .next s) ∧
    (∀ m : Fin 4, s.get MEM_CE_THR.ce_thr < s.mem.ceSec.getD m 0 → ∃ t : State, exec (.ceRateCheck m) s = .next t ∧
      t.mem = { s.mem with ceSec := s.mem.ceSec.set m 0 } ∧ t.get (MEM_CH_ERR.ce_rate_seen m) = 1 ∧ t.Pends Ev.memCeRate ∧
      t = { s with regs := t.regs, ev := t.ev, mem := t.mem, out := t.out } ∧ s.RegsBut t [MEM_CH_ERR.addr m]) ∧
    (∀ m : Fin 4, s.mem.ceSec.getD m 0 ≤ s.get MEM_CE_THR.ce_thr →
      exec (.ceRateCheck m) s = .next { s with mem := { s.mem with ceSec := s.mem.ceSec.set m 0 } }) ∧
    (∀ m : Fin 4, s.isOff (.ddr m) = false → ∃ t : State, exec (.memErrClear m) s = .next t ∧ t.get (MEM_CH_ERR.ce_count m) = 0 ∧
      t.get (MEM_CH_ERR.ue_count m) = 0 ∧ s.Keeps t (MEM_CH_ERR.ce_rate_seen m) ∧ s.OnlyRegs t [MEM_CH_ERR.addr m]) ∧
    (∀ m : Fin 4, s.isOff (.ddr m) = true → ∃ t : State, exec (.memErrClear m) s = .next t ∧ t.Pends Ev.isolatedAccess ∧ s.OnlyRegsEv t []) ∧
    (∀ m : Fin 4, s.get MEM_STAT.retired = 1 ∨ s.get MEM_STAT.boot_retired = 1 ∨ s.get MEM_STAT.retiring = 1 ∨
        (s.get MEM_STAT.ch_active).testBit m = false ∨ s.mem.chs.length ≤ 1 ∨ s.get MEM_STAT.mem_active = 0 → ∃ t : State,
      exec (.retireStart m) s = .next t ∧ t.Pends Ev.memConfigRejected ∧ s.OnlyRegsEv t []) ∧
    (∀ m : Fin 4, s.get MEM_STAT.retired = 0 → s.get MEM_STAT.boot_retired = 0 → s.get MEM_STAT.retiring = 0 →
        (s.get MEM_STAT.ch_active).testBit m = true → 2 ≤ s.mem.chs.length → s.get MEM_STAT.mem_active = 1 →
        256 * (s.mem.chs.length * s.mem.stripes) < 2 ^ 64 → ∃ t : State,
      exec (.retireStart m) s = .next t ∧ t.get MEM_RETIRE_CTL.ch = m.val ∧ t.get MEM_RETIRE_CTL.start = 1 ∧ t.get MEM_STAT.retiring = 1 ∧
      t.get MEM_EXTENT.extent = 256 * ((s.mem.chs.length - 1) * s.mem.stripes) ∧
      t.get MEM_RETIRE_PTR.ptr = 256 * Nat.min ((s.mem.chs.length - 1) * s.mem.stripes)
        (nextStripe s.memOrder s.mem.chs.length s.mem.stripes (s.chIx m) 0) ∧
      t.mem = { s.mem with retIx := some (s.chIx m) } ∧ t.Pends Ev.memRetireStart ∧
      t = { s with regs := t.regs, ev := t.ev, mem := t.mem, out := t.out } ∧
      s.RegsBut t [MEM_RETIRE_CTL.addr, MEM_STAT.addr, MEM_EXTENT.addr, MEM_RETIRE_PTR.addr]) ∧
    (∀ r : Nat, s.mem.retIx = some r → s.get MEM_STAT.retiring = 1 → s.get MEM_RETIRE_PTR.ptr < s.get MEM_EXTENT.extent →
      s.hub.injected = [] → ∃ t : State, exec (.migrateStripe []) s = .next t ∧
      t.get MEM_RETIRE_PTR.ptr = 256 * Nat.min s.memStripes
        (nextStripe s.memOrder s.mem.chs.length s.mem.stripes r (s.get MEM_RETIRE_PTR.ptr / 256 + 1)) ∧ s.OnlyRegs t [MEM_RETIRE_PTR.addr]) ∧
    (∀ (r : Nat) (b : Fin 8), s.mem.retIx = some r → s.get MEM_STAT.retiring = 1 → s.get MEM_RETIRE_PTR.ptr < s.get MEM_EXTENT.extent →
      s.hub.injected = [] → s.get MEM_RETIRE_PTR.ptr % 256 = 0 → ∃ t : State, exec (.migrateStripe [b]) s = .next t ∧
      t.hub.injected = [(4, s.get MEM_RETIRE_PTR.ptr + 32 * b.val, 4)] ∧
      t.get HUB_W256_STAT.ue_count = satAdd (2 ^ HUB_W256_STAT.ue_count.len - 1) (s.get HUB_W256_STAT.ue_count) 1 ∧
      t.Pends Ev.memUncorrectable ∧ t.devMem = s.devMem ∧ t.mode = s.mode) ∧
    (∀ l : List (Fin 8), s.mem.retIx = none ∨ s.get MEM_STAT.retiring = 0 ∨ s.get MEM_EXTENT.extent ≤ s.get MEM_RETIRE_PTR.ptr →
      exec (.migrateStripe l) s = .next s) ∧
    (∀ m : Fin 4, s.get MEM_STAT.retiring = 1 → s.get MEM_EXTENT.extent ≤ s.get MEM_RETIRE_PTR.ptr → s.get MEM_RETIRE_CTL.ch = m.val →
      s.hub.ops.all (fun o => !decide (o.target = .ddr m)) = true → ∃ t : State,
      exec .retireDone s = .next t ∧ t.get MEM_STAT.retiring = 0 ∧ t.get MEM_STAT.retired = 1 ∧ t.get MEM_STAT.retired_ch = m.val ∧
      (t.get MEM_STAT.ch_active).testBit m = false ∧
      (∀ n : Fin 4, n ≠ m → (t.get MEM_STAT.ch_active).testBit n = (s.get MEM_STAT.ch_active).testBit n) ∧
      t.get MEM_RETIRE_CTL.start = 0 ∧ t.isOff (.ddr m) = true ∧ t.Pends Ev.memRetireDone ∧ t.devMem = s.devMem ∧
      t = { s with regs := t.regs, ev := t.ev, hub := t.hub, out := t.out } ∧ s.RegsBut t [MEM_STAT.addr, MEM_RETIRE_CTL.addr]) ∧
    (s.get MEM_STAT.retiring = 0 ∨ s.get MEM_RETIRE_PTR.ptr < s.get MEM_EXTENT.extent → exec .retireDone s = .next s)


/-- Ethernet links and equaliser lanes (R253 to R256, R277, R324, R335). Log entries (141) bear on its clauses: what they fix is the
model's choice. -/
def Obligations.EthernetLinks : Prop :=
  ∀ s : State, s.eth.ports.length = 4 →
    (∀ (p : Fin 4) (m : Fin 8) (h : Bool), s.isOff (.eth p) = false → s.get (ETH_P_STAT.link p) = 0 ∨ (h = false ∧ s.get (ETH_P_STAT.deferred p) = 0) → ∃ t : State,
      exec (.ethModeWrite p m h) s = .next t ∧ t.get (ETH_P_CFG.mode p) = m.val ∧ t.get (ETH_P_STAT.link p) = 0 ∧
      t.get (ETH_P_STAT.training p) = bit (1 ≤ m.val && m.val ≤ 4) ∧ t.get (ETH_P_STAT.deferred p) = 0 ∧ t.get (ETH_P_CFG.retrain p) = 0 ∧
      t.ethPort p = { s.ethPort p with
        defMode := false, defRetrain := false, retraining := (s.ethPort p).retraining || (s.ethPort p).defRetrain
        live := m.val, eqNow := (s.ethPort p).eqStored.getD m 0 } ∧
      (s.get (ETH_P_STAT.link p) = 1 → t.get (ETH_P_STAT.down_seen p) = 1 ∧ t.Pends Ev.ethLinkDown) ∧
      (∀ q : Fin 4, q ≠ p → t.ethPort q = s.ethPort q) ∧
      t = { s with regs := t.regs, ev := t.ev, eth := { s.eth with ports := t.eth.ports }, out := t.out } ∧
      s.RegsBut t [ETH_P_CFG.addr p, ETH_P_STAT.addr p]) ∧
    (∀ (p : Fin 4) (m : Fin 8) (h : Bool), s.isOff (.eth p) = false → s.get (ETH_P_STAT.link p) = 1 →
        h = true ∨ s.get (ETH_P_STAT.deferred p) = 1 → ∃ t : State, exec (.ethModeWrite p m h) s = .next t ∧ t.get (ETH_P_CFG.mode p) = m.val ∧ t.get (ETH_P_STAT.link p) = 1 ∧
      t.get (ETH_P_STAT.deferred p) = 1 ∧ t.ethPort p = { s.ethPort p with defMode := true } ∧
      (∀ q : Fin 4, q ≠ p → t.ethPort q = s.ethPort q) ∧ t = { s with regs := t.regs, eth := { s.eth with ports := t.eth.ports } } ∧
      s.RegsBut t [ETH_P_CFG.addr p, ETH_P_STAT.addr p]) ∧
    (∀ (p : Fin 4) (h : Bool), s.isOff (.eth p) = false → s.get (ETH_P_CFG.mode p) = 0 ∨ 4 < s.get (ETH_P_CFG.mode p) → ∃ t : State,
      exec (.ethRetrain p h) s = .next t ∧ t.get (ETH_P_CFG.retrain p) = 0 ∧ s.OnlyRegs t [ETH_P_CFG.addr p]) ∧
    (∀ (p : Fin 4) (h : Bool), s.isOff (.eth p) = false → 1 ≤ s.get (ETH_P_CFG.mode p) → s.get (ETH_P_CFG.mode p) ≤ 4 →
      s.get (ETH_P_STAT.link p) = 0 ∨ (h = false ∧ s.get (ETH_P_STAT.deferred p) = 0) → ∃ t : State, exec (.ethRetrain p h) s = .next t ∧ t.get (ETH_P_CFG.retrain p) = 0 ∧
      t.get (ETH_P_STAT.link p) = 0 ∧ t.get (ETH_P_STAT.training p) = 1 ∧ t.get (ETH_P_STAT.deferred p) = 0 ∧
      t.ethPort p = { s.ethPort p with
        defMode := false, defRetrain := false, retraining := true, live := s.get (ETH_P_CFG.mode p)
        eqNow := (s.ethPort p).eqStored.getD (s.get (ETH_P_CFG.mode p)) 0 } ∧
      (s.get (ETH_P_STAT.link p) = 1 → t.Pends Ev.ethLinkDown) ∧ s.Keeps t (ETH_P_CFG.mode p) ∧
      t = { s with regs := t.regs, ev := t.ev, eth := { s.eth with ports := t.eth.ports }, out := t.out } ∧
      s.RegsBut t [ETH_P_CFG.addr p, ETH_P_STAT.addr p]) ∧
    (∀ (p : Fin 4) (h : Bool), s.isOff (.eth p) = false → 1 ≤ s.get (ETH_P_CFG.mode p) → s.get (ETH_P_CFG.mode p) ≤ 4 →
      s.get (ETH_P_STAT.link p) = 1 → h = true ∨ s.get (ETH_P_STAT.deferred p) = 1 → ∃ t : State, exec (.ethRetrain p h) s = .next t ∧ t.get (ETH_P_CFG.retrain p) = 1 ∧ t.get (ETH_P_STAT.link p) = 1 ∧
      t.get (ETH_P_STAT.deferred p) = 1 ∧ t.ethPort p = { s.ethPort p with defRetrain := true } ∧
      t = { s with regs := t.regs, eth := { s.eth with ports := t.eth.ports } } ∧ s.RegsBut t [ETH_P_CFG.addr p, ETH_P_STAT.addr p]) ∧
    (∀ (p : Fin 4) (m : Fin 8) (h : Bool), s.isOff (.eth p) = true →
      (∃ t : State, exec (.ethModeWrite p m h) s = .next t ∧ t.Pends Ev.isolatedAccess ∧ s.OnlyRegsEv t []) ∧
      ∃ t : State, exec (.ethRetrain p h) s = .next t ∧ t.Pends Ev.isolatedAccess ∧ s.OnlyRegsEv t []) ∧
    (∀ p : Fin 4, s.isOff (.eth p) = true → exec (.ethLinkUp p) s = .next s ∧ exec (.ethLinkDown p) s = .next s ∧
      exec (.fecUncorrectableCodeword p) s = .next s ∧ ∀ l : Fin 8, l.val = p.val → exec (.eqAdaptStep l) s = .next s) ∧
    (∀ p : Fin 4, s.isOff (.eth p) = false → s.get (ETH_P_STAT.training p) = 1 → ∃ t : State, exec (.ethLinkUp p) s = .next t ∧ t.get (ETH_P_STAT.training p) = 0 ∧
      t.get (ETH_P_STAT.link p) = 1 ∧ t.Pends Ev.ethLinkUp ∧ ((s.ethPort p).retraining = true → t.Pends Ev.ethRetrainDone) ∧
      t.ethPort p = { s.ethPort p with retraining := false } ∧
      t = { s with regs := t.regs, ev := t.ev, eth := { s.eth with ports := t.eth.ports }, out := t.out } ∧ s.RegsBut t [ETH_P_STAT.addr p]) ∧
    (∀ p : Fin 4, s.get (ETH_P_STAT.training p) = 0 → exec (.ethLinkUp p) s = .next s) ∧
    (∀ p : Fin 4, s.isOff (.eth p) = false → s.get (ETH_P_STAT.link p) = 1 → ∃ t : State, exec (.ethLinkDown p) s = .next t ∧
      t.get (ETH_P_STAT.link p) = 0 ∧ t.get (ETH_P_STAT.down_seen p) = 1 ∧ t.Pends Ev.ethLinkDown ∧
      t.get (ETH_P_STAT.deferred p) = 0 ∧ t.get (ETH_P_CFG.retrain p) = 0 ∧
      t.get (ETH_P_STAT.training p) = bit (1 ≤ s.get (ETH_P_CFG.mode p) && s.get (ETH_P_CFG.mode p) ≤ 4) ∧
      t.ethPort p = { s.ethPort p with
        defMode := false, defRetrain := false, retraining := (s.ethPort p).retraining || (s.ethPort p).defRetrain
        live := s.get (ETH_P_CFG.mode p), eqNow := (s.ethPort p).eqStored.getD (s.get (ETH_P_CFG.mode p)) 0 } ∧
      t = { s with regs := t.regs, ev := t.ev, eth := { s.eth with ports := t.eth.ports }, out := t.out } ∧
      s.RegsBut t [ETH_P_STAT.addr p, ETH_P_CFG.addr p]) ∧
    (∀ p : Fin 4, s.get (ETH_P_STAT.link p) = 0 → exec (.ethLinkDown p) s = .next s) ∧
    (∀ (l : Fin 8) (p : Fin 4), l.val = p.val → s.isOff (.eth p) = false → (s.ethPort p).defMode = false →
      (s.ethPort p).defRetrain = false → ∃ t : State,
      exec (.eqAdaptStep l) s = .next t ∧
      t.ethPort p = (if s.get (ETH_P_STAT.link p) = 1 then { s.ethPort p with
          eqNow := (t.ethPort p).eqNow
          eqStored := (s.ethPort p).eqStored.set (s.ethPort p).live (t.ethPort p).eqNow } else s.ethPort p) ∧
      (∀ q : Fin 4, q ≠ p → t.ethPort q = s.ethPort q) ∧
      t = { s with eth := { s.eth with ports := t.eth.ports }, freeCtr := s.freeCtr + 1 }) ∧
    (∀ (l : Fin 8) (p : Fin 4), l.val = p.val → s.isOff (.eth p) = false → (s.ethPort p).defMode = true ∨ (s.ethPort p).defRetrain = true →
      ∃ t : State, exec (.eqAdaptStep l) s = .next t ∧
      t.get (ETH_P_STAT.link p) = 0 ∧ t.get (ETH_P_STAT.deferred p) = 0 ∧ t.get (ETH_P_CFG.retrain p) = 0 ∧
      t.get (ETH_P_STAT.training p) = bit (1 ≤ s.get (ETH_P_CFG.mode p) && s.get (ETH_P_CFG.mode p) ≤ 4) ∧
      t.ethPort p = { s.ethPort p with
        defMode := false, defRetrain := false, retraining := (s.ethPort p).retraining || (s.ethPort p).defRetrain
        live := s.get (ETH_P_CFG.mode p), eqStored := (t.ethPort p).eqStored
        eqNow := (t.ethPort p).eqStored.getD (s.get (ETH_P_CFG.mode p)) 0 } ∧
      (∀ j, j ≠ (s.ethPort p).live → (t.ethPort p).eqStored.getD j 0 = (s.ethPort p).eqStored.getD j 0) ∧
      (s.get (ETH_P_STAT.link p) = 1 → t.Pends Ev.ethLinkDown) ∧
      t = { s with regs := t.regs, ev := t.ev, eth := { s.eth with ports := t.eth.ports }, out := t.out, freeCtr := s.freeCtr + 1 } ∧
      s.RegsBut t [ETH_P_STAT.addr p, ETH_P_CFG.addr p]) ∧
    (∀ (l : Fin 8) (k : Fin 4), l.val = 4 + k.val → s.twn.laneDef.getD k false = false → ∃ t : State, exec (.eqAdaptStep l) s = .next t ∧
      t.twn = { s.twn with eqNow := t.twn.eqNow, eqStored := t.twn.eqStored } ∧
      (s.twn.eqNow.length = 4 → s.twn.eqStored.length = 4 → t.twn.eqStored.getD k 0 = t.twn.eqNow.getD k 0 ∧
        ∀ j, j ≠ k.val → t.twn.eqNow.getD j 0 = s.twn.eqNow.getD j 0 ∧ t.twn.eqStored.getD j 0 = s.twn.eqStored.getD j 0) ∧
      t = { s with twn := t.twn, freeCtr := s.freeCtr + 1 }) ∧
    (∀ (l : Fin 8) (k : Fin 4), l.val = 4 + k.val → s.twn.laneDef.getD k false = true → ∃ t : State, exec (.eqAdaptStep l) s = .next t ∧
      t.twn = { s.twn with laneTrain := s.twn.laneTrain.set k true, laneDef := s.twn.laneDef.set k false, laneFails := s.twn.laneFails.set k 0,
                           eqNow := t.twn.eqNow, eqStored := t.twn.eqStored } ∧
      (t.get TWN_STAT.lanes_up).testBit k = false ∧
      (∀ j : Fin 4, j ≠ k → (t.get TWN_STAT.lanes_up).testBit j = (s.get TWN_STAT.lanes_up).testBit j) ∧
      (s.get TWN_STAT.lanes_up = 2 ^ k.val → t.get TWN_STAT.link_up = 0 ∧ t.Pends Ev.twinLinkDown) ∧
      t.get TWN_STAT.deferred = bit ((s.twn.laneDef.set k false).any id) ∧
      t = { s with regs := t.regs, ev := t.ev, twn := t.twn, out := t.out, freeCtr := s.freeCtr + 1 } ∧ s.RegsBut t [TWN_STAT.addr]) ∧
    (∀ p : Fin 4, s.fecOn p = false → exec (.fecUncorrectableCodeword p) s = .next s) ∧
    (∀ p : Fin 4, s.isOff (.eth p) = false → s.fecOn p = true → ∃ t : State, exec (.fecUncorrectableCodeword p) s = .next t ∧
      t.get (ETH_P_CNT.fec_uncorr p) = satAdd 65535 (s.get (ETH_P_CNT.fec_uncorr p)) 1 ∧ t.get (ETH_P_STAT.fec_seen p) = 1 ∧
      ((s.ethPort p).fecAt = none → t.Pends Ev.ethFecUncorrectable ∧ (t.ethPort p).fecAt = some s.now) ∧
      ((s.ethPort p).fecAt = some s.now → t.ev = s.ev ∧ t.out = s.out ∧ t.eth = s.eth) ∧
      s.Keeps t (ETH_P_CNT.fec_corr p) ∧ s.Keeps t (ETH_P_CNT.rx_discard p) ∧
      t = { s with regs := t.regs, ev := t.ev, eth := { s.eth with ports := t.eth.ports }, out := t.out } ∧
      s.RegsBut t [ETH_P_CNT.addr p, ETH_P_STAT.addr p])

/-- Transmission, scheduled gates, redundancy, gPTP and point export (R257, R259 to R262, R264 to R268). Log entries 7, 73, 86, 87, 89,
91, 92, 96, 137 and 188 bear on its clauses: what they fix is the model's choice. -/
def Obligations.EthernetTraffic : Prop :=
  ∀ s : State, s.eth.ports.length = 4 → (∀ p : Fin 4, (s.ethPort p).queues.length = 8) →
    (∀ p : Fin 4, s.isOff (.eth p) = true ∨ s.get (ETH_P_STAT.link p) = 0 → exec (.txSelect p) s = .next s) ∧
    (∀ p : Fin 4, s.isOff (.eth p) = true → exec (.gateListSwitch p) s = .next s ∧ exec (.gclEntryAdvance p) s = .next s ∧
      ∀ (w : Word64) (r : PtpResult), exec (.ptpMessageReceive p w r) s = .next s) ∧
    (∀ (p : Fin 4) (q : Fin 8), ∀ (f : TxFrame) (l : List TxFrame), s.txQueue p q = f :: l → s.isOff (.eth p) = false →
      s.get (ETH_P_STAT.link p) = 1 → s.get (ETH_P_GATE_CTL.gate_en p) = 0 → s.get (ETH_P_CBS.shaper_en p q) = 0 →
      (∀ r : Fin 8, q < r → s.txQueue p r = []) → ∃ t : State,
      exec (.txSelect p) s = .next t ∧ t.out = .frame p q (f.leaves s.now).1 :: s.out ∧
      (f.kind = .sync true → (f.leaves s.now).1 = { f with time := s.now }) ∧ (f.kind ≠ .sync true → (f.leaves s.now).1 = f) ∧
      ((f.leaves s.now).2 = none → t.txQueue p q = l) ∧ (q ≠ 7 → t.txQueue p q = l) ∧
      (∀ k : FrameKind, (f.leaves s.now).2 = some k → q = 7 → ((l.map (fun f => f.len)).sum + k.ptpLen ≤ 32768) →
        t.txQueue p q = l ++ [⟨k, k.ptpLen, [], s.now⟩]) ∧
      (f.kind = .sync false → (f.leaves s.now).2 = some .followUp) ∧ (f.kind = .delayResp → (f.leaves s.now).2 = some .delayFollowUp) ∧
      (t.ethPort p).ptpTx = (if f.kind.isEvent then s.now else (s.ethPort p).ptpTx) ∧
      (∀ r : Fin 8, r ≠ q → r ≠ 7 → t.txQueue p r = s.txQueue p r) ∧ (∀ r : Fin 4, r ≠ p → t.ethPort r = s.ethPort r) ∧
      t = { s with eth := { s.eth with ports := t.eth.ports }, out := t.out }) ∧
    (∀ p : Fin 4, s.isOff (.eth p) = false → s.get (ETH_P_STAT.link p) = 1 → s.get (ETH_P_GATE_CTL.gate_en p) = 0 →
      (∀ q : Fin 8, s.txQueue p q = [] ∨ (s.get (ETH_P_CBS.shaper_en p q) = 1 ∧ (s.ethPort p).credit.getD q 0 < 0 ∧
        (s.ethPort p).creditAt.getD q 0 = s.now)) → ∃ t : State,
      exec (.txSelect p) s = .next t ∧ (∀ q : Fin 8, t.txQueue p q = s.txQueue p q) ∧
      t = { s with eth := { s.eth with ports := t.eth.ports } }) ∧
    (∀ p : Fin 4, s.isOff (.eth p) = false → s.get (ETH_P_STAT.link p) = 1 → s.get (ETH_P_GATE_CTL.gate_en p) = 1 → (∀ q : Fin 8, (s.gatesNow p).testBit q = false) →
      (∀ q : Fin 8, ∀ f ∈ s.txQueue p q,
        wireUnits f.len ≤ 65536 * longestOpen q (s.gateSpans p ++ s.gateSpans p) * s.ethRate p) → ∃ t : State,
      exec (.txSelect p) s = .next t ∧ (∀ q : Fin 8, t.txQueue p q = s.txQueue p q) ∧
      t = { s with eth := { s.eth with ports := t.eth.ports } }) ∧
    (∀ (p : Fin 4) (q : Fin 8), ∀ f : TxFrame, s.txQueue p q = [f] → s.isOff (.eth p) = false → s.get (ETH_P_STAT.link p) = 1 → s.alwaysOpen p q = false →
      65536 * longestOpen q (s.gateSpans p ++ s.gateSpans p) * s.ethRate p < wireUnits f.len →
      (∀ r : Fin 8, r ≠ q → s.txQueue p r = []) → ∃ t : State,
      exec (.txSelect p) s = .next t ∧ t.txQueue p q = [] ∧
      t.get (ETH_P_GATE_CNT.sdu_drop p) = satAdd 65535 (s.get (ETH_P_GATE_CNT.sdu_drop p)) 1 ∧
      ((s.ethPort p).sduAt = none → t.Pends Ev.gateSduOverrun) ∧
      t = { s with regs := t.regs, ev := t.ev, eth := { s.eth with ports := t.eth.ports }, out := t.out } ∧
      s.RegsBut t [ETH_P_GATE_CNT.addr p]) ∧
    (∀ p : Fin 4, s.isOff (.eth p) = false → s.get (ETH_P_GATE_CYCLE.cycle_ns p) = 0 ∨
      (List.range (s.get (ETH_P_GATE_CTL.admin_len_m1 p) + 1)).any (fun i =>
        s.get (ETH_P_GCL.interval_ns p (1 - s.get (ETH_P_GATE_CTL.oper_list p)) i) == 0) = true → ∃ t : State,
      exec (.gateChange p) s = .next t ∧ t.Pends Ev.ethConfigRejected ∧ t.get (ETH_P_GATE_CTL.change p) = 0 ∧
      t.get (ETH_P_GATE_CTL.pending p) = 0 ∧ t.ethPort p = { s.ethPort p with change := none } ∧
      t = { s with regs := t.regs, ev := t.ev, eth := { s.eth with ports := t.eth.ports }, out := t.out } ∧ s.RegsBut t [ETH_P_GATE_CTL.addr p]) ∧
    (∀ p : Fin 4, s.isOff (.eth p) = false → s.get (ETH_P_GATE_CYCLE.cycle_ns p) ≠ 0 →
      (List.range (s.get (ETH_P_GATE_CTL.admin_len_m1 p) + 1)).any (fun i =>
        s.get (ETH_P_GCL.interval_ns p (1 - s.get (ETH_P_GATE_CTL.oper_list p)) i) == 0) = false →
      s.now < 2 ^ 62 → s.get (ETH_P_GATE_BASE.base p) < 2 ^ 62 → ∃ t : State,
      exec (.gateChange p) s = .next t ∧ t.get (ETH_P_GATE_CTL.change p) = 1 ∧ t.get (ETH_P_GATE_CTL.pending p) = 1 ∧
      (t.ethPort p).change.any (fun x => decide (s.now + 655360000 ≤ x.1 ∧ s.get (ETH_P_GATE_BASE.base p) ≤ x.1 ∧
        (x.1 - s.get (ETH_P_GATE_BASE.base p)) % (65536 * s.get (ETH_P_GATE_CYCLE.cycle_ns p)) = 0 ∧
        (s.get (ETH_P_GATE_BASE.base p) < x.1 → x.1 < s.now + 655360000 + 65536 * s.get (ETH_P_GATE_CYCLE.cycle_ns p)) ∧
        x.2 = (s.get (ETH_P_GATE_CTL.admin_len_m1 p) + 1, s.get (ETH_P_GATE_CYCLE.cycle_ns p)))) = true ∧
      t.ethPort p = { s.ethPort p with change := (t.ethPort p).change } ∧
      t = { s with regs := t.regs, eth := { s.eth with ports := t.eth.ports } } ∧ s.RegsBut t [ETH_P_GATE_CTL.addr p]) ∧
    (∀ p : Fin 4, s.isOff (.eth p) = false → ∀ x : Nat × Nat × Nat, (s.ethPort p).change = some x → ∃ t : State, exec (.gateListSwitch p) s = .next t ∧
      t.get (ETH_P_GATE_CTL.oper_list p) = 1 - s.get (ETH_P_GATE_CTL.oper_list p) ∧ t.get (ETH_P_GATE_CTL.change p) = 0 ∧
      t.get (ETH_P_GATE_CTL.pending p) = 0 ∧ t.Pends Ev.gateListSwitched ∧
      t.ethPort p = { s.ethPort p with
        change := none, operLen := x.2.1, operCycle := x.2.2, cycleAt := x.1, entryAt := x.1, entry := 0
        credit := (t.ethPort p).credit, creditAt := (t.ethPort p).creditAt } ∧
      t = { s with regs := t.regs, ev := t.ev, eth := { s.eth with ports := t.eth.ports }, out := t.out } ∧ s.RegsBut t [ETH_P_GATE_CTL.addr p]) ∧
    (∀ p : Fin 4, (s.ethPort p).change = none → exec (.gateListSwitch p) s = .next s) ∧
    (∀ p : Fin 4, (s.ethPort p).operCycle = 0 → exec (.gclEntryAdvance p) s = .next s) ∧
    (∀ p : Fin 4, s.isOff (.eth p) = false → (s.ethPort p).operCycle ≠ 0 → ∃ t : State, exec (.gclEntryAdvance p) s = .next t ∧
      ((s.ethPort p).entry + 1 < (s.gateSpans p).length → (t.ethPort p).entry = (s.ethPort p).entry + 1 ∧
        (t.ethPort p).entryAt = ((s.ethPort p).entryAt + 65536 * ((s.gateSpans p).getD (s.ethPort p).entry (0, 0)).2) % 2 ^ 64 ∧
        (t.ethPort p).cycleAt = (s.ethPort p).cycleAt) ∧
      ((s.gateSpans p).length ≤ (s.ethPort p).entry + 1 → (t.ethPort p).entry = 0 ∧
        (t.ethPort p).cycleAt = ((s.ethPort p).cycleAt + 65536 * (s.ethPort p).operCycle) % 2 ^ 64 ∧
        (t.ethPort p).entryAt = (t.ethPort p).cycleAt) ∧
      (t.ethPort p).queues = (s.ethPort p).queues ∧ t = { s with eth := { s.eth with ports := t.eth.ports } }) ∧
    (∀ (d : BitVec 48) (v : BitVec 12), s.eth.frer.any (fun x => decide (x.dst = d.toNat ∧ x.vid = v.toNat)) = true → ∃ t : State,
      exec (.frerReset d v) s = .next t ∧ t.get ETH_FRER_STAT.resets = satAdd 65535 (s.get ETH_FRER_STAT.resets) 1 ∧ t.Pends Ev.frerReset ∧
      t.eth = { s.eth with frer := s.eth.frer.map (fun x => if x.dst = d.toNat ∧ x.vid = v.toNat then
        { x with takeAny := true, recov := 65535, hist := [] } else x) } ∧
      s.Keeps t ETH_FRER_STAT.lost ∧ t = { s with regs := t.regs, ev := t.ev, eth := t.eth, out := t.out } ∧ s.RegsBut t [ETH_FRER_STAT.addr]) ∧
    (∀ (d : BitVec 48) (v : BitVec 12), s.eth.frer.any (fun x => decide (x.dst = d.toNat ∧ x.vid = v.toNat)) = false →
      exec (.frerReset d v) s = .next s) ∧
    (∀ (p : Fin 4) (w : Word64) (r : PtpResult), s.get ETH_PTP_CFG.enable = 0 ∨ (s.get ETH_PTP_CFG.ports).testBit p = false →
      exec (.ptpMessageReceive p w r) s = .next s) ∧
    (∀ (p : Fin 4) (w : Word64), s.isOff (.eth p) = false → s.get ETH_PTP_CFG.enable = 1 → (s.get ETH_PTP_CFG.ports).testBit p = true →
      exec (.ptpMessageReceive p w .keep) s = .next (s.setEthPort p { s.ethPort p with ptpRx := w.toNat }) ∧
      (∀ (o : Word64) (n : Word32), s.get ETH_PTP_STAT.slave_valid = 1 → s.get ETH_PTP_STAT.slave_port = p.val →
        exec (.ptpMessageReceive p w (.offset o n)) s =
          exec (.servoOffset 1 o n) (s.setEthPort p { s.ethPort p with ptpRx := w.toNat })) ∧
      (∀ (o : Word64) (n : Word32), s.get ETH_PTP_STAT.slave_valid = 0 ∨ s.get ETH_PTP_STAT.slave_port ≠ p.val →
        exec (.ptpMessageReceive p w (.offset o n)) s = .next (s.setEthPort p { s.ethPort p with ptpRx := w.toNat })) ∧
      (((s.txQueue p 7).map (fun f => f.len)).sum + 72 ≤ 32768 →
        (∃ t : State, exec (.ptpMessageReceive p w .askDelay) s = .next t ∧ t.txQueue p 7 = s.txQueue p 7 ++ [⟨.delayReq, 72, [], 0⟩] ∧
          (t.ethPort p).ptpRx = w.toNat ∧ t = { s with eth := { s.eth with ports := t.eth.ports } }) ∧
        ∃ t : State, exec (.ptpMessageReceive p w .answerDelay) s = .next t ∧
          t.txQueue p 7 = s.txQueue p 7 ++ [⟨.delayResp, 72, [], w.toNat⟩] ∧
          (t.ethPort p).ptpRx = w.toNat ∧ t = { s with eth := { s.eth with ports := t.eth.ports } }) ∧
      ∀ (g : Bool) (o : Option (Fin 4)), ∃ t : State, exec (.ptpMessageReceive p w (.grandmaster g o)) s = .next t ∧
        t.get ETH_PTP_STAT.is_gm = bit (g && s.get ETH_PTP_CFG.gm_capable == 1) ∧
        t.get ETH_PTP_STAT.slave_valid = bit (o.any (fun (q : Fin 4) => (s.get ETH_PTP_CFG.ports).testBit q)) ∧
        o.all (fun (q : Fin 4) => !(s.get ETH_PTP_CFG.ports).testBit q || t.get ETH_PTP_STAT.slave_port == q.val) = true ∧ t.get ETH_PTP_STAT.gm_change_seen = 1 ∧ t.Pends Ev.ptpGmChange ∧
        t.ethPort p = { s.ethPort p with ptpRx := w.toNat } ∧
        t = { s with regs := t.regs, ev := t.ev, eth := { s.eth with ports := t.eth.ports }, out := t.out } ∧
        s.RegsBut t [ETH_PTP_STAT.addr]) ∧
    (s.get ETH_PTP_CFG.enable = 0 ∨ s.get ETH_PTP_CFG.gm_capable = 0 ∨ s.get ETH_PTP_STAT.is_gm = 0 → exec .ptpSyncSend s = .next s) ∧
    (s.get ETH_PTP_CFG.enable = 1 → s.get ETH_PTP_CFG.gm_capable = 1 → s.get ETH_PTP_STAT.is_gm = 1 →
      (∀ p : Fin 4, ((s.txQueue p 7).map (fun f => f.len)).sum + 94 ≤ 32768) → ∃ t : State, exec .ptpSyncSend s = .next t ∧
      (∀ p : Fin 4, s.isOff (.eth p) = false → (s.get ETH_PTP_CFG.ports).testBit p = true → s.get (ETH_P_STAT.link p) = 1 →
        (s.get (ETH_P_CFG.one_step p) = 1 → t.txQueue p 7 = s.txQueue p 7 ++ [⟨.sync true, 94, [], 0⟩]) ∧
        (s.get (ETH_P_CFG.one_step p) = 0 → t.txQueue p 7 = s.txQueue p 7 ++ [⟨.sync false, 64, [], 0⟩])) ∧
      (∀ p : Fin 4, s.isOff (.eth p) = true → t.txQueue p 7 = s.txQueue p 7) ∧
      (∀ p : Fin 4, (s.get ETH_PTP_CFG.ports).testBit p = false ∨ s.get (ETH_P_STAT.link p) = 0 → t.ethPort p = s.ethPort p) ∧
      t = { s with eth := { s.eth with ports := t.eth.ports } }) ∧
    (∀ x : Fin 4, s.get (RING_PR_CFG.enable (s.get (ETH_EXP_CFG.ring x))) = 0 ∨ (∃ y : Fin 4, y ≠ x ∧ s.get (ETH_EXP_CFG.enable y) = 1 ∧
      s.get (ETH_EXP_CFG.ring y) = s.get (ETH_EXP_CFG.ring x)) → ∃ t : State, exec (.exportEnable x) s = .next t ∧
      t.get (ETH_EXP_CFG.enable x) = 0 ∧ t.Pends Ev.ethConfigRejected ∧ s.OnlyRegsEv t [ETH_EXP_CFG.addr x]) ∧
    (∀ x : Fin 4, s.get (RING_PR_CFG.enable (s.get (ETH_EXP_CFG.ring x))) = 1 → (∀ y : Fin 4, y ≠ x → s.get (ETH_EXP_CFG.enable y) = 0 ∨
      s.get (ETH_EXP_CFG.ring y) ≠ s.get (ETH_EXP_CFG.ring x)) → ∃ t : State, exec (.exportEnable x) s = .next t ∧
      t.get (ETH_EXP_CFG.enable x) = 1 ∧ s.OnlyRegs t [ETH_EXP_CFG.addr x]) ∧
    (∀ x : Fin 4, s.get (ETH_EXP_CFG.enable x) = 0 ∨ s.get (RING_PR_STAT.level (s.get (ETH_EXP_CFG.ring x))) = 0 →
      exec (.exportFrameSend x) s = .next s) ∧
    (∀ x : Fin 4, ∀ n : Nat, s.get (ETH_EXP_CFG.ring x) = n → ∀ p : Nat, s.get (ETH_EXP_CFG.port x) = p → ∀ q : Nat, s.get (ETH_EXP_CFG.pcp x) = q →
      ∀ k : Nat, s.wholePackets n (s.get (RING_PR_TAIL.index n)) (s.get (RING_PR_STAT.level n)) (Nat.min 45 (s.get (RING_PR_STAT.level n))) = k →
      0 < k → s.get (ETH_EXP_CFG.enable x) = 1 → s.get (ETH_EXP_CFG.frer x) = 0 →
      s.isOff (.eth (Fin.ofNat 4 p)) = false → ((s.txQueue p q).map (fun f => f.len)).sum + 38 + 32 * k ≤ 32768 → ∃ t : State,
      exec (.exportFrameSend x) s = .next t ∧
      (t.txQueue p q).take (s.txQueue p q).length = s.txQueue p q ∧ (t.txQueue p q).length = (s.txQueue p q).length + 1 ∧
      (t.txQueue p q).getLast?.any (fun f => decide (f.kind = .exported x ∧ f.len = 38 + 32 * k ∧
        f.bytes.take 12 = toBE 6 (s.get (ETH_EXP_DST.dst_mac x)) ++ toBE 6 (s.get (ETH_P_MAC.address p)) ∧
        f.bytes.drop 34 = ((List.range k).map (fun i => s.prRecord n ((s.get (RING_PR_TAIL.index n) + i) % s.prSize n))).flatten)) = true ∧
      t.get (RING_PR_TAIL.index n) = (s.get (RING_PR_TAIL.index n) + k) % s.prSize n % 2 ^ (RING_PR_TAIL.index n).len ∧
      t.eth.exports = s.eth.exports.set x ⟨((s.eth.exports.getD x ⟨0, 0⟩).seq + 1) % 2 ^ 32, ((s.eth.exports.getD x ⟨0, 0⟩).rtag + 1) % 65536⟩ ∧
      t = { s with regs := t.regs, ev := t.ev, host := t.host, eth := t.eth, out := t.out } ∧
      s.RegsBut t [RING_PR_TAIL.addr n, RING_PR_STAT.addr n, HUB_TAG_STAT.addr 3])


/-- QSL transmission and the states of a receive connection (R259, R264, R269, R271 to R273, R275, R285). Beside them, a frame that
opens a waiting connection, and a gPTP frame that arrives (R258, R274). Log entries 88, 89, 90, 91, 92, 93, 94, 95, 187 and 188 bear on
its clauses: what they fix is the model's choice. -/
def Obligations.QslConnections : Prop :=
  ∀ s : State, s.eth.ports.length = 4 → (∀ p : Fin 4, (s.ethPort p).queues.length = 8) → s.eth.qtx.length = 8 → s.eth.qrx.length = 8 →
    (∀ c : Fin 8, s.get (QSL_TX_CFG.enable c) = 1 → exec (.qslTxEnable c) s = .next s) ∧
    (∀ c : Fin 8, s.get (QSL_TX_CFG.enable c) = 0 → qslReserved (s.get (QSL_TX_ID.identity c)) = true → ∃ t : State,
      exec (.qslTxEnable c) s = .next t ∧ t.Pends Ev.ethConfigRejected ∧ s.OnlyRegsEv t []) ∧
    (∀ c : Fin 8, s.get (QSL_TX_CFG.enable c) = 0 → s.get (QSL_TX_ID.identity c) ≠ 0 → s.get (QSL_TX_ID.identity c) ≠ 0xFFFFFFFF → ∃ t : State,
      exec (.qslTxEnable c) s = .next t ∧ t.get (QSL_TX_CFG.enable c) = 1 ∧ s.OnlyRegs t [QSL_TX_CFG.addr c]) ∧
    (∀ c : Fin 8, ∃ t : State, exec (.qslCommit c) s = .next t ∧ t.qtx c = { s.qtx c with payload := s.qslArea c } ∧
      t.get (QSL_TX_CFG.commit c) = 0 ∧ (∀ d : Fin 8, d ≠ c → t.qtx d = s.qtx d) ∧
      t = { s with regs := t.regs, eth := { s.eth with qtx := t.eth.qtx } } ∧ s.RegsBut t [QSL_TX_CFG.addr c]) ∧
    (∀ c : Fin 8, s.get (QSL_TX_CFG.enable c) = 0 → exec (.qslTxPeriod c) s = .next s) ∧
    (∀ c : Fin 8, ∀ p : Nat, s.get (QSL_TX_CFG.port c) = p → ∀ q : Nat, s.get (QSL_TX_CFG.pcp c) = q → ∀ b : List Byte,
      qslPdu (s.get (QSL_TX_ID.identity c)) (((s.qtx c).seq + 1) % 65536) s.ptpUs (s.get (QSL_TX_TIMING.window c))
        ((s.qtx c).payload.take (Nat.min 64 (s.get (QSL_TX_CFG.len c)))) = b →
      s.get (QSL_TX_CFG.enable c) = 1 → s.get (QSL_TX_CFG.frer c) = 0 → ∃ t : State, exec (.qslTxPeriod c) s = .next t ∧
      t.qtx c = { s.qtx c with seq := ((s.qtx c).seq + 1) % 65536, rtag := ((s.qtx c).rtag + 1) % 65536 } ∧
      (((s.txQueue p q).map (fun f => f.len)).sum + Nat.max 64 (22 + b.length) ≤ 32768 → s.isOff (.eth (Fin.ofNat 4 p)) = false →
        (t.txQueue p q).take (s.txQueue p q).length = s.txQueue p q ∧ (t.txQueue p q).length = (s.txQueue p q).length + 1 ∧
        (t.txQueue p q).getLast?.any (fun f => decide (f.kind = .qsl c ∧ f.len = Nat.max 64 (22 + b.length) ∧
          f.bytes.take 12 = toBE 6 (s.get (QSL_TX_DST.dst_mac c)) ++ toBE 6 (s.get (ETH_P_MAC.address p)) ∧
          (f.bytes.drop 18).take b.length = b)) = true ∧ s.OnlyRegs { t with eth := s.eth } []) ∧
      (32768 < ((s.txQueue p q).map (fun f => f.len)).sum + Nat.max 64 (22 + b.length) ∨ s.isOff (.eth (Fin.ofNat 4 p)) = true → t.txQueue p q = s.txQueue p q ∧
        t.get (QSL_TX_DST.tx_drop c) = satAdd 65535 (s.get (QSL_TX_DST.tx_drop c)) 1) ∧
      (∀ r : Fin 4, r.val ≠ p → t.ethPort r = s.ethPort r) ∧ t = { s with regs := t.regs, eth := t.eth } ∧ s.RegsBut t [QSL_TX_DST.addr c]) ∧
    (∀ c : Fin 8, ∀ q : Nat, s.get (QSL_TX_CFG.pcp c) = q → s.get (QSL_TX_CFG.enable c) = 1 → s.get (QSL_TX_CFG.frer c) = 1 →
      s.get ETH_FRER_CFG.enable = 1 → s.get ETH_FRER_CFG.port_a ≠ s.get ETH_FRER_CFG.port_b →
      (∀ p : Fin 4, s.isOff (.eth p) = false ∧ ((s.txQueue p q).map (fun f => f.len)).sum ≤ 32000) → ∃ t : State, exec (.qslTxPeriod c) s = .next t ∧
      (∀ p ∈ [s.get ETH_FRER_CFG.port_a, s.get ETH_FRER_CFG.port_b], (t.txQueue p q).length = (s.txQueue p q).length + 1 ∧
        (t.txQueue p q).getLast?.any (fun f => decide (f.kind = .qsl c ∧
          (f.bytes.drop 16).take 6 = toBE 2 0xF1C1 ++ toBE 2 0 ++ toBE 2 (s.qtx c).rtag)) = true) ∧
      (∀ p : Fin 4, p.val ≠ s.get ETH_FRER_CFG.port_a → p.val ≠ s.get ETH_FRER_CFG.port_b → t.ethPort p = s.ethPort p) ∧
      t = { s with eth := t.eth }) ∧
    (∀ c : Fin 8, s.get (QSL_RX_CFG.enable c) = 1 → exec (.qslRxEnable c) s = .next s) ∧
    (∀ c : Fin 8, s.get (QSL_RX_CFG.enable c) = 0 → qslReserved (s.get (QSL_RX_ID.identity c)) = true → ∃ t : State,
      exec (.qslRxEnable c) s = .next t ∧ t.Pends Ev.ethConfigRejected ∧ s.OnlyRegsEv t []) ∧
    (∀ c : Fin 8, s.get (QSL_RX_CFG.enable c) = 0 → s.get (QSL_RX_ID.identity c) ≠ 0 → s.get (QSL_RX_ID.identity c) ≠ 0xFFFFFFFF → ∃ t : State,
      exec (.qslRxEnable c) s = .next t ∧ t.get (QSL_RX_CFG.enable c) = 1 ∧ t.get (QSL_RX_STAT.state c) = 1 ∧ (t.qrx c).crcRun = 0 ∧
      s.NoGrantOf t c ∧ t = { s with regs := t.regs, ev := t.ev, saf := { s.saf with pulse := t.saf.pulse }, eth := t.eth, out := t.out } ∧
      s.RegsBut t [QSL_RX_CFG.addr c, QSL_RX_STAT.addr c, SAF_STAT.addr]) ∧
    (∀ c : Fin 8, s.get (QSL_RX_CFG.enable c) = 1 → ∃ t : State, exec (.qslRestart c) s = .next t ∧ t.get (QSL_RX_STAT.state c) = 1 ∧
      (t.qrx c).crcRun = 0 ∧ s.NoGrantOf t c ∧ s.Keeps t (QSL_RX_STAT.fail_seen c) ∧
      t = { s with regs := t.regs, ev := t.ev, saf := { s.saf with pulse := t.saf.pulse }, eth := t.eth, out := t.out } ∧
      s.RegsBut t [QSL_RX_STAT.addr c, SAF_STAT.addr]) ∧
    (∀ c : Fin 8, s.get (QSL_RX_CFG.enable c) = 0 → exec (.qslRestart c) s = .next s) ∧
    (∀ c : Fin 8, s.get (QSL_RX_STAT.state c) = 1 ∨ s.get (QSL_RX_STAT.state c) = 2 → ∃ t : State, exec (.qslWatchdog c false) s = .next t ∧
      t.get (QSL_RX_STAT.state c) = 3 ∧ t.get (QSL_RX_STAT.cause c) = 1 ∧ t.get (QSL_RX_STAT.fail_seen c) = 1 ∧ t.Pends Ev.qslConnFail ∧
      s.NoGrantOf t c ∧ t = { s with regs := t.regs, ev := t.ev, saf := { s.saf with pulse := t.saf.pulse }, out := t.out } ∧
      s.RegsBut t [QSL_RX_STAT.addr c, SAF_STAT.addr]) ∧
    (∀ (c : Fin 8) (h : Bool), h = true ∨ s.get (QSL_RX_STAT.state c) = 0 ∨ s.get (QSL_RX_STAT.state c) = 3 →
      exec (.qslWatchdog c h) s = .next s) ∧
    (∀ (p : Fin 4) (c : Fin 8) (l : List Byte) (h : Bool), s.qslMeets p c l → s.get (QSL_RX_STAT.state c) < 2 → qslChecked l → frameNat l 0 1 = 0x11 →
      frameNat l 1 1 = s.get (QSL_RX_CFG.len c) → frameNat l 12 2 = s.get (QSL_RX_AGE.max_age c) → s.get (QSL_RX_CFG.age_en c) = 0 → ∃ t : State,
      exec (.qslFrameReceive p l h) s = .next t ∧ t.get (QSL_RX_STAT.state c) = 2 ∧ t.get (QSL_RX_STAT.last_seq c) = frameNat l 6 2) ∧
    (∀ (p : Fin 4) (l : List Byte) (r : RxNote) (h : Bool), ∀ u : State, s.rxArrive p (l.length + 4) true r = (true, u) →
      s.isOff (.eth p) = false → s.get (ETH_P_STAT.link p) = 1 → 60 ≤ l.length → l.length ≤ 1518 → isPtp l = true →
      exec (.ethFrameReceive p l r h) s = .next u)

/-- The reception of frames (R257, R258, R263, R264, R270, R273, R274, R277), and a frame that a safety channel finds different (R287,
R293). Log entries 88, 89, 90, 92, 93, 94, 95 and 187 bear on its clauses: what they fix is the model's choice. -/
def Obligations.QslReception : Prop :=
  ∀ s : State, s.eth.qrx.length = 8 →
    (∀ (p : Fin 4) (l : List Byte) (h : Bool), (∀ c : Fin 8, s.qslTakes p c l = false) → ∃ t : State,
      exec (.qslFrameReceive p l h) s = .next t ∧ (s.eth.unknownAt = none → t.eth.unknownAt = some s.now ∧ t.Pends Ev.qslUnknownId) ∧
      (s.eth.unknownAt = some s.now → t = s) ∧
      t = { s with regs := t.regs, ev := t.ev, eth := { s.eth with unknownAt := t.eth.unknownAt }, out := t.out } ∧ s.RegsBut t []) ∧
    (∀ (p : Fin 4) (c : Fin 8) (l : List Byte) (h : Bool), s.qslMeets p c l → s.get (QSL_RX_STAT.state c) = 3 →
      exec (.qslFrameReceive p l h) s = .next s) ∧
    (∀ (p : Fin 4) (c : Fin 8) (l : List Byte) (h : Bool), s.qslMeets p c l → s.get (QSL_RX_STAT.state c) ≠ 3 → ¬qslChecked l → ∃ t : State,
      exec (.qslFrameReceive p l h) s = .next t ∧ t.get (QSL_RX_CNT.crc_err c) = satAdd 65535 (s.get (QSL_RX_CNT.crc_err c)) 1 ∧
      t.Pends Ev.qslCheckError ∧ (t.qrx c).crcRun = (s.qrx c).crcRun + 1 ∧ s.Keeps t (QSL_RX_CNT.accepted c) ∧
      (Nat.max 1 (s.get (QSL_RX_CFG.crc_limit c)) ≤ (s.qrx c).crcRun + 1 → t.get (QSL_RX_STAT.state c) = 3 ∧
        t.get (QSL_RX_STAT.cause c) = 2 ∧ t.Pends Ev.qslConnFail ∧ s.NoGrantOf t c) ∧
      ((s.qrx c).crcRun + 1 < Nat.max 1 (s.get (QSL_RX_CFG.crc_limit c)) → s.Keeps t (QSL_RX_STAT.state c)) ∧
      t = { s with regs := t.regs, ev := t.ev, saf := { s.saf with pulse := t.saf.pulse }, eth := t.eth, out := t.out } ∧
      s.RegsBut t [QSL_RX_CNT.addr c, QSL_RX_STAT.addr c, SAF_STAT.addr]) ∧
    (∀ (p : Fin 4) (c : Fin 8) (l : List Byte) (h : Bool), s.qslMeets p c l → s.get (QSL_RX_STAT.state c) ≠ 3 → qslChecked l →
      frameNat l 0 1 ≠ 0x11 ∨ frameNat l 1 1 ≠ s.get (QSL_RX_CFG.len c) ∨ frameNat l 12 2 ≠ s.get (QSL_RX_AGE.max_age c) → ∃ t : State,
      exec (.qslFrameReceive p l h) s = .next t ∧ t.get (QSL_RX_STAT.state c) = 3 ∧ t.get (QSL_RX_STAT.cause c) = 3 ∧
      t.Pends Ev.qslConnFail ∧ s.NoGrantOf t c ∧
      t = { s with regs := t.regs, ev := t.ev, saf := { s.saf with pulse := t.saf.pulse }, out := t.out } ∧
      s.RegsBut t [QSL_RX_STAT.addr c, SAF_STAT.addr]) ∧
    (∀ (p : Fin 4) (c : Fin 8) (l : List Byte) (h : Bool), s.qslMeets p c l → s.get (QSL_RX_STAT.state c) ≠ 3 → qslChecked l →
      frameNat l 0 1 = 0x11 → frameNat l 1 1 = s.get (QSL_RX_CFG.len c) → frameNat l 12 2 = s.get (QSL_RX_AGE.max_age c) →
      s.get (QSL_RX_CFG.age_en c) = 1 → (s.get TIME_STAT.src_locked = 0 ∧ s.get TIME_STAT.holdover = 0) ∨
        sx 32 (s.ptpUs + 2 ^ 32 - frameNat l 8 4) < -50 ∨ (s.get (QSL_RX_AGE.max_age c) * 10 : Nat) < sx 32 (s.ptpUs + 2 ^ 32 - frameNat l 8 4) →
      ∃ t : State, exec (.qslFrameReceive p l h) s = .next t ∧ t.get (QSL_RX_CNT.rejected c) = satAdd 65535 (s.get (QSL_RX_CNT.rejected c)) 1 ∧
      t.Pends Ev.qslFrameRejected ∧ s.OnlyRegsEv t [QSL_RX_CNT.addr c]) ∧
    (∀ (p : Fin 4) (c : Fin 8) (l : List Byte), ∀ d : Nat, (frameNat l 6 2 + 65536 - s.get (QSL_RX_STAT.last_seq c)) % 65536 = d →
      s.qslMeets p c l → s.get (QSL_RX_STAT.state c) = 2 → qslChecked l → frameNat l 0 1 = 0x11 → frameNat l 1 1 = s.get (QSL_RX_CFG.len c) →
      frameNat l 12 2 = s.get (QSL_RX_AGE.max_age c) → s.get (QSL_RX_CFG.age_en c) = 0 →
      (d = 0 ∨ 32768 ≤ d → ∃ t : State, exec (.qslFrameReceive p l false) s = .next t ∧
        t.get (QSL_RX_CNT.rejected c) = satAdd 65535 (s.get (QSL_RX_CNT.rejected c)) 1 ∧ s.OnlyRegs t [QSL_RX_CNT.addr c]) ∧
      (Nat.max 1 (s.get (QSL_RX_CFG.seq_tol c)) < d → d < 32768 → ∃ t : State, exec (.qslFrameReceive p l false) s = .next t ∧
        t.get (QSL_RX_STAT.state c) = 3 ∧ t.get (QSL_RX_STAT.cause c) = 4 ∧ t.Pends Ev.qslConnFail ∧ s.NoGrantOf t c ∧
        s.RegsBut t [QSL_RX_STAT.addr c, SAF_STAT.addr]) ∧
      (1 ≤ d → d ≤ Nat.max 1 (s.get (QSL_RX_CFG.seq_tol c)) → d < 32768 → ∃ t : State, exec (.qslFrameReceive p l false) s = .next t ∧
        t.get (QSL_RX_STAT.state c) = 2 ∧ t.get (QSL_RX_STAT.last_seq c) = frameNat l 6 2 ∧
        t.get (QSL_RX_CNT.lost c) = satAdd 65535 (s.get (QSL_RX_CNT.lost c)) (d - 1) ∧
        t.get (QSL_RX_CNT.accepted c) = (s.get (QSL_RX_CNT.accepted c) + 1) % 65536 ∧
        (∀ w : Fin 16, t.get (QSL_RX_PAYLOAD.data c w) = ofLE ((((l.drop 16).take (frameNat l 1 1)).drop (4 * w)).take 4)) ∧
        t.ev = s.ev ∧ t.saf = { s.saf with
          qslIndex := s.saf.qslIndex.set c (tblByte ((l.drop 16).take (frameNat l 1 1)) 0 % 16), qslTaken := s.saf.qslTaken.set c true } ∧
        t = { s with regs := t.regs, saf := t.saf, eth := { s.eth with qrx := s.eth.qrx.set c { s.qrx c with crcRun := 0 } } })) ∧
    (∀ (p : Fin 4) (c : Fin 8) (l : List Byte), s.qslMeets p c l → s.get (QSL_RX_STAT.state c) < 2 → qslChecked l → frameNat l 0 1 = 0x11 →
      frameNat l 1 1 = s.get (QSL_RX_CFG.len c) → frameNat l 12 2 = s.get (QSL_RX_AGE.max_age c) → s.get (QSL_RX_CFG.age_en c) = 0 ∨
        (s.get TIME_STAT.src_locked = 1 ∧ -50 ≤ sx 32 (s.ptpUs + 2 ^ 32 - frameNat l 8 4) ∧
          sx 32 (s.ptpUs + 2 ^ 32 - frameNat l 8 4) ≤ (s.get (QSL_RX_AGE.max_age c) * 10 : Nat)) → ∃ t : State,
      exec (.qslFrameReceive p l false) s = .next t ∧ t.get (QSL_RX_STAT.state c) = 2 ∧ t.get (QSL_RX_STAT.last_seq c) = frameNat l 6 2 ∧
      t.get (QSL_RX_CNT.accepted c) = (s.get (QSL_RX_CNT.accepted c) + 1) % 65536 ∧ s.Keeps t (QSL_RX_CNT.lost c) ∧ t.Pends Ev.qslConnOpen ∧
      (∀ w : Fin 16, t.get (QSL_RX_PAYLOAD.data c w) = ofLE ((((l.drop 16).take (frameNat l 1 1)).drop (4 * w)).take 4)) ∧
      t.saf = { s.saf with
        qslIndex := s.saf.qslIndex.set c (tblByte ((l.drop 16).take (frameNat l 1 1)) 0 % 16), qslTaken := s.saf.qslTaken.set c true } ∧
      t = { s with regs := t.regs, ev := t.ev, saf := t.saf, eth := { s.eth with qrx := s.eth.qrx.set c { s.qrx c with crcRun := 0 } }, out := t.out } ∧
      ∀ a, a < QSL_RX_CFG.addr c ∨ QSL_RX_CFG.addr c + 0x100 ≤ a → evReg a = false → t.reg a = s.reg a) ∧
    (∀ (p : Fin 4) (c : Fin 8) (l : List Byte), s.qslMeets p c l → s.get (QSL_RX_STAT.state c) < 2 → qslChecked l → frameNat l 0 1 = 0x11 →
      frameNat l 1 1 = s.get (QSL_RX_CFG.len c) → frameNat l 12 2 = s.get (QSL_RX_AGE.max_age c) → s.get (QSL_RX_CFG.age_en c) = 0 → ∃ t : State,
      exec (.qslFrameReceive p l true) s = .next t ∧ t.get (QSL_RX_STAT.state c) = 2 ∧ t.get (QSL_RX_STAT.last_seq c) = frameNat l 6 2 ∧
      t.Pends Ev.channelDisagree ∧ t.saf.qslTaken = s.saf.qslTaken.set c false ∧ t.saf.qslIndex = s.saf.qslIndex ∧
      (t.qrx c).mismatchAt = some s.now ∧ ((s.qrx c).mismatchAt = none → t.saf.latched = s.saf.latched ∧
        t.mode = s.mode) ∧
      ((s.qrx c).mismatchAt = some s.now → t.saf.latched = true ∧ t.get SAF_STAT.lockout = 1 ∧ t.get SAF_STAT.perm_a = 0 ∧
        t.get SAF_STAT.perm_b = 0 ∧ (s.saf.latched = false → t.get SAF_FAULT.cause = 1)) ∧ s.SameMem t) ∧
    (∀ (p : Fin 4) (l : List Byte) (r : RxNote) (h : Bool), s.isOff (.eth p) = true ∨ s.get (ETH_P_STAT.link p) = 0 →
      exec (.ethFrameReceive p l r h) s = .next s) ∧
    (∀ (p : Fin 4) (l : List Byte) (r : RxNote) (h : Bool), ∀ a : Nat, Nat.min r.own.toNat (s.ethPort p).rxOwn = a →
      ∀ b : Nat, Nat.min r.other.toNat (s.ethPort p).rxOther = b → ∀ own : Bool, (isPtp l || (s.qslParse l).isSome) = own →
      s.isOff (.eth p) = false → s.get (ETH_P_STAT.link p) = 1 → s.eth.ports.length = 4 →
      (if own then a else Nat.max a 32768) + b + l.length + 4 ≤ 262144 → own = false ∨ l.length < 60 ∨ 1518 < l.length → ∃ t : State,
      exec (.ethFrameReceive p l r h) s = .next t ∧
      t.get (ETH_P_CNT.rx_discard p) = satAdd 65535 (s.get (ETH_P_CNT.rx_discard p)) 1 ∧ s.Keeps t (ETH_P_CNT.fec_uncorr p) ∧
      t.get (ETH_P_CNT.fec_corr p) =
        (if s.fecOn p then satAdd (2 ^ 32 - 1) (s.get (ETH_P_CNT.fec_corr p)) r.corrected.toNat else s.get (ETH_P_CNT.fec_corr p)) ∧
      t.ethPort p = { s.ethPort p with
        rxOwn := if own then a + l.length + 4 else a
        rxOther := if own then b else b + l.length + 4 } ∧
      (∀ q : Fin 4, q ≠ p → t.ethPort q = s.ethPort q) ∧
      t = { s with regs := t.regs, eth := { s.eth with ports := t.eth.ports } } ∧ s.RegsBut t [ETH_P_CNT.addr p]) ∧
    (∀ (p : Fin 4) (l : List Byte) (r : RxNote) (h : Bool), ∀ a : Nat, Nat.min r.own.toNat (s.ethPort p).rxOwn = a →
      ∀ b : Nat, Nat.min r.other.toNat (s.ethPort p).rxOther = b → ∀ own : Bool, (isPtp l || (s.qslParse l).isSome) = own →
      s.isOff (.eth p) = false → s.get (ETH_P_STAT.link p) = 1 → s.eth.ports.length = 4 →
      262144 < (if own then a else Nat.max a 32768) + b + l.length + 4 → ∃ t : State, exec (.ethFrameReceive p l r h) s = .next t ∧
      t.get (ETH_P_CNT.rx_discard p) = satAdd 65535 (s.get (ETH_P_CNT.rx_discard p)) 1 ∧
      t.ethPort p = { s.ethPort p with rxOwn := a, rxOther := b } ∧
      t = { s with regs := t.regs, eth := { s.eth with ports := t.eth.ports } } ∧ s.RegsBut t [ETH_P_CNT.addr p]) ∧
    (∀ (p : Fin 4) (l : List Byte) (r : RxNote) (h : Bool), ∀ u : State, s.rxArrive p (l.length + 4) true r = (true, u) →
      s.isOff (.eth p) = false → s.get (ETH_P_STAT.link p) = 1 → 60 ≤ l.length → l.length ≤ 1518 →
      (u = { s with regs := u.regs, eth := { s.eth with ports := u.eth.ports } } ∧ s.RegsBut u [ETH_P_CNT.addr p]) ∧
      (isPtp l = true → exec (.ethFrameReceive p l r h) s = .next u) ∧
      (∀ q : QslFrame, s.qslParse l = some q → isPtp l = false → s.psfpMatch p q = none →
        (q.rtag = none ∨ s.get ETH_FRER_CFG.enable = 0 ∨ (s.get ETH_FRER_CFG.port_a ≠ p.val ∧ s.get ETH_FRER_CFG.port_b ≠ p.val) →
          exec (.ethFrameReceive p l r h) s = exec (.qslFrameReceive p q.pdu h) u) ∧
        (∀ n : Nat, q.rtag = some n → ∀ x : FrerStream, s.eth.frer = [x] → s.get ETH_FRER_CFG.enable = 1 → s.get ETH_FRER_CFG.port_a = p.val →
          x.dst = q.dst → x.vid = q.vid → x.takeAny = false → x.recov = n → n < 65536 → x.hist.head? = some true → ∃ t : State,
          exec (.ethFrameReceive p l r h) s = .next t ∧ t.eth.qrx = s.eth.qrx ∧ t.eth.frer.length = 1 ∧
          (x.runA = 63 → t.Pends Ev.frerLatentError) ∧ s.Keeps t ETH_FRER_STAT.lost ∧
          t = { u with regs := t.regs, ev := t.ev, eth := { u.eth with frer := t.eth.frer }, out := t.out } ∧ u.RegsBut t [])) ∧
      (∀ q : QslFrame, s.qslParse l = some q → isPtp l = false → ∀ f : Nat, s.psfpMatch p q = some f →
        (s.get (ETH_PSFP_CFG.gate_open f) = 0 → ∃ t : State, exec (.ethFrameReceive p l r h) s = .next t ∧
          t.get (ETH_PSFP_CNT.drop_other f) = satAdd 65535 (s.get (ETH_PSFP_CNT.drop_other f)) 1 ∧
          (s.eth.psfpAt = none → t.Pends Ev.psfpDrop) ∧
          t = { u with regs := t.regs, ev := t.ev, eth := { u.eth with psfpAt := t.eth.psfpAt }, out := t.out } ∧
          u.RegsBut t [ETH_PSFP_CNT.addr f]) ∧
        (s.get (ETH_PSFP_CFG.gate_open f) = 1 → s.get (ETH_PSFP_CFG.max_sdu f) ≠ 0 → s.get (ETH_PSFP_CFG.max_sdu f) < l.length + 4 → ∃ t : State,
          exec (.ethFrameReceive p l r h) s = .next t ∧
          t.get (ETH_PSFP_CNT.drop_sdu f) = satAdd 65535 (s.get (ETH_PSFP_CNT.drop_sdu f)) 1 ∧
          (s.get (ETH_PSFP_CFG.block_oversize f) = 1 → t.get (ETH_PSFP_CFG.gate_open f) = 0 ∧ t.Pends Ev.psfpGateClosed) ∧
          (s.get (ETH_PSFP_CFG.block_oversize f) = 0 → t.get (ETH_PSFP_CFG.gate_open f) = 1) ∧ (s.eth.psfpAt = none → t.Pends Ev.psfpDrop) ∧
          t = { u with regs := t.regs, ev := t.ev, eth := { u.eth with psfpAt := t.eth.psfpAt }, out := t.out } ∧
          u.RegsBut t [ETH_PSFP_CNT.addr f, ETH_PSFP_CFG.addr f]) ∧
        (s.get (ETH_PSFP_CFG.gate_open f) = 1 → s.get (ETH_PSFP_CFG.max_sdu f) = 0 ∨ l.length + 4 ≤ s.get (ETH_PSFP_CFG.max_sdu f) →
          s.get (ETH_PSFP_METER.cir_mbps f) = 0 → q.rtag = none →
          exec (.ethFrameReceive p l r h) s = exec (.qslFrameReceive p q.pdu h) (u.incr (ETH_PSFP_CNT.passed f))) ∧
        (s.get (ETH_PSFP_CFG.gate_open f) = 1 → s.get (ETH_PSFP_CFG.max_sdu f) = 0 ∨ l.length + 4 ≤ s.get (ETH_PSFP_CFG.max_sdu f) →
          s.get (ETH_PSFP_METER.cir_mbps f) ≠ 0 → tabGet (fun _ => none) s.eth.meters f = some (0, s.now) → ∃ t : State,
          exec (.ethFrameReceive p l r h) s = .next t ∧
          t.get (ETH_PSFP_CNT.drop_other f) = satAdd 65535 (s.get (ETH_PSFP_CNT.drop_other f)) 1 ∧
          (s.eth.psfpAt = none → t.Pends Ev.psfpDrop) ∧ t.eth.qrx = s.eth.qrx ∧
          t = { u with regs := t.regs, ev := t.ev, eth := t.eth, out := t.out } ∧ u.RegsBut t [ETH_PSFP_CNT.addr f])))


/-- Device time and its servo (R24, R165 to R169, R171, R293, R332). Log entries 71, 73, 190 and 212 bear on its clauses: what they fix
is the model's choice. -/
def Obligations.TimeBase : Prop :=
  ∀ s : State,
    (∃ t : State, exec .rpllLock s = .next t ∧ t.get TIME_STAT.rpll_locked = 1 ∧ t.time = { s.time with everLocked := true } ∧
      t = { s with regs := t.regs, time := t.time } ∧ s.RegsBut t [TIME_STAT.addr]) ∧
    (s.get TIME_STAT.rpll_locked = 1 → ∃ t : State, exec .rpllLossOfLock s = .next t ∧ t.get TIME_STAT.rpll_locked = 0 ∧
      t.get TIME_STAT.unlock_seen = 1 ∧ t.get TIME_STAT.warm = 0 ∧ (s.get TIME_STAT.warm = 1 → t.Pends Ev.timeWarmLost) ∧
      t.Pends Ev.rpllUnlock ∧ t.fire.engaged = false ∧ s.SafeAfter t 0x0A 0 [TIME_STAT.addr]) ∧
    (s.get TIME_STAT.rpll_locked = 0 → exec .rpllLossOfLock s = .next s) ∧
    (s.time.everLocked = true → ∃ t : State, exec .deviceTimeWrap s = .next t ∧ t.now = s.now % 131072 ∧
      t.get TIME_WRAP.wraps = (s.get TIME_WRAP.wraps + 1) % 2 ^ 32 ∧
      t.time = { s.time with warmLog := t.time.warmLog } ∧ (∀ c : SafSel, (t.chanOf c).table = (s.chanOf c).table ∧
        (t.chanOf c).closed = (s.chanOf c).closed ∧ (t.chanOf c).verdicts = (s.chanOf c).verdicts) ∧
      t = { s with regs := t.regs, time := t.time, saf := t.saf } ∧ s.RegsBut t [TIME_NOW.addr, TIME_WRAP.addr]) ∧
    (s.time.everLocked = false → exec .deviceTimeWrap s = .next s) ∧
    (∀ d : BitVec 64, s.get FIRE_FRAME_STAT.running = 1 ∨ s.time.everLocked = false → ∃ t : State, exec (.timeStepWrite d) s = .next t ∧
      t.Pends Ev.stepRefused ∧ t.now = s.now ∧ s.OnlyRegsEv t []) ∧
    (∀ d : BitVec 64, s.get FIRE_FRAME_STAT.running = 0 → s.time.everLocked = true → ∃ t : State, exec (.timeStepWrite d) s = .next t ∧
      t.now = (s.now + d.toNat) % 2 ^ 64 ∧ t.Pends Ev.timeStep ∧
      (0 ≤ d.toInt → s.now + d.toNat < 2 ^ 64 → s.Keeps t TIME_WRAP.wraps) ∧
      (0 ≤ d.toInt → 2 ^ 64 ≤ s.now + d.toNat → t.get TIME_WRAP.wraps = (s.get TIME_WRAP.wraps + 1) % 2 ^ 32) ∧
      (d.toInt < 0 → 2 ^ 64 ≤ s.now + d.toNat → s.Keeps t TIME_WRAP.wraps) ∧
      (d.toInt < 0 → s.now + d.toNat < 2 ^ 64 → t.get TIME_WRAP.wraps = (s.get TIME_WRAP.wraps + 2 ^ 32 - 1) % 2 ^ 32) ∧
      (∀ c ∈ t.fire.cells, c.cold.isSome = true) ∧ t.time.warmLog = [] ∧
      ∀ u : State, s.marksStep d.toInt = u → u.OnlyRegsEv t [TIME_NOW.addr, TIME_WRAP.addr]) ∧
    (∀ (src : Fin 4) (o : BitVec 64) (w : Word32), s.time.run = none → src.val = 0 ∨ s.timeSrc ≠ src.val →
      exec (.servoOffset src o w) s = .next s) ∧
    (∀ (src : Fin 4) (o : BitVec 64) (w : Word32), s.time.run = none → src.val ≠ 0 → s.timeSrc = src.val →
      s.get TIME_CTL.step_en = 0 ∨ s.get FIRE_FRAME_STAT.running = 1 ∨ o.toInt.natAbs ≤ 65536000 ∨ s.time.everLocked = false → ∃ t : State,
      exec (.servoOffset src o w) s = .next t ∧ t.get TIME_OFFSET.offset = o.toNat ∧ t.get TIME_STAT.holdover = 0 ∧ t.now = s.now ∧
      t.time = { s.time with
        good := if o.toInt.natAbs ≤ 6553600 then Nat.min 16 (s.time.good + 1) else 0
        bad := if 65536000 < o.toInt.natAbs then Nat.min 4 (s.time.bad + 1) else 0
        slew := decide (65536000 < o.toInt.natAbs) && s.get TIME_CTL.step_en == 1 } ∧
      (o.toInt.natAbs ≤ 6553600 → 15 ≤ s.time.good → t.get TIME_STAT.src_locked = 1 ∧
        (s.get TIME_STAT.src_locked = 0 → t.Pends Ev.sourceLocked)) ∧
      (65536000 < o.toInt.natAbs → 3 ≤ s.time.bad → t.get TIME_STAT.src_locked = 0 ∧
        (s.get TIME_STAT.src_locked = 1 → t.Pends Ev.sourceLost)) ∧
      (6553600 < o.toInt.natAbs → o.toInt.natAbs ≤ 65536000 → s.Keeps t TIME_STAT.src_locked) ∧
      (src.val ≠ 1 → s.Keeps t TIME_WRAP.wraps) ∧
      (src.val = 1 → (0 : Int) ≤ s.now + o.toInt → s.now + o.toInt < 2 ^ 64 → t.get TIME_WRAP.wraps = w.toNat) ∧
      t = { s with regs := t.regs, ev := t.ev, time := t.time, out := t.out } ∧
      s.RegsBut t [TIME_OFFSET.addr, TIME_STAT.addr, TIME_WRAP.addr]) ∧
    (∀ (src : Fin 4) (o : BitVec 64) (w : Word32), s.time.run = none → src.val ≠ 0 → s.timeSrc = src.val → s.get TIME_CTL.step_en = 1 →
      s.get FIRE_FRAME_STAT.running = 0 → 65536000 < o.toInt.natAbs → s.time.everLocked = true → ∃ t : State,
      exec (.servoOffset src o w) s = .next t ∧ t.get TIME_OFFSET.offset = o.toNat ∧ t.now = (s.now + o.toNat) % 2 ^ 64 ∧
      t.Pends Ev.timeStep ∧ t.time.slew = false ∧ t.time.warmLog = [] ∧ ∀ u : State, s.marksStep o.toInt = u →
      t = { u with regs := t.regs, ev := t.ev, time := t.time, out := t.out } ∧ u.RegsBut t [TIME_OFFSET.addr, TIME_STAT.addr, TIME_WRAP.addr, TIME_NOW.addr]) ∧
    (s.timeSrc ≠ 0 → s.get TIME_STAT.holdover = 0 → ∃ t : State, exec .holdoverEntry s = .next t ∧ t.get TIME_STAT.holdover = 1 ∧
      t.get TIME_STAT.src_locked = 0 ∧ t.Pends Ev.sourceLost ∧ t.time = { s.time with good := 0, bad := 0, slew := false } ∧
      t = { s with regs := t.regs, ev := t.ev, time := t.time, out := t.out } ∧ s.RegsBut t [TIME_STAT.addr]) ∧
    (s.timeSrc = 0 ∨ s.get TIME_STAT.holdover = 1 → exec .holdoverEntry s = .next s) ∧
    (s.timeSrc = 0 ∨ s.get TIME_STAT.holdover = 1 → exec .trimUpdate s = .next s) ∧
    (s.timeSrc ≠ 0 → s.get TIME_STAT.holdover = 0 → ∃ t : State, exec .trimUpdate s = .next t ∧
      -10000 ≤ sx 24 (t.get TIME_TRIM.trim) ∧ sx 24 (t.get TIME_TRIM.trim) ≤ 10000 ∧
      (-10000 ≤ sx 24 (s.get TIME_TRIM.trim) → sx 24 (s.get TIME_TRIM.trim) ≤ 10000 →
        (sx 24 (t.get TIME_TRIM.trim) - sx 24 (s.get TIME_TRIM.trim)).natAbs ≤ 100) ∧
      t = { s with regs := t.regs, freeCtr := t.freeCtr } ∧ s.RegsBut t [TIME_TRIM.addr]) ∧
    (∀ h : Word16, s.get TIME_STAT.rpll_locked = 1 → s.get TIME_STAT.ocxo_warm = 1 → s.get TIME_WARM_CFG.settle_s ≤ h.toNat →
      s.get TIME_STAT.warm = 0 → ∃ t : State, exec (.warmReached h) s = .next t ∧ t.get TIME_STAT.warm = 1 ∧ t.Pends Ev.timeWarm ∧
      t = { s with regs := t.regs, ev := t.ev, time := { s.time with warmLog := s.now :: s.time.warmLog }, out := t.out } ∧ s.RegsBut t [TIME_STAT.addr]) ∧
    (∀ h : Word16, s.get TIME_STAT.rpll_locked = 0 ∨ s.get TIME_STAT.ocxo_warm = 0 ∨ h.toNat < s.get TIME_WARM_CFG.settle_s ∨
      s.get TIME_STAT.warm = 1 → exec (.warmReached h) s = .next s) ∧
    (∃ t : State, exec (.ocxoWarmChange true) s = .next t ∧ t.get TIME_STAT.ocxo_warm = 1 ∧ s.Keeps t TIME_STAT.warm ∧
      s.OnlyRegs t [TIME_STAT.addr]) ∧
    (∃ t : State, exec (.ocxoWarmChange false) s = .next t ∧ t.get TIME_STAT.ocxo_warm = 0 ∧ t.get TIME_STAT.warm = 0 ∧
      (s.get TIME_STAT.warm = 1 → t.get TIME_STAT.warm_lost = 1 ∧ t.Pends Ev.timeWarmLost) ∧
      (s.get TIME_STAT.warm = 0 → s.Keeps t TIME_STAT.warm_lost ∧ t.ev = s.ev) ∧
      t = { s with regs := t.regs, ev := t.ev, out := t.out
                   time := { s.time with warmLog := (if s.get TIME_STAT.warm = 1 then [s.now] else []) ++ s.time.warmLog } } ∧
      s.RegsBut t [TIME_STAT.addr]) ∧
    (∃ t : State, exec .ppsMissing s = .next t ∧ t.get TIME_STAT.pps_missing = 1 ∧ t.Pends Ev.ppsMissing ∧
      s.OnlyRegsEv t [TIME_STAT.addr])

/-- Edges, their stamps and FIFOs, and the statistics engine (R171, R173 to R177, R409, R413). Log entries 73 and 75 bear on its
clauses: what they fix is the model's choice. -/
def Obligations.StampsAndStatistics : Prop :=
  ∀ s : State, s.time.fifo.length = 4 → s.time.ovf.length = 4 → s.time.lastEdge.length = 5 →
    (∀ (c : BitVec 49) (r : Fin 160), s.hubTdcDead 4 = true ∨ s.inDead 4 (s.hubStamp 4 0 c.toNat r) = true →
      exec (.ppsEdge c r) s = .next s) ∧
    (∀ (c : BitVec 49) (r : Fin 160), ∀ x : Nat, s.hubStamp 4 0 c.toNat r = x → s.hubTdcDead 4 = false → s.inDead 4 x = false →
      (s.get TIME_STAT.src_locked = 1 → 65536000000 < (s.ppsOffset x).natAbs → ∃ t : State, exec (.ppsEdge c r) s = .next t ∧
        t.get TIME_PPS_STAMP.time = x * 256 % 2 ^ 64 ∧ t.time = { s.time with lastEdge := s.time.lastEdge.set 4 (some x) } ∧
        t = { s with regs := t.regs, time := t.time } ∧ s.RegsBut t [TIME_PPS_STAMP.addr]) ∧
      (s.get TIME_STAT.src_locked = 0 ∨ (s.ppsOffset x).natAbs ≤ 65536000000 →
        exec (.ppsEdge c r) s = exec (.servoOffset 2 (BitVec.ofInt 64 (s.ppsOffset x)) 0)
          (({ s with time := { s.time with lastEdge := s.time.lastEdge.set 4 (some x) } }).put TIME_PPS_STAMP.time (x * 256)))) ∧
    (∀ (n : Fin 4) (h : Bool) (c : BitVec 49) (r : Fin 160), s.hubTdcDead n = true ∨
      (s.get (TIME_TIN_CFG.edge n)).testBit (bit (!h)) = false → exec (.timeinEdge n h c r) s = .next s) ∧
    (∀ (n : Fin 4) (h : Bool) (c : BitVec 49) (r : Fin 160), ∀ x : Nat, s.hubStamp n (bit (!h)) c.toNat r = x → s.hubTdcDead n = false →
      (s.get (TIME_TIN_CFG.edge n)).testBit (bit (!h)) = true → s.inDead n x = true → ∃ t : State, exec (.timeinEdge n h c r) s = .next t ∧
      t.get (TIME_TIN_STAT.lost n) = satAdd 65535 (s.get (TIME_TIN_STAT.lost n)) (s.get (TIME_TIN_CFG.enable n)) ∧
      s.OnlyRegs t [TIME_TIN_STAT.addr n]) ∧
    (∀ (n : Fin 4) (h : Bool) (c : BitVec 49) (r : Fin 160), ∀ x : Nat, s.hubStamp n (bit (!h)) c.toNat r = x → s.hubTdcDead n = false →
      (s.get (TIME_TIN_CFG.edge n)).testBit (bit (!h)) = true → s.inDead n x = false → s.time.run = none →
      (s.get (TIME_TIN_CFG.enable n) = 1 → (s.fifo n).length < 64 → ∃ t : State, exec (.timeinEdge n h c r) s = .next t ∧
        t.fifo n = s.fifo n ++ [x * 256 % 2 ^ 64 + 1 + 2 * bit h] ∧ t.get (TIME_TIN_STAT.level n) = (s.fifo n).length + 1 ∧
        t.time = { s.time with lastEdge := s.time.lastEdge.set n (some x), fifo := t.time.fifo } ∧
        (∀ m : Fin 4, m ≠ n → t.fifo m = s.fifo m) ∧ t = { s with regs := t.regs, time := t.time } ∧ s.RegsBut t [TIME_TIN_STAT.addr n]) ∧
      (s.get (TIME_TIN_CFG.enable n) = 1 → 64 ≤ (s.fifo n).length → ∃ t : State, exec (.timeinEdge n h c r) s = .next t ∧
        t.fifo n = s.fifo n ∧ t.get (TIME_TIN_STAT.lost n) = satAdd 65535 (s.get (TIME_TIN_STAT.lost n)) 1 ∧
        t.get (TIME_TIN_STAT.ovf n) = 1 ∧ (s.time.ovf.getD n false = false → t.Pends Ev.timeinOverflow) ∧
        (s.time.ovf.getD n false = true → t.ev = s.ev) ∧ t.time.fifo = s.time.fifo ∧
        t = { s with regs := t.regs, ev := t.ev, time := t.time, out := t.out } ∧ s.RegsBut t [TIME_TIN_STAT.addr n]) ∧
      (s.get (TIME_TIN_CFG.enable n) = 0 →
        exec (.timeinEdge n h c r) s = .next { s with time := { s.time with lastEdge := s.time.lastEdge.set n (some x) } })) ∧
    (∀ (p : Port) (n : Fin 4), s.portLive p = true → s.fifo n = [] →
      exec (.timeinStampRead p n) s = .next { s with out := .readData p (TIME_TIN_STAMP.addr n) 0 :: s.out }) ∧
    (∀ (p : Port) (n : Fin 4), s.portLive p = true → ∀ (v : Nat) (l : List Nat), s.fifo n = v :: l → ∃ t : State, exec (.timeinStampRead p n) s = .next t ∧
      t.out = .readData p (TIME_TIN_STAMP.addr n) v :: s.out ∧ t.fifo n = l ∧ t.get (TIME_TIN_STAT.level n) = l.length % 128 ∧
      t.time.ovf = s.time.ovf.set n false ∧ (∀ m : Fin 4, m ≠ n → t.fifo m = s.fifo m) ∧ s.Keeps t (TIME_TIN_STAT.lost n) ∧
      t = { s with regs := t.regs, time := t.time, out := t.out } ∧ s.RegsBut t [TIME_TIN_STAT.addr n]) ∧
    (∀ p : Port, s.portLive p = true → ∀ w : Nat, (if p = .clusterA ∨ p = .clusterB then 5 else 4) = w →
      (s.time.run = none → 4 ≤ s.get TIME_STATS_CFG.src → exec (.statsStart p) s = .next s) ∧
      (s.time.run = none → s.get TIME_STATS_CFG.src < 4 → s.get (HUB_CLAIM.owner 18) = 0 ∨ s.get (HUB_CLAIM.owner 18) = w → ∃ t : State,
        exec (.statsStart p) s = .next t ∧ t.get TIME_STATS_STAT.busy = 1 ∧ t.get TIME_STATS_CFG.start = 1 ∧
        t.get (HUB_CLAIM.owner 18) = w ∧
        t.time = { s.time with
          run := some ⟨s.get TIME_STATS_CFG.src, s.get TIME_STATS_CFG.a, s.get TIME_STATS_CFG.b, Nat.min 5 (s.get TIME_STATS_CFG.ref_tile),
            s.get TIME_STATS_CFG.ref_k, clampN 2 65536 (s.get TIME_STATS_N.n), w, 0, 0, 0, 0, 0⟩
          samples := [], seen := List.replicate 4 none } ∧
        t.hub = { s.hub with claimClb := if w = 5 ∧ s.get (HUB_CLAIM.owner 18) ≠ 5 then decide (p = .clusterB) else s.hub.claimClb } ∧
        t = { s with regs := t.regs, time := t.time, hub := t.hub } ∧
        s.RegsBut t [TIME_STATS_STAT.addr, TIME_STATS_CFG.addr, HUB_CLAIM.addr 18]) ∧
      (s.get (HUB_CLAIM.owner 18) ≠ 0 → s.get (HUB_CLAIM.owner 18) ≠ w → s.time.run ≠ none ∨ s.get TIME_STATS_CFG.src < 4 → ∃ t : State,
        exec (.statsStart p) s = .next t ∧ t.get (HUB_CLAIM.last_denied 18) = w ∧ t.get (HUB_CLAIM.denied_seen 18) = 1 ∧
        s.Keeps t (HUB_CLAIM.owner 18) ∧ t.Pends (Ev.claimDenied 0) ∧ s.OnlyRegsEv t [HUB_CLAIM.addr 18]) ∧
      (s.time.run ≠ none → s.get (HUB_CLAIM.owner 18) = w → ∃ t : State, exec (.statsStart p) s = .next t ∧
        t.get TIME_STATS_STAT.busy_start = 1 ∧ s.Keeps t TIME_STATS_STAT.busy ∧ s.OnlyRegs t [TIME_STATS_STAT.addr])) ∧
    (∀ r : StatsRun, s.time.run = some r → ∃ t : State, exec .statsAbort s = .next t ∧ t.get TIME_STATS_STAT.busy = 0 ∧
      t.get TIME_STATS_STAT.aborted = 1 ∧ t.get TIME_STATS_CFG.start = 0 ∧
      (s.get (HUB_CLAIM.owner 18) = r.owner → t.get (HUB_CLAIM.owner 18) = 0) ∧
      t.time = { s.time with run := none, samples := [], seen := List.replicate 4 none } ∧ t = { s with regs := t.regs, time := t.time } ∧
      s.RegsBut t [TIME_STATS_STAT.addr, TIME_STATS_CFG.addr, HUB_CLAIM.addr 18]) ∧
    (s.time.run = none → exec .statsAbort s = .next s ∧ exec .statsSample s = .next s ∧ exec .statsDone s = .next s) ∧
    (∀ r : StatsRun, s.time.run = some r → ∀ (x : Int) (l : List Int), s.time.samples = x :: l →
      (x < -2147483648 ∨ 2147483647 < x → ∃ t : State, exec .statsSample s = .next t ∧
        t.get TIME_STATS_STAT.discarded = satAdd 65535 (s.get TIME_STATS_STAT.discarded) 1 ∧ t.time = { s.time with samples := l } ∧
        t = { s with regs := t.regs, time := t.time } ∧ s.RegsBut t [TIME_STATS_STAT.addr]) ∧
      (-2147483648 ≤ x → x ≤ 2147483647 → r.count < r.n →
        exec .statsSample s = .next { s with time := { s.time with samples := l, run := some (r.add x) } })) ∧
    (∀ r : StatsRun, s.time.run = some r → r.n ≤ r.count → ∃ t : State, exec .statsDone s = .next t ∧
      t.get TIME_STATS_MEAN.mean = toField 64 (roundHalfEven (r.sum * 256) r.n) ∧ t.get TIME_STATS_SDEV.sdev = r.sdev ∧
      t.get TIME_STATS_MINMAX.min = toField 32 r.min ∧ t.get TIME_STATS_MINMAX.max = toField 32 r.max ∧ t.get TIME_STATS_STAT.busy = 0 ∧
      t.get TIME_STATS_STAT.done = 1 ∧ t.get TIME_STATS_CFG.start = 0 ∧ t.Pends Ev.statsDone ∧ t.time.run = none ∧
      t = { s with regs := t.regs, ev := t.ev, time := t.time, out := t.out } ∧
      s.RegsBut t [TIME_STATS_MEAN.addr, TIME_STATS_SDEV.addr, TIME_STATS_MINMAX.addr, TIME_STATS_STAT.addr, TIME_STATS_CFG.addr,
        HUB_CLAIM.addr 18]) ∧
    (∀ r : StatsRun, s.time.run = some r → r.count < r.n → exec .statsDone s = .next s)


/-- The calibration store, offset and skew calibration, and in-service self-test (R367, R378 to R393). Log entries 2, 76, 129, 131, 132,
133, 134, 135, 136, 186, 198, 201 and 218 bear on its clauses: what they fix is the model's choice. -/
def Obligations.CalibrationAndSelfTest : Prop :=
  ∀ s : State,
    (s.mode ≠ 1 ∨ s.boot.calLoaded = true → exec .calStoreLoad s = .next s) ∧
    (s.mode = 1 → s.boot.calLoaded = false → ∃ t : State, exec .calStoreLoad s = .next t ∧ t.boot = { s.boot with calLoaded := true } ∧
      t.get CAL_NVM_STAT.active_half = (norActive s.nor).getD 0 ∧
      t.get CAL_NVM_GEN.generation = (norMarker s.nor ((norActive s.nor).getD 0)).getD 0 ∧
      (∀ (n : Fin 5) (u : Fin 2), recFind (norRecs s.nor 0 8192 0 0x800000) 1 (6144 + 2 * n + u) = none → t.hubTdcDead n = true ∧
        t.Pends Ev.nvmError) ∧
      (∀ n : Fin 5, (∀ u : Fin 2, recFind (norRecs s.nor 0 8192 0 0x800000) 1 (6144 + 2 * n + u) ≠ none) → t.hubTdcDead n = false) ∧
      (∀ k : Fin 6, t.cal.skewBad.contains k.val = (recFind (norRecs s.nor 0 8192 0 0x800000) 3 k).isNone) ∧
      t.cal.pilotOk = ((recFind (s.halfRecs ((norActive s.nor).getD 0)) 0x14 0).isSome ||
        (recFind (s.halfRecs (1 - (norActive s.nor).getD 0)) 0x14 0).isSome) ∧
      t.mode = 1 ∧ t.nor = s.nor ∧ s.SameMem t) ∧
    (s.get CAL_NVM_STAT.busy = 1 → ∀ (y : BitVec 8) (n : Word16),
      (∃ t : State, exec .nvmWriteSet s = .next t ∧ t.get CAL_NVM_STAT.err = 7 ∧ t.get CAL_NVM_STAT.fail_seen = 1 ∧ t.Pends Ev.nvmError ∧
        t.get CAL_NVM_CTL.op = 1 ∧ s.Keeps t CAL_NVM_CTL.go ∧ s.OnlyRegsEv t [CAL_NVM_STAT.addr, CAL_NVM_CTL.addr]) ∧
      ∃ t : State, exec (.nvmReadRecord y n) s = .next t ∧ t.get CAL_NVM_STAT.err = 7 ∧ t.get CAL_NVM_STAT.fail_seen = 1 ∧
        t.Pends Ev.nvmError ∧ t.get CAL_NVM_CTL.op = 2 ∧ t.get CAL_NVM_CTL.rec_type = y.toNat ∧ t.get CAL_NVM_CTL.rec_index = n.toNat ∧
        s.OnlyRegsEv t [CAL_NVM_STAT.addr, CAL_NVM_CTL.addr]) ∧
    (s.get CAL_NVM_STAT.busy = 0 → s.get THM_STAT.nvm_inhibit = 1 → ∃ t : State, exec .nvmWriteSet s = .next t ∧
      t.get CAL_NVM_STAT.err = 1 ∧ t.get CAL_NVM_STAT.fail_seen = 1 ∧ t.get CAL_NVM_STAT.busy = 0 ∧ t.Pends Ev.nvmError ∧
      s.OnlyRegsEv t [CAL_NVM_STAT.addr, CAL_NVM_CTL.addr]) ∧
    (s.get CAL_NVM_STAT.busy = 0 → s.get THM_STAT.nvm_inhibit = 0 → ∀ e : Nat, e < 8 → stageRecs s.calStage 52429 0 = .error e → ∃ t : State,
      exec .nvmWriteSet s = .next t ∧ t.get CAL_NVM_STAT.err = e ∧ t.get CAL_NVM_STAT.fail_seen = 1 ∧ t.get CAL_NVM_STAT.busy = 0 ∧
      t.Pends Ev.nvmError ∧ s.OnlyRegsEv t [CAL_NVM_STAT.addr, CAL_NVM_CTL.addr]) ∧
    (s.get CAL_NVM_STAT.busy = 0 → s.get THM_STAT.nvm_inhibit = 0 → ∀ l : List (List Byte), stageRecs s.calStage 52429 0 = .ok l → ∃ t : State,
      exec .nvmWriteSet s = .next t ∧ t.get CAL_NVM_STAT.err = 0 ∧ t.get CAL_NVM_STAT.busy = 1 ∧ t.get CAL_NVM_CTL.go = 1 ∧
      t.get CAL_NVM_CTL.op = 1 ∧ t.cal = { s.cal with nvmSet := some l.flatten } ∧ t = { s with regs := t.regs, cal := t.cal } ∧
      s.RegsBut t [CAL_NVM_STAT.addr, CAL_NVM_CTL.addr]) ∧
    (∀ h v : Bool, s.cal.nvmSet = none → exec (.nvmWriteDone h v) s = .next s) ∧
    (∀ h v : Bool, ∀ l : List Byte, s.cal.nvmSet = some l → h = true ∨ s.get THM_STAT.nvm_inhibit = 1 ∨ v = true → ∃ t : State,
      exec (.nvmWriteDone h v) s = .next t ∧ t.get CAL_NVM_STAT.err = (if h = true ∨ s.get THM_STAT.nvm_inhibit = 1 then 2 else 3) ∧
      t.get CAL_NVM_STAT.busy = 0 ∧ t.get CAL_NVM_CTL.go = 0 ∧ t.get CAL_NVM_STAT.fail_seen = 1 ∧ t.Pends Ev.nvmError ∧
      t.cal.nvmSet = none ∧ s.Keeps t CAL_NVM_GEN.generation ∧ s.Keeps t CAL_NVM_STAT.active_half ∧
      (∀ a, a < norBase (1 + s.nvmHalf) ∨ norBase (1 + s.nvmHalf) + 0x400000 ≤ a → tabGet byteDefault t.nor a = tabGet byteDefault s.nor a) ∧
      t = { s with regs := t.regs, ev := t.ev, cal := t.cal, nor := t.nor, out := t.out, freeCtr := t.freeCtr } ∧
      s.RegsBut t [CAL_NVM_STAT.addr, CAL_NVM_CTL.addr]) ∧
    (∀ l : List Byte, s.cal.nvmSet = some l → s.get THM_STAT.nvm_inhibit = 0 → ∃ t : State, exec (.nvmWriteDone false false) s = .next t ∧
      t.get CAL_NVM_GEN.generation = (s.get CAL_NVM_GEN.generation + 1) % 2 ^ 32 ∧ t.get CAL_NVM_STAT.err = 0 ∧
      t.get CAL_NVM_STAT.busy = 0 ∧ t.get CAL_NVM_CTL.go = 0 ∧ s.Keeps t CAL_NVM_STAT.active_half ∧
      t.nor = memStore (memStore (s.nvmErase s.nvmHalf l.length).nor (norBase (1 + s.nvmHalf)) (withGen (t.get CAL_NVM_GEN.generation) 52429 l))
        (norBase (1 + s.nvmHalf) + 0x3F0000) (toLE 4 (t.get CAL_NVM_GEN.generation) ++ toLE 4 (0xFFFFFFFF - t.get CAL_NVM_GEN.generation) ++
          toLE 4 (crc32 (toLE 4 (t.get CAL_NVM_GEN.generation) ++ toLE 4 (0xFFFFFFFF - t.get CAL_NVM_GEN.generation)))) ∧
      t.cal = { s.cal with nvmSet := none, wear := s.cal.wear.set s.nvmHalf (s.cal.wear.getD s.nvmHalf 0 + 1) } ∧
      t = { s with regs := t.regs, cal := t.cal, nor := t.nor } ∧ s.RegsBut t [CAL_NVM_STAT.addr, CAL_NVM_CTL.addr, CAL_NVM_GEN.addr]) ∧
    (∀ (y : BitVec 8) (n : Word16), s.get CAL_NVM_STAT.busy = 0 → s.calRec y.toNat n.toNat = none → ∃ t : State,
      exec (.nvmReadRecord y n) s = .next t ∧ t.get CAL_NVM_STAT.err = 6 ∧ t.Pends Ev.nvmError ∧ t.get CAL_NVM_CTL.op = 2 ∧
      t.get CAL_NVM_CTL.rec_type = y.toNat ∧ t.get CAL_NVM_CTL.rec_index = n.toNat ∧ t.calStage = s.calStage ∧
      s.OnlyRegsEv t [CAL_NVM_STAT.addr, CAL_NVM_CTL.addr]) ∧
    (∀ (y : BitVec 8) (n : Word16), ∀ r : CalRec, s.calRec y.toNat n.toNat = some r → s.get CAL_NVM_STAT.busy = 0 → ∃ t : State,
      exec (.nvmReadRecord y n) s = .next t ∧ t.get CAL_NVM_STAT.err = 0 ∧ t.calStage = memStore s.calStage 0 r.bytes ∧
      t = { s with regs := t.regs, calStage := t.calStage } ∧ s.RegsBut t [CAL_NVM_STAT.addr, CAL_NVM_CTL.addr]) ∧
    (∀ (m : BitVec 6) (k : Fin 4), ∃ t : State, exec (.calGo m k) s = .next t ∧ t.get CAL_CTL.tiles = m.toNat ∧ t.get CAL_CTL.kind = k.val ∧
      t.get CAL_STAT.err = s.calErr m.toNat k ∧
      (s.get CAL_STAT.busy = 1 → t.get CAL_STAT.err = 4) ∧ (s.get CAL_STAT.busy = 0 → s.mode ≠ 4 → t.get CAL_STAT.err = 1) ∧
      (s.get CAL_STAT.busy = 0 → s.mode = 4 → s.get FIRE_FRAME_STAT.running = 1 → t.get CAL_STAT.err = 2) ∧
      (t.get CAL_STAT.err = 0 → t.get CAL_STAT.busy = 1 ∧ t.cal = { s.cal with job := some (m.toNat, calKind k, false) }) ∧
      (t.get CAL_STAT.err ≠ 0 → s.Keeps t CAL_STAT.busy ∧ t.cal = s.cal) ∧
      t = { s with regs := t.regs, cal := t.cal } ∧ s.RegsBut t [CAL_CTL.addr, CAL_STAT.addr]) ∧
    (∀ l : List CalResult, s.cal.job = none → exec (.calDone l) s = .next s) ∧
    (∀ j : Nat × Nat × Bool, s.cal.job = some j → ∃ t : State, exec (.calDone []) s = .next t ∧
      t.get CAL_STAT.busy = 0 ∧ t.get CAL_STAT.done = 1 ∧ t.Pends Ev.calDone ∧ t.cal = { s.cal with job := none } ∧
      (∀ k : Fin 6, j.1.testBit k = true → j.2.1 % 2 = 1 → t.get (CAL_QUAL.off_worst k) = 0 ∧ t.get (CAL_QUAL.off_fail k) = 0) ∧
      (∀ k : Fin 6, j.1.testBit k = true → 2 ≤ j.2.1 → t.get (CAL_QUAL.skew_worst k) = 0 ∧ t.get (CAL_QUAL.skew_fail k) = 0) ∧
      (∀ k : Fin 6, j.1.testBit k = false → t.reg (CAL_QUAL.addr k) = s.reg (CAL_QUAL.addr k)) ∧
      t = { s with regs := t.regs, ev := t.ev, cal := t.cal, out := t.out }) ∧
    (∀ j : Nat × Nat × Bool, s.cal.job = some j → ∀ r : CalResult, j.1.testBit r.tile = true → j.2.1 = 1 → ∃ t : State,
      exec (.calDone [r]) s = .next t ∧ t.get (CAL_CH.off_res_h r.tile r.chan) = byteOf (calResH r) ∧
      t.get (CAL_CH.off_res_l r.tile r.chan) = byteOf (calResL r) ∧
      ((calResH r).natAbs ≤ s.get CAL_LIMITS.off_lim_h → (calResL r).natAbs ≤ s.get CAL_LIMITS.off_lim_l →
        t.get (CAL_CH.sel_lo_h r.tile r.chan) = calPick r 0 ∧ t.get (CAL_CH.sel_hi_h r.tile r.chan) = calPick r 1 ∧
        t.get (CAL_CH.sel_lo_l r.tile r.chan) = calPick r 2 ∧ t.get (CAL_CH.sel_hi_l r.tile r.chan) = calPick r 3 ∧
        t.get (CAL_QUAL.off_worst r.tile) = Nat.max (calResH r).natAbs (calResL r).natAbs ∧ s.Keeps t (CAL_CH.tap r.tile r.chan)) ∧
      (s.get CAL_LIMITS.off_lim_h < (calResH r).natAbs ∨ s.get CAL_LIMITS.off_lim_l < (calResL r).natAbs →
        t.get (CAL_CH.off_fail r.tile r.chan) = 1 ∧ t.get (CAL_QUAL.off_fail r.tile) = 1 ∧ s.Keeps t (CAL_CH.sel_lo_h r.tile r.chan) ∧
        s.Keeps t (CAL_CH.sel_hi_h r.tile r.chan) ∧ s.Keeps t (CAL_CH.sel_lo_l r.tile r.chan) ∧ s.Keeps t (CAL_CH.sel_hi_l r.tile r.chan) ∧
        t.get CAL_STAT.rejected_seen = 1 ∧ t.Pends Ev.calRejected) ∧ t.Pends Ev.calDone) ∧
    (∀ (r : CalResult) (k : Fin 4) (n : Fin 28), ∀ p : Int, (if k.val < 2 then 400 else 1600 : Int) = p → ∀ a : Nat, (r.trips[k])[n].toNat = a →
      ∀ b : Nat, ((r.trips[k]).toList.getD (calPick r k) 0).toNat = b → calPick r k < 28 ∧ (b - p).natAbs ≤ (a - p).natAbs ∧
      ((a - p).natAbs = (b - p).natAbs → calPick r k ≤ n)) ∧
    (∀ j : Nat × Nat × Bool, s.cal.job = some j → ∀ r q : CalResult, j.1.testBit r.tile = true → j.2.1 = 2 → j.2.2 = false →
      q.tile = r.tile → q.chan ≠ r.chan → s.tdcWorks r.tile r.chan = true → s.tdcWorks q.tile q.chan = true →
      ∃ t : State, exec (.calDone [r, q]) s = .next t ∧
      t.get (CAL_CH.skew_res r.tile r.chan) = byteOf (s.calSkewRes (s.calN r + s.calN q) r) ∧
      ((s.calSkewRes (s.calN r + s.calN q) r).natAbs ≤ s.get CAL_LIMITS.skew_lim →
        0 ≤ 16 + roundHalfEven (s.calN q - s.calN r) 32768 → 16 + roundHalfEven (s.calN q - s.calN r) 32768 ≤ 31 →
        t.get (CAL_CH.tap r.tile r.chan) = (16 + roundHalfEven (s.calN q - s.calN r) 32768).toNat ∧
        (s.calSkewRes (s.calN r + s.calN q) r).natAbs ≤ t.get (CAL_QUAL.skew_worst r.tile) ∧
        s.Keeps t (CAL_CH.skew_fail r.tile r.chan)) ∧
      (s.get CAL_LIMITS.skew_lim < (s.calSkewRes (s.calN r + s.calN q) r).natAbs ∨
        16 + roundHalfEven (s.calN q - s.calN r) 32768 < 0 ∨ 31 < 16 + roundHalfEven (s.calN q - s.calN r) 32768 →
        s.Keeps t (CAL_CH.tap r.tile r.chan) ∧
        t.get (CAL_CH.skew_fail r.tile r.chan) = 1 ∧ 1 ≤ t.get (CAL_QUAL.skew_fail r.tile) ∧ t.Pends Ev.calRejected) ∧
      s.Keeps t (CAL_CH.sel_lo_h r.tile r.chan) ∧ t.Pends Ev.calDone) ∧
    (∀ j : Nat × Nat × Bool, s.cal.job = some j → ∀ r : CalResult, j.1.testBit r.tile = true → j.2.1 = 2 → j.2.2 = false →
      s.tdcWorks r.tile r.chan = false → ∃ t : State, exec (.calDone [r]) s = .next t ∧
      t.reg (CAL_CH.addr r.tile r.chan) = s.reg (CAL_CH.addr r.tile r.chan) ∧ t.Pends Ev.calDone) ∧
    (∀ h : Bool, s.get BIST_CFG.enable = 0 ∨ s.get BIST_MASK.slices = 0 → exec (.bistSliceDue h) s = .next s) ∧
    (∀ h : Bool, ∀ x : Nat, nextSlice s.bistOn (s.get BIST_STAT.next_slice) = x → s.get BIST_CFG.enable = 1 → s.get BIST_MASK.slices ≠ 0 →
      s.sliceResult x = 2 → ∃ t : State, exec (.bistSliceDue h) s = .next t ∧ t.get BIST_STAT.next_slice = nextSlice s.bistOn (x + 1) ∧
      s.OnlyRegs t [BIST_STAT.addr]) ∧
    (∀ h : Bool, ∀ x : Nat, nextSlice s.bistOn (s.get BIST_STAT.next_slice) = x → s.get BIST_CFG.enable = 1 → s.get BIST_MASK.slices ≠ 0 →
      s.sliceResult x ≠ 2 → x < 9 → (∃ y : Fin 9, s.sliceResult y = 2) → ∃ t : State, exec (.bistSliceDue h) s = .next t ∧
      t.sliceResult x = 3 ∧ t.get BIST_STAT.next_slice = nextSlice s.bistOn (x + 1) ∧ s.OnlyRegs t [BIST_STAT.addr, BIST_SLICE_STAT.addr x]) ∧
    (∀ h : Bool, ∀ x : Nat, nextSlice s.bistOn (s.get BIST_STAT.next_slice) = x → s.get BIST_CFG.enable = 1 → s.get BIST_MASK.slices ≠ 0 →
      s.sliceResult x ≠ 2 → (9 ≤ x ∨ ∀ y : Fin 9, s.sliceResult y ≠ 2) → s.bistMay x h = true → ∃ t : State,
      exec (.bistSliceDue h) s = .next t ∧ t.cal.bistRun = some x ∧ t.get BIST_STAT.running = 1 ∧ t.get (BIST_SLICE_STAT.deferrals x) = 0 ∧
      t.get BIST_STAT.next_slice = nextSlice s.bistOn (x + 1) ∧ (x < 14 → t.cal.keys = s.cal.keys) ∧
      (14 ≤ x → t.cal.keys = s.cal.keys.set s.standbyKey false ∧ t.isOff .clb = false ∧ t.cal.bistPower = (s.cal.bistPower || s.isOff .clb)) ∧
      (14 ≤ x → s.get HUB_HO_STAT.active = 0 → ∀ o ∈ s.hub.ops, o.target = .clb → Out.opDone o.tag o.inst o.port false ∈ t.out ∧ o ∉ t.hub.ops) ∧
      (x < 14 ∨ (s.isOff .clb = false ∧ s.get HUB_HO_STAT.active = 1) → t = { s with regs := t.regs, cal := t.cal } ∧
        s.RegsBut t [BIST_STAT.addr, BIST_SLICE_STAT.addr x])) ∧
    (∀ h : Bool, ∀ x : Nat, nextSlice s.bistOn (s.get BIST_STAT.next_slice) = x → s.get BIST_CFG.enable = 1 → s.get BIST_MASK.slices ≠ 0 →
      s.sliceResult x ≠ 2 → (9 ≤ x ∨ ∀ y : Fin 9, s.sliceResult y ≠ 2) → s.bistMay x h = false → ∃ t : State,
      exec (.bistSliceDue h) s = .next t ∧ t.cal = s.cal ∧
      t.get (BIST_SLICE_STAT.deferrals x) = satAdd 255 (s.get (BIST_SLICE_STAT.deferrals x)) 1 ∧
      (s.get (BIST_SLICE_STAT.deferrals x) = 2 → t.Pends Ev.bistSliceDeferred) ∧
      (s.get (BIST_SLICE_STAT.deferrals x) ≠ 2 → t.ev = s.ev) ∧ s.OnlyRegsEv t [BIST_STAT.addr, BIST_SLICE_STAT.addr x]) ∧
    (∀ (w : Word64) (v : Bool), s.cal.bistRun = none → exec (.bistSliceDone w v) s = .next s) ∧
    (∀ (w : Word64) (v p : Bool), ∀ x : Nat, s.cal.bistRun = some x → x < 18 →
      p = (decide (s.cal.rom.slice.toList[x]? = some w) && (decide (x < 14) || v)) → ∃ t : State, exec (.bistSliceDone w v) s = .next t ∧
      t.get BIST_LAST_MISR.misr = w.toNat ∧ t.sliceResult x = (if p then 1 else 2) ∧ t.cal.bistRun = none ∧
      t.get (BIST_SLICE_STAT.runs x) = (s.get (BIST_SLICE_STAT.runs x) + 1) % 65536 ∧ t.get BIST_STAT.running = 0 ∧
      (p = false → t.get BIST_STAT.fail_seen = 1 ∧ t.Pends Ev.bistSliceFail ∧ t.cal.keys = s.cal.keys) ∧
      (p = true → 14 ≤ x → s.boot.hoWait = false → t.cal.keys = s.cal.keys.set s.standbyKey true) ∧
      (s.bistOn = [x] → t.get BIST_STAT.rotations = (s.get BIST_STAT.rotations + 1) % 65536 ∧ t.Pends Ev.bistRotationDone) ∧
      t.cal.bistPower = false ∧ (s.cal.bistPower = true → s.boot.hoWait = false → s.mayOff .clb = true → t.isOff .clb = true) ∧
      (s.boot.hoWait = false → s.cal.bistPower = false → t = { s with regs := t.regs, ev := t.ev, cal := t.cal, out := t.out } ∧
        s.RegsBut t [BIST_LAST_MISR.addr, BIST_STAT.addr, BIST_SLICE_STAT.addr x]) ∧ s.SameMem t)


/-- Heartbeats and the messages of time and epoch between twins (R322 to R328, R332, R333, R335). Log entries 42, 73, 101, 102, 104,
123, 128, 169, 224, 225 and 226 bear on its clauses: what they fix is the model's choice. -/
def Obligations.TwinMessages : Prop :=
  ∀ s : State,
    (s.isOff .twn = true → (∀ (m : HbMsg) (l : Fin 4) (e : Ecc), exec (.heartbeatReceive m l e) s = .next s) ∧ exec .heartbeatSend s = .next s ∧
      exec .twinTimeSend s = .next s ∧ ∀ (o : TwinStamps) (m : Bool × TwinRx), exec (.twinTimeMessage o m) s = .next s) ∧
    (s.isOff .twn = false → s.get TWN_CTL.enable = 1 → s.get TWN_STAT.link_up = 1 → s.hbContent.mode = s.mode ∧ s.hbContent.unit = s.get TWN_STAT.unit ∧
      s.hbContent.epoch = s.twn.epoch ∧ s.hbContent.tableId = s.get SAF_ZT_ACTIVE.table_id ∧ s.hbContent.t0 = s.fire.t0 ∧
      s.hbContent.frameLen = s.twn.lastFrameLen ∧ bit s.hbContent.owner = s.get TWN_OWN_CTL.owner ∧
      exec .heartbeatSend s = .next { s with out := .heartbeat s.hbContent :: s.out } ∧
      exec .twinTimeSend s = .next { s with out := .twinTime s.now s.twn.timeRx :: s.out }) ∧
    (s.get TWN_CTL.enable = 0 ∨ s.get TWN_STAT.link_up = 0 → exec .heartbeatSend s = .next s ∧ exec .twinTimeSend s = .next s) ∧
    (∀ (m : HbMsg) (l : Fin 4) (e : Ecc), s.get TWN_CTL.enable = 0 → exec (.heartbeatReceive m l e) s = .next s) ∧
    (∀ (m : HbMsg) (l : Fin 4) (y : BitVec 16), s.isOff .twn = false → s.get TWN_CTL.enable = 1 →
      s.twn.laneFails.getD l 0 < 3 → ∃ t : State,
      exec (.heartbeatReceive m l (.bad y)) s = .next t ∧
      t.twn = { s.twn with laneFails := s.twn.laneFails.set l (s.twn.laneFails.getD l 0 + 1) } ∧ t.get HUB_W256_STAT.ue_count = satAdd (2 ^ HUB_W256_STAT.ue_count.len - 1) (s.get HUB_W256_STAT.ue_count) 1 ∧
      t.Pends Ev.memUncorrectable ∧ t.mode = s.mode ∧ (∀ a, TWN_CTL.addr ≤ a → a < 0xE00000 → t.reg a = s.reg a) ∧ s.SameMem t) ∧
    (∀ (m : HbMsg) (l : Fin 4) (y : BitVec 16), s.isOff .twn = false → s.get TWN_CTL.enable = 1 → 3 ≤ s.twn.laneFails.getD l 0 → ∃ t : State,
      exec (.heartbeatReceive m l (.bad y)) s = .next t ∧ (t.get TWN_STAT.lanes_up).testBit l = false ∧
      t.twn = { s.twn with laneTrain := s.twn.laneTrain.set l true, laneDef := s.twn.laneDef.set l false,
                           eqNow := s.twn.eqNow.set l (s.twn.eqStored.getD l 0), laneFails := s.twn.laneFails.set l 0 } ∧ s.SameMem t) ∧
    (∀ (o : TwinStamps) (h : Bool) (l : Fin 4) (y : BitVec 16), s.isOff .twn = false → s.twn.laneFails.getD l 0 < 3 → ∃ t : State,
      exec (.twinTimeMessage o (h, ⟨l, .bad y⟩)) s = .next t ∧
      t.twn = { s.twn with laneFails := s.twn.laneFails.set l (s.twn.laneFails.getD l 0 + 1) } ∧
      t.get HUB_W256_STAT.ue_count = satAdd (2 ^ HUB_W256_STAT.ue_count.len - 1) (s.get HUB_W256_STAT.ue_count) 1 ∧
      t.Pends Ev.memUncorrectable ∧ t.mode = s.mode ∧ (∀ a, TWN_CTL.addr ≤ a → a < 0xE00000 → t.reg a = s.reg a) ∧ s.SameMem t) ∧
    (∀ (m : HbMsg) (l : Fin 4) (y : BitVec 16), s.isOff .twn = false → s.get TWN_CTL.enable = 1 → bit m.unit = s.get TWN_STAT.unit →
      ∃ t : State, exec (.heartbeatReceive m l (.corrected y)) s = .next t ∧ t.get TWN_STAT.id_clash = 1 ∧ t.twn = { s.twn with hbRun := 0, laneFails := s.twn.laneFails.set l 0 } ∧
      t.get HUB_W256_STAT.ce_count = satAdd (2 ^ HUB_W256_STAT.ce_count.len - 1) (s.get HUB_W256_STAT.ce_count) 1 ∧ t.mode = s.mode) ∧
    (∀ (m : HbMsg) (l : Fin 4), s.isOff .twn = false → s.get TWN_CTL.enable = 1 → bit m.unit = s.get TWN_STAT.unit → ∃ t : State,
      exec (.heartbeatReceive m l .good) s = .next t ∧ t.get TWN_STAT.id_clash = 1 ∧ t.twn = { s.twn with hbRun := 0, laneFails := s.twn.laneFails.set l 0 } ∧
      t = { s with regs := t.regs, twn := t.twn } ∧ s.RegsBut t [TWN_STAT.addr]) ∧
    (∀ (m : HbMsg) (l : Fin 4), s.isOff .twn = false → s.get TWN_CTL.enable = 1 → bit m.unit ≠ s.get TWN_STAT.unit → s.get TWN_CTL.auto_rejoin = 0 →
      s.twn.following = false → s.pairSwaps = false → s.get SAF_ZT_STAT.phase ≠ 2 → ∃ t : State,
      exec (.heartbeatReceive m l .good) s = .next t ∧ t.get TWN_STAT.peer_mode = m.mode.toNat ∧
      t.get TWN_PEER_EPOCH.epoch = m.epoch.toNat ∧ t.get TWN_PEER_TABLE.table_id = m.tableId.toNat ∧ t.get TWN_PEER_TABLE.crc = m.crc.toNat ∧
      t.get TWN_STAT.epoch_match = bit (decide (m.epoch.toNat = s.twn.epoch)) ∧
      t.get TWN_OWN_CTL.mir_own_pin = bit (s.get TWN_OWN_CTL.owner == 1 || m.owner) ∧
      (s.twn.hbAt = none → t.twn.hbRun = 1) ∧ (s.twn.hbAt = some s.now → t.twn.hbRun = Nat.min 10 (s.twn.hbRun + 1)) ∧
      (∀ u : Nat, s.twn.hbAt = some u → 200 * 65536000 < timeDiff s.now u → t.twn.hbRun = 1) ∧
      (t.twn.hbRun = 10 → t.get TWN_STAT.hb_valid = 1) ∧ (t.twn.hbRun < 10 → s.Keeps t TWN_STAT.hb_valid) ∧
      t.twn.hbAt = some s.now ∧ t.twn.peer = some (hbOf m) ∧ t.twn.laneFails = s.twn.laneFails.set l 0 ∧
      (isScan m.mode.toNat = false → t.twn.lead = (isScan s.mode || s.twn.lead)) ∧
      (isScan s.mode = true → isScan m.mode.toNat = true → s.twn.peer.elim false (fun p => isScan p.mode) = true → t.twn.lead = s.twn.lead) ∧
      (isScan s.mode = true → isScan m.mode.toNat = true → s.twn.peer.elim false (fun p => isScan p.mode) = false →
        t.twn.lead = (decide (0 < s.twn.scanHbs) || s.get TWN_STAT.unit == 0)) ∧ t = { s with regs := t.regs, twn := t.twn } ∧
      s.RegsBut t [TWN_STAT.addr, TWN_PEER_EPOCH.addr, TWN_PEER_TABLE.addr, TWN_OWN_CTL.addr]) ∧
    (∀ (m : HbMsg) (l : Fin 4), s.isOff .twn = false → s.get TWN_CTL.enable = 1 → bit m.unit ≠ s.get TWN_STAT.unit → s.get TWN_CTL.auto_rejoin = 1 →
      s.twn.following = false → s.pairSwaps = false → s.get SAF_ZT_STAT.phase ≠ 2 → s.mode = 6 → s.get TWN_STAT.hb_valid = 1 →
      m.epoch.toNat = s.twn.epoch → isScan m.mode.toNat = true → ∃ t : State, exec (.heartbeatReceive m l .good) s = .next t ∧
      t.mode = 5 ∧ t.get HUB_MODE_STAT.last_mode = 6 ∧ t.Pends Ev.twinRejoined ∧ t.twn.peer = some (hbOf m) ∧ s.SameMem t) ∧
    (exec (.heartbeatTimeout true) s = .next s) ∧
    (s.get TWN_STAT.hb_valid = 0 → exec (.heartbeatTimeout false) s = .next { s with twn := { s.twn with hbRun := 0 } }) ∧
    (s.get TWN_STAT.hb_valid = 1 → s.mode ≠ 5 → ∃ t : State, exec (.heartbeatTimeout false) s = .next t ∧ t.get TWN_STAT.hb_valid = 0 ∧
      t.get TWN_STAT.hb_lost_seen = 1 ∧ t.Pends Ev.twinHeartbeatLost ∧ t.mode = s.mode ∧
      t.get HUB_MODE_STAT.base_mode = (if (s.mode = 7 ∨ s.mode = 8) ∧ s.get HUB_MODE_STAT.base_mode = 5 then 6 else s.get HUB_MODE_STAT.base_mode) ∧
      t.twn = { s.twn with hbRun := 0, pairHold := false, swapLead := false } ∧
      t = { s with regs := t.regs, ev := t.ev, twn := t.twn, out := t.out } ∧ s.RegsBut t [TWN_STAT.addr, HUB_MODE_STAT.addr]) ∧
    (s.get TWN_STAT.hb_valid = 1 → s.mode = 5 → ∃ t : State, exec (.heartbeatTimeout false) s = .next t ∧ t.get TWN_STAT.hb_valid = 0 ∧
      t.get TWN_STAT.hb_lost_seen = 1 ∧ t.Pends Ev.twinHeartbeatLost ∧ t.mode = 6 ∧ t.get HUB_MODE_STAT.last_mode = 5 ∧ s.SameMem t ∧
      ∀ a, a ≠ HUB_MODE_REQ.addr → modeReg a = false → evReg a = false → t.reg a = s.reg a) ∧
    (∀ (m : TwinStamps) (h : Bool) (l : Fin 4), s.isOff .twn = false → ∀ u : State, { s with twn := { s.twn with
        laneFails := s.twn.laneFails.set l 0, peerFollows := h, timeRx := some (m.sent.toNat, s.now) } } = u →
      (m.echo = none ∨ dueAgain s.twn.laneUpAt s.now oneMs = false → exec (.twinTimeMessage m (h, ⟨l, .good⟩)) s = .next u) ∧
      (∀ e x : Word64, m.echo = some (e, x) → dueAgain s.twn.laneUpAt s.now oneMs = true → exec (.twinTimeMessage m (h, ⟨l, .good⟩)) s =
        exec (.servoOffset 3 (BitVec.ofInt 64 ((laterThan x.toNat e.toNat + laterThan m.sent.toNat s.now) / 2)) 0) u)) ∧
    (s.twn.peer ≠ none → s.get TWN_STAT.epoch_match = 0 → s.twn.mismatchSeen = false → ∃ t : State, exec .epochMismatch s = .next t ∧
      t.Pends Ev.twinEpochMismatch ∧ t.twn = { s.twn with mismatchSeen := true } ∧
      (s.isOff .twn = false → s.twinRuns = true → 0 < sx 32 (s.twn.epoch + 2 ^ 32 - s.get TWN_PEER_EPOCH.epoch) →
        ∀ b ∈ Config.mirrorSet s.twn.epoch, Out.bulk b.1.toNat b.2.toNat ∈ t.out) ∧
      t = { s with regs := t.regs, ev := t.ev, twn := t.twn, out := t.out } ∧ s.RegsBut t []) ∧
    (s.twn.peer = none ∨ s.get TWN_STAT.epoch_match = 1 ∨ s.twn.mismatchSeen = true → exec .epochMismatch s = .next s)

/-- Mirror ownership, the overlap comparison, bulk blocks and the lanes of the twin link (R323, R324, R330, R331, R333 to R335, R371).
Log entries 6, 7, 124, 125, 126, 127, 137, 169 and 200 bear on its clauses: what they fix is the model's choice. -/
def Obligations.TwinMirror : Prop :=
  ∀ s : State,
    (s.isOff .twn = true → (∀ v a : Word32, exec (.mirrorStateSend v a) s = .next s) ∧
      (∀ (n : Fin 8) (m : LoopMsg × TwinRx), exec (.mirrorStateMessage n m) s = .next s) ∧
      (∀ (c : Fin 1536) (b : Fin 64) (z : BitVec 20) (m : Option (BitVec 24) × TwinRx), exec (.overlapMessage c b z m) s = .next s) ∧
      (∀ (a : Word64) (m : Flit × TwinRx), exec (.bulkMessage a m) s = .next s) ∧
      ∀ (l : Fin 4) (w i : Bool), exec (.twinLaneRetrain l w i) s = .next s ∧ exec (.twinLaneUp l) s = .next s ∧
        exec (.twinLaneLoss l) s = .next s) ∧
    (∀ (l : Fin 4) (y : BitVec 16) (n : Fin 8) (m : LoopMsg), s.isOff .twn = false → s.twn.laneFails.getD l 0 < 3 → ∃ t : State,
      exec (.mirrorStateMessage n (m, ⟨l, .bad y⟩)) s = .next t ∧
      (∀ (c : Fin 1536) (b : Fin 64) (z : BitVec 20) (k : Option (BitVec 24)), exec (.overlapMessage c b z (k, ⟨l, .bad y⟩)) s = .next t) ∧
      (∀ (a : Word64) (d : Flit), exec (.bulkMessage a (d, ⟨l, .bad y⟩)) s = .next t) ∧
      t.twn = { s.twn with laneFails := s.twn.laneFails.set l (s.twn.laneFails.getD l 0 + 1) } ∧ t.devMem = s.devMem ∧ t.loops = s.loops ∧
      t.get HUB_W256_STAT.ue_count = satAdd (2 ^ HUB_W256_STAT.ue_count.len - 1) (s.get HUB_W256_STAT.ue_count) 1 ∧
      t.Pends Ev.memUncorrectable ∧ ∀ a, TWN_CTL.addr ≤ a → a < 0xE00000 → t.reg a = s.reg a) ∧
    (∀ v a : Word32, s.get TWN_CTL.enable = 0 ∨ s.get TWN_STAT.link_up = 0 ∨ s.get TWN_OWN_CTL.owner = 0 →
      exec (.mirrorStateSend v a) s = .next s) ∧
    (∀ v a : Word32, s.isOff .twn = false → s.get TWN_CTL.enable = 1 → s.get TWN_STAT.link_up = 1 → s.get TWN_OWN_CTL.owner = 1 → ∃ t : State,
      exec (.mirrorStateSend v a) s = .next t ∧ t.out.length = s.out.length + s.mirrorLoops.length ∧
      (∀ n ∈ s.mirrorLoops, ∃ m : LoopMsg, Out.mirrorState n m ∈ t.out ∧ m.wsp.toNat = s.get (CTL_LOOP_STAT.val n 1) ∧
        m.integ.toNat = s.get (CTL_LOOP_STAT.val n 3) ∧ m.out.toNat = s.get (CTL_LOOP_STAT.val n 2) ∧ m.speed = v ∧ m.amplitude = a) ∧
      t = { s with out := t.out }) ∧
    (∀ (n : Fin 8) (m : LoopMsg) (l : Fin 4), s.isOff .twn = false → s.get TWN_OWN_CTL.owner = 1 →
      exec (.mirrorStateMessage n (m, ⟨l, .good⟩)) s = .next { s with twn := { s.twn with laneFails := s.twn.laneFails.set l 0 } }) ∧
    (∀ (n : Fin 8) (m : LoopMsg) (l : Fin 4), s.isOff .twn = false → s.get TWN_OWN_CTL.owner = 0 → ∃ t : State,
      exec (.mirrorStateMessage n (m, ⟨l, .good⟩)) s = .next t ∧
      t.twn = { s.twn with laneFails := s.twn.laneFails.set l 0, warm := (n.val, m) :: s.twn.warm.filter (fun p => !(p.1 == n.val)) } ∧
      (s.loopTracks n = true → t.get (CTL_LOOP_STAT.val n 1) = m.wsp.toNat ∧ t.get (CTL_LOOP_STAT.val n 2) = m.out.toNat ∧
        t.get (CTL_LOOP_STAT.val n 3) = m.integ.toNat) ∧
      (s.loopTracks n = false → t.regs = s.regs) ∧ t = { s with regs := t.regs, twn := t.twn } ∧
      s.RegsBut t [CTL_LOOP_STAT.addr n 1, CTL_LOOP_STAT.addr n 2, CTL_LOOP_STAT.addr n 3]) ∧
    (∀ v : Word64, s.isOff .twn = false → s.get TWN_STAT.hb_valid = 0 → ∃ t : State, exec (.mirrorHandoff v) s = .next t ∧
      t.get TWN_OWN_CTL.handoff_refused = 1 ∧ s.Keeps t TWN_OWN_CTL.owner ∧ s.OnlyRegs t [TWN_OWN_CTL.addr]) ∧
    (∀ v : Word64, s.isOff .twn = false → s.get TWN_STAT.hb_valid = 1 → s.get TWN_OWN_CTL.owner = 0 → exec (.mirrorHandoff v) s = .next s) ∧
    (∀ v : Word64, s.isOff .twn = true → ∃ t : State, exec (.mirrorHandoff v) s = .next t ∧ t.Pends Ev.isolatedAccess ∧ s.OnlyRegsEv t []) ∧
    (∀ v : Word64, ∀ x : Nat, (if modGe 64 v.toNat (timeAdd s.now (500 * 65536000)) then v.toNat else timeAdd s.now (500 * 65536000)) = x →
      s.isOff .twn = false → s.get TWN_STAT.hb_valid = 1 → s.get TWN_OWN_CTL.owner = 1 → ∃ t : State,
      exec (.mirrorHandoff v) s = .next t ∧ t.twn = { s.twn with handoffAt := some x } ∧ t.out = .handoff x :: s.out ∧
      t.get TWN_OWN_CTL.handoff = 1 ∧ t.get TWN_OWN_CTL.owner = 1 ∧ t = { s with regs := t.regs, twn := t.twn, out := t.out } ∧
      s.RegsBut t [TWN_OWN_CTL.addr]) ∧
    (s.get TWN_OWN_CTL.owner = 1 → s.twn.handoffAt ≠ none → ∃ t : State, exec .mirrorHandoffExecute s = .next t ∧
      t.get TWN_OWN_CTL.owner = 0 ∧ t.get TWN_OWN_CTL.handoff = 0 ∧ t.get TWN_OWN_CTL.mir_own_pin = 1 ∧ t.Pends Ev.mirrorOwnershipChange ∧
      t.twn = { s.twn with handoffAt := none } ∧ t = { s with regs := t.regs, ev := t.ev, twn := t.twn, out := t.out } ∧
      s.RegsBut t [TWN_OWN_CTL.addr]) ∧
    (s.get TWN_OWN_CTL.owner = 1 → s.twn.handoffAt = none → exec .mirrorHandoffExecute s = .next s) ∧
    (s.get TWN_OWN_CTL.owner = 0 → s.loops.length = 8 → ∃ t : State, exec .mirrorHandoffExecute s = .next t ∧
      t.get TWN_OWN_CTL.owner = 1 ∧ t.get TWN_OWN_CTL.mir_own_pin = 1 ∧ t.Pends Ev.mirrorOwnershipChange ∧
      (∀ n : Fin 8, n.val ∈ s.mirrorLoops → t.loop n = { s.loop n with preset := true, restart := false }) ∧
      (∀ n : Fin 8, n.val ∉ s.mirrorLoops → t.loop n = s.loop n) ∧
      (∀ n : Fin 8, ∀ p : Nat × LoopMsg, s.twn.warm.find? (fun p => p.1 == n.val) = some p → n.val ∈ s.mirrorLoops →
        t.get (CTL_LOOP_STAT.val n 1) = p.2.wsp.toNat ∧ t.get (CTL_LOOP_STAT.val n 3) = p.2.integ.toNat) ∧
      t.twn = { s.twn with takeover := false, handoffAt := none } ∧
      t = { s with regs := t.regs, ev := t.ev, loops := t.loops, twn := t.twn, out := t.out }) ∧
    (s.get TWN_OWN_CTL.owner = 1 → ∃ t : State, exec .mirrorRelease s = .next t ∧ t.get TWN_OWN_CTL.owner = 0 ∧
      t.get TWN_OWN_CTL.mir_own_pin = 0 ∧ t.Pends Ev.mirrorOwnershipChange ∧ t.twn = { s.twn with handoffAt := none } ∧
      t = { s with regs := t.regs, ev := t.ev, twn := t.twn, out := t.out } ∧ s.RegsBut t [TWN_OWN_CTL.addr]) ∧
    (s.get TWN_OWN_CTL.owner = 0 → exec .mirrorRelease s = .next s) ∧
    (s.get TWN_OWN_CTL.owner = 0 → s.get TWN_STAT.hb_valid = 0 → ∃ t : State, exec .mirrorTakeoverWait s = .next t ∧
      t.get TWN_OWN_CTL.mir_own_pin = 0 ∧ t.twn = { s.twn with takeover := true } ∧ t = { s with regs := t.regs, twn := t.twn } ∧
      s.RegsBut t [TWN_OWN_CTL.addr]) ∧
    (s.get TWN_OWN_CTL.owner = 1 ∨ s.get TWN_STAT.hb_valid = 1 → exec .mirrorTakeoverWait s = .next s) ∧
    (s.twn.takeover = true → s.get TWN_OWN_CTL.owner = 0 → ∃ t : State, exec (.mirrorTakeover true) s = .next t ∧
      t.get TWN_OWN_CTL.owner = 1 ∧ t.get TWN_OWN_CTL.mir_own_pin = 1 ∧ t.Pends Ev.mirrorOwnershipChange ∧
      t.twn = { s.twn with takeover := false, handoffAt := none } ∧
      t = { s with regs := t.regs, ev := t.ev, loops := t.loops, twn := t.twn, out := t.out }) ∧
    (s.twn.takeover = true → s.get TWN_OWN_CTL.owner = 0 → ∃ t : State, exec (.mirrorTakeover false) s = .next t ∧
      t.get TWN_OWN_CTL.owner = 0 ∧ t.get TWN_OWN_CTL.mir_own_pin = 1 ∧ t.twn = { s.twn with takeover := false } ∧
      t = { s with regs := t.regs, twn := t.twn } ∧ s.RegsBut t [TWN_OWN_CTL.addr]) ∧
    (∀ h : Bool, s.twn.takeover = false ∨ s.get TWN_OWN_CTL.owner = 1 → exec (.mirrorTakeover h) s = .next s) ∧
    (∀ (c : Fin 1536) (b : Fin 64) (z : BitVec 20) (r : Option (BitVec 24)) (l : Fin 4), s.isOff .twn = false →
      ∀ x : OvlCell, s.twn.ovlPrev.find? (fun x => x.chan == c.val && x.bank == b.val &&
        decide ((sx 20 (z.toNat + 2 ^ 20 - x.azimuth % 2 ^ 20)).natAbs ≤ s.get TWN_OVL_CFG.az_tol)) = some x →
      exec (.overlapMessage c b z (r, ⟨l, .good⟩)) s = .next { s with twn := { s.twn with
        laneFails := s.twn.laneFails.set l 0
        matched := s.twn.matched + 1
        disagreed := s.twn.disagreed + bit (!rangesAgree (s.get TWN_OVL_CFG.ovl_tol) x.range (r.map (fun r => r.toNat))) } }) ∧
    (∀ (c : Fin 1536) (b : Fin 64) (z : BitVec 20) (r : Option (BitVec 24)) (l : Fin 4), s.isOff .twn = false → s.twn.ovlPrev.find? (fun x => x.chan == c.val && x.bank == b.val &&
        decide ((sx 20 (z.toNat + 2 ^ 20 - x.azimuth % 2 ^ 20)).natAbs ≤ s.get TWN_OVL_CFG.az_tol)) = none →
      exec (.overlapMessage c b z (r, ⟨l, .good⟩)) s = .next { s with twn := { s.twn with laneFails := s.twn.laneFails.set l 0 } }) ∧
    (∀ (a : Word64) (d : Flit) (l : Fin 4), s.isOff .twn = false → s.get TWN_MIRROR_BASE.base * 2 ^ 24 ≤ a.toNat → a.toNat + 32 ≤ s.get TWN_MIRROR_BASE.base * 2 ^ 24 + 2 ^ 24 →
      a.toNat % 32 = 0 → s.memHas a.toNat 32 = true → s.tagFree 4 = true → ∃ t : State, exec (.bulkMessage a (d, ⟨l, .good⟩)) s = .next t ∧
      t.devMem = memStore s.devMem a.toNat (toLE 32 d.toNat) ∧
      (∀ x, x < a.toNat ∨ a.toNat + 32 ≤ x → tabGet byteDefault t.devMem x = tabGet byteDefault s.devMem x) ∧
      t.get (HUB_TAG_STAT.peak 4) = Nat.max (s.get (HUB_TAG_STAT.in_use 4) + 1) (s.get (HUB_TAG_STAT.peak 4)) % 4096 ∧
      t = { s with regs := t.regs, ev := t.ev, hub := t.hub, devMem := t.devMem
                   twn := { s.twn with laneFails := s.twn.laneFails.set l 0 }, out := t.out } ∧
      s.RegsBut t [HUB_W256_CTL.addr, HUB_TAG_STAT.addr 4]) ∧
    (∀ (a : Word64) (d : Flit) (l : Fin 4), s.isOff .twn = false → s.get TWN_MIRROR_BASE.base * 2 ^ 24 ≤ a.toNat →
      a.toNat + 32 ≤ s.get TWN_MIRROR_BASE.base * 2 ^ 24 + 2 ^ 24 → s.memHas a.toNat 32 = true → s.tagFree 4 = false → ∃ t : State,
      exec (.bulkMessage a (d, ⟨l, .good⟩)) s = .next t ∧ t.get (HUB_TAG_STAT.exhaust 4) = 1 ∧ t.devMem = s.devMem ∧
      (s.get (HUB_TAG_STAT.exhaust 4) = 0 → t.Pends Ev.tagExhaust) ∧
      t = { s with regs := t.regs, ev := t.ev, twn := { s.twn with laneFails := s.twn.laneFails.set l 0 }, out := t.out } ∧
      s.RegsBut t [HUB_TAG_STAT.addr 4]) ∧
    (∀ (a : Word64) (d : Flit) (l : Fin 4), s.isOff .twn = false → a.toNat < s.get TWN_MIRROR_BASE.base * 2 ^ 24 ∨ s.get TWN_MIRROR_BASE.base * 2 ^ 24 + 2 ^ 24 < a.toNat + 32 ∨
      s.memHas a.toNat 32 = false → exec (.bulkMessage a (d, ⟨l, .good⟩)) s = .next { s with twn := { s.twn with
        laneFails := s.twn.laneFails.set l 0, bulkDropped := s.twn.bulkDropped + 1 } }) ∧
    (∀ (l : Fin 4) (w : Bool), s.isOff .twn = false → ∃ t : State, exec (.twinLaneRetrain l w true) s = .next t ∧
      t.twn = { s.twn with laneDef := s.twn.laneDef.set l true } ∧ t.get TWN_STAT.deferred = 1 ∧ s.Keeps t TWN_STAT.lanes_up ∧
      (w = true → (t.get TWN_CTL.retrain).testBit l = true) ∧ (w = false → s.Keeps t TWN_CTL.retrain) ∧
      t = { s with regs := t.regs, twn := t.twn } ∧ s.RegsBut t [TWN_STAT.addr, TWN_CTL.addr]) ∧
    (∀ (l : Fin 4) (w : Bool), s.isOff .twn = false → ∃ t : State, exec (.twinLaneRetrain l w false) s = .next t ∧
      t.twn = { s.twn with laneTrain := s.twn.laneTrain.set l true, laneDef := s.twn.laneDef.set l false,
                           eqNow := s.twn.eqNow.set l (s.twn.eqStored.getD l 0), laneFails := s.twn.laneFails.set l 0 } ∧
      (t.get TWN_STAT.lanes_up).testBit l = false ∧
      (s.get TWN_STAT.lanes_up = 2 ^ l.val → t.get TWN_STAT.link_up = 0 ∧ t.Pends Ev.twinLinkDown) ∧
      (w = true → (t.get TWN_CTL.retrain).testBit l = true) ∧ (w = false → s.Keeps t TWN_CTL.retrain) ∧
      t = { s with regs := t.regs, ev := t.ev, twn := t.twn, out := t.out } ∧ s.RegsBut t [TWN_STAT.addr, TWN_CTL.addr]) ∧
    (∀ l : Fin 4, s.isOff .twn = false → ∃ t : State, exec (.twinLaneUp l) s = .next t ∧ (t.get TWN_STAT.lanes_up).testBit l = true ∧
      (∀ k : Fin 4, k ≠ l → (t.get TWN_STAT.lanes_up).testBit k = (s.get TWN_STAT.lanes_up).testBit k) ∧
      (t.get TWN_CTL.retrain).testBit l = false ∧
      (s.get TWN_STAT.lanes_up = 0 → t.get TWN_STAT.link_up = 1 ∧ t.Pends Ev.twinLinkUp) ∧
      (s.get TWN_STAT.lanes_up ≠ 0 → s.Keeps t TWN_STAT.link_up) ∧ (s.twn.laneTrain.getD l false = true → t.Pends Ev.twinLaneRetrainDone) ∧
      t.twn = { s.twn with laneTrain := s.twn.laneTrain.set l false, laneUpAt := some s.now } ∧
      t = { s with regs := t.regs, ev := t.ev, twn := t.twn, out := t.out } ∧ s.RegsBut t [TWN_STAT.addr, TWN_CTL.addr]) ∧
    (∀ l : Fin 4, s.isOff .twn = false → (s.get TWN_STAT.lanes_up).testBit l = true → ∃ t : State, exec (.twinLaneLoss l) s = .next t ∧
      (t.get TWN_STAT.lanes_up).testBit l = false ∧
      (∀ k : Fin 4, k ≠ l → (t.get TWN_STAT.lanes_up).testBit k = (s.get TWN_STAT.lanes_up).testBit k) ∧
      (s.get TWN_STAT.lanes_up = 2 ^ l.val → t.get TWN_STAT.link_up = 0 ∧ t.Pends Ev.twinLinkDown) ∧
      (s.get TWN_STAT.lanes_up ≠ 2 ^ l.val → s.Keeps t TWN_STAT.link_up ∧ t.ev = s.ev) ∧ s.OnlyRegsEv t [TWN_STAT.addr]) ∧
    (∀ l : Fin 4, (s.get TWN_STAT.lanes_up).testBit l = false → exec (.twinLaneLoss l) s = .next s)


/-- Housekeeping: the sequence, its triggers, results, thresholds, wire breaks and calibration (R344 to R359). Log entries 105, 106,
107, 108, 109, 110 and 227 bear on its clauses: what they fix is the model's choice. -/
def Obligations.Housekeeping : Prop :=
  ∀ s : State,
    (s.get HK_CTL.enable = 1 → exec .hkEnable s = .next s) ∧
    (s.get HK_CTL.enable = 0 → (∃ e : Fin 16, e.val ≤ s.get HK_CTL.seq_len_m1 ∧ s.get (HK_SEQ_CFG.mode e) = 2 ∧
      s.get (HK_SEQ_CFG.iex_a e) = s.get (HK_SEQ_CFG.iex_b e)) → ∃ t : State, exec .hkEnable s = .next t ∧ t.Pends Ev.hkConfigRejected ∧
      t.get HK_CTL.enable = 0 ∧ s.OnlyRegsEv t []) ∧
    (s.get HK_CTL.enable = 0 → (∀ e : Fin 16, e.val ≤ s.get HK_CTL.seq_len_m1 → s.get (HK_SEQ_CFG.mode e) ≠ 2 ∨
      s.get (HK_SEQ_CFG.iex_a e) ≠ s.get (HK_SEQ_CFG.iex_b e)) → ∃ t : State, exec .hkEnable s = .next t ∧ t.get HK_CTL.enable = 1 ∧
      (∀ e : Fin 16, t.get (HK_LEAD.lead_valid e) = 0 ∧ s.Keeps t (HK_LEAD.lead e)) ∧ t.hk.count = List.replicate 16 0 ∧
      t.hk.value = List.replicate 16 none ∧
      (s.get HK_CTL.trig_src = 2 → s.hk.run = none → s.hk.calRuns = false → t.get HK_STAT.busy = 1 ∧ t.hk.run = some (0, 0)) ∧
      (s.get HK_CTL.trig_src ≠ 2 → s.Keeps t HK_STAT.busy ∧ t.hk.run = s.hk.run) ∧ t = { s with regs := t.regs, hk := t.hk } ∧
      ∀ a, a ≠ HK_CTL.addr → a ≠ HK_STAT.addr → (a < HK_LEAD.addr 0 ∨ HK_LEAD.addr 16 ≤ a) → t.reg a = s.reg a) ∧
    (∃ t : State, exec .hkDisable s = .next t ∧ t.get HK_CTL.enable = 0 ∧ t.get HK_STAT.queued = 0 ∧
      t.hk = { s.hk with stopping := s.hk.run.isSome } ∧ s.Keeps t HK_STAT.busy ∧ t = { s with regs := t.regs, hk := t.hk } ∧
      s.RegsBut t [HK_CTL.addr, HK_STAT.addr]) ∧
    (s.get HK_CTL.trig_src = 0 ∨ s.get HK_CTL.trig_src = 3 → ∃ t : State, exec .hkSwTrigger s = .next t ∧ s.HkTriggered t) ∧
    (s.get HK_CTL.trig_src = 1 ∨ s.get HK_CTL.trig_src = 2 → exec .hkSwTrigger s = .next s) ∧
    (s.get HK_CTL.trig_src = 1 → ∃ t : State, exec .hkTimerTrigger s = .next t ∧ s.HkTriggered t) ∧
    (s.get HK_CTL.trig_src ≠ 1 → exec .hkTimerTrigger s = .next s) ∧
    (∀ (r : BitVec 24) (o : Bool), s.hk.run = none → exec (.hkPhaseDone r o) s = .next s) ∧
    (∀ (r : BitVec 24) (o : Bool), s.hk.run ≠ none → s.hk.stopping = true → s.hk.cal = none → s.get HK_CTL.enable = 0 → ∃ t : State,
      exec (.hkPhaseDone r o) s = .next t ∧ t.get HK_STAT.busy = 0 ∧
      t.hk = { s.hk with run := none, stopping := false, codes := [], ovr := false, breaks := [] } ∧
      t = { s with regs := t.regs, hk := t.hk } ∧ s.RegsBut t [HK_STAT.addr]) ∧
    (∀ p : Nat × Nat, s.hk.run = some p → ∀ (r : BitVec 24) (o : Bool), s.hk.stopping = false → p.2 = 0 → s.hk.fallback.getD p.1 false = false →
      s.hkSet 0 (HK_SEQ_CFG.mode 0) = 2 → ∃ t : State, exec (.hkPhaseDone r o) s = .next t ∧ t.hk.run = some (p.1, 1) ∧
      t.hk.ovr = (s.hk.ovr || o || (hkCode r.toInt (sx 24 (s.hkSet 3 (HK_CAL.offset 0))) (s.hkSet 3 (HK_CAL.gain 0))).2) ∧
      t.hk.codes = s.hk.codes ++ [(hkCode r.toInt (sx 24 (s.hkSet 3 (HK_CAL.offset 0))) (s.hkSet 3 (HK_CAL.gain 0))).1] ∧
      t = { s with hk := t.hk }) ∧
    (∀ p : Nat × Nat, s.hk.run = some p → ∀ r : BitVec 24, ∀ c : Int,
      (hkCode r.toInt (sx 24 (s.hkSet 3 (HK_CAL.offset 0))) (s.hkSet 3 (HK_CAL.gain 0))).1 = c → s.hk.stopping = false →
      s.hk.latchAt = none → p.2 = 0 → s.hkSet 0 (HK_SEQ_CFG.mode 0) ≠ 2 → p.1 < 16 → s.hk.codes = [] → s.hk.ovr = false → -hkMax < c → c < hkMax →
      (p.1 < s.hk.round.1 → ∀ o : Bool, ∃ t : State, exec (.hkPhaseDone r o) s = .next t ∧
        t.hk.pend = s.hk.pend ++ [⟨p.1, c, o, !s.hk.breaks.isEmpty, false, true, s.hk.snap⟩] ∧ t.hk.breaks = [] ∧ t.hk.run = some (p.1 + 1, 0) ∧
        t.hk.count = s.hk.count.set p.1 (s.hk.count.getD p.1 0 + 1) ∧ t.hk.value = s.hk.value ∧ t.hk.powered = true ∧ t = { s with hk := t.hk }) ∧
      (s.hk.round.1 ≤ p.1 → s.hk.pend = [] → s.hk.cal = none → s.get HK_STAT.queued = 0 → s.get HK_CTL.trig_src ≠ 2 →
        4 ≤ s.hkSet 0 (HK_SEQ_CFG.lin_set 0) → s.get SHADE_TEMP_CFG.rtd_a ≠ p.1 → s.get SHADE_TEMP_CFG.rtd_b_en = 0 →
        (s.hk.breaks = [] → s.hkSet 1 (HK_SEQ_TIM.thr_en 0) = 0 → ∃ t : State, exec (.hkPhaseDone r false) s = .next t ∧
          t.get (HK_RES.code p.1) = toField 24 c ∧ t.get (HK_RES.valid p.1) = 1 ∧ t.get (HK_RES.ovr p.1) = 0 ∧ t.get (HK_RES.brk p.1) = 0 ∧
          t.get (HK_RES.value p.1) = toField 32 c ∧ s.Keeps t (HK_RES.in_hi p.1) ∧ t.hk.value = s.hk.value.set p.1 (some c) ∧
          t.hk.count = s.hk.count.set p.1 (s.hk.count.getD p.1 0 + 1) ∧ t.hk.run = none ∧ t.get HK_STAT.busy = 0 ∧ t.Pends Ev.hkRoundDone ∧
          t = { s with regs := t.regs, ev := t.ev, hk := t.hk, out := t.out } ∧ s.RegsBut t [HK_RES.addr p.1, HK_STAT.addr, SHADE_STAT.addr]) ∧
        (s.hk.breaks = [] → s.hkSet 1 (HK_SEQ_TIM.thr_en 0) = 1 → s.get (HK_RES.in_hi p.1) = 0 → sx 32 (s.hkSet 2 (HK_THR.hi 0)) ≤ c →
          ∃ t : State, exec (.hkPhaseDone r false) s = .next t ∧ t.get (HK_RES.in_hi p.1) = 1 ∧ t.get (HK_RES.hi_seen p.1) = 1 ∧
          t.Pends Ev.hkThresholdHigh ∧ t.get (HK_RES.value p.1) = toField 32 c ∧ s.RegsBut t [HK_RES.addr p.1, HK_STAT.addr, SHADE_STAT.addr]) ∧
        (∃ t : State, exec (.hkPhaseDone r true) s = .next t ∧ t.get (HK_RES.valid p.1) = 0 ∧ t.get (HK_RES.ovr p.1) = 1 ∧
          t.Pends Ev.hkOverRange ∧ t.hk.value = s.hk.value ∧ t.hk.run = none ∧
          s.RegsBut t [HK_RES.addr p.1, HK_STAT.addr, SHADE_STAT.addr]) ∧
        (s.hk.breaks ≠ [] → ∃ t : State, exec (.hkPhaseDone r false) s = .next t ∧ t.get (HK_RES.valid p.1) = 0 ∧ t.get (HK_RES.brk p.1) = 1 ∧
          t.hk.breaks = [] ∧ t.hk.value = s.hk.value ∧ s.RegsBut t [HK_RES.addr p.1, HK_STAT.addr, SHADE_STAT.addr]))) ∧
    (∀ p : Nat × Nat, s.hk.run = some p → ∀ (r : BitVec 24) (o : Bool), s.hk.stopping = false → p.2 = 0 → s.hkSet 0 (HK_SEQ_CFG.mode 0) ≠ 2 →
      s.hk.round.1 ≤ p.1 → p.1 < 16 → s.hk.cal = none → s.get HK_STAT.queued = 0 → s.get HK_CTL.trig_src ≠ 2 → ∃ t : State,
      exec (.hkPhaseDone r o) s = .next t ∧ t.get HK_STAT.busy = 0 ∧ t.hk.run = none ∧ t.Pends Ev.hkRoundDone ∧ t.mode = s.mode ∧ s.SameMem t) ∧
    (∀ x : Fin 4, ∃ t : State, exec (.hkWireBreak x) s = .next t ∧ t.hk.breaks.contains x.val = true ∧ t.Pends Ev.hkWireBreak ∧
      (∀ y : Nat, y ≠ x.val → t.hk.breaks.contains y = s.hk.breaks.contains y) ∧ t.hk = { s.hk with breaks := t.hk.breaks } ∧
      t = { s with regs := t.regs, ev := t.ev, hk := t.hk, out := t.out } ∧ s.RegsBut t []) ∧
    (exec .syncHkEdge s = .next (if s.get HK_CTL.sync_en = 1 then { s with hk := { s.hk with filterAt := s.now } } else s)) ∧
    (∀ (e : Fin 16) (k : Bool) (f : BitVec 24), s.get HK_CAL_CMD.go = 1 → ∃ t : State, exec (.hkCalStart e k f) s = .next t ∧
      t.get HK_CAL_CMD.go = 1 ∧ t.get HK_CAL_CMD.entry = e.val ∧ t.get HK_CAL_CMD.kind = bit k ∧ t.get HK_CAL_CMD.fs_target = f.toNat ∧
      s.OnlyRegs t [HK_CAL_CMD.addr]) ∧
    (∀ (e : Fin 16) (k : Bool) (f : BitVec 24), s.get HK_CAL_CMD.go = 0 → s.get HK_CTL.seq_len_m1 < e.val → ∃ t : State,
      exec (.hkCalStart e k f) s = .next t ∧ t.Pends Ev.hkConfigRejected ∧ t.get HK_CAL_CMD.go = 0 ∧ t.get HK_CAL_CMD.entry = e.val ∧
      t.hk = s.hk ∧ s.OnlyRegsEv t [HK_CAL_CMD.addr]) ∧
    (∀ (e : Fin 16) (k : Bool) (f : BitVec 24), s.get HK_CAL_CMD.go = 0 → e.val ≤ s.get HK_CTL.seq_len_m1 → ∃ t : State,
      exec (.hkCalStart e k f) s = .next t ∧ t.get HK_CAL_CMD.go = 1 ∧ t.get HK_STAT.cal_busy = 1 ∧ t.get HK_CAL_CMD.entry = e.val ∧
      t.get HK_CAL_CMD.kind = bit k ∧ t.get HK_CAL_CMD.fs_target = f.toNat ∧
      t.hk = (if s.hk.run = none then { s.hk with cal := some (e.val, bit k, f.toNat), calRuns := true, powered := true, lastEntry := e }
        else { s.hk with cal := some (e.val, bit k, f.toNat) }) ∧
      t = { s with regs := t.regs, hk := t.hk } ∧ s.RegsBut t [HK_CAL_CMD.addr, HK_STAT.addr]) ∧
    (∀ v : BitVec 28, s.hk.cal = none ∨ s.hk.calRuns = false → exec (.hkCalDone v) s = .next s) ∧
    (∀ p : Nat × Nat × Nat, s.hk.cal = some p → ∀ v : BitVec 28, s.hk.calRuns = true → s.get HK_CTL.enable = 0 → p.1 < 16 → p.2.1 = 0 →
      ∃ t : State, exec (.hkCalDone v) s = .next t ∧ t.get HK_CAL_CMD.go = 0 ∧ t.get HK_STAT.cal_busy = 0 ∧
      t.hk = { s.hk with cal := none, calRuns := false } ∧
      ((roundHalfEven v.toInt 16).natAbs ≤ 2 ^ 20 → t.get (HK_CAL.offset p.1) = toField 24 (roundHalfEven v.toInt 16) ∧ t.Pends Ev.hkCalDone) ∧
      (2 ^ 20 < (roundHalfEven v.toInt 16).natAbs → s.Keeps t (HK_CAL.offset p.1) ∧ t.get HK_STAT.cal_err = 1 ∧ t.Pends Ev.hkCalRejected) ∧
      s.Keeps t (HK_CAL.gain p.1) ∧ t = { s with regs := t.regs, ev := t.ev, hk := t.hk, out := t.out } ∧
      s.RegsBut t [HK_CAL_CMD.addr, HK_STAT.addr, HK_CAL.addr p.1]) ∧
    (∀ p : Nat × Nat × Nat, s.hk.cal = some p → ∀ v : BitVec 28, ∀ d : Int, v.toInt - 16 * sx 24 (s.get (HK_CAL.offset p.1)) = d →
      s.hk.calRuns = true → s.get HK_CTL.enable = 0 → p.1 < 16 → p.2.1 = 1 → ∃ t : State, exec (.hkCalDone v) s = .next t ∧
      t.get HK_CAL_CMD.go = 0 ∧ t.get HK_STAT.cal_busy = 0 ∧ t.hk = { s.hk with cal := none, calRuns := false } ∧
      (gainPlausible (16 * sx 24 p.2.2) d = false → s.Keeps t (HK_CAL.gain p.1) ∧ t.get HK_STAT.cal_err = 1 ∧ t.Pends Ev.hkCalRejected) ∧
      (gainPlausible (16 * sx 24 p.2.2) d = true → t.Pends Ev.hkCalDone ∧
        (t.get (HK_CAL.gain p.1) * d.natAbs ≤ 16 * (sx 24 p.2.2).natAbs * 2 ^ 30 + d.natAbs) ∧
        (16 * (sx 24 p.2.2).natAbs * 2 ^ 30 < (t.get (HK_CAL.gain p.1) + 1) * d.natAbs)) ∧
      s.Keeps t (HK_CAL.offset p.1) ∧ t = { s with regs := t.regs, ev := t.ev, hk := t.hk, out := t.out, freeCtr := t.freeCtr } ∧
      s.RegsBut t [HK_CAL_CMD.addr, HK_STAT.addr, HK_CAL.addr p.1])

/-- The Chimney monitor (R360 to R362). Log entries 112, 113, 114 and 202 bear on its clauses: what they fix is the model's choice. -/
def Obligations.Chimney : Prop :=
  ∀ s : State, s.chm.refs.length = 8 → s.chm.cand.length = 8 →
    (∀ m : BitVec 8, ∃ t : State, exec (.chimneyRefCapture m) s = .next t ∧
      t.get CHM_STAT.ref_cap = Nat.lor (s.get CHM_STAT.ref_cap) m.toNat ∧ s.Keeps t CHM_STAT.drive_fault ∧ s.OnlyRegs t [CHM_STAT.addr]) ∧
    (∀ (e : Fin 8) (c g : BitVec 31) (v : BitVec 16), s.get CHM_CTL.enable = 0 → exec (.chimneyMeasure e c g v) s = .next s) ∧
    (∀ (e : Fin 8) (c g : BitVec 31) (v : BitVec 16), ∀ r : Int × Int,
      (if (s.get CHM_STAT.ref_cap).testBit e then (c.toInt, g.toInt) else s.chm.refs.getD e (0, 0)) = r → s.get CHM_CTL.enable = 1 → ∃ t : State,
      exec (.chimneyMeasure e c g v) s = .next t ∧ (t.get CHM_STAT.ref_cap).testBit e = false ∧ t.chm.refs = s.chm.refs.set e r ∧
      t.get (CHM_E_MEAS.dc e) = toField 32 (c.toInt - r.1) ∧ t.get (CHM_E_MEAS.valid e) = 1 ∧
      t.get (CHM_E_MEAS.cls e) = s.chmClass (c.toInt - r.1) (g.toInt - r.2) ∧
      (c.toInt - r.1 ≤ 0 → s.Keeps t (CHM_E_MEAS.d e)) ∧ (0 < c.toInt - r.1 → g.toInt = r.2 → t.get (CHM_E_MEAS.d e) = 0) ∧
      (c.toInt - r.1 < 100 * (s.get CHM_CFG.c_min_ff : Nat) → t.get (CHM_E_MEAS.cls e) = 0) ∧
      (s.chmAmp < 5 * ((v.toNat : Int) - s.chmAmp).natAbs → (t.get CHM_STAT.drive_fault).testBit (e.val / 4) = true ∧
        ((s.get CHM_STAT.drive_fault).testBit (e.val / 4) = false → t.Pends Ev.chimneyDriveFault ∧
          ∀ j : Fin 4, t.get (CHM_STAT.state (4 * (e.val / 4) + j.val)) = 3)) ∧
      (10 * ((v.toNat : Int) - s.chmAmp).natAbs ≤ s.chmAmp → (t.get CHM_STAT.drive_fault).testBit (e.val / 4) = false ∧
        (s.get (CHM_STAT.state e) = t.get (CHM_E_MEAS.cls e) → s.Keeps t (CHM_STAT.state e)) ∧
        (s.get (CHM_STAT.state e) ≠ t.get (CHM_E_MEAS.cls e) → s.get CHM_CTL.persist ≤ 1 →
          t.get (CHM_STAT.state e) = t.get (CHM_E_MEAS.cls e) ∧ t.get CHM_STAT.change_seen = 1 ∧ t.Pends Ev.chimneyFilmChange) ∧
        (s.get (CHM_STAT.state e) ≠ t.get (CHM_E_MEAS.cls e) → 1 < s.get CHM_CTL.persist → s.chm.cand.getD e (0, 0) = (0, 0) →
          t.get (CHM_E_MEAS.cls e) ≠ 0 → s.Keeps t (CHM_STAT.state e) ∧ t.chm.cand = s.chm.cand.set e (t.get (CHM_E_MEAS.cls e), 1))) ∧
      (∀ j : Fin 8, j.val / 4 ≠ e.val / 4 → s.Keeps t (CHM_STAT.state j)) ∧
      t = { s with regs := t.regs, ev := t.ev, chm := t.chm, out := t.out, freeCtr := t.freeCtr } ∧
      s.RegsBut t [CHM_STAT.addr, CHM_E_MEAS.addr e])


/-- The control loops (R4, R370 to R376, R409, R410): enable and claim, samples that drive a PWM, a mirror DAC while the device holds
MIR_OWN, nothing in track mode, or the set point of another loop, and commits, which count as configuration changes. Log entries 103,
117, 118, 119, 120 and 121 bear on its clauses: what they fix is the model's choice. -/
def Obligations.ControlLoops : Prop :=
  ∀ s : State, s.loops.length = 8 →
    (∀ n : Fin 8, s.get (CTL_LOOP_CFG.enable n) = 1 → exec (.loopEnable n true) s = .next s) ∧
    (∀ n : Fin 8, s.get (CTL_LOOP_CFG.enable n) = 0 → s.loopConfigOk n = false → ∃ t : State, exec (.loopEnable n true) s = .next t ∧
      t.Pends Ev.loopConfigRejected ∧ t.get (CTL_LOOP_CFG.enable n) = 0 ∧ s.OnlyRegsEv t []) ∧
    (∀ n : Fin 8, ∀ i : Nat, 10 + s.get (CTL_LOOP_CFG.out n) = i → s.get (CTL_LOOP_CFG.enable n) = 0 → s.loopConfigOk n = true →
      (s.get (HUB_CLAIM.owner i) = 0 ∨ s.get (HUB_CLAIM.owner i) = 16 + n.val → ∃ t : State, exec (.loopEnable n true) s = .next t ∧
        t.get (CTL_LOOP_CFG.enable n) = 1 ∧ t.get (HUB_CLAIM.owner i) = 16 + n.val ∧
        t.loop n = { s.loop n with
          claimed := some (s.get (CTL_LOOP_CFG.out n)), deriv := 0, pvPrev := none, preset := true, restart := true } ∧
        (∀ m : Fin 8, m ≠ n → t.loop m = s.loop m) ∧ t = { s with regs := t.regs, loops := t.loops } ∧
        s.RegsBut t [CTL_LOOP_CFG.addr n, HUB_CLAIM.addr i]) ∧
      (s.get (HUB_CLAIM.owner i) ≠ 0 → s.get (HUB_CLAIM.owner i) ≠ 16 + n.val → ∃ t : State, exec (.loopEnable n true) s = .next t ∧
        t.get (CTL_LOOP_CFG.enable n) = 0 ∧ t.get (HUB_CLAIM.last_denied i) = 16 + n.val ∧ t.Pends (Ev.claimDenied 0) ∧
        s.OnlyRegsEv t [HUB_CLAIM.addr i])) ∧
    (∀ n : Fin 8, ∃ t : State, exec (.loopEnable n false) s = .next t ∧ t.get (CTL_LOOP_CFG.enable n) = 0 ∧
      t.get (CTL_LOOP_CFG.in_invalid n) = 0 ∧ t.get (CTL_LOOP_CFG.tracking n) = 0 ∧ t.get (CTL_LOOP_CFG.ramping n) = 0 ∧
      t.loop n = { s.loop n with claimed := none } ∧
      (∀ o : Nat, (s.loop n).claimed = some o → o < 8 → s.get (HUB_CLAIM.owner (10 + o)) = 16 + n.val → t.get (HUB_CLAIM.owner (10 + o)) = 0) ∧
      (∀ m : Fin 8, m ≠ n → t.loop m = s.loop m) ∧ t = { s with regs := t.regs, loops := t.loops }) ∧
    (∀ (n : Fin 8) (w : Word32), s.get (CTL_LOOP_CFG.enable n) = 0 → exec (.loopSample n w) s = .next s) ∧
    (∀ (n : Fin 8) (w : Word32), s.get (CTL_LOOP_CFG.enable n) = 1 → (s.loop n).commit = none →
      s.loopInput n w.toNat = none → ∀ o : Nat, (s.loop n).claimed = some o → (s.par n 10).isNan = false → ∃ t : State, exec (.loopSample n w) s = .next t ∧
      t.get (CTL_LOOP_CFG.in_invalid n) = 1 ∧ (s.get (CTL_LOOP_CFG.in_invalid n) = 0 → t.Pends Ev.loopInputInvalid) ∧
      t.get (CTL_LOOP_STAT.val n 2) = toF32 0 (s.par n 10) % 2 ^ 32 ∧ 
      (o < 4 → ∀ v : Int, actuatorUnits (s.par n 10) 8000 0 8000 = some v → t.out.head? = some (.actuate o v)) ∧
      (o = 4 ∨ o = 5 → s.get TWN_OWN_CTL.owner = 1 → t.get (CTL_LOOP_CFG.tracking n) = 0 ∧
        ∀ v : Int, actuatorUnits (s.par n 10) 131072 (-131072) 131072 = some v → t.out.head? = some (.actuate o v)) ∧
      (o = 4 ∨ o = 5 → s.get TWN_OWN_CTL.owner = 0 → t.get (CTL_LOOP_CFG.tracking n) = 1 ∧
        t.out.filter outDrives = s.out.filter outDrives) ∧
      (6 ≤ o → s.get (CTL_LOOP_CFG.cas_loop n) ≠ n.val → t.out.filter outDrives = s.out.filter outDrives ∧
        t.loop (s.get (CTL_LOOP_CFG.cas_loop n)) = { s.loop (s.get (CTL_LOOP_CFG.cas_loop n)) with
          pars := (s.loop (s.get (CTL_LOOP_CFG.cas_loop n))).pars.set 0 (toF32 0 (s.par n 10)) }) ∧
      ((6 ≤ o → s.get (CTL_LOOP_CFG.cas_loop n) ≠ n.val) → t.loop n = { s.loop n with pvPrev := none }) ∧
      (∀ m : Fin 8, m ≠ n → (6 ≤ o → s.get (CTL_LOOP_CFG.cas_loop n) ≠ m.val) → t.loop m = s.loop m) ∧
      t = { s with regs := t.regs, ev := t.ev, loops := t.loops, out := t.out, freeCtr := t.freeCtr } ∧ s.RegsBut t [CTL_LOOP_CFG.addr n, CTL_LOOP_STAT.addr n 2]) ∧
    (∀ (n : Fin 8) (w : Word32), s.get (CTL_LOOP_CFG.enable n) = 1 → (s.loop n).commit = none → ∀ pv : Flt, s.loopInput n w.toNat = some pv →
      ∀ u : Flt, (if s.get (CTL_LOOP_CFG.auto n) = 0 then s.par n 9
        else if s.get (CTL_LOOP_CFG.law n) = 0 then s.loopHyst n (f32.sub (s.loopWsp n pv) pv)
        else (s.loopPid n (f32.sub (s.loopWsp n pv) pv) (s.loopDeriv n pv)).2.1) = u → s.get (CTL_LOOP_CFG.in_invalid n) = 0 → ∀ o : Nat, (s.loop n).claimed = some o → pv.isNan = false → (s.loopWsp n pv).isNan = false →
      u.isNan = false → (s.loopPid n (f32.sub (s.loopWsp n pv) pv) (s.loopDeriv n pv)).1.isNan = false →
      ∃ t : State, exec (.loopSample n w) s = .next t ∧
      t.get (CTL_LOOP_STAT.val n 0) = toF32 0 pv % 2 ^ 32 ∧ t.get (CTL_LOOP_STAT.val n 1) = toF32 0 (s.loopWsp n pv) % 2 ^ 32 ∧
      t.get (CTL_LOOP_STAT.val n 2) = toF32 0 u % 2 ^ 32 ∧ (t.loop n).pvPrev = some (toF32 0 pv) ∧
      (s.get (CTL_LOOP_CFG.auto n) = 0 ∨ s.get (CTL_LOOP_CFG.law n) = 0 → s.Keeps t (CTL_LOOP_STAT.val n 3)) ∧
      (s.get (CTL_LOOP_CFG.auto n) = 1 → s.get (CTL_LOOP_CFG.law n) = 1 → t.get (CTL_LOOP_STAT.val n 3) =
        toF32 0 (s.loopPid n (f32.sub (s.loopWsp n pv) pv) (s.loopDeriv n pv)).1 % 2 ^ 32 ∧ (t.loop n).preset = false) ∧
      (o < 4 → ∀ v : Int, actuatorUnits u 8000 0 8000 = some v → t.out.head? = some (.actuate o v)) ∧
      (o = 4 ∨ o = 5 → s.get TWN_OWN_CTL.owner = 1 → t.get (CTL_LOOP_CFG.tracking n) = 0 ∧
        ∀ v : Int, actuatorUnits u 131072 (-131072) 131072 = some v → t.out.head? = some (.actuate o v)) ∧
      (o = 4 ∨ o = 5 → s.get TWN_OWN_CTL.owner = 0 → t.get (CTL_LOOP_CFG.tracking n) = 1 ∧
        t.out.filter outDrives = s.out.filter outDrives) ∧
      (6 ≤ o → s.get (CTL_LOOP_CFG.cas_loop n) ≠ n.val → t.out.filter outDrives = s.out.filter outDrives ∧
        t.loop (s.get (CTL_LOOP_CFG.cas_loop n)) = { s.loop (s.get (CTL_LOOP_CFG.cas_loop n)) with
          pars := (s.loop (s.get (CTL_LOOP_CFG.cas_loop n))).pars.set 0 (toF32 0 u) }) ∧
      (∀ m : Fin 8, m ≠ n → (6 ≤ o → s.get (CTL_LOOP_CFG.cas_loop n) ≠ m.val) → t.loop m = s.loop m) ∧
      t = { s with regs := t.regs, ev := t.ev, loops := t.loops, out := t.out, freeCtr := t.freeCtr } ∧
      s.RegsBut t [CTL_LOOP_CFG.addr n, CTL_LOOP_STAT.addr n 0, CTL_LOOP_STAT.addr n 1, CTL_LOOP_STAT.addr n 2, CTL_LOOP_STAT.addr n 3]) ∧
    (∀ (n : Fin 8) (w : Word32), s.get (CTL_LOOP_CFG.enable n) = 1 → ∀ p : List Nat, (s.loop n).commit = some p →
      (∀ o : Nat, (s.loop n).claimed = some o → o < 6) → ∃ t : State, exec (.loopSample n w) s = .next t ∧ (t.loop n).pars = p ∧
      (t.loop n).commit = none ∧ t.get (CTL_LOOP_CFG.commit n) = 0 ∧ t.twn = { s.twn with epoch := (s.twn.epoch + 1) % 2 ^ 32 }) ∧
    (∀ n : Fin 8, ∃ t : State, exec (.loopAutoSwitch n) s = .next t ∧ t.get (CTL_LOOP_CFG.auto n) = 1 ∧
      t.loop n = (if s.get (CTL_LOOP_CFG.auto n) = 1 then s.loop n else { s.loop n with preset := true, restart := true }) ∧
      (∀ m : Fin 8, m ≠ n → t.loop m = s.loop m) ∧ t = { s with regs := t.regs, loops := t.loops } ∧ s.RegsBut t [CTL_LOOP_CFG.addr n]) ∧
    (∀ n : Fin 8, s.loopParsOk n = true → ∃ t : State, exec (.loopCommit n) s = .next t ∧ t.get (CTL_LOOP_CFG.commit n) = 1 ∧
      t.loop n = { s.loop n with commit := some ((List.range 12).map (fun k => s.get (CTL_LOOP_PAR.par n k))) } ∧
      t = { s with regs := t.regs, loops := t.loops } ∧ s.RegsBut t [CTL_LOOP_CFG.addr n]) ∧
    (∀ n : Fin 8, s.loopParsOk n = false → ∃ t : State, exec (.loopCommit n) s = .next t ∧ t.Pends Ev.loopConfigRejected ∧ s.OnlyRegsEv t []) ∧
    (∀ n : Fin 8, ∀ u : Flt, ofF32 (s.get (CTL_LOOP_STAT.val n 2)) = u →
      (s.get (CTL_LOOP_CFG.enable n) = 1 → u.le (s.par n 5) = true ∨ (s.par n 6).le u = true → ∃ t : State,
        exec (.loopSaturated n) s = .next t ∧ t.Pends Ev.loopSaturated ∧ s.OnlyRegsEv t []) ∧
      (s.get (CTL_LOOP_CFG.enable n) = 0 ∨ (u.le (s.par n 5) = false ∧ (s.par n 6).le u = false) → exec (.loopSaturated n) s = .next s)) ∧
    (∀ n : Fin 8, ∀ e : Flt, f32.sub (ofF32 (s.get (CTL_LOOP_STAT.val n 1))) (ofF32 (s.get (CTL_LOOP_STAT.val n 0))) = e →
      (s.get (CTL_LOOP_CFG.enable n) = 1 → (f32.ofInt 0).lt (s.par n 11) = true → (s.par n 11).lt e = true ∨ (s.par n 11).lt e.neg = true →
        ∃ t : State, exec (.loopDeviation n) s = .next t ∧ t.Pends Ev.loopDeviation ∧ s.OnlyRegsEv t []) ∧
      (s.get (CTL_LOOP_CFG.enable n) = 0 ∨ ((s.par n 11).lt e = false ∧ (s.par n 11).lt e.neg = false) → exec (.loopDeviation n) s = .next s))

/-- Thermal management (R293, R364 to R369). Beside them, the lamps' apply, its effect, a lamp fault and its clearing, and the Chimney's
capture and measurement (R318 to R321, R360). Log entries 74, 100, 111, 112, 113, 114, 115, 116 and 202 bear on its clauses: what they
fix is the model's choice. -/
def Obligations.Thermal : Prop :=
  ∀ s : State, s.thm.sens.length = 38 →
    (∀ d : List (BitVec 16), d.length = 34 → ∃ t : State, exec (.thermalRound d) s = .next t ∧
      (∀ i : Fin 34, ∀ v : Int, (d.getD i 0).toInt = v → -550 ≤ v → v ≤ 1500 → t.get (THM_SENS.temp i) = toField 16 v ∧
        t.get (THM_SENS.valid i) = 1 ∧ (s.suspect i = false → t.suspect i = false → ∀ j : Fin 3, (t.sens i).held.testBit j =
          (s.thmHold (sensClass i) j ((s.sens i).runs.getD j 0) ((s.sens i).held.testBit j) v).2)) ∧
      (∀ i : Fin 34, (d.getD i 0).toInt < -550 ∨ 1500 < (d.getD i 0).toInt → t.get (THM_SENS.valid i) = 0 ∧ s.Keeps t (THM_SENS.temp i)) ∧
      (∀ k : Fin 4, s.holder k 0 = none → t.holder k 0 ≠ none → t.Pends Ev.thmWarning) ∧
      (∀ k : Fin 4, s.holder k 1 = none → t.holder k 1 ≠ none → t.Pends Ev.thmThrottle) ∧
      (∀ k : Fin 4, s.holder k 0 ≠ none → t.holder k 0 = none → t.Pends Ev.thmWarningCleared) ∧
      (∀ k : Fin 4, k ≠ 2 → s.holder k 2 = none → t.holder k 2 ≠ none → t.Pends Ev.thmShutdown ∧ t.saf.latched = true ∧
        t.get SAF_STAT.perm_a = 0 ∧ t.get SAF_STAT.perm_b = 0) ∧
      ((∀ k : Fin 4, k ≠ 2 → s.holder k 2 ≠ none ∨ t.holder k 2 = none) → t.mode = s.mode ∧ t.saf = s.saf) ∧
      t.get THM_STAT.mem_throttle = bit ((t.holder 0 1).isSome || (t.holder 1 1).isSome) ∧ s.Keeps t THM_STAT.nvm_inhibit ∧
      t.hk = { s.hk with newValue := List.replicate 16 false } ∧ s.SameMem t) ∧
    (∀ k : Fin 4, k = 3 ∨ (classSens k).any (fun i => s.sensUsable i) = true → exec (.thermalClassStale k) s = .next s) ∧
    (∀ k : Fin 4, k ≠ 3 → (classSens k).any (fun i => s.sensUsable i) = false → ∃ t : State, exec (.thermalClassStale k) s = .next t ∧
      s.SafeAfter t 0x0C (128 + k.val) []) ∧
    (∀ a b : BitVec 16, s.snf.powered = false → exec (.snufferTempSample a b) s = .next s) ∧
    (∀ a b : BitVec 16, s.snf.powered = true → dieSample a.toInt = none → dieSample b.toInt = none → ∃ t : State,
      exec (.snufferTempSample a b) s = .next t ∧ t.get THM_STAT.nvm_inhibit = 1 ∧
      (s.get THM_STAT.nvm_inhibit = 0 → t.Pends Ev.thmNvmInhibit) ∧ t.saf = s.saf ∧ t.mode = s.mode ∧ s.RegsBut t [THM_STAT.addr]) ∧
    (∀ a : BitVec 16, s.snf.powered = true → s.suspect 32 = false → s.suspect 33 = false → -550 ≤ a.toInt → a.toInt ≤ 1500 →
      a.toInt < s.thmThr 2 2 → ∃ t : State, exec (.snufferTempSample a a) s = .next t ∧
      (0 ≤ a.toInt → a.toInt ≤ 850 → t.thm.nvmRun = 0 ∧
        (s.get THM_STAT.nvm_inhibit = 1 → 2 ≤ s.thm.nvmTaken → 20 ≤ a.toInt → a.toInt ≤ 830 → t.get THM_STAT.nvm_inhibit = 0) ∧
        (s.get THM_STAT.nvm_inhibit = 0 ∨ s.thm.nvmTaken < 2 ∨ a.toInt < 20 ∨ 830 < a.toInt → s.Keeps t THM_STAT.nvm_inhibit)) ∧
      (a.toInt < 0 ∨ 850 < a.toInt → t.thm.nvmRun = Nat.min 3 (s.thm.nvmRun + 1) ∧ (2 ≤ s.thm.nvmRun → t.get THM_STAT.nvm_inhibit = 1 ∧
        (s.get THM_STAT.nvm_inhibit = 0 → t.Pends Ev.thmNvmInhibit))) ∧
      t = { s with regs := t.regs, ev := t.ev, thm := t.thm, out := t.out } ∧ s.RegsBut t [THM_STAT.addr]) ∧
    (∀ a : BitVec 16, s.snf.powered = true → s.suspect 32 = false → s.suspect 33 = false → a.toInt ≤ 1500 → -550 ≤ a.toInt →
      s.thmThr 2 2 ≤ a.toInt → s.thm.snfRuns = [2, 2] → s.thm.snfHeld = [false, false] → ∃ t : State,
      exec (.snufferTempSample a a) s = .next t ∧ t.Pends Ev.thmShutdown ∧ t.Pends Ev.safetyFault ∧ t.saf.latched = true ∧
      t.get SAF_STAT.perm_a = 0 ∧ t.get SAF_STAT.perm_b = 0 ∧ (s.saf.latched = false → t.get SAF_FAULT.cause = 0x0C ∧ t.get SAF_FAULT.info = 2)) ∧
    (∃ t : State, exec (.indApply false) s = .next t ∧ t.get IND_CTL.apply = 1 ∧ t.ind.apply = some (s.now, s.indShadows)) ∧
    (∀ x : Nat × List Nat, s.ind.apply = some x → x.2.length = 8 → s.ind.active.length = 8 → ∃ t : State,
      exec .indApplyTakeEffect s = .next t ∧ t.get IND_CTL.apply = 0 ∧ t.ind.apply = none) ∧
    (∀ (n : Fin 8) (h : Bool), 2 ≤ s.indDrive n → ∃ t : State, exec (.lampDiag n h) s = .next t ∧ t.get (IND_STAT.state n) = (if h then 2 else 1)) ∧
    (∀ m : BitVec 8, ∃ t : State, exec (.indFaultClear m) s = .next t ∧
      ∀ n : Fin 8, m.toNat.testBit n = true → t.get (IND_STAT.state n) = 3) ∧
    (∀ m : BitVec 8, ∃ t : State, exec (.chimneyRefCapture m) s = .next t ∧
      t.get CHM_STAT.ref_cap = Nat.lor (s.get CHM_STAT.ref_cap) m.toNat) ∧
    (∀ (e : Fin 8) (c g : BitVec 31) (v : BitVec 16), s.chm.refs.length = 8 → s.chm.cand.length = 8 → s.get CHM_CTL.enable = 1 →
      ∃ t : State, exec (.chimneyMeasure e c g v) s = .next t ∧ t.get (CHM_E_MEAS.valid e) = 1)

/-- The indicator lamps (R318 to R321, R409). Beside them, a thermal round, a stale class and Snuffer's samples out of range (R365,
R366, R369). Log entries 74, 100, 115 and 116 bear on its clauses: what they fix is the model's choice. -/
def Obligations.Indicators : Prop :=
  ∀ s : State,
    (∀ h : Bool, ∃ t : State, exec (.indApply h) s = .next t ∧ t.get IND_CTL.apply = 1 ∧ t.get IND_CTL.at_time = bit h ∧
      (h = false ∨ modGe 64 s.now (s.get IND_APPLY_TIME.time) = true → t.ind.apply = some (s.now, s.indShadows)) ∧
      (h = true → modGe 64 s.now (s.get IND_APPLY_TIME.time) = true → t.get IND_CTL.late = 1) ∧
      (h = true → modGe 64 s.now (s.get IND_APPLY_TIME.time) = false →
        t.ind.apply = some (s.get IND_APPLY_TIME.time, s.indShadows) ∧ s.Keeps t IND_CTL.late) ∧
      t.ind.active = s.ind.active ∧ t = { s with regs := t.regs, ind := t.ind } ∧ s.RegsBut t [IND_CTL.addr]) ∧
    (s.ind.apply = none → exec .indApplyTakeEffect s = .next s) ∧
    (∀ x : Nat × List Nat, s.ind.apply = some x → x.2.length = 8 → s.ind.active.length = 8 → ∃ t : State,
      exec .indApplyTakeEffect s = .next t ∧ t.get IND_CTL.apply = 0 ∧ t.ind.apply = none ∧
      (∀ n : Fin 8, (x.2.getD n 0).testBit 5 = true → s.get (HUB_CLAIM.owner (2 + n)) = 0 ∨ s.get (HUB_CLAIM.owner (2 + n)) = 3 →
        t.ind.active.getD n 0 = x.2.getD n 0 ∧ t.get (HUB_CLAIM.owner (2 + n)) = 3) ∧
      (∀ n : Fin 8, (x.2.getD n 0).testBit 5 = true → s.get (HUB_CLAIM.owner (2 + n)) ≠ 0 → s.get (HUB_CLAIM.owner (2 + n)) ≠ 3 →
        t.indDrive n = 0 ∧ s.Keeps t (HUB_CLAIM.owner (2 + n)) ∧ t.get (HUB_CLAIM.last_denied (2 + n)) = 3 ∧ t.Pends (Ev.claimDenied 0)) ∧
      (∀ n : Fin 8, (x.2.getD n 0).testBit 5 = false → t.ind.active.getD n 0 = x.2.getD n 0 ∧ t.indDrive n = 0 ∧
        (s.get (HUB_CLAIM.owner (2 + n)) = 3 → t.get (HUB_CLAIM.owner (2 + n)) = 0)) ∧
      (∀ n : Fin 8, s.get (IND_STAT.state n) = 3 → 2 ≤ t.indDrive n → t.get (IND_STAT.state n) = 0) ∧
      (∀ n : Fin 8, s.get (IND_STAT.state n) ≠ 3 ∨ t.indDrive n < 2 → s.Keeps t (IND_STAT.state n)) ∧
      s.Keeps t IND_STAT.fault_seen ∧ t = { s with regs := t.regs, ev := t.ev, ind := t.ind, out := t.out } ∧
      ∀ a, a ≠ IND_CTL.addr → a ≠ IND_STAT.addr → (a < HUB_CLAIM.addr 2 ∨ HUB_CLAIM.addr 10 ≤ a) → evReg a = false → t.reg a = s.reg a) ∧
    (∀ (n : Fin 8) (h : Bool), s.indDrive n < 2 → exec (.lampDiag n h) s = .next s) ∧
    (∀ (n : Fin 8) (h : Bool), 2 ≤ s.indDrive n → ∃ t : State, exec (.lampDiag n h) s = .next t ∧
      t.get (IND_STAT.state n) = (if h then 2 else 1) ∧ (t.get IND_STAT.fault_seen).testBit n = true ∧
      (∀ m : Fin 8, m ≠ n → s.Keeps t (IND_STAT.state m) ∧ (t.get IND_STAT.fault_seen).testBit m = (s.get IND_STAT.fault_seen).testBit m) ∧
      s.OnlyRegs t [IND_STAT.addr]) ∧
    (∀ m : BitVec 8, ∃ t : State, exec (.indFaultClear m) s = .next t ∧
      (∀ n : Fin 8, m.toNat.testBit n = true → t.get (IND_STAT.state n) = 3 ∧ (t.get IND_STAT.fault_seen).testBit n = false) ∧
      (∀ n : Fin 8, m.toNat.testBit n = false → s.Keeps t (IND_STAT.state n) ∧
        (t.get IND_STAT.fault_seen).testBit n = (s.get IND_STAT.fault_seen).testBit n) ∧ s.OnlyRegs t [IND_STAT.addr]) ∧
    (s.thm.sens.length = 38 →
      (∀ d : List (BitVec 16), d.length = 34 → ∃ t : State, exec (.thermalRound d) s = .next t ∧
        ∀ i : Fin 34, ∀ v : Int, (d.getD i 0).toInt = v → -550 ≤ v → v ≤ 1500 → t.get (THM_SENS.temp i) = toField 16 v) ∧
      (∀ k : Fin 4, k ≠ 3 → (classSens k).any (fun i => s.sensUsable i) = false → ∃ t : State, exec (.thermalClassStale k) s = .next t ∧
        s.SafeAfter t 0x0C (128 + k.val) []) ∧
      (∀ a b : BitVec 16, s.snf.powered = true → dieSample a.toInt = none → dieSample b.toInt = none → ∃ t : State,
        exec (.snufferTempSample a b) s = .next t ∧ t.get THM_STAT.nvm_inhibit = 1))

/-- A step runs the command at the front of the queue on the state with the queue's rest; with none waiting, one cycle of the time base
passes. That an idle block counts time is the model's choice (log entry 1). -/
def Obligations.StepRunsTheFront : Prop :=
  (∀ (c : Instr) (s : State) (l : List Instr), step { s with pending := c :: l } = exec c { s with pending := l }) ∧
  ∀ s : State, s.pending = [] → step s = .next s.tick

/-- Every step keeps the canonical form of the register file and of every memory: addresses strictly rising, nothing listed that reads
as unlisted. -/
def Obligations.StepKeepsCanonicalForm : Prop :=
  ∀ s t : State, s.Canon → step s = .next t → t.Canon

/-- Every step keeps the number of tiles, ports, links, queues, connections, sensors and loops that the spec gives the device. -/
def Obligations.StepKeepsShape : Prop :=
  ∀ s t : State, s.Shape → step s = .next t → t.Shape

/-- The state after reset has the canonical form and the shape that every step keeps, and no command waits in it. -/
def Obligations.ResetMeetsInvariants : Prop :=
  State.reset.Canon ∧ State.reset.Shape ∧ State.reset.pending = []

/-- Resets and the event system (R404): PORST_N and WARM_RST_N clear the ring, the pending bits and EVT_STAT and restart seq at 0; a
function-level reset leaves all of them as they are and then raises its own event. Log entries 5, 14, 158, 159, 160, 161, 162 and 163
bear on its clauses: what they fix is the model's choice. -/
def Obligations.EventSystemResets : Prop :=
  ∀ s : State,
    (∀ tiles : BitVec 6, ∃ t : State, exec (.porstNAssert tiles) s = .next t ∧ t.ev.ring = [] ∧ t.ev.waiting = none ∧
      (∀ w : Fin 8, t.reg (EVT_PEND.addr w) = 0) ∧ t.reg EVT_STAT.addr = 0 ∧ t.get RING_EV_STAT.next_seq = 0) ∧
    (∃ t : State, exec .warmRstNAssert s = .next t ∧ t.ev.ring = [] ∧ t.ev.waiting = none ∧
      (∀ w : Fin 8, t.reg (EVT_PEND.addr w) = 0) ∧ t.reg EVT_STAT.addr = 0 ∧ t.get RING_EV_STAT.next_seq = 0) ∧
    ∃ u : State, exec .flr s = .next (u.raise Ev.flr 0 0) ∧ u.ev.ring = s.ev.ring ∧ u.ev.waiting = s.ev.waiting ∧
      (∀ w : Fin 8, u.reg (EVT_PEND.addr w) = s.reg (EVT_PEND.addr w)) ∧ u.reg EVT_STAT.addr = s.reg EVT_STAT.addr ∧
      u.get RING_EV_STAT.next_seq = s.get RING_EV_STAT.next_seq
end

