-- ==== Sys2Proof/Laws/Tab.lean ====
section
/-! SUPPORT. The laws of sparse tables: a read after a write, and that every write keeps the canonical form. -/

namespace Sys2Proof.Machine

variable {α : Type}

theorem tabGet_erase_ne (d : Nat → α) (m : List (Nat × α)) {k j : Nat} (h : j ≠ k) :
    tabGet d (tabErase m k) j = tabGet d m j := by
  induction m with
  | nil => rfl
  | cons p t ih =>
    obtain ⟨i, v⟩ := p
    by_cases hi : i = k
    · subst hi
      simp only [tabErase, if_true, tabGet, if_neg (Ne.symm h), ih]
    · simp only [tabErase, if_neg hi, tabGet, ih]

theorem tabGet_erase_self (d : Nat → α) (m : List (Nat × α)) (k : Nat) : tabGet d (tabErase m k) k = d k := by
  induction m with
  | nil => rfl
  | cons p t ih =>
    obtain ⟨i, v⟩ := p
    by_cases hi : i = k
    · simp only [tabErase, if_pos hi, ih]
    · simp only [tabErase, if_neg hi, tabGet, ih]

theorem tabGet_insert_ne (d : Nat → α) (m : List (Nat × α)) {k j : Nat} (v : α) (h : j ≠ k) :
    tabGet d (tabInsert m k v) j = tabGet d m j := by
  induction m with
  | nil => simp only [tabInsert, tabGet, if_neg (Ne.symm h)]
  | cons p t ih =>
    obtain ⟨i, w⟩ := p
    by_cases hi : k < i
    · simp only [tabInsert, if_pos hi]
      rw [tabGet, if_neg (Ne.symm h)]
    · simp only [tabInsert, if_neg hi, tabGet, ih]

/-- No entry of the table has key `k`. -/
def tabFree (m : List (Nat × α)) (k : Nat) : Prop := ∀ p ∈ m, p.1 ≠ k

theorem tabErase_free (m : List (Nat × α)) (k : Nat) : tabFree (tabErase m k) k := by
  induction m with
  | nil => intro p hp; cases hp
  | cons p t ih =>
    obtain ⟨i, v⟩ := p
    by_cases hi : i = k
    · simpa only [tabErase, if_pos hi] using ih
    · simp only [tabErase, if_neg hi]
      intro q hq
      cases hq with
      | head => exact hi
      | tail _ hq => exact ih q hq

theorem tabGet_insert_self (d : Nat → α) (m : List (Nat × α)) (k : Nat) (v : α) (h : tabFree m k) :
    tabGet d (tabInsert m k v) k = v := by
  induction m with
  | nil => simp only [tabInsert, tabGet, if_true]
  | cons p t ih =>
    obtain ⟨i, w⟩ := p
    have hik : i ≠ k := h (i, w) (List.Mem.head _)
    have ht : tabFree t k := fun q hq => h q (List.Mem.tail _ hq)
    by_cases hi : k < i
    · simp only [tabInsert, if_pos hi, tabGet, if_true]
    · simp only [tabInsert, if_neg hi, tabGet, if_neg hik, ih ht]

/-- A read of the key just written gives the value written. -/
@[simp] theorem tabGet_set_self [DecidableEq α] (d : Nat → α) (m : List (Nat × α)) (k : Nat) (v : α) :
    tabGet d (tabSet d m k v) k = v := by
  by_cases hv : v = d k
  · rw [tabSet, if_pos hv, tabGet_erase_self, hv]
  · rw [tabSet, if_neg hv, tabGet_insert_self d _ k v (tabErase_free m k)]

/-- A write leaves every other key alone. -/
theorem tabGet_set_ne [DecidableEq α] (d : Nat → α) (m : List (Nat × α)) {k j : Nat} (v : α) (h : j ≠ k) :
    tabGet d (tabSet d m k v) j = tabGet d m j := by
  by_cases hv : v = d k
  · rw [tabSet, if_pos hv, tabGet_erase_ne d m h]
  · rw [tabSet, if_neg hv, tabGet_insert_ne d _ v h, tabGet_erase_ne d m h]

theorem tabWfFrom_le [DecidableEq α] (d : Nat → α) (m : List (Nat × α)) {a b : Nat} (hab : a ≤ b)
    (h : tabWfFrom d b m = true) : tabWfFrom d a m = true := by
  cases m with
  | nil => rfl
  | cons p t =>
    obtain ⟨i, v⟩ := p
    simp only [tabWfFrom, Bool.and_eq_true, decide_eq_true_eq] at h ⊢
    exact ⟨⟨Nat.le_trans hab h.1.1, h.1.2⟩, h.2⟩

theorem tabErase_wf [DecidableEq α] (d : Nat → α) (m : List (Nat × α)) (k lo : Nat) (h : tabWfFrom d lo m = true) :
    tabWfFrom d lo (tabErase m k) = true := by
  induction m generalizing lo with
  | nil => rfl
  | cons p t ih =>
    obtain ⟨i, v⟩ := p
    simp only [tabWfFrom, Bool.and_eq_true, decide_eq_true_eq] at h
    by_cases hi : i = k
    · simp only [tabErase, if_pos hi]
      exact ih lo (tabWfFrom_le d t (Nat.le_succ_of_le h.1.1) h.2)
    · simp only [tabErase, if_neg hi, tabWfFrom, Bool.and_eq_true, decide_eq_true_eq]
      exact ⟨h.1, ih _ h.2⟩

theorem tabInsert_wf [DecidableEq α] (d : Nat → α) (m : List (Nat × α)) (k lo : Nat) (v : α) (hv : v ≠ d k)
    (hf : tabFree m k) (hlo : lo ≤ k) (h : tabWfFrom d lo m = true) :
    tabWfFrom d lo (tabInsert m k v) = true := by
  induction m generalizing lo with
  | nil => simp [tabInsert, tabWfFrom, hv, hlo]
  | cons p t ih =>
    obtain ⟨i, w⟩ := p
    have hik : i ≠ k := hf (i, w) (List.Mem.head _)
    have ht : tabFree t k := fun q hq => hf q (List.Mem.tail _ hq)
    simp only [tabWfFrom, Bool.and_eq_true, decide_eq_true_eq] at h
    by_cases hi : k < i
    · simp only [tabInsert, if_pos hi, tabWfFrom, Bool.and_eq_true, decide_eq_true_eq]
      exact ⟨⟨hlo, by simp [hv]⟩, ⟨hi, h.1.2⟩, h.2⟩
    · simp only [tabInsert, if_neg hi, tabWfFrom, Bool.and_eq_true, decide_eq_true_eq]
      exact ⟨h.1, ih (i + 1) ht (by omega) h.2⟩

/-- Every write keeps the canonical form. -/
theorem tabSet_wf [DecidableEq α] (d : Nat → α) (m : List (Nat × α)) (k : Nat) (v : α) (h : tabWf d m = true) :
    tabWf d (tabSet d m k v) = true := by
  unfold tabWf at *
  by_cases hv : v = d k
  · rw [tabSet, if_pos hv]; exact tabErase_wf d m k 0 h
  · rw [tabSet, if_neg hv]
    exact tabInsert_wf d _ k 0 v hv (tabErase_free m k) (Nat.zero_le k) (tabErase_wf d m k 0 h)

end Sys2Proof.Machine
end

