-- ==== Sys2Proof/Laws/State.lean ====
section
/-! SUPPORT. What the updates of State leave alone, field by field, and the laws of register fields: a read after a write, and
that a write leaves every other field alone. -/

namespace Sys2Proof.Machine

/-! ## One lemma per field per update -/

@[simp] theorem State.setReg_pending (s : State) (a : Nat) (v : BitVec 64) : (s.setReg a v).pending = s.pending := rfl
@[simp] theorem State.setReg_hub (s : State) (a : Nat) (v : BitVec 64) : (s.setReg a v).hub = s.hub := rfl
@[simp] theorem State.setReg_ev (s : State) (a : Nat) (v : BitVec 64) : (s.setReg a v).ev = s.ev := rfl
@[simp] theorem State.setReg_ports (s : State) (a : Nat) (v : BitVec 64) : (s.setReg a v).ports = s.ports := rfl
@[simp] theorem State.setReg_host (s : State) (a : Nat) (v : BitVec 64) : (s.setReg a v).host = s.host := rfl
@[simp] theorem State.setReg_time (s : State) (a : Nat) (v : BitVec 64) : (s.setReg a v).time = s.time := rfl
@[simp] theorem State.setReg_fire (s : State) (a : Nat) (v : BitVec 64) : (s.setReg a v).fire = s.fire := rfl
@[simp] theorem State.setReg_tiles (s : State) (a : Nat) (v : BitVec 64) : (s.setReg a v).tiles = s.tiles := rfl
@[simp] theorem State.setReg_hist (s : State) (a : Nat) (v : BitVec 64) : (s.setReg a v).hist = s.hist := rfl
@[simp] theorem State.setReg_echo (s : State) (a : Nat) (v : BitVec 64) : (s.setReg a v).echo = s.echo := rfl
@[simp] theorem State.setReg_saf (s : State) (a : Nat) (v : BitVec 64) : (s.setReg a v).saf = s.saf := rfl
@[simp] theorem State.setReg_snf (s : State) (a : Nat) (v : BitVec 64) : (s.setReg a v).snf = s.snf := rfl
@[simp] theorem State.setReg_boot (s : State) (a : Nat) (v : BitVec 64) : (s.setReg a v).boot = s.boot := rfl
@[simp] theorem State.setReg_twn (s : State) (a : Nat) (v : BitVec 64) : (s.setReg a v).twn = s.twn := rfl
@[simp] theorem State.setReg_fireTab (s : State) (a : Nat) (v : BitVec 64) : (s.setReg a v).fireTab = s.fireTab := rfl
@[simp] theorem State.setReg_ztStage (s : State) (a : Nat) (v : BitVec 64) : (s.setReg a v).ztStage = s.ztStage := rfl
@[simp] theorem State.setReg_devMem (s : State) (a : Nat) (v : BitVec 64) : (s.setReg a v).devMem = s.devMem := rfl
@[simp] theorem State.setReg_hostMem (s : State) (a : Nat) (v : BitVec 64) : (s.setReg a v).hostMem = s.hostMem := rfl
@[simp] theorem State.setReg_mem (s : State) (a : Nat) (v : BitVec 64) : (s.setReg a v).mem = s.mem := rfl
@[simp] theorem State.setReg_eth (s : State) (a : Nat) (v : BitVec 64) : (s.setReg a v).eth = s.eth := rfl
@[simp] theorem State.setReg_ind (s : State) (a : Nat) (v : BitVec 64) : (s.setReg a v).ind = s.ind := rfl
@[simp] theorem State.setReg_hk (s : State) (a : Nat) (v : BitVec 64) : (s.setReg a v).hk = s.hk := rfl
@[simp] theorem State.setReg_chm (s : State) (a : Nat) (v : BitVec 64) : (s.setReg a v).chm = s.chm := rfl
@[simp] theorem State.setReg_thm (s : State) (a : Nat) (v : BitVec 64) : (s.setReg a v).thm = s.thm := rfl
@[simp] theorem State.setReg_loops (s : State) (a : Nat) (v : BitVec 64) : (s.setReg a v).loops = s.loops := rfl
@[simp] theorem State.setReg_cal (s : State) (a : Nat) (v : BitVec 64) : (s.setReg a v).cal = s.cal := rfl
@[simp] theorem State.setReg_nor (s : State) (a : Nat) (v : BitVec 64) : (s.setReg a v).nor = s.nor := rfl
@[simp] theorem State.setReg_calStage (s : State) (a : Nat) (v : BitVec 64) : (s.setReg a v).calStage = s.calStage := rfl
@[simp] theorem State.setReg_out (s : State) (a : Nat) (v : BitVec 64) : (s.setReg a v).out = s.out := rfl
@[simp] theorem State.setReg_freeCtr (s : State) (a : Nat) (v : BitVec 64) : (s.setReg a v).freeCtr = s.freeCtr := rfl
@[simp] theorem State.put_pending (s : State) (f : FRef) (x : Nat) : (s.put f x).pending = s.pending := rfl
@[simp] theorem State.put_hub (s : State) (f : FRef) (x : Nat) : (s.put f x).hub = s.hub := rfl
@[simp] theorem State.put_ev (s : State) (f : FRef) (x : Nat) : (s.put f x).ev = s.ev := rfl
@[simp] theorem State.put_ports (s : State) (f : FRef) (x : Nat) : (s.put f x).ports = s.ports := rfl
@[simp] theorem State.put_host (s : State) (f : FRef) (x : Nat) : (s.put f x).host = s.host := rfl
@[simp] theorem State.put_time (s : State) (f : FRef) (x : Nat) : (s.put f x).time = s.time := rfl
@[simp] theorem State.put_fire (s : State) (f : FRef) (x : Nat) : (s.put f x).fire = s.fire := rfl
@[simp] theorem State.put_tiles (s : State) (f : FRef) (x : Nat) : (s.put f x).tiles = s.tiles := rfl
@[simp] theorem State.put_hist (s : State) (f : FRef) (x : Nat) : (s.put f x).hist = s.hist := rfl
@[simp] theorem State.put_echo (s : State) (f : FRef) (x : Nat) : (s.put f x).echo = s.echo := rfl
@[simp] theorem State.put_saf (s : State) (f : FRef) (x : Nat) : (s.put f x).saf = s.saf := rfl
@[simp] theorem State.put_snf (s : State) (f : FRef) (x : Nat) : (s.put f x).snf = s.snf := rfl
@[simp] theorem State.put_boot (s : State) (f : FRef) (x : Nat) : (s.put f x).boot = s.boot := rfl
@[simp] theorem State.put_twn (s : State) (f : FRef) (x : Nat) : (s.put f x).twn = s.twn := rfl
@[simp] theorem State.put_fireTab (s : State) (f : FRef) (x : Nat) : (s.put f x).fireTab = s.fireTab := rfl
@[simp] theorem State.put_ztStage (s : State) (f : FRef) (x : Nat) : (s.put f x).ztStage = s.ztStage := rfl
@[simp] theorem State.put_devMem (s : State) (f : FRef) (x : Nat) : (s.put f x).devMem = s.devMem := rfl
@[simp] theorem State.put_hostMem (s : State) (f : FRef) (x : Nat) : (s.put f x).hostMem = s.hostMem := rfl
@[simp] theorem State.put_mem (s : State) (f : FRef) (x : Nat) : (s.put f x).mem = s.mem := rfl
@[simp] theorem State.put_eth (s : State) (f : FRef) (x : Nat) : (s.put f x).eth = s.eth := rfl
@[simp] theorem State.put_ind (s : State) (f : FRef) (x : Nat) : (s.put f x).ind = s.ind := rfl
@[simp] theorem State.put_hk (s : State) (f : FRef) (x : Nat) : (s.put f x).hk = s.hk := rfl
@[simp] theorem State.put_chm (s : State) (f : FRef) (x : Nat) : (s.put f x).chm = s.chm := rfl
@[simp] theorem State.put_thm (s : State) (f : FRef) (x : Nat) : (s.put f x).thm = s.thm := rfl
@[simp] theorem State.put_loops (s : State) (f : FRef) (x : Nat) : (s.put f x).loops = s.loops := rfl
@[simp] theorem State.put_cal (s : State) (f : FRef) (x : Nat) : (s.put f x).cal = s.cal := rfl
@[simp] theorem State.put_nor (s : State) (f : FRef) (x : Nat) : (s.put f x).nor = s.nor := rfl
@[simp] theorem State.put_calStage (s : State) (f : FRef) (x : Nat) : (s.put f x).calStage = s.calStage := rfl
@[simp] theorem State.put_out (s : State) (f : FRef) (x : Nat) : (s.put f x).out = s.out := rfl
@[simp] theorem State.put_freeCtr (s : State) (f : FRef) (x : Nat) : (s.put f x).freeCtr = s.freeCtr := rfl
@[simp] theorem State.resetReg_pending (s : State) (a : Nat) : (s.resetReg a).pending = s.pending := rfl
@[simp] theorem State.resetReg_hub (s : State) (a : Nat) : (s.resetReg a).hub = s.hub := rfl
@[simp] theorem State.resetReg_ev (s : State) (a : Nat) : (s.resetReg a).ev = s.ev := rfl
@[simp] theorem State.resetReg_ports (s : State) (a : Nat) : (s.resetReg a).ports = s.ports := rfl
@[simp] theorem State.resetReg_host (s : State) (a : Nat) : (s.resetReg a).host = s.host := rfl
@[simp] theorem State.resetReg_time (s : State) (a : Nat) : (s.resetReg a).time = s.time := rfl
@[simp] theorem State.resetReg_fire (s : State) (a : Nat) : (s.resetReg a).fire = s.fire := rfl
@[simp] theorem State.resetReg_tiles (s : State) (a : Nat) : (s.resetReg a).tiles = s.tiles := rfl
@[simp] theorem State.resetReg_hist (s : State) (a : Nat) : (s.resetReg a).hist = s.hist := rfl
@[simp] theorem State.resetReg_echo (s : State) (a : Nat) : (s.resetReg a).echo = s.echo := rfl
@[simp] theorem State.resetReg_saf (s : State) (a : Nat) : (s.resetReg a).saf = s.saf := rfl
@[simp] theorem State.resetReg_snf (s : State) (a : Nat) : (s.resetReg a).snf = s.snf := rfl
@[simp] theorem State.resetReg_boot (s : State) (a : Nat) : (s.resetReg a).boot = s.boot := rfl
@[simp] theorem State.resetReg_twn (s : State) (a : Nat) : (s.resetReg a).twn = s.twn := rfl
@[simp] theorem State.resetReg_fireTab (s : State) (a : Nat) : (s.resetReg a).fireTab = s.fireTab := rfl
@[simp] theorem State.resetReg_ztStage (s : State) (a : Nat) : (s.resetReg a).ztStage = s.ztStage := rfl
@[simp] theorem State.resetReg_devMem (s : State) (a : Nat) : (s.resetReg a).devMem = s.devMem := rfl
@[simp] theorem State.resetReg_hostMem (s : State) (a : Nat) : (s.resetReg a).hostMem = s.hostMem := rfl
@[simp] theorem State.resetReg_mem (s : State) (a : Nat) : (s.resetReg a).mem = s.mem := rfl
@[simp] theorem State.resetReg_eth (s : State) (a : Nat) : (s.resetReg a).eth = s.eth := rfl
@[simp] theorem State.resetReg_ind (s : State) (a : Nat) : (s.resetReg a).ind = s.ind := rfl
@[simp] theorem State.resetReg_hk (s : State) (a : Nat) : (s.resetReg a).hk = s.hk := rfl
@[simp] theorem State.resetReg_chm (s : State) (a : Nat) : (s.resetReg a).chm = s.chm := rfl
@[simp] theorem State.resetReg_thm (s : State) (a : Nat) : (s.resetReg a).thm = s.thm := rfl
@[simp] theorem State.resetReg_loops (s : State) (a : Nat) : (s.resetReg a).loops = s.loops := rfl
@[simp] theorem State.resetReg_cal (s : State) (a : Nat) : (s.resetReg a).cal = s.cal := rfl
@[simp] theorem State.resetReg_nor (s : State) (a : Nat) : (s.resetReg a).nor = s.nor := rfl
@[simp] theorem State.resetReg_calStage (s : State) (a : Nat) : (s.resetReg a).calStage = s.calStage := rfl
@[simp] theorem State.resetReg_out (s : State) (a : Nat) : (s.resetReg a).out = s.out := rfl
@[simp] theorem State.resetReg_freeCtr (s : State) (a : Nat) : (s.resetReg a).freeCtr = s.freeCtr := rfl
@[simp] theorem State.resetRange_pending (s : State) (lo hi : Nat) : (s.resetRange lo hi).pending = s.pending := rfl
@[simp] theorem State.resetRange_hub (s : State) (lo hi : Nat) : (s.resetRange lo hi).hub = s.hub := rfl
@[simp] theorem State.resetRange_ev (s : State) (lo hi : Nat) : (s.resetRange lo hi).ev = s.ev := rfl
@[simp] theorem State.resetRange_ports (s : State) (lo hi : Nat) : (s.resetRange lo hi).ports = s.ports := rfl
@[simp] theorem State.resetRange_host (s : State) (lo hi : Nat) : (s.resetRange lo hi).host = s.host := rfl
@[simp] theorem State.resetRange_time (s : State) (lo hi : Nat) : (s.resetRange lo hi).time = s.time := rfl
@[simp] theorem State.resetRange_fire (s : State) (lo hi : Nat) : (s.resetRange lo hi).fire = s.fire := rfl
@[simp] theorem State.resetRange_tiles (s : State) (lo hi : Nat) : (s.resetRange lo hi).tiles = s.tiles := rfl
@[simp] theorem State.resetRange_hist (s : State) (lo hi : Nat) : (s.resetRange lo hi).hist = s.hist := rfl
@[simp] theorem State.resetRange_echo (s : State) (lo hi : Nat) : (s.resetRange lo hi).echo = s.echo := rfl
@[simp] theorem State.resetRange_saf (s : State) (lo hi : Nat) : (s.resetRange lo hi).saf = s.saf := rfl
@[simp] theorem State.resetRange_snf (s : State) (lo hi : Nat) : (s.resetRange lo hi).snf = s.snf := rfl
@[simp] theorem State.resetRange_boot (s : State) (lo hi : Nat) : (s.resetRange lo hi).boot = s.boot := rfl
@[simp] theorem State.resetRange_twn (s : State) (lo hi : Nat) : (s.resetRange lo hi).twn = s.twn := rfl
@[simp] theorem State.resetRange_fireTab (s : State) (lo hi : Nat) : (s.resetRange lo hi).fireTab = s.fireTab := rfl
@[simp] theorem State.resetRange_ztStage (s : State) (lo hi : Nat) : (s.resetRange lo hi).ztStage = s.ztStage := rfl
@[simp] theorem State.resetRange_devMem (s : State) (lo hi : Nat) : (s.resetRange lo hi).devMem = s.devMem := rfl
@[simp] theorem State.resetRange_hostMem (s : State) (lo hi : Nat) : (s.resetRange lo hi).hostMem = s.hostMem := rfl
@[simp] theorem State.resetRange_mem (s : State) (lo hi : Nat) : (s.resetRange lo hi).mem = s.mem := rfl
@[simp] theorem State.resetRange_eth (s : State) (lo hi : Nat) : (s.resetRange lo hi).eth = s.eth := rfl
@[simp] theorem State.resetRange_ind (s : State) (lo hi : Nat) : (s.resetRange lo hi).ind = s.ind := rfl
@[simp] theorem State.resetRange_hk (s : State) (lo hi : Nat) : (s.resetRange lo hi).hk = s.hk := rfl
@[simp] theorem State.resetRange_chm (s : State) (lo hi : Nat) : (s.resetRange lo hi).chm = s.chm := rfl
@[simp] theorem State.resetRange_thm (s : State) (lo hi : Nat) : (s.resetRange lo hi).thm = s.thm := rfl
@[simp] theorem State.resetRange_loops (s : State) (lo hi : Nat) : (s.resetRange lo hi).loops = s.loops := rfl
@[simp] theorem State.resetRange_cal (s : State) (lo hi : Nat) : (s.resetRange lo hi).cal = s.cal := rfl
@[simp] theorem State.resetRange_nor (s : State) (lo hi : Nat) : (s.resetRange lo hi).nor = s.nor := rfl
@[simp] theorem State.resetRange_calStage (s : State) (lo hi : Nat) : (s.resetRange lo hi).calStage = s.calStage := rfl
@[simp] theorem State.resetRange_out (s : State) (lo hi : Nat) : (s.resetRange lo hi).out = s.out := rfl
@[simp] theorem State.resetRange_freeCtr (s : State) (lo hi : Nat) : (s.resetRange lo hi).freeCtr = s.freeCtr := rfl
@[simp] theorem State.emit_pending (s : State) (m : Out) : (s.emit m).pending = s.pending := rfl
@[simp] theorem State.emit_regs (s : State) (m : Out) : (s.emit m).regs = s.regs := rfl
@[simp] theorem State.emit_hub (s : State) (m : Out) : (s.emit m).hub = s.hub := rfl
@[simp] theorem State.emit_ev (s : State) (m : Out) : (s.emit m).ev = s.ev := rfl
@[simp] theorem State.emit_ports (s : State) (m : Out) : (s.emit m).ports = s.ports := rfl
@[simp] theorem State.emit_host (s : State) (m : Out) : (s.emit m).host = s.host := rfl
@[simp] theorem State.emit_time (s : State) (m : Out) : (s.emit m).time = s.time := rfl
@[simp] theorem State.emit_fire (s : State) (m : Out) : (s.emit m).fire = s.fire := rfl
@[simp] theorem State.emit_tiles (s : State) (m : Out) : (s.emit m).tiles = s.tiles := rfl
@[simp] theorem State.emit_hist (s : State) (m : Out) : (s.emit m).hist = s.hist := rfl
@[simp] theorem State.emit_echo (s : State) (m : Out) : (s.emit m).echo = s.echo := rfl
@[simp] theorem State.emit_saf (s : State) (m : Out) : (s.emit m).saf = s.saf := rfl
@[simp] theorem State.emit_snf (s : State) (m : Out) : (s.emit m).snf = s.snf := rfl
@[simp] theorem State.emit_boot (s : State) (m : Out) : (s.emit m).boot = s.boot := rfl
@[simp] theorem State.emit_twn (s : State) (m : Out) : (s.emit m).twn = s.twn := rfl
@[simp] theorem State.emit_fireTab (s : State) (m : Out) : (s.emit m).fireTab = s.fireTab := rfl
@[simp] theorem State.emit_ztStage (s : State) (m : Out) : (s.emit m).ztStage = s.ztStage := rfl
@[simp] theorem State.emit_devMem (s : State) (m : Out) : (s.emit m).devMem = s.devMem := rfl
@[simp] theorem State.emit_hostMem (s : State) (m : Out) : (s.emit m).hostMem = s.hostMem := rfl
@[simp] theorem State.emit_mem (s : State) (m : Out) : (s.emit m).mem = s.mem := rfl
@[simp] theorem State.emit_eth (s : State) (m : Out) : (s.emit m).eth = s.eth := rfl
@[simp] theorem State.emit_ind (s : State) (m : Out) : (s.emit m).ind = s.ind := rfl
@[simp] theorem State.emit_hk (s : State) (m : Out) : (s.emit m).hk = s.hk := rfl
@[simp] theorem State.emit_chm (s : State) (m : Out) : (s.emit m).chm = s.chm := rfl
@[simp] theorem State.emit_thm (s : State) (m : Out) : (s.emit m).thm = s.thm := rfl
@[simp] theorem State.emit_loops (s : State) (m : Out) : (s.emit m).loops = s.loops := rfl
@[simp] theorem State.emit_cal (s : State) (m : Out) : (s.emit m).cal = s.cal := rfl
@[simp] theorem State.emit_nor (s : State) (m : Out) : (s.emit m).nor = s.nor := rfl
@[simp] theorem State.emit_calStage (s : State) (m : Out) : (s.emit m).calStage = s.calStage := rfl
@[simp] theorem State.emit_freeCtr (s : State) (m : Out) : (s.emit m).freeCtr = s.freeCtr := rfl
@[simp] theorem State.fresh_pending (s : State) : s.fresh.2.pending = s.pending := rfl
@[simp] theorem State.fresh_regs (s : State) : s.fresh.2.regs = s.regs := rfl
@[simp] theorem State.fresh_hub (s : State) : s.fresh.2.hub = s.hub := rfl
@[simp] theorem State.fresh_ev (s : State) : s.fresh.2.ev = s.ev := rfl
@[simp] theorem State.fresh_ports (s : State) : s.fresh.2.ports = s.ports := rfl
@[simp] theorem State.fresh_host (s : State) : s.fresh.2.host = s.host := rfl
@[simp] theorem State.fresh_time (s : State) : s.fresh.2.time = s.time := rfl
@[simp] theorem State.fresh_fire (s : State) : s.fresh.2.fire = s.fire := rfl
@[simp] theorem State.fresh_tiles (s : State) : s.fresh.2.tiles = s.tiles := rfl
@[simp] theorem State.fresh_hist (s : State) : s.fresh.2.hist = s.hist := rfl
@[simp] theorem State.fresh_echo (s : State) : s.fresh.2.echo = s.echo := rfl
@[simp] theorem State.fresh_saf (s : State) : s.fresh.2.saf = s.saf := rfl
@[simp] theorem State.fresh_snf (s : State) : s.fresh.2.snf = s.snf := rfl
@[simp] theorem State.fresh_boot (s : State) : s.fresh.2.boot = s.boot := rfl
@[simp] theorem State.fresh_twn (s : State) : s.fresh.2.twn = s.twn := rfl
@[simp] theorem State.fresh_fireTab (s : State) : s.fresh.2.fireTab = s.fireTab := rfl
@[simp] theorem State.fresh_ztStage (s : State) : s.fresh.2.ztStage = s.ztStage := rfl
@[simp] theorem State.fresh_devMem (s : State) : s.fresh.2.devMem = s.devMem := rfl
@[simp] theorem State.fresh_hostMem (s : State) : s.fresh.2.hostMem = s.hostMem := rfl
@[simp] theorem State.fresh_mem (s : State) : s.fresh.2.mem = s.mem := rfl
@[simp] theorem State.fresh_eth (s : State) : s.fresh.2.eth = s.eth := rfl
@[simp] theorem State.fresh_ind (s : State) : s.fresh.2.ind = s.ind := rfl
@[simp] theorem State.fresh_hk (s : State) : s.fresh.2.hk = s.hk := rfl
@[simp] theorem State.fresh_chm (s : State) : s.fresh.2.chm = s.chm := rfl
@[simp] theorem State.fresh_thm (s : State) : s.fresh.2.thm = s.thm := rfl
@[simp] theorem State.fresh_loops (s : State) : s.fresh.2.loops = s.loops := rfl
@[simp] theorem State.fresh_cal (s : State) : s.fresh.2.cal = s.cal := rfl
@[simp] theorem State.fresh_nor (s : State) : s.fresh.2.nor = s.nor := rfl
@[simp] theorem State.fresh_calStage (s : State) : s.fresh.2.calStage = s.calStage := rfl
@[simp] theorem State.fresh_out (s : State) : s.fresh.2.out = s.out := rfl

/-! ## Short forms of the register updates -/

@[simp] theorem State.setFlag_eq (s : State) (f : FRef) : s.setFlag f = s.put f 1 := rfl
@[simp] theorem State.clearFlag_eq (s : State) (f : FRef) : s.clearFlag f = s.put f 0 := rfl
@[simp] theorem State.incr_eq (s : State) (f : FRef) : s.incr f = s.put f (s.get f + 1) := rfl
@[simp] theorem State.bump_eq (s : State) (f : FRef) : s.bump f = s.put f (satAdd (2 ^ f.len - 1) (s.get f) 1) := rfl
@[simp] theorem State.when_true (s : State) (g : State → State) : s.when true g = g s := rfl
@[simp] theorem State.when_false (s : State) (g : State → State) : s.when false g = s := rfl
@[simp] theorem State.emit_reg (s : State) (m : Out) (a : Nat) : (s.emit m).reg a = s.reg a := rfl
@[simp] theorem State.emit_get (s : State) (m : Out) (f : FRef) : (s.emit m).get f = s.get f := rfl
@[simp] theorem State.fresh_reg (s : State) (a : Nat) : s.fresh.2.reg a = s.reg a := rfl
@[simp] theorem State.fresh_get (s : State) (f : FRef) : s.fresh.2.get f = s.get f := rfl

/-- A register reads the same in two states with the same register file. -/
theorem State.reg_congr {s t : State} (h : s.regs = t.regs) (a : Nat) : s.reg a = t.reg a := by
  unfold State.reg; rw [h]

/-- A field reads the same in two states with the same register file. -/
theorem State.get_congr {s t : State} (h : s.regs = t.regs) (f : FRef) : s.get f = t.get f := by
  unfold State.get; rw [State.reg_congr h]

/-! ## Registers -/

/-- A read of the register just written gives the value written. -/
@[simp] theorem State.reg_setReg_self (s : State) (a : Nat) (v : BitVec 64) : (s.setReg a v).reg a = v :=
  tabGet_set_self _ _ _ _

/-- A write leaves every other register alone. -/
theorem State.reg_setReg_ne (s : State) {a b : Nat} (v : BitVec 64) (h : b ≠ a) : (s.setReg a v).reg b = s.reg b :=
  tabGet_set_ne _ _ _ h

/-- A register that is reset reads its reset value. -/
@[simp] theorem State.reg_resetReg_self (s : State) (a : Nat) : (s.resetReg a).reg a = resetOf a :=
  tabGet_erase_self _ _ _

theorem State.reg_resetReg_ne (s : State) {a b : Nat} (h : b ≠ a) : (s.resetReg a).reg b = s.reg b :=
  tabGet_erase_ne _ _ h

/-! ## Fields -/

theorem withField_lt (v : BitVec 64) {lo len : Nat} (x : Nat) (h : lo + len ≤ 64) :
    v.toNat / 2 ^ (lo + len) * 2 ^ (lo + len) + x % 2 ^ len * 2 ^ lo + v.toNat % 2 ^ lo < 2 ^ 64 := by
  have hx : x % 2 ^ len < 2 ^ len := Nat.mod_lt _ (Nat.two_pow_pos len)
  have hm : v.toNat % 2 ^ lo < 2 ^ lo := Nat.mod_lt _ (Nat.two_pow_pos lo)
  have hq : v.toNat / 2 ^ (lo + len) < 2 ^ (64 - (lo + len)) := by
    rw [Nat.div_lt_iff_lt_mul (Nat.two_pow_pos _), ← Nat.pow_add]
    rw [show 64 - (lo + len) + (lo + len) = 64 by omega]; exact v.isLt
  have h1 : x % 2 ^ len * 2 ^ lo + 2 ^ lo ≤ 2 ^ (lo + len) := by
    have := Nat.mul_le_mul_right (2 ^ lo) (Nat.succ_le_of_lt hx)
    rw [Nat.succ_mul, ← Nat.pow_add, Nat.add_comm len lo] at this; exact this
  have h2 : v.toNat / 2 ^ (lo + len) * 2 ^ (lo + len) + 2 ^ (lo + len) ≤ 2 ^ 64 := by
    have := Nat.mul_le_mul_right (2 ^ (lo + len)) (Nat.succ_le_of_lt hq)
    rw [Nat.succ_mul, ← Nat.pow_add, show 64 - (lo + len) + (lo + len) = 64 by omega] at this; exact this
  omega

/-- The bits of a word after one of its fields has been replaced. -/
theorem withField_testBit (v : BitVec 64) {lo len : Nat} (x j : Nat) (h : lo + len ≤ 64) :
    (withField v lo len x).toNat.testBit j =
      if j < lo then v.toNat.testBit j else if j < lo + len then x.testBit (j - lo) else v.toNat.testBit j := by
  have hm : v.toNat % 2 ^ lo < 2 ^ lo := Nat.mod_lt _ (Nat.two_pow_pos lo)
  have hx : x % 2 ^ len < 2 ^ len := Nat.mod_lt _ (Nat.two_pow_pos len)
  rw [withField, BitVec.toNat_ofNat, Nat.mod_eq_of_lt (withField_lt v x h)]
  have e : v.toNat / 2 ^ (lo + len) * 2 ^ (lo + len) + x % 2 ^ len * 2 ^ lo + v.toNat % 2 ^ lo =
      2 ^ lo * (2 ^ len * (v.toNat / 2 ^ (lo + len)) + x % 2 ^ len) + v.toNat % 2 ^ lo := by
    rw [Nat.mul_add, ← Nat.mul_assoc, ← Nat.pow_add]
    rw [Nat.mul_comm (2 ^ lo) (x % 2 ^ len), Nat.mul_comm (2 ^ (lo + len))]
  rw [e, Nat.testBit_two_pow_mul_add _ hm, Nat.testBit_two_pow_mul_add _ hx]
  by_cases h1 : j < lo
  · simp [h1, Nat.testBit_mod_two_pow]
  · rw [if_neg h1, if_neg h1]
    by_cases h2 : j < lo + len
    · rw [if_pos h2, if_pos (by omega), Nat.testBit_mod_two_pow]
      simp [show j - lo < len by omega]
    · rw [if_neg h2, if_neg (by omega), Nat.testBit_div_two_pow]
      rw [show j - lo - len + (lo + len) = j by omega]

theorem fieldOf_testBit (v : BitVec 64) (lo len j : Nat) :
    (fieldOf v lo len).testBit j = (decide (j < len) && v.toNat.testBit (lo + j)) := by
  rw [fieldOf, Nat.testBit_mod_two_pow, Nat.testBit_div_two_pow, Nat.add_comm]

theorem fieldOf_withField_self (v : BitVec 64) {lo len : Nat} (x : Nat) (h : lo + len ≤ 64) :
    fieldOf (withField v lo len x) lo len = x % 2 ^ len := by
  apply Nat.eq_of_testBit_eq; intro j
  rw [fieldOf_testBit, withField_testBit _ _ _ h, Nat.testBit_mod_two_pow]
  by_cases hj : j < len
  · rw [if_neg (by omega), if_pos (by omega), Nat.add_sub_cancel_left]
  · simp [hj]

theorem fieldOf_withField_disjoint (v : BitVec 64) {lo len l2 n2 : Nat} (x : Nat) (h : lo + len ≤ 64)
    (hd : l2 + n2 ≤ lo ∨ lo + len ≤ l2) : fieldOf (withField v lo len x) l2 n2 = fieldOf v l2 n2 := by
  apply Nat.eq_of_testBit_eq; intro j
  rw [fieldOf_testBit, fieldOf_testBit, withField_testBit _ _ _ h]
  by_cases hj : j < n2
  · by_cases h1 : l2 + j < lo
    · simp [h1]
    · rw [if_neg h1, if_neg (by omega)]
  · simp [hj]

/-- A read of the field just written gives the value written, cut to the field. -/
theorem State.get_put_self (s : State) (f : FRef) (x : Nat) (h : f.lo + f.len ≤ 64) :
    (s.put f x).get f = x % 2 ^ f.len := by
  rw [State.get, State.put, State.reg_setReg_self, fieldOf_withField_self _ _ h]

/-- A write leaves the fields of other registers alone. -/
theorem State.get_put_addr (s : State) (f g : FRef) (x : Nat) (h : g.addr ≠ f.addr) : (s.put f x).get g = s.get g := by
  rw [State.get, State.put, State.reg_setReg_ne _ _ h, State.get]

/-- A write leaves the other fields of its register alone. -/
theorem State.get_put_bits (s : State) (f g : FRef) (x : Nat) (h : f.lo + f.len ≤ 64)
    (hd : g.lo + g.len ≤ f.lo ∨ f.lo + f.len ≤ g.lo) : (s.put f x).get g = s.get g := by
  by_cases ha : g.addr = f.addr
  · rw [State.get, State.put, ha, State.reg_setReg_self, fieldOf_withField_disjoint _ _ h hd, State.get, ha]
  · exact State.get_put_addr s f g x ha

/-- A write of a field leaves every other register alone. -/
theorem State.reg_put_ne (s : State) (f : FRef) (x : Nat) {a : Nat} (h : a ≠ f.addr) : (s.put f x).reg a = s.reg a :=
  State.reg_setReg_ne s _ h

/-- Every bit outside the field stays. -/
theorem State.put_testBit (s : State) (f : FRef) (x j : Nat) (h : f.lo + f.len ≤ 64) (hj : j < f.lo ∨ f.lo + f.len ≤ j) :
    ((s.put f x).reg f.addr).toNat.testBit j = (s.reg f.addr).toNat.testBit j := by
  rw [State.put, State.reg_setReg_self, withField_testBit _ _ _ h]
  by_cases h1 : j < f.lo
  · rw [if_pos h1]
  · rw [if_neg h1, if_neg (by omega)]

/-! ## The canonical form of the register file -/

theorem tabWf_filter {α : Type} [DecidableEq α] (d : Nat → α) (p : Nat × α → Bool) (m : List (Nat × α)) (lo : Nat)
    (h : tabWfFrom d lo m = true) : tabWfFrom d lo (m.filter p) = true := by
  induction m generalizing lo with
  | nil => rfl
  | cons q t ih =>
    obtain ⟨i, v⟩ := q
    simp only [tabWfFrom, Bool.and_eq_true, decide_eq_true_eq] at h
    by_cases hp : p (i, v) = true
    · rw [List.filter_cons_of_pos hp]
      simp only [tabWfFrom, Bool.and_eq_true, decide_eq_true_eq]
      exact ⟨h.1, ih _ h.2⟩
    · rw [List.filter_cons_of_neg hp]
      exact ih lo (tabWfFrom_le d t (Nat.le_succ_of_le h.1.1) h.2)

end Sys2Proof.Machine
end

