-- ==== Sys2Proof/Laws/Canon.lean ====
section
/-! SUPPORT. What keeps the canonical form of the tables and memories. -/

namespace Sys2Proof.Machine

/-- Whatever else a state holds, its canonical form is that of the tables. -/
theorem mk_canon {s : State} (h : s.Canon) {p x1 x2 x3 x4 x5 x6 x7 x8 x9 x10 x11 x12 x13 m1 x15 x16 x17 x18 x19 x20 x21 o k} :
    State.Canon ⟨p, s.regs, x1, x2, x3, x4, x5, x6, x7, x8, x9, x10, x11, x12, x13, s.fireTab, s.ztStage, s.devMem, s.hostMem,
      m1, x15, x16, x17, x18, x19, x20, x21, s.nor, s.calStage, o, k⟩ :=
  ⟨h.regs, h.fireTab, h.ztStage, h.devMem, h.hostMem, h.nor, h.calStage⟩

/-- A state whose memories are each in canonical form, with the register file of one that is. -/
theorem mk_mem_canon {s : State} (h : s.Canon) {p x1 x2 x3 x4 x5 x6 x7 x8 x9 x10 x11 x12 x13 f z d hm m1 x15 x16 x17 x18 x19 x20
    x21 n c o k} (hf : Memory.wf f = true) (hz : Memory.wf z = true) (hd : Memory.wf d = true) (hh : Memory.wf hm = true)
    (hn : Memory.wf n = true) (hc : Memory.wf c = true) :
    State.Canon ⟨p, s.regs, x1, x2, x3, x4, x5, x6, x7, x8, x9, x10, x11, x12, x13, f, z, d, hm, m1, x15, x16, x17, x18, x19, x20,
      x21, n, c, o, k⟩ :=
  ⟨h.regs, hf, hz, hd, hh, hn, hc⟩

/-- Bytes stored keep a memory's canonical form. -/
theorem memStore_wf {m : List Host.Cell} {a : Nat} {l : List Byte} (h : Memory.wf m = true) : Memory.wf (memStore m a l) = true := by
  induction l generalizing m a with
  | nil => exact h
  | cons b l ih => exact ih (tabSet_wf byteDefault m a b h)

/-- Bytes taken out keep a memory's canonical form. -/
theorem filter_wf {m : List Host.Cell} {f : Host.Cell → Bool} (h : Memory.wf m = true) : Memory.wf (m.filter f) = true :=
  tabWf_filter _ _ _ _ h

theorem ite_canon {c : Prop} [Decidable c] {a b : State} (ha : a.Canon) (hb : b.Canon) : (if c then a else b).Canon := by
  split <;> assumption

theorem foldl_canon {α : Type} {g : State → α → State} {l : List α} {s : State} (hg : ∀ s a, State.Canon s → (g s a).Canon)
    (h : s.Canon) : (l.foldl g s).Canon := by
  induction l generalizing s with
  | nil => exact h
  | cons a l ih => exact ih (hg s a h)

theorem foldl_snd_canon {α β : Type} {g : β × State → α → β × State} {l : List α} {x : β × State}
    (hg : ∀ x a, State.Canon x.2 → State.Canon (g x a).2) (h : x.2.Canon) : (l.foldl g x).2.Canon := by
  induction l generalizing x with
  | nil => exact h
  | cons a l ih => exact ih (hg x a h)

end Sys2Proof.Machine
end

