-- ==== Sys2Proof/Laws/Canon/Ops.lean ====
section
/-! SUPPORT. Every operation of Machine/Ops.lean keeps the canonical form of the tables and memories. -/

namespace Sys2Proof.Machine

theorem State.setReg_canon (s : State) (a : Nat) (v : BitVec 64) (h_s : s.Canon) :
    (State.setReg s a v).Canon := ⟨tabSet_wf _ _ _ _ h_s.regs, h_s.fireTab, h_s.ztStage, h_s.devMem, h_s.hostMem, h_s.nor, h_s.calStage⟩

theorem State.put_canon (s : State) (f : FRef) (x : Nat) (h_s : s.Canon) :
    (State.put s f x).Canon := by
  unfold State.put
  with_reducible repeat'
    (first | assumption | apply State.setReg_canon)

theorem State.bump_canon (s : State) (f : FRef) (h_s : s.Canon) :
    (State.bump s f).Canon := by
  unfold State.bump
  with_reducible repeat'
    (first | assumption | apply State.put_canon)

theorem State.incr_canon (s : State) (f : FRef) (h_s : s.Canon) :
    (State.incr s f).Canon := by
  unfold State.incr
  with_reducible repeat'
    (first | assumption | apply State.put_canon)

theorem State.resetReg_canon (s : State) (a : Nat) (h_s : s.Canon) :
    (State.resetReg s a).Canon := ⟨tabErase_wf _ _ _ _ h_s.regs, h_s.fireTab, h_s.ztStage, h_s.devMem, h_s.hostMem, h_s.nor, h_s.calStage⟩

theorem State.resetRange_canon (s : State) (lo hi : Nat) (h_s : s.Canon) :
    (State.resetRange s lo hi).Canon := ⟨tabWf_filter _ _ _ _ h_s.regs, h_s.fireTab, h_s.ztStage, h_s.devMem, h_s.hostMem, h_s.nor, h_s.calStage⟩

theorem State.emit_canon (s : State) (m : Out) (h_s : s.Canon) :
    (State.emit s m).Canon := by
  unfold State.emit
  with_reducible repeat'
    (first | assumption | (apply mk_canon; assumption))

theorem State.fresh_canon (s : State) (h_s : s.Canon) :
    (State.fresh s).2.Canon := by
  unfold State.fresh
  with_reducible repeat'
    (first | assumption | (apply mk_canon; assumption))

theorem State.setFlag_canon (s : State) (f : FRef) (h_s : s.Canon) :
    (State.setFlag s f).Canon := by
  unfold State.setFlag
  with_reducible repeat'
    (first | assumption | apply State.put_canon)

theorem State.clearFlag_canon (s : State) (f : FRef) (h_s : s.Canon) :
    (State.clearFlag s f).Canon := by
  unfold State.clearFlag
  with_reducible repeat'
    (first | assumption | apply State.put_canon)

theorem State.when_canon (s : State) (c : Bool) (g : State → State) (h_s : s.Canon) (h_g : ∀ s : State, s.Canon → (g s).Canon) :
    (State.when s c g).Canon := by
  unfold State.when; split
  · exact h_g s h_s
  · exact h_s

end Sys2Proof.Machine
end

