-- ==== Sys2Proof/Laws/Canon/Events.lean ====
section
/-! SUPPORT. Every operation of Machine/Events.lean keeps the canonical form of the tables and memories. -/

namespace Sys2Proof.Machine

theorem State.evLevel_canon (s : State) (e : EvSt) (h_s : s.Canon) :
    (State.evLevel s e).Canon := by
  unfold State.evLevel
  with_reducible repeat'
    (first | assumption | apply State.put_canon | refine ite_canon ?_ ?_ | (apply mk_canon; assumption)
           | (show State.Canon sv; unfold sv) | (intro sv; refine (fun (hv : State.Canon sv) => ?_) ?_) | (intro sv)
           | (lift_lets))

theorem State.evLost_canon (s : State) (h_s : s.Canon) :
    (State.evLost s).Canon := by
  unfold State.evLost
  with_reducible repeat'
    (first | assumption | apply State.put_canon | apply State.bump_canon)

theorem State.evInsert_canon (s : State) (r : EvRec) (vector : Nat) (ovf : Bool) (h_s : s.Canon) :
    (State.evInsert s r vector ovf).Canon := by
  unfold State.evInsert
  with_reducible repeat'
    (first | assumption | apply State.emit_canon | apply State.evLevel_canon | apply State.evLost_canon
           | refine ite_canon ?_ ?_ | (apply mk_canon; assumption) | (show State.Canon sv; unfold sv)
           | (intro sv; refine (fun (hv : State.Canon sv) => ?_) ?_) | (intro sv) | (lift_lets) | (split))

theorem State.raiseOne_canon (s : State) (src info0 info1 : Nat) (ovf : Bool) (h_s : s.Canon) :
    (State.raiseOne s src info0 info1 ovf).Canon := by
  unfold State.raiseOne
  with_reducible repeat'
    (first | assumption | apply State.setReg_canon | apply State.put_canon | apply State.evInsert_canon
           | refine ite_canon ?_ ?_
           | (apply mk_canon; first | assumption | apply State.setReg_canon | apply State.put_canon | apply State.evInsert_canon)
           | (show State.Canon sv; unfold sv) | (show State.Canon sv.2; unfold sv) | (show State.Canon sv.st; unfold sv)
           | (show State.Canon sv.2.2; unfold sv) | (intro sv; refine (fun (hv : State.Canon sv) => ?_) ?_)
           | (intro sv; refine (fun (hv : State.Canon sv.2) => ?_) ?_)
           | (intro sv; refine (fun (hv : State.Canon sv.st) => ?_) ?_)
           | (intro sv; refine (fun (hv : State.Canon sv.2.2) => ?_) ?_) | (intro sv) | (lift_lets) | (split)
           | (dsimp -zeta only))

theorem State.raiseOverflow_canon (s : State) (h_s : s.Canon) :
    (State.raiseOverflow s).Canon := by
  unfold State.raiseOverflow
  with_reducible repeat'
    (first | assumption | apply State.raiseOne_canon | refine ite_canon ?_ ?_ | (apply mk_canon; assumption))

theorem State.raiseWatermark_canon (s : State) (h_s : s.Canon) :
    (State.raiseWatermark s).Canon := by
  unfold State.raiseWatermark
  with_reducible repeat'
    (first | assumption | apply State.raiseOne_canon | refine ite_canon ?_ ?_ | (apply mk_canon; assumption))

theorem State.raise_canon (s : State) (src info0 info1 : Nat) (h_s : s.Canon) :
    (State.raise s src info0 info1).Canon := by
  unfold State.raise
  with_reducible repeat'
    (first | assumption | apply State.raiseOne_canon | apply State.raiseOverflow_canon | apply State.raiseWatermark_canon)

theorem State.raiseInst_canon (s : State) (src inst : Nat) (h_s : s.Canon) :
    (State.raiseInst s src inst).Canon := by
  unfold State.raiseInst
  with_reducible repeat'
    (first | assumption | apply State.raise_canon)

theorem State.raiseIf_canon (s : State) (c : Bool) (src info0 : Nat) (h_s : s.Canon) :
    (State.raiseIf s c src info0).Canon := by
  unfold State.raiseIf
  with_reducible repeat'
    (first | assumption | apply State.raise_canon | refine ite_canon ?_ ?_)

theorem State.evPop_canon (s : State) (p : Port) (h_s : s.Canon) :
    (State.evPop s p).Canon := by
  unfold State.evPop
  with_reducible repeat'
    (first | assumption | apply State.evLevel_canon | (apply mk_canon; assumption) | (split))

theorem State.claim_canon (s : State) (i who t : Nat) (h_s : s.Canon) :
    (State.claim s i who t).Canon := by
  unfold State.claim
  with_reducible repeat'
    (first | assumption | apply State.put_canon | apply State.raise_canon | refine ite_canon ?_ ?_
           | (show State.Canon sv; unfold sv) | (intro sv; refine (fun (hv : State.Canon sv) => ?_) ?_) | (intro sv)
           | (lift_lets))

theorem State.unclaim_canon (s : State) (i who : Nat) (h_s : s.Canon) :
    (State.unclaim s i who).Canon := by
  unfold State.unclaim
  with_reducible repeat'
    (first | assumption | apply State.put_canon | refine ite_canon ?_ ?_)

end Sys2Proof.Machine
end

