-- ==== Sys2Proof/Laws/Canon/Fabric.lean ====
section
/-! SUPPORT. Every operation of Machine/Fabric.lean keeps the canonical form of the tables and memories. -/

namespace Sys2Proof.Machine

theorem State.viaPort_canon (s : State) (p : Port) (g : State → State) (h_s : s.Canon) (h_g : ∀ s : State, s.Canon → (g s).Canon) :
    (State.viaPort s p g).Canon := by
  unfold State.viaPort
  with_reducible repeat'
    (first | assumption | apply h_g | refine ite_canon ?_ ?_)

theorem State.w256Log_canon (s : State) (r : W256Report) (syn : BitVec 16) (flags : Nat) (h_s : s.Canon) :
    (State.w256Log s r syn flags).Canon := by
  unfold State.w256Log
  with_reducible repeat'
    (first | assumption | apply State.put_canon | apply State.setFlag_canon | refine State.when_canon _ _ _ ?_ (fun s h => ?_)
           | (apply mk_canon; assumption) | (show State.Canon sv; unfold sv)
           | (intro sv; refine (fun (hv : State.Canon sv) => ?_) ?_) | (intro sv) | (lift_lets))

theorem State.w256Event_canon (s : State) (r : W256Report) (correctable : Bool) (h_s : s.Canon) :
    (State.w256Event s r correctable).Canon := by
  unfold State.w256Event
  with_reducible repeat'
    (first | assumption | apply State.raise_canon | apply State.raiseInst_canon | refine ite_canon ?_ ?_
           | (apply mk_canon; assumption) | (show State.Canon sv; unfold sv)
           | (intro sv; refine (fun (hv : State.Canon sv) => ?_) ?_) | (intro sv) | (lift_lets) | (split))

theorem State.w256_canon (s : State) (r : W256Report) (e : Ecc) (h_s : s.Canon) :
    (State.w256 s r e).Canon := by
  unfold State.w256
  with_reducible repeat'
    (first | assumption | apply State.bump_canon | apply State.w256Log_canon | apply State.w256Event_canon
           | refine ite_canon ?_ ?_ | (apply mk_canon; assumption) | (show State.Canon sv; unfold sv)
           | (intro sv; refine (fun (hv : State.Canon sv) => ?_) ?_) | (intro sv) | (lift_lets) | (split))

theorem State.w256Write_canon (s : State) (loc : W256Loc) (a : Nat) (h_s : s.Canon) :
    (State.w256Write s loc a).Canon := by
  unfold State.w256Write
  with_reducible repeat'
    (first | assumption | apply State.clearFlag_canon | refine ite_canon ?_ ?_ | (apply mk_canon; assumption)
           | (show State.Canon sv; unfold sv) | (intro sv; refine (fun (hv : State.Canon sv) => ?_) ?_) | (intro sv)
           | (lift_lets))

theorem State.w256Writeback_canon (s : State) (loc : W256Loc) (a : Nat) (e : Ecc) (h_s : s.Canon) :
    (State.w256Writeback s loc a e).Canon := by
  unfold State.w256Writeback
  with_reducible repeat'
    (first | assumption | refine ite_canon ?_ ?_ | (apply mk_canon; assumption) | (split))

theorem State.w256Read_canon (s : State) (r : W256Report) (e : Ecc) (h_s : s.Canon) :
    (State.w256Read s r e).2.Canon := by
  unfold State.w256Read
  with_reducible repeat'
    (first | assumption | apply State.w256_canon | apply State.w256Writeback_canon | (show State.Canon sv; unfold sv)
           | (intro sv; refine (fun (hv : State.Canon sv) => ?_) ?_) | (intro sv) | (lift_lets))

theorem State.hubScan_canon (s : State) (port tag a n : Nat) (h_s : s.Canon) :
    (State.hubScan s port tag a n).Canon := by
  unfold State.hubScan
  with_reducible repeat'
    (first | assumption | apply State.w256Read_canon | refine foldl_canon (fun s a h => ?_) ?_)

theorem State.hubWrite_canon (s : State) (a n : Nat) (h_s : s.Canon) :
    (State.hubWrite s a n).Canon := by
  unfold State.hubWrite
  with_reducible repeat'
    (first | assumption | apply State.w256Write_canon | refine foldl_canon (fun s a h => ?_) ?_)

theorem State.tagTakeAs_canon (s : State) (c : Nat) (tg : Target) (port inst : Nat) (h_s : s.Canon) :
    (State.tagTakeAs s c tg port inst).Canon := by
  unfold State.tagTakeAs
  with_reducible repeat'
    (first | assumption | apply State.put_canon | (apply mk_canon; assumption) | (show State.Canon sv; unfold sv)
           | (intro sv; refine (fun (hv : State.Canon sv) => ?_) ?_) | (intro sv) | (lift_lets))

theorem State.tagTake_canon (s : State) (c : Nat) (tg : Target) (port : Nat) (h_s : s.Canon) :
    (State.tagTake s c tg port).Canon := by
  unfold State.tagTake
  with_reducible repeat'
    (first | assumption | apply State.tagTakeAs_canon | (apply mk_canon; assumption) | (show State.Canon sv; unfold sv)
           | (intro sv; refine (fun (hv : State.Canon sv) => ?_) ?_) | (intro sv) | (lift_lets))

theorem State.tagWait_canon (s : State) (c : Nat) (h_s : s.Canon) :
    (State.tagWait s c).Canon := by
  unfold State.tagWait
  with_reducible repeat'
    (first | assumption | apply State.setFlag_canon | apply State.raiseIf_canon | (show State.Canon sv; unfold sv)
           | (intro sv; refine (fun (hv : State.Canon sv) => ?_) ?_) | (intro sv) | (lift_lets))

theorem State.tagRelease_canon (s : State) (i : Nat) (h_s : s.Canon) :
    (State.tagRelease s i).Canon := by
  unfold State.tagRelease
  with_reducible repeat'
    (first | assumption | apply State.put_canon | (apply mk_canon; assumption) | (show State.Canon sv; unfold sv)
           | (intro sv; refine (fun (hv : State.Canon sv) => ?_) ?_) | (intro sv) | (lift_lets) | (split))

theorem State.tagPulse_canon (s : State) (c : Nat) (h_s : s.Canon) :
    (State.tagPulse s c).Canon := by
  unfold State.tagPulse
  with_reducible repeat'
    (first | assumption | apply State.put_canon)

theorem State.withTag_canon (s : State) (c : Nat) (g : State → State) (h_s : s.Canon) (h_g : ∀ s : State, s.Canon → (g s).Canon) :
    (State.withTag s c g).Canon := by
  unfold State.withTag
  with_reducible repeat'
    (first | assumption | apply h_g | apply State.tagWait_canon | apply State.tagPulse_canon | refine ite_canon ?_ ?_)

theorem State.failOps_canon (s : State) (sel : Op → Bool) (h_s : s.Canon) :
    (State.failOps s sel).Canon := by
  unfold State.failOps
  with_reducible repeat'
    (first | assumption | apply State.emit_canon | apply State.tagRelease_canon | refine foldl_canon (fun s a h => ?_) ?_)

end Sys2Proof.Machine
end

