-- ==== Sys2Proof/Laws/Canon/TileOps.lean ====
section
/-! SUPPORT. Every operation of Machine/TileOps.lean keeps the canonical form of the tables and memories. -/

namespace Sys2Proof.Machine

theorem State.setTile_canon (s : State) (t : Nat) (x : TileSt) (h_s : s.Canon) :
    (State.setTile s t x).Canon := by
  unfold State.setTile
  with_reducible repeat'
    (first | assumption | (apply mk_canon; assumption))

theorem State.setChan_canon (s : State) (t c : Nat) (y : ChanSt) (h_s : s.Canon) :
    (State.setChan s t c y).Canon := by
  unfold State.setChan
  with_reducible repeat'
    (first | assumption | apply State.setTile_canon)

theorem State.setBitAt_canon (s : State) (base i : Nat) (b : Bool) (h_s : s.Canon) :
    (State.setBitAt s base i b).Canon := by
  unfold State.setBitAt
  with_reducible repeat'
    (first | assumption | apply State.setReg_canon | (show State.Canon sv; unfold sv)
           | (intro sv; refine (fun (hv : State.Canon sv) => ?_) ?_) | (intro sv) | (lift_lets))

theorem State.repairExhausted_canon (s : State) (t : Nat) (h_s : s.Canon) :
    (State.repairExhausted s t).Canon := by
  unfold State.repairExhausted
  with_reducible repeat'
    (first | assumption | apply State.setFlag_canon | apply State.raiseInst_canon | refine ite_canon ?_ ?_)

theorem State.markRow_canon (s : State) (t row : Nat) (h_s : s.Canon) :
    (State.markRow s t row).Canon := by
  unfold State.markRow
  with_reducible repeat'
    (first | assumption | refine State.when_canon _ _ _ ?_ (fun s h => ?_) | apply State.setTile_canon
           | apply State.repairExhausted_canon | refine ite_canon ?_ ?_ | (apply mk_canon; assumption)
           | (show State.Canon sv; unfold sv) | (intro sv; refine (fun (hv : State.Canon sv) => ?_) ?_) | (intro sv)
           | (lift_lets))

theorem State.sramRead_canon (s : State) (t word port tag : Nat) (e : Ecc) (h_s : s.Canon) :
    (State.sramRead s t word port tag e).2.Canon := by
  unfold State.sramRead
  with_reducible repeat'
    (first | assumption | apply State.setFlag_canon | refine State.when_canon _ _ _ ?_ (fun s h => ?_)
           | apply State.w256Read_canon | apply State.setTile_canon | apply State.markRow_canon | (apply mk_canon; assumption)
           | (show State.Canon sv; unfold sv) | (intro sv; refine (fun (hv : State.Canon sv) => ?_) ?_) | (intro sv)
           | (lift_lets) | (split))

theorem State.dropChan_canon (s : State) (t c id reason : Nat) (h_s : s.Canon) :
    (State.dropChan s t c id reason).Canon := by
  unfold State.dropChan
  with_reducible repeat'
    (first | assumption | apply State.bump_canon | apply State.raiseIf_canon | apply State.setTile_canon
           | apply State.setChan_canon | refine ite_canon ?_ ?_ | (apply mk_canon; assumption)
           | (show State.Canon sv; unfold sv) | (intro sv; refine (fun (hv : State.Canon sv) => ?_) ?_) | (intro sv)
           | (lift_lets) | (split))

theorem State.onRecord_canon (s : State) (t c id : Nat) (g : ChanRec → ChanRec) (h_s : s.Canon) :
    (State.onRecord s t c id g).Canon := by
  unfold State.onRecord
  with_reducible repeat'
    (first | assumption | apply State.setTile_canon | refine ite_canon ?_ ?_ | (apply mk_canon; assumption)
           | (show State.Canon sv; unfold sv) | (intro sv; refine (fun (hv : State.Canon sv) => ?_) ?_) | (intro sv)
           | (lift_lets))

theorem State.dropSealed_canon (s : State) (t c id reason : Nat) (h_s : s.Canon) :
    (State.dropSealed s t c id reason).Canon := by
  unfold State.dropSealed
  with_reducible repeat'
    (first | assumption | apply State.bump_canon | apply State.raiseIf_canon | apply State.setTile_canon
           | apply State.onRecord_canon | refine ite_canon ?_ ?_ | (apply mk_canon; assumption)
           | (show State.Canon sv; unfold sv) | (intro sv; refine (fun (hv : State.Canon sv) => ?_) ?_) | (intro sv)
           | (lift_lets) | (split))

theorem State.dropBuf_canon (s : State) (t c i : Nat) (h_s : s.Canon) :
    (State.dropBuf s t c i).Canon := by
  unfold State.dropBuf
  with_reducible repeat'
    (first | assumption | apply State.dropChan_canon | apply State.dropSealed_canon | refine ite_canon ?_ ?_
           | (apply mk_canon; assumption) | (show State.Canon sv; unfold sv)
           | (intro sv; refine (fun (hv : State.Canon sv) => ?_) ?_) | (intro sv) | (lift_lets) | (split))

theorem State.bufCorrected_canon (s : State) (t c i : Nat) (h_s : s.Canon) :
    (State.bufCorrected s t c i).Canon := by
  unfold State.bufCorrected
  with_reducible repeat'
    (first | assumption | apply State.setChan_canon | apply State.onRecord_canon | refine ite_canon ?_ ?_
           | (apply mk_canon; assumption) | (show State.Canon sv; unfold sv)
           | (intro sv; refine (fun (hv : State.Canon sv) => ?_) ?_) | (intro sv) | (lift_lets) | (split))

theorem State.scanWord_canon (s : State) (t c i w port tag : Nat) (e : Ecc) (h_s : s.Canon) :
    (State.scanWord s t c i w port tag e).Canon := by
  unfold State.scanWord
  with_reducible repeat'
    (first | assumption | apply State.sramRead_canon | apply State.dropBuf_canon | apply State.bufCorrected_canon
           | (apply mk_canon; assumption) | (show State.Canon sv; unfold sv)
           | (intro sv; refine (fun (hv : State.Canon sv) => ?_) ?_) | (intro sv) | (lift_lets) | (split))

theorem State.bufScan_canon (s : State) (t c i n w : Nat) (e : Ecc) (h_s : s.Canon) :
    (State.bufScan s t c i n w e).Canon := by
  unfold State.bufScan
  with_reducible repeat'
    (first | assumption | apply State.scanWord_canon | refine foldl_canon (fun s a h => ?_) ?_
           | (show State.Canon sv; unfold sv) | (intro sv; refine (fun (hv : State.Canon sv) => ?_) ?_) | (intro sv)
           | (lift_lets))

theorem State.chanScan_canon (s : State) (t c id w : Nat) (e : Ecc) (h_s : s.Canon) :
    (State.chanScan s t c id w e).Canon := by
  unfold State.chanScan
  with_reducible repeat'
    (first | assumption | apply State.bufScan_canon | (apply mk_canon; assumption) | (split))

theorem State.eventReads_canon (s : State) (t c : Nat) (x : WordEcc) (y0 : Nat) (y1 : List (Nat × Nat × Nat)) (h_s : s.Canon) :
    (State.eventReads s t c x y0 y1).Canon := by
  induction y1 generalizing s y0 with
  | nil => exact h_s
  | cons p l ih => exact ih _ _ (State.scanWord_canon _ _ _ _ _ _ _ _ h_s)

theorem State.accumulate_canon (s : State) (t c : Nat) (ecc : WordEcc) (h_s : s.Canon) :
    (State.accumulate s t c ecc).Canon := by
  unfold State.accumulate
  dsimp only
  repeat' (first
    | (with_reducible assumption)
    | (with_reducible apply State.put_canon)
    | (with_reducible apply State.w256Write_canon)
    | (with_reducible apply State.setTile_canon)
    | (with_reducible apply State.setChan_canon)
    | (with_reducible apply State.eventReads_canon)
    | (with_reducible refine foldl_canon (fun s a h => ?_) ?_)
    | (with_reducible refine ite_canon ?_ ?_)
    | (with_reducible apply mk_canon; first | (with_reducible assumption) | (with_reducible apply State.put_canon) | (with_reducible apply State.w256Write_canon) | (with_reducible apply State.setTile_canon) | (with_reducible apply State.setChan_canon) | (with_reducible apply State.eventReads_canon) | (with_reducible refine foldl_canon (fun s a h => ?_) ?_) | (with_reducible refine ite_canon ?_ ?_))
    | (with_reducible show State.Canon sv; unfold sv)
    | (with_reducible show State.Canon sv.2; unfold sv)
    | (with_reducible show State.Canon sv.st; unfold sv)
    | (with_reducible show State.Canon sv.2.2; unfold sv)
    | (intro sv; refine (fun (hv : State.Canon sv) => ?_) ?_)
    | (intro sv; refine (fun (hv : State.Canon sv.2) => ?_) ?_)
    | (intro sv; refine (fun (hv : State.Canon sv.st) => ?_) ?_)
    | (intro sv; refine (fun (hv : State.Canon sv.2.2) => ?_) ?_)
    | (intro sv)
    | lift_lets
    | split
    | (dsimp -zeta only))

theorem State.drain_canon (s : State) (t c : Nat) (y0 : Nat) (h_s : s.Canon) :
    (State.drain s t c y0).Canon := by
  induction y0 generalizing s t c with
  | zero => 
    unfold State.drain
    repeat' (first
    | (with_reducible apply ih)
    | (with_reducible assumption)
    | (with_reducible apply State.accumulate_canon)
    | (with_reducible refine ite_canon ?_ ?_)
    | (with_reducible apply mk_canon; first | (with_reducible assumption) | (with_reducible apply State.accumulate_canon) | (with_reducible refine ite_canon ?_ ?_))
    | (with_reducible show State.Canon sv; unfold sv)
    | (with_reducible show State.Canon sv.2; unfold sv)
    | (with_reducible show State.Canon sv.st; unfold sv)
    | (with_reducible show State.Canon sv.2.2; unfold sv)
    | (intro sv; refine (fun (hv : State.Canon sv) => ?_) ?_)
    | (intro sv; refine (fun (hv : State.Canon sv.2) => ?_) ?_)
    | (intro sv; refine (fun (hv : State.Canon sv.st) => ?_) ?_)
    | (intro sv; refine (fun (hv : State.Canon sv.2.2) => ?_) ?_)
    | (intro sv)
    | lift_lets
    | split
    | (dsimp -zeta only))
  | succ n ih =>
    unfold State.drain
    repeat' (first
    | (with_reducible apply ih)
    | (with_reducible assumption)
    | (with_reducible apply State.accumulate_canon)
    | (with_reducible refine ite_canon ?_ ?_)
    | (with_reducible apply mk_canon; first | (with_reducible assumption) | (with_reducible apply State.accumulate_canon) | (with_reducible refine ite_canon ?_ ?_))
    | (with_reducible show State.Canon sv; unfold sv)
    | (with_reducible show State.Canon sv.2; unfold sv)
    | (with_reducible show State.Canon sv.st; unfold sv)
    | (with_reducible show State.Canon sv.2.2; unfold sv)
    | (intro sv; refine (fun (hv : State.Canon sv) => ?_) ?_)
    | (intro sv; refine (fun (hv : State.Canon sv.2) => ?_) ?_)
    | (intro sv; refine (fun (hv : State.Canon sv.st) => ?_) ?_)
    | (intro sv; refine (fun (hv : State.Canon sv.2.2) => ?_) ?_)
    | (intro sv)
    | lift_lets
    | split
    | (dsimp -zeta only))

theorem State.drainTile_canon (s : State) (t : Nat) (h_s : s.Canon) :
    (State.drainTile s t).Canon := by
  unfold State.drainTile
  with_reducible repeat'
    (first | assumption | apply State.drain_canon | refine foldl_canon (fun s a h => ?_) ?_)

theorem State.dropChanAll_canon (s : State) (t c reason : Nat) (h_s : s.Canon) :
    (State.dropChanAll s t c reason).Canon := by
  unfold State.dropChanAll
  with_reducible repeat'
    (first | assumption | apply State.dropChan_canon | refine foldl_canon (fun s a h => ?_) ?_)

theorem State.dropTile_canon (s : State) (t reason : Nat) (h_s : s.Canon) :
    (State.dropTile s t reason).Canon := by
  unfold State.dropTile
  with_reducible repeat'
    (first | assumption | apply State.setTile_canon | apply State.dropChanAll_canon | refine foldl_canon (fun s a h => ?_) ?_
           | refine ite_canon ?_ ?_ | (apply mk_canon; assumption) | (show State.Canon sv; unfold sv)
           | (intro sv; refine (fun (hv : State.Canon sv) => ?_) ?_) | (intro sv) | (lift_lets))

theorem State.cellAzimuth_canon (s : State) (times : List Nat) (h_s : s.Canon) :
    (State.cellAzimuth s times).2.2.Canon := by
  unfold State.cellAzimuth
  with_reducible repeat'
    (first | assumption | apply State.fresh_canon | refine ite_canon ?_ ?_ | (apply mk_canon; assumption)
           | (show State.Canon sv; unfold sv) | (intro sv; refine (fun (hv : State.Canon sv) => ?_) ?_) | (intro sv)
           | (lift_lets) | (split))

theorem State.sealTile_canon (s0 : State) (t : Nat) (ci : CellInfo) (m : CellMeta) (h_s0 : s0.Canon) :
    (State.sealTile s0 t ci m).Canon := by
  unfold State.sealTile
  with_reducible repeat'
    (first | assumption | apply State.put_canon | apply State.setFlag_canon | refine State.when_canon _ _ _ ?_ (fun s h => ?_)
           | apply State.raiseIf_canon | apply State.setTile_canon | apply State.drainTile_canon | apply State.lateJoin_canon
           | (apply mk_canon; assumption) | (show State.Canon sv; unfold sv)
           | (intro sv; refine (fun (hv : State.Canon sv) => ?_) ?_) | (intro sv) | (lift_lets))

theorem State.cellMeta_canon (s : State) (ci : CellInfo) (h_s : s.Canon) :
    (State.cellMeta s ci).2.Canon := by
  unfold State.cellMeta
  with_reducible repeat'
    (first | assumption | apply State.fresh_canon | apply State.setFlag_canon
           | refine State.when_canon _ _ _ ?_ (fun s h => ?_) | apply State.raiseIf_canon | apply State.cellAzimuth_canon
           | refine ite_canon ?_ ?_ | (apply mk_canon; assumption) | (show State.Canon sv; unfold sv)
           | (intro sv; refine (fun (hv : State.Canon sv) => ?_) ?_) | (intro sv) | (lift_lets) | (split))

theorem State.noteSealed_canon (s : State) (t id : Nat) (m : CellMeta) (h_s : s.Canon) :
    (State.noteSealed s t id m).Canon := by
  unfold State.noteSealed
  with_reducible repeat'
    (first | assumption | refine ite_canon ?_ ?_ | (apply mk_canon; assumption) | (show State.Canon sv; unfold sv)
           | (intro sv; refine (fun (hv : State.Canon sv) => ?_) ?_) | (intro sv) | (lift_lets))

theorem State.noteClose_canon (s : State) (t : Nat) (m : CellMeta) (recs : Bool) (h_s : s.Canon) :
    (State.noteClose s t m recs).Canon := by
  unfold State.noteClose
  with_reducible repeat'
    (first | assumption | refine ite_canon ?_ ?_ | (apply mk_canon; assumption) | (show State.Canon sv; unfold sv)
           | (intro sv; refine (fun (hv : State.Canon sv) => ?_) ?_) | (intro sv) | (lift_lets))

theorem State.missingCell_canon (s : State) (t drop : Nat) (ci : CellInfo) (m : CellMeta) (h_s : s.Canon) :
    (State.missingCell s t drop ci m).Canon := by
  unfold State.missingCell
  with_reducible repeat'
    (first | assumption | apply State.fresh_canon | apply State.noteClose_canon | (apply mk_canon; assumption)
           | (show State.Canon sv; unfold sv) | (intro sv; refine (fun (hv : State.Canon sv) => ?_) ?_) | (intro sv)
           | (lift_lets))

theorem State.cellGone_canon (s : State) (t id : Nat) (h_s : s.Canon) :
    (State.cellGone s t id).Canon := by
  unfold State.cellGone
  with_reducible repeat'
    (first | assumption | apply State.setTile_canon | refine foldl_canon (fun s a h => ?_) ?_ | (apply mk_canon; assumption)
           | (show State.Canon sv; unfold sv) | (intro sv; refine (fun (hv : State.Canon sv) => ?_) ?_) | (intro sv)
           | (lift_lets))

theorem State.sealCell_canon (s : State) (t : Nat) (ci : CellInfo) (h_s : s.Canon) :
    (State.sealCell s t ci).Canon := by
  unfold State.sealCell
  with_reducible repeat'
    (first | assumption | apply State.sealTile_canon | apply State.cellMeta_canon | apply State.noteSealed_canon
           | apply State.noteClose_canon | apply State.missingCell_canon | apply State.cellGone_canon | refine ite_canon ?_ ?_
           | (show State.Canon sv; unfold sv) | (intro sv; refine (fun (hv : State.Canon sv) => ?_) ?_) | (intro sv)
           | (lift_lets))

theorem State.killCells_canon (s : State) (t reason : Nat) (h_s : s.Canon) :
    (State.killCells s t reason).Canon := by
  unfold State.killCells
  with_reducible repeat'
    (first | assumption | apply State.setTile_canon | apply State.dropTile_canon | apply State.sealCell_canon
           | refine foldl_canon (fun s a h => ?_) ?_ | (apply mk_canon; assumption) | (show State.Canon sv; unfold sv)
           | (intro sv; refine (fun (hv : State.Canon sv) => ?_) ?_) | (intro sv) | (lift_lets))

end Sys2Proof.Machine
end

