-- ==== Sys2Proof/Laws/Canon/Isolate.lean ====
section
/-! SUPPORT. Every operation of Machine/Isolate.lean keeps the canonical form of the tables and memories. -/

namespace Sys2Proof.Machine

theorem State.isoAccess_canon (s : State) (a : Nat) (h_s : s.Canon) :
    (State.isoAccess s a).Canon := by
  unfold State.isoAccess
  with_reducible repeat'
    (first | assumption | apply State.raiseInst_canon | (apply mk_canon; assumption) | (split))

theorem State.onReg_canon (s : State) (a : Nat) (g : State → State) (h_s : s.Canon) (h_g : ∀ s : State, s.Canon → (g s).Canon) :
    (State.onReg s a g).Canon := by
  unfold State.onReg; split
  · exact State.isoAccess_canon _ _ h_s
  · exact h_g s h_s

end Sys2Proof.Machine
end

