-- ==== Sys2Proof/Laws/Canon/DevMem.lean ====
section
/-! SUPPORT. Every operation of Machine/DevMem.lean keeps the canonical form of the tables and memories. -/

namespace Sys2Proof.Machine

theorem State.chErr_canon (s : State) (m : Nat) (e : Ecc) (h_s : s.Canon) :
    (State.chErr s m e).Canon := by
  unfold State.chErr
  with_reducible repeat'
    (first | assumption | apply State.bump_canon | (apply mk_canon; assumption) | (show State.Canon sv; unfold sv)
           | (intro sv; refine (fun (hv : State.Canon sv) => ?_) ?_) | (intro sv) | (lift_lets) | (split))

theorem State.devReadWord_canon (s : State) (d port tag : Nat) (e : Ecc) (h_s : s.Canon) :
    (State.devReadWord s d port tag e).2.Canon := by
  unfold State.devReadWord
  with_reducible repeat'
    (first | assumption | apply State.w256Read_canon | apply State.chErr_canon | (show State.Canon sv; unfold sv)
           | (intro sv; refine (fun (hv : State.Canon sv) => ?_) ?_) | (intro sv) | (lift_lets))

theorem State.devReadWords_canon (s : State) (d port tag : Nat) (e : Ecc) (y0 : Nat) (h_s : s.Canon) :
    (State.devReadWords s d port tag e y0).2.Canon := by
  induction y0 generalizing s d port tag e with
  | zero => 
    unfold State.devReadWords
    repeat' (first
    | (with_reducible apply ih)
    | (with_reducible assumption)
    | (with_reducible apply State.devReadWord_canon)
    | (with_reducible refine ite_canon ?_ ?_)
    | (with_reducible apply mk_canon; first | (with_reducible assumption) | (with_reducible apply State.devReadWord_canon) | (with_reducible refine ite_canon ?_ ?_))
    | (with_reducible show State.Canon sv; unfold sv)
    | (with_reducible show State.Canon sv.2; unfold sv)
    | (with_reducible show State.Canon sv.st; unfold sv)
    | (with_reducible show State.Canon sv.2.2; unfold sv)
    | (intro sv; refine (fun (hv : State.Canon sv) => ?_) ?_)
    | (intro sv; refine (fun (hv : State.Canon sv.2) => ?_) ?_)
    | (intro sv; refine (fun (hv : State.Canon sv.st) => ?_) ?_)
    | (intro sv; refine (fun (hv : State.Canon sv.2.2) => ?_) ?_)
    | (intro sv)
    | lift_lets
    | split
    | (dsimp -zeta only))
  | succ n ih =>
    unfold State.devReadWords
    repeat' (first
    | (with_reducible apply ih)
    | (with_reducible assumption)
    | (with_reducible apply State.devReadWord_canon)
    | (with_reducible refine ite_canon ?_ ?_)
    | (with_reducible apply mk_canon; first | (with_reducible assumption) | (with_reducible apply State.devReadWord_canon) | (with_reducible refine ite_canon ?_ ?_))
    | (with_reducible show State.Canon sv; unfold sv)
    | (with_reducible show State.Canon sv.2; unfold sv)
    | (with_reducible show State.Canon sv.st; unfold sv)
    | (with_reducible show State.Canon sv.2.2; unfold sv)
    | (intro sv; refine (fun (hv : State.Canon sv) => ?_) ?_)
    | (intro sv; refine (fun (hv : State.Canon sv.2) => ?_) ?_)
    | (intro sv; refine (fun (hv : State.Canon sv.st) => ?_) ?_)
    | (intro sv; refine (fun (hv : State.Canon sv.2.2) => ?_) ?_)
    | (intro sv)
    | lift_lets
    | split
    | (dsimp -zeta only))

theorem State.devRead_canon (s : State) (d n port tag : Nat) (e : Ecc) (h_s : s.Canon) :
    (State.devRead s d n port tag e).2.Canon := by
  unfold State.devRead
  with_reducible repeat'
    (first | assumption | apply State.devReadWords_canon)

theorem State.devWriteWords_canon (s : State) (d port tag : Nat) (l : List Byte) (w : Nat) (y0 : Nat) (h_s : s.Canon) :
    (State.devWriteWords s d port tag l w y0).2.Canon := by
  induction y0 generalizing s d port tag l w with
  | zero => 
    unfold State.devWriteWords
    repeat' (first
    | (with_reducible apply ih)
    | (with_reducible assumption)
    | (with_reducible apply State.w256Write_canon)
    | (with_reducible apply State.devReadWord_canon)
    | (with_reducible refine ite_canon ?_ ?_)
    | (with_reducible apply mk_canon; first | (with_reducible assumption) | (with_reducible apply State.w256Write_canon) | (with_reducible apply State.devReadWord_canon) | (with_reducible refine ite_canon ?_ ?_))
    | (with_reducible refine mk_mem_canon ?_ ?_ ?_ ?_ ?_ ?_ ?_; (first | (with_reducible assumption) | (with_reducible apply State.w256Write_canon) | (with_reducible apply State.devReadWord_canon) | (with_reducible refine ite_canon ?_ ?_)))
    | (exact (rfl : Memory.wf [] = true))
    | (with_reducible refine memStore_wf ?_)
    | (with_reducible refine filter_wf ?_)
    | (with_reducible refine State.Canon.fireTab ?_)
    | (with_reducible refine State.Canon.ztStage ?_)
    | (with_reducible refine State.Canon.devMem ?_)
    | (with_reducible refine State.Canon.hostMem ?_)
    | (with_reducible refine State.Canon.nor ?_)
    | (with_reducible refine State.Canon.calStage ?_)
    | (with_reducible show State.Canon sv; unfold sv)
    | (with_reducible show State.Canon sv.2; unfold sv)
    | (with_reducible show State.Canon sv.st; unfold sv)
    | (with_reducible show State.Canon sv.2.2; unfold sv)
    | (intro sv; refine (fun (hv : State.Canon sv) => ?_) ?_)
    | (intro sv; refine (fun (hv : State.Canon sv.2) => ?_) ?_)
    | (intro sv; refine (fun (hv : State.Canon sv.st) => ?_) ?_)
    | (intro sv; refine (fun (hv : State.Canon sv.2.2) => ?_) ?_)
    | (intro sv)
    | lift_lets
    | split
    | (dsimp -zeta only))
  | succ n ih =>
    unfold State.devWriteWords
    repeat' (first
    | (with_reducible apply ih)
    | (with_reducible assumption)
    | (with_reducible apply State.w256Write_canon)
    | (with_reducible apply State.devReadWord_canon)
    | (with_reducible refine ite_canon ?_ ?_)
    | (with_reducible apply mk_canon; first | (with_reducible assumption) | (with_reducible apply State.w256Write_canon) | (with_reducible apply State.devReadWord_canon) | (with_reducible refine ite_canon ?_ ?_))
    | (with_reducible refine mk_mem_canon ?_ ?_ ?_ ?_ ?_ ?_ ?_; (first | (with_reducible assumption) | (with_reducible apply State.w256Write_canon) | (with_reducible apply State.devReadWord_canon) | (with_reducible refine ite_canon ?_ ?_)))
    | (exact (rfl : Memory.wf [] = true))
    | (with_reducible refine memStore_wf ?_)
    | (with_reducible refine filter_wf ?_)
    | (with_reducible refine State.Canon.fireTab ?_)
    | (with_reducible refine State.Canon.ztStage ?_)
    | (with_reducible refine State.Canon.devMem ?_)
    | (with_reducible refine State.Canon.hostMem ?_)
    | (with_reducible refine State.Canon.nor ?_)
    | (with_reducible refine State.Canon.calStage ?_)
    | (with_reducible show State.Canon sv; unfold sv)
    | (with_reducible show State.Canon sv.2; unfold sv)
    | (with_reducible show State.Canon sv.st; unfold sv)
    | (with_reducible show State.Canon sv.2.2; unfold sv)
    | (intro sv; refine (fun (hv : State.Canon sv) => ?_) ?_)
    | (intro sv; refine (fun (hv : State.Canon sv.2) => ?_) ?_)
    | (intro sv; refine (fun (hv : State.Canon sv.st) => ?_) ?_)
    | (intro sv; refine (fun (hv : State.Canon sv.2.2) => ?_) ?_)
    | (intro sv)
    | lift_lets
    | split
    | (dsimp -zeta only))

theorem State.devStore_canon (s : State) (d port tag : Nat) (l : List Byte) (h_s : s.Canon) :
    (State.devStore s d port tag l).2.Canon := by
  unfold State.devStore
  with_reducible repeat'
    (first | assumption | apply State.devWriteWords_canon | refine ite_canon ?_ ?_ | (split) | (dsimp -zeta only))

theorem State.devWrite_canon (s : State) (d port tag : Nat) (l : List Byte) (h_s : s.Canon) :
    (State.devWrite s d port tag l).Canon := by
  unfold State.devWrite
  with_reducible repeat'
    (first | assumption | apply State.devStore_canon)

theorem State.memDrop_canon (s : State) (i : Nat) (h_s : s.Canon) :
    (State.memDrop s i).Canon := by
  unfold State.memDrop
  with_reducible repeat'
    (first | assumption | apply State.put_canon | refine foldl_canon (fun s a h => ?_) ?_ | (apply mk_canon; assumption)
           | (show State.Canon sv; unfold sv) | (intro sv; refine (fun (hv : State.Canon sv) => ?_) ?_) | (intro sv)
           | (lift_lets) | (split))

theorem State.extentViolation_canon (s : State) (h_s : s.Canon) :
    (State.extentViolation s).Canon := by
  unfold State.extentViolation
  with_reducible repeat'
    (first | assumption | apply State.raise_canon | refine ite_canon ?_ ?_ | (apply mk_canon; assumption))

end Sys2Proof.Machine
end

