-- ==== Sys2Proof/Laws/Canon/Rings.lean ====
section
/-! SUPPORT. Every operation of Machine/Rings.lean keeps the canonical form of the tables and memories. -/

namespace Sys2Proof.Machine

theorem State.setSq_canon (s : State) (n : Nat) (x : SqSt) (h_s : s.Canon) :
    (State.setSq s n x).Canon := by
  unfold State.setSq
  with_reducible repeat'
    (first | assumption | (apply mk_canon; assumption))

theorem State.setCq_canon (s : State) (n : Nat) (x : CqSt) (h_s : s.Canon) :
    (State.setCq s n x).Canon := by
  unfold State.setCq
  with_reducible repeat'
    (first | assumption | (apply mk_canon; assumption))

theorem State.setPr_canon (s : State) (n : Nat) (x : PrSt) (h_s : s.Canon) :
    (State.setPr s n x).Canon := by
  unfold State.setPr
  with_reducible repeat'
    (first | assumption | (apply mk_canon; assumption))

theorem State.setDoorbell_canon (s : State) (page v : Nat) (h_s : s.Canon) :
    (State.setDoorbell s page v).Canon := by
  unfold State.setDoorbell
  with_reducible repeat'
    (first | assumption | (apply mk_canon; assumption))

theorem State.dropDescs_canon (s : State) (l : List Desc) (h_s : s.Canon) :
    (State.dropDescs s l).Canon := by
  unfold State.dropDescs
  with_reducible repeat'
    (first | assumption | apply State.tagRelease_canon | refine foldl_canon (fun s a h => ?_) ?_ | (apply mk_canon; assumption))

theorem State.sqDisable_canon (s : State) (n : Nat) (h_s : s.Canon) :
    (State.sqDisable s n).Canon := by
  unfold State.sqDisable
  with_reducible repeat'
    (first | assumption | apply State.put_canon | apply State.clearFlag_canon | apply State.setSq_canon
           | apply State.dropDescs_canon | (show State.Canon sv; unfold sv)
           | (intro sv; refine (fun (hv : State.Canon sv) => ?_) ?_) | (intro sv) | (lift_lets))

theorem State.cqDisable_canon (s : State) (n : Nat) (h_s : s.Canon) :
    (State.cqDisable s n).Canon := by
  unfold State.cqDisable
  with_reducible repeat'
    (first | assumption | apply State.clearFlag_canon | apply State.setCq_canon)

theorem State.prLevel_canon (s : State) (n : Nat) (h_s : s.Canon) :
    (State.prLevel s n).Canon := by
  unfold State.prLevel
  with_reducible repeat'
    (first | assumption | apply State.put_canon | apply State.setFlag_canon | refine State.when_canon _ _ _ ?_ (fun s h => ?_)
           | apply State.raiseIf_canon | (show State.Canon sv; unfold sv)
           | (intro sv; refine (fun (hv : State.Canon sv) => ?_) ?_) | (intro sv) | (lift_lets))

theorem State.prDisable_canon (s : State) (n : Nat) (h_s : s.Canon) :
    (State.prDisable s n).Canon := by
  unfold State.prDisable
  with_reducible repeat'
    (first | assumption | apply State.put_canon | apply State.clearFlag_canon | apply State.setPr_canon
           | apply State.prLevel_canon | (apply mk_canon; assumption) | (show State.Canon sv; unfold sv)
           | (intro sv; refine (fun (hv : State.Canon sv) => ?_) ?_) | (intro sv) | (lift_lets))

theorem State.ringStart_canon (s : State) (y0 : RingSel) (h_s : s.Canon) :
    (State.ringStart s y0).Canon := by
  unfold State.ringStart
  with_reducible repeat'
    (first | assumption | apply State.put_canon | apply State.setSq_canon | apply State.setCq_canon | apply State.prLevel_canon
           | (apply mk_canon; assumption) | (split))

theorem ringDisable_canon (s : State) (y0 : RingSel) (h_s : s.Canon) :
    (ringDisable s y0).Canon := by
  unfold ringDisable
  with_reducible repeat'
    (first | assumption | apply State.sqDisable_canon | apply State.cqDisable_canon | apply State.prDisable_canon | (split))

theorem State.sqCredit_canon (s : State) (n v : Nat) (h_s : s.Canon) :
    (State.sqCredit s n v).Canon := by
  unfold State.sqCredit
  with_reducible repeat'
    (first | assumption | apply State.put_canon | apply State.setFlag_canon | refine State.when_canon _ _ _ ?_ (fun s h => ?_)
           | apply State.raiseIf_canon | (show State.Canon sv; unfold sv)
           | (intro sv; refine (fun (hv : State.Canon sv) => ?_) ?_) | (intro sv) | (lift_lets))

theorem State.ringCfgWrite_canon (s : State) (r : RingSel) (v : Word32) (h_s : s.Canon) :
    (State.ringCfgWrite s r v).Canon := by
  unfold State.ringCfgWrite
  with_reducible repeat'
    (first | assumption | apply State.setReg_canon | apply State.setFlag_canon | apply State.raiseInst_canon
           | apply State.ringStart_canon | apply ringDisable_canon | apply State.sqCredit_canon | refine ite_canon ?_ ?_
           | (apply mk_canon; assumption) | (show State.Canon sv; unfold sv)
           | (intro sv; refine (fun (hv : State.Canon sv) => ?_) ?_) | (intro sv) | (lift_lets) | (split))

theorem State.sqDoorbell_canon (s : State) (n : Nat) (v : Word32) (h_s : s.Canon) :
    (State.sqDoorbell s n v).Canon := by
  unfold State.sqDoorbell
  with_reducible repeat'
    (first | assumption | apply State.setFlag_canon | apply State.raiseInst_canon | apply State.setSq_canon
           | apply State.setDoorbell_canon | refine ite_canon ?_ ?_ | (apply mk_canon; assumption)
           | (show State.Canon sv; unfold sv) | (intro sv; refine (fun (hv : State.Canon sv) => ?_) ?_) | (intro sv)
           | (lift_lets))

theorem State.cqDoorbell_canon (s : State) (n : Nat) (v : Word32) (h_s : s.Canon) :
    (State.cqDoorbell s n v).Canon := by
  unfold State.cqDoorbell
  with_reducible repeat'
    (first | assumption | apply State.setFlag_canon | apply State.raiseInst_canon | apply State.setCq_canon
           | apply State.setDoorbell_canon | refine ite_canon ?_ ?_ | (apply mk_canon; assumption)
           | (show State.Canon sv; unfold sv) | (intro sv; refine (fun (hv : State.Canon sv) => ?_) ?_) | (intro sv)
           | (lift_lets))

theorem State.prDoorbell_canon (s : State) (n : Nat) (v : Word32) (h_s : s.Canon) :
    (State.prDoorbell s n v).Canon := by
  unfold State.prDoorbell
  with_reducible repeat'
    (first | assumption | apply State.put_canon | apply State.setFlag_canon | apply State.raiseInst_canon
           | apply State.setPr_canon | apply State.setDoorbell_canon | apply State.prLevel_canon | refine ite_canon ?_ ?_
           | (apply mk_canon; assumption) | (show State.Canon sv; unfold sv)
           | (intro sv; refine (fun (hv : State.Canon sv) => ?_) ?_) | (intro sv) | (lift_lets))

theorem State.linkTrain_canon (s : State) (cxl : Bool) (width speed : Nat) (cxlMem : Bool) (h_s : s.Canon) :
    (State.linkTrain s cxl width speed cxlMem).Canon := by
  unfold State.linkTrain
  with_reducible repeat'
    (first | assumption | apply State.put_canon | apply State.raise_canon | apply State.raiseIf_canon | refine ite_canon ?_ ?_
           | (apply mk_canon; first | assumption | apply State.put_canon | apply State.raise_canon | apply State.raiseIf_canon)
           | (show State.Canon sv; unfold sv) | (show State.Canon sv.2; unfold sv) | (show State.Canon sv.st; unfold sv)
           | (show State.Canon sv.2.2; unfold sv) | (intro sv; refine (fun (hv : State.Canon sv) => ?_) ?_)
           | (intro sv; refine (fun (hv : State.Canon sv.2) => ?_) ?_)
           | (intro sv; refine (fun (hv : State.Canon sv.st) => ?_) ?_)
           | (intro sv; refine (fun (hv : State.Canon sv.2.2) => ?_) ?_) | (intro sv) | (lift_lets) | (split)
           | (dsimp -zeta only))

theorem State.disableRings_canon (s : State) (sel : State → Nat → Bool) (h_s : s.Canon) :
    (State.disableRings s sel).Canon := by
  unfold State.disableRings
  with_reducible repeat'
    (first | assumption | apply State.sqDisable_canon | apply State.cqDisable_canon | apply State.prDisable_canon
           | refine foldl_canon (fun s a h => ?_) ?_ | refine ite_canon ?_ ?_ | (show State.Canon sv; unfold sv)
           | (intro sv; refine (fun (hv : State.Canon sv) => ?_) ?_) | (intro sv) | (lift_lets))

theorem State.funcReset_canon (s : State) (h_s : s.Canon) :
    (State.funcReset s).Canon := by
  unfold State.funcReset
  with_reducible repeat'
    (first | assumption | apply State.setReg_canon | apply State.put_canon | apply State.resetRange_canon
           | apply State.setFlag_canon | apply State.raise_canon | apply State.disableRings_canon
           | (apply mk_canon; first | assumption | apply State.setReg_canon | apply State.put_canon | apply State.resetRange_canon | apply State.setFlag_canon | apply State.raise_canon | apply State.disableRings_canon)
           | (show State.Canon sv; unfold sv) | (show State.Canon sv.2; unfold sv) | (show State.Canon sv.st; unfold sv)
           | (show State.Canon sv.2.2; unfold sv) | (intro sv; refine (fun (hv : State.Canon sv) => ?_) ?_)
           | (intro sv; refine (fun (hv : State.Canon sv.2) => ?_) ?_)
           | (intro sv; refine (fun (hv : State.Canon sv.st) => ?_) ?_)
           | (intro sv; refine (fun (hv : State.Canon sv.2.2) => ?_) ?_) | (intro sv) | (lift_lets) | (split)
           | (dsimp -zeta only))

theorem State.hostErrors_canon (s : State) (n : Nat) (l : List Desc) (h_s : s.Canon) :
    (State.hostErrors s n l).Canon := by
  unfold State.hostErrors
  with_reducible repeat'
    (first | assumption | apply State.raiseInst_canon | refine foldl_canon (fun s a h => ?_) ?_)

theorem State.linkLose_canon (s : State) (h_s : s.Canon) :
    (State.linkLose s).Canon := by
  unfold State.linkLose
  with_reducible repeat'
    (first | assumption | apply State.put_canon | apply State.setFlag_canon | apply State.raise_canon
           | apply State.disableRings_canon | apply State.hostErrors_canon | refine foldl_canon (fun s a h => ?_) ?_
           | (apply mk_canon; first | assumption | apply State.put_canon | apply State.setFlag_canon | apply State.raise_canon | apply State.disableRings_canon | apply State.hostErrors_canon)
           | (show State.Canon sv; unfold sv) | (show State.Canon sv.2; unfold sv) | (show State.Canon sv.st; unfold sv)
           | (show State.Canon sv.2.2; unfold sv) | (intro sv; refine (fun (hv : State.Canon sv) => ?_) ?_)
           | (intro sv; refine (fun (hv : State.Canon sv.2) => ?_) ?_)
           | (intro sv; refine (fun (hv : State.Canon sv.st) => ?_) ?_)
           | (intro sv; refine (fun (hv : State.Canon sv.2.2) => ?_) ?_) | (intro sv) | (lift_lets) | (split)
           | (dsimp -zeta only))

theorem State.sqPick_canon (s : State) (h_s : s.Canon) :
    (State.sqPick s).2.Canon := by
  unfold State.sqPick
  with_reducible repeat'
    (first | assumption | apply State.setSq_canon | refine foldl_canon (fun s a h => ?_) ?_ | (apply mk_canon; assumption)
           | (show State.Canon sv; unfold sv) | (intro sv; refine (fun (hv : State.Canon sv) => ?_) ?_) | (intro sv)
           | (lift_lets) | (split))

theorem State.descEnded_canon (s : State) (inst : Nat) (h_s : s.Canon) :
    (State.descEnded s inst).Canon := by
  unfold State.descEnded
  with_reducible repeat'
    (first | assumption | (apply mk_canon; assumption))

theorem State.descFetch_canon (s : State) (ok : Bool) (h_s : s.Canon) :
    (State.descFetch s ok).Canon := by
  have hp := State.sqPick_canon s h_s
  unfold State.descFetch
  split
  · exact h_s
  · rename_i n s1 heq
    rw [heq] at hp
    replace hp : s1.Canon := hp
    repeat' (first
    | (with_reducible assumption)
    | (with_reducible apply State.put_canon)
    | (with_reducible apply State.setFlag_canon)
    | (with_reducible apply State.clearFlag_canon)
    | (with_reducible apply State.raiseInst_canon)
    | (with_reducible apply State.hubWrite_canon)
    | (with_reducible apply State.setSq_canon)
    | (with_reducible apply State.dropDescs_canon)
    | (with_reducible apply State.sqPick_canon)
    | (with_reducible apply State.descEnded_canon)
    | (with_reducible refine ite_canon ?_ ?_)
    | (with_reducible apply mk_canon; first | (with_reducible assumption) | (with_reducible apply State.put_canon) | (with_reducible apply State.setFlag_canon) | (with_reducible apply State.clearFlag_canon) | (with_reducible apply State.raiseInst_canon) | (with_reducible apply State.hubWrite_canon) | (with_reducible apply State.setSq_canon) | (with_reducible apply State.dropDescs_canon) | (with_reducible apply State.sqPick_canon) | (with_reducible apply State.descEnded_canon) | (with_reducible refine ite_canon ?_ ?_))
    | (with_reducible show State.Canon sv; unfold sv)
    | (with_reducible show State.Canon sv.2; unfold sv)
    | (with_reducible show State.Canon sv.st; unfold sv)
    | (with_reducible show State.Canon sv.2.2; unfold sv)
    | (intro sv; refine (fun (hv : State.Canon sv) => ?_) ?_)
    | (intro sv; refine (fun (hv : State.Canon sv.2) => ?_) ?_)
    | (intro sv; refine (fun (hv : State.Canon sv.st) => ?_) ?_)
    | (intro sv; refine (fun (hv : State.Canon sv.2.2) => ?_) ?_)
    | (intro sv)
    | lift_lets
    | split
    | (dsimp -zeta only))

theorem State.cqNotice_canon (s : State) (c : Nat) (h_s : s.Canon) :
    (State.cqNotice s c).Canon := by
  unfold State.cqNotice
  with_reducible repeat'
    (first | assumption | apply State.emit_canon | apply State.setCq_canon | refine ite_canon ?_ ?_
           | (apply mk_canon; assumption))

theorem State.cqFull_canon (s : State) (c : Nat) (h_s : s.Canon) :
    (State.cqFull s c).Canon := by
  unfold State.cqFull
  with_reducible repeat'
    (first | assumption | apply State.setFlag_canon | apply State.raiseIf_canon | apply State.setCq_canon
           | (apply mk_canon; assumption) | (show State.Canon sv; unfold sv)
           | (intro sv; refine (fun (hv : State.Canon sv) => ?_) ?_) | (intro sv) | (lift_lets))

theorem State.cqWrite_canon (s : State) (c : Nat) (cid sq result status : Nat) (notify : Bool) (h_s : s.Canon) :
    (State.cqWrite s c cid sq result status notify).Canon := by
  unfold State.cqWrite
  with_reducible repeat'
    (first | assumption | apply State.put_canon | refine State.when_canon _ _ _ ?_ (fun s h => ?_) | apply State.setCq_canon
           | apply State.cqNotice_canon | apply State.cqFull_canon | refine ite_canon ?_ ?_ | (apply mk_canon; assumption)
           | (refine mk_mem_canon ?_ ?_ ?_ ?_ ?_ ?_ ?_; first | assumption) | (exact (rfl : Memory.wf [] = true))
           | refine memStore_wf ?_ | refine filter_wf ?_ | refine State.Canon.fireTab ?_ | refine State.Canon.ztStage ?_
           | refine State.Canon.devMem ?_ | refine State.Canon.hostMem ?_ | refine State.Canon.nor ?_
           | refine State.Canon.calStage ?_ | (show State.Canon sv; unfold sv)
           | (intro sv; refine (fun (hv : State.Canon sv) => ?_) ?_) | (intro sv) | (lift_lets))

theorem State.descComplete_canon (s : State) (n : Nat) (h_s : s.Canon) :
    (State.descComplete s n).Canon := by
  unfold State.descComplete
  with_reducible repeat'
    (first | assumption | apply State.put_canon | apply State.raiseIf_canon | apply State.setSq_canon
           | apply State.dropDescs_canon | apply State.cqWrite_canon | refine ite_canon ?_ ?_ | (apply mk_canon; assumption)
           | (show State.Canon sv; unfold sv) | (intro sv; refine (fun (hv : State.Canon sv) => ?_) ?_) | (intro sv)
           | (lift_lets) | (split))

theorem State.cqTimer_canon (s : State) (c : Nat) (h_s : s.Canon) :
    (State.cqTimer s c).Canon := by
  unfold State.cqTimer
  with_reducible repeat'
    (first | assumption | apply State.cqNotice_canon | refine ite_canon ?_ ?_)

theorem State.sqFlush_canon (s : State) (n : Nat) (h_s : s.Canon) :
    (State.sqFlush s n).Canon := by
  unfold State.sqFlush
  with_reducible repeat'
    (first | assumption | apply State.setFlag_canon | apply State.setSq_canon | apply State.dropDescs_canon
           | apply State.descEnded_canon | refine foldl_canon (fun s a h => ?_) ?_ | refine ite_canon ?_ ?_
           | (apply mk_canon; assumption) | (show State.Canon sv; unfold sv)
           | (intro sv; refine (fun (hv : State.Canon sv) => ?_) ?_) | (intro sv) | (lift_lets))

theorem State.sqFlushDone_canon (s : State) (n : Nat) (h_s : s.Canon) :
    (State.sqFlushDone s n).Canon := by
  unfold State.sqFlushDone
  with_reducible repeat'
    (first | assumption | apply State.put_canon | apply State.clearFlag_canon | apply State.setSq_canon
           | apply State.cqWrite_canon | refine ite_canon ?_ ?_ | (apply mk_canon; assumption)
           | (show State.Canon sv; unfold sv) | (intro sv; refine (fun (hv : State.Canon sv) => ?_) ?_) | (intro sv)
           | (lift_lets))

theorem State.headWord_canon (s : State) (n : Nat) (h_s : s.Canon) :
    (State.headWord s n).Canon := by
  unfold State.headWord
  with_reducible repeat'
    (first | assumption | apply State.setPr_canon | refine ite_canon ?_ ?_ | (apply mk_canon; assumption)
           | (refine mk_mem_canon ?_ ?_ ?_ ?_ ?_ ?_ ?_; first | assumption) | (exact (rfl : Memory.wf [] = true))
           | refine memStore_wf ?_ | refine filter_wf ?_ | refine State.Canon.fireTab ?_ | refine State.Canon.ztStage ?_
           | refine State.Canon.devMem ?_ | refine State.Canon.hostMem ?_ | refine State.Canon.nor ?_
           | refine State.Canon.calStage ?_ | (show State.Canon sv; unfold sv)
           | (intro sv; refine (fun (hv : State.Canon sv) => ?_) ?_) | (intro sv) | (lift_lets))

theorem State.prNotice_canon (s : State) (n : Nat) (h_s : s.Canon) :
    (State.prNotice s n).Canon := by
  unfold State.prNotice
  with_reducible repeat'
    (first | assumption | apply State.emit_canon | apply State.setPr_canon | apply State.headWord_canon
           | (apply mk_canon; assumption) | (show State.Canon sv; unfold sv)
           | (intro sv; refine (fun (hv : State.Canon sv) => ?_) ?_) | (intro sv) | (lift_lets))

theorem State.prStore_canon (s : State) (n i : Nat) (rec : List Byte) (h_s : s.Canon) :
    (State.prStore s n i rec).Canon := by
  unfold State.prStore
  with_reducible repeat'
    (first | assumption | apply State.devWrite_canon | refine ite_canon ?_ ?_ | (apply mk_canon; assumption)
           | (refine mk_mem_canon ?_ ?_ ?_ ?_ ?_ ?_ ?_; first | assumption) | (exact (rfl : Memory.wf [] = true))
           | refine memStore_wf ?_ | refine filter_wf ?_ | refine State.Canon.fireTab ?_ | refine State.Canon.ztStage ?_
           | refine State.Canon.devMem ?_ | refine State.Canon.hostMem ?_ | refine State.Canon.nor ?_
           | refine State.Canon.calStage ?_ | (show State.Canon sv; unfold sv)
           | (intro sv; refine (fun (hv : State.Canon sv) => ?_) ?_) | (intro sv) | (lift_lets))

theorem State.prStoreAll_canon (s : State) (n i : Nat) (y0 : List (List Byte)) (h_s : s.Canon) :
    (State.prStoreAll s n i y0).Canon := by
  induction y0 generalizing s n i with
  | nil => 
    unfold State.prStoreAll
    repeat' (first
    | (with_reducible apply ih)
    | (with_reducible assumption)
    | (with_reducible apply State.prStore_canon)
    | (with_reducible refine ite_canon ?_ ?_)
    | (with_reducible apply mk_canon; first | (with_reducible assumption) | (with_reducible apply State.prStore_canon) | (with_reducible refine ite_canon ?_ ?_))
    | (with_reducible show State.Canon sv; unfold sv)
    | (with_reducible show State.Canon sv.2; unfold sv)
    | (with_reducible show State.Canon sv.st; unfold sv)
    | (with_reducible show State.Canon sv.2.2; unfold sv)
    | (intro sv; refine (fun (hv : State.Canon sv) => ?_) ?_)
    | (intro sv; refine (fun (hv : State.Canon sv.2) => ?_) ?_)
    | (intro sv; refine (fun (hv : State.Canon sv.st) => ?_) ?_)
    | (intro sv; refine (fun (hv : State.Canon sv.2.2) => ?_) ?_)
    | (intro sv)
    | lift_lets
    | split
    | (dsimp -zeta only))
  | cons p l ih =>
    unfold State.prStoreAll
    repeat' (first
    | (with_reducible apply ih)
    | (with_reducible assumption)
    | (with_reducible apply State.prStore_canon)
    | (with_reducible refine ite_canon ?_ ?_)
    | (with_reducible apply mk_canon; first | (with_reducible assumption) | (with_reducible apply State.prStore_canon) | (with_reducible refine ite_canon ?_ ?_))
    | (with_reducible show State.Canon sv; unfold sv)
    | (with_reducible show State.Canon sv.2; unfold sv)
    | (with_reducible show State.Canon sv.st; unfold sv)
    | (with_reducible show State.Canon sv.2.2; unfold sv)
    | (intro sv; refine (fun (hv : State.Canon sv) => ?_) ?_)
    | (intro sv; refine (fun (hv : State.Canon sv.2) => ?_) ?_)
    | (intro sv; refine (fun (hv : State.Canon sv.st) => ?_) ?_)
    | (intro sv; refine (fun (hv : State.Canon sv.2.2) => ?_) ?_)
    | (intro sv)
    | lift_lets
    | split
    | (dsimp -zeta only))

theorem State.prDrop_canon (s : State) (n : Nat) (h_s : s.Canon) :
    (State.prDrop s n).Canon := by
  unfold State.prDrop
  with_reducible repeat'
    (first | assumption | apply State.bump_canon | apply State.setFlag_canon | apply State.raiseIf_canon
           | apply State.setPr_canon | (apply mk_canon; assumption) | (show State.Canon sv; unfold sv)
           | (intro sv; refine (fun (hv : State.Canon sv) => ?_) ?_) | (intro sv) | (lift_lets))

theorem State.backlog_canon (s : State) (n old : Nat) (h_s : s.Canon) :
    (State.backlog s n old).Canon := by
  unfold State.backlog
  with_reducible repeat'
    (first | assumption | apply State.raiseIf_canon | (apply mk_canon; assumption) | (split))

theorem State.prPacket_canon (s : State) (n : Nat) (recs : List (List Byte)) (held : Bool) (h_s : s.Canon) :
    (State.prPacket s n recs held).Canon := by
  unfold State.prPacket
  with_reducible repeat'
    (first | assumption | apply State.put_canon | apply State.bump_canon | apply State.incr_canon | apply State.setPr_canon
           | apply State.prLevel_canon | apply State.prNotice_canon | apply State.prStoreAll_canon | apply State.prDrop_canon
           | apply State.backlog_canon | refine ite_canon ?_ ?_ | (apply mk_canon; assumption)
           | (show State.Canon sv; unfold sv) | (intro sv; refine (fun (hv : State.Canon sv) => ?_) ?_) | (intro sv)
           | (lift_lets))

theorem State.prTimer_canon (s : State) (n : Nat) (h_s : s.Canon) :
    (State.prTimer s n).Canon := by
  unfold State.prTimer
  with_reducible repeat'
    (first | assumption | apply State.prNotice_canon | refine ite_canon ?_ ?_)

theorem State.prQuota_canon (s : State) (n : Nat) (v : Nat) (h_s : s.Canon) :
    (State.prQuota s n v).Canon := by
  unfold State.prQuota
  with_reducible repeat'
    (first | assumption | apply State.put_canon | apply State.setFlag_canon | refine State.when_canon _ _ _ ?_ (fun s h => ?_)
           | apply State.raiseIf_canon | apply State.setPr_canon | (apply mk_canon; assumption)
           | (show State.Canon sv; unfold sv) | (intro sv; refine (fun (hv : State.Canon sv) => ?_) ?_) | (intro sv)
           | (lift_lets))

theorem State.prAbandon_canon (s : State) (n : Nat) (h_s : s.Canon) :
    (State.prAbandon s n).2.Canon := by
  unfold State.prAbandon
  with_reducible repeat'
    (first | assumption | refine ite_canon ?_ ?_ | (apply mk_canon; assumption) | (split))

theorem State.prFlush_canon (s : State) (n : Nat) (partly : Bool) (h_s : s.Canon) :
    (State.prFlush s n partly).Canon := by
  unfold State.prFlush
  with_reducible repeat'
    (first | assumption | apply State.put_canon | apply State.bump_canon | refine State.when_canon _ _ _ ?_ (fun s h => ?_)
           | apply State.raiseInst_canon | apply State.setPr_canon | apply State.prLevel_canon | apply State.prAbandon_canon
           | refine ite_canon ?_ ?_
           | (apply mk_canon; first | assumption | apply State.put_canon | apply State.bump_canon | refine State.when_canon _ _ _ ?_ (fun s h => ?_) | apply State.raiseInst_canon | apply State.setPr_canon | apply State.prLevel_canon | apply State.prAbandon_canon)
           | (show State.Canon sv; unfold sv) | (show State.Canon sv.2; unfold sv) | (show State.Canon sv.st; unfold sv)
           | (show State.Canon sv.2.2; unfold sv) | (intro sv; refine (fun (hv : State.Canon sv) => ?_) ?_)
           | (intro sv; refine (fun (hv : State.Canon sv.2) => ?_) ?_)
           | (intro sv; refine (fun (hv : State.Canon sv.st) => ?_) ?_)
           | (intro sv; refine (fun (hv : State.Canon sv.2.2) => ?_) ?_) | (intro sv) | (lift_lets) | (split)
           | (dsimp -zeta only))

end Sys2Proof.Machine
end

