-- ==== Sys2Proof/Laws/Canon/Modes.lean ====
section
/-! SUPPORT. Every operation of Machine/Modes.lean keeps the canonical form of the tables and memories. -/

namespace Sys2Proof.Machine

theorem State.setChanOf_canon (s : State) (c : SafSel) (x : SafChan) (h_s : s.Canon) :
    (State.setChanOf s c x).Canon := by
  unfold State.setChanOf
  with_reducible repeat'
    (first | assumption | (apply mk_canon; assumption) | (split))

theorem State.marksAge_canon (s : State) (d : Nat) (h_s : s.Canon) :
    (State.marksAge s d).Canon := by
  unfold State.marksAge
  with_reducible repeat'
    (first | assumption | (apply mk_canon; assumption) | (show State.Canon sv; unfold sv)
           | (intro sv; refine (fun (hv : State.Canon sv) => ?_) ?_) | (intro sv) | (lift_lets))

theorem State.marksStep_canon (s : State) (d : Int) (h_s : s.Canon) :
    (State.marksStep s d).Canon := by
  unfold State.marksStep
  with_reducible repeat'
    (first | assumption | (apply mk_canon; assumption))

theorem State.pulseStart_canon (s : State) (p : Pair) (h_s : s.Canon) :
    (State.pulseStart s p).Canon := by
  unfold State.pulseStart
  with_reducible repeat'
    (first | assumption | (apply mk_canon; assumption))

theorem State.permUpdate_canon (s : State) (p : Pair) (h_s : s.Canon) :
    (State.permUpdate s p).Canon := by
  unfold State.permUpdate
  with_reducible repeat'
    (first | assumption | apply State.put_canon | refine State.when_canon _ _ _ ?_ (fun s h => ?_) | apply State.raiseIf_canon
           | apply State.pulseStart_canon | (show State.Canon sv; unfold sv)
           | (intro sv; refine (fun (hv : State.Canon sv) => ?_) ?_) | (intro sv) | (lift_lets))

theorem State.grantRecheck_canon (s : State) (c : SafSel) (p : Pair) (h_s : s.Canon) :
    (State.grantRecheck s c p).Canon := by
  unfold State.grantRecheck
  with_reducible repeat'
    (first | assumption | apply State.clearFlag_canon | refine ite_canon ?_ ?_)

theorem State.grantsCheck_canon (s : State) (h_s : s.Canon) :
    (State.grantsCheck s).Canon := by
  unfold State.grantsCheck
  with_reducible repeat'
    (first | assumption | apply State.permUpdate_canon | apply State.grantRecheck_canon | (show State.Canon sv; unfold sv)
           | (intro sv; refine (fun (hv : State.Canon sv) => ?_) ?_) | (intro sv) | (lift_lets))

theorem State.grantsDrop_canon (s : State) (h_s : s.Canon) :
    (State.grantsDrop s).Canon := by
  unfold State.grantsDrop
  with_reducible repeat'
    (first | assumption | apply State.clearFlag_canon | apply State.permUpdate_canon | (show State.Canon sv; unfold sv)
           | (intro sv; refine (fun (hv : State.Canon sv) => ?_) ?_) | (intro sv) | (lift_lets))

theorem State.setLockout_canon (s : State) (b : Bool) (h_s : s.Canon) :
    (State.setLockout s b).Canon := by
  unfold State.setLockout
  with_reducible repeat'
    (first | assumption | apply State.put_canon)

theorem State.syncOutPulse_canon (s : State) (t : Nat) (h_s : s.Canon) :
    (State.syncOutPulse s t).Canon := by
  unfold State.syncOutPulse
  with_reducible repeat'
    (first | assumption | apply State.emit_canon | refine ite_canon ?_ ?_)

theorem State.syncFlush_canon (s : State) (h_s : s.Canon) :
    (State.syncFlush s).Canon := by
  unfold State.syncFlush
  with_reducible repeat'
    (first | assumption | apply State.syncOutPulse_canon | refine foldl_canon (fun s a h => ?_) ?_
           | (apply mk_canon; assumption) | (show State.Canon sv; unfold sv)
           | (intro sv; refine (fun (hv : State.Canon sv) => ?_) ?_) | (intro sv) | (lift_lets))

theorem State.fireOff_canon (s0 : State) (h_s0 : s0.Canon) :
    (State.fireOff s0).Canon := by
  unfold State.fireOff
  with_reducible repeat'
    (first | assumption | apply State.clearFlag_canon | apply State.unclaim_canon | apply State.syncFlush_canon
           | (apply mk_canon; first | assumption | apply State.clearFlag_canon | apply State.unclaim_canon | apply State.syncFlush_canon)
           | (show State.Canon sv; unfold sv) | (show State.Canon sv.2; unfold sv) | (show State.Canon sv.st; unfold sv)
           | (show State.Canon sv.2.2; unfold sv) | (intro sv; refine (fun (hv : State.Canon sv) => ?_) ?_)
           | (intro sv; refine (fun (hv : State.Canon sv.2) => ?_) ?_)
           | (intro sv; refine (fun (hv : State.Canon sv.st) => ?_) ?_)
           | (intro sv; refine (fun (hv : State.Canon sv.2.2) => ?_) ?_) | (intro sv) | (lift_lets) | (split)
           | (dsimp -zeta only))

theorem State.fireStop_canon (s : State) (h_s : s.Canon) :
    (State.fireStop s).Canon := by
  unfold State.fireStop
  with_reducible repeat'
    (first | assumption | apply State.clearFlag_canon | (apply mk_canon; assumption) | (show State.Canon sv; unfold sv)
           | (intro sv; refine (fun (hv : State.Canon sv) => ?_) ?_) | (intro sv) | (lift_lets))

theorem State.stopAsk_canon (s : State) (h_s : s.Canon) :
    (State.stopAsk s).Canon := by
  unfold State.stopAsk
  with_reducible repeat'
    (first | assumption | apply State.fireOff_canon | refine ite_canon ?_ ?_ | (apply mk_canon; assumption) | (split))

theorem State.fireKill_canon (s : State) (h_s : s.Canon) :
    (State.fireKill s).Canon := by
  unfold State.fireKill
  with_reducible repeat'
    (first | assumption | apply State.killCells_canon | apply State.fireOff_canon | refine foldl_canon (fun s a h => ?_) ?_
           | (apply mk_canon; assumption) | (show State.Canon sv; unfold sv)
           | (intro sv; refine (fun (hv : State.Canon sv) => ?_) ?_) | (intro sv) | (lift_lets))

theorem State.fireHalt_canon (s : State) (h_s : s.Canon) :
    (State.fireHalt s).Canon := by
  unfold State.fireHalt
  with_reducible repeat'
    (first | assumption | apply State.clearFlag_canon | apply State.fireKill_canon | refine ite_canon ?_ ?_)

theorem State.descMark_canon (s : State) (n inst status result : Nat) (h_s : s.Canon) :
    (State.descMark s n inst status result).Canon := by
  unfold State.descMark
  with_reducible repeat'
    (first | assumption | apply State.setSq_canon | refine ite_canon ?_ ?_ | (apply mk_canon; assumption)
           | (show State.Canon sv; unfold sv) | (intro sv; refine (fun (hv : State.Canon sv) => ?_) ?_) | (intro sv)
           | (lift_lets))

theorem State.descEnd_canon (s : State) (n inst status result : Nat) (h_s : s.Canon) :
    (State.descEnd s n inst status result).Canon := by
  unfold State.descEnd
  with_reducible repeat'
    (first | assumption | apply State.descEnded_canon | apply State.descMark_canon | refine ite_canon ?_ ?_
           | (apply mk_canon; assumption) | (show State.Canon sv; unfold sv)
           | (intro sv; refine (fun (hv : State.Canon sv) => ?_) ?_) | (intro sv) | (lift_lets) | (split))

theorem State.descFail_canon (s : State) (status : Nat) (o : Op) (h_s : s.Canon) :
    (State.descFail s status o).Canon := by
  unfold State.descFail
  with_reducible repeat'
    (first | assumption | apply State.descMark_canon | apply State.descEnd_canon | refine ite_canon ?_ ?_
           | (apply mk_canon; assumption) | (split))

theorem State.requestDrop_canon (s : State) (h_s : s.Canon) :
    (State.requestDrop s).Canon := by
  unfold State.requestDrop
  with_reducible repeat'
    (first | assumption | (apply mk_canon; assumption))

theorem State.modeReqEnd_canon (s : State) (denied : Bool) (h_s : s.Canon) :
    (State.modeReqEnd s denied).Canon := by
  unfold State.modeReqEnd
  with_reducible repeat'
    (first | assumption | apply State.put_canon | apply State.setFlag_canon | apply State.clearFlag_canon
           | refine State.when_canon _ _ _ ?_ (fun s h => ?_) | apply State.descEnd_canon | apply State.requestDrop_canon
           | refine ite_canon ?_ ?_ | (apply mk_canon; assumption) | (show State.Canon sv; unfold sv)
           | (intro sv; refine (fun (hv : State.Canon sv) => ?_) ?_) | (intro sv) | (lift_lets) | (split))

theorem State.handoverLeave_canon (s : State) (h_s : s.Canon) :
    (State.handoverLeave s).Canon := by
  unfold State.handoverLeave
  with_reducible repeat'
    (first | assumption | apply State.put_canon | apply State.clearFlag_canon | refine ite_canon ?_ ?_
           | (apply mk_canon; assumption) | (show State.Canon sv; unfold sv)
           | (intro sv; refine (fun (hv : State.Canon sv) => ?_) ?_) | (intro sv) | (lift_lets))

theorem State.sliceLeave_canon (s : State) (h_s : s.Canon) :
    (State.sliceLeave s).Canon := by
  unfold State.sliceLeave
  with_reducible repeat'
    (first | assumption | apply State.clearFlag_canon | (apply mk_canon; assumption))

theorem State.leaveService_canon (s : State) (old : Nat) (h_s : s.Canon) :
    (State.leaveService s old).Canon := by
  unfold State.leaveService
  with_reducible repeat'
    (first | assumption | apply State.handoverLeave_canon | apply State.sliceLeave_canon | refine ite_canon ?_ ?_)

theorem State.modeWrite_canon (s : State) (m : Nat) (h_s : s.Canon) :
    (State.modeWrite s m).Canon := by
  unfold State.modeWrite
  with_reducible repeat'
    (first | assumption | apply State.put_canon | refine ite_canon ?_ ?_ | (show State.Canon sv; unfold sv)
           | (intro sv; refine (fun (hv : State.Canon sv) => ?_) ?_) | (intro sv) | (lift_lets))

theorem State.modeLead_canon (s : State) (old m : Nat) (h_s : s.Canon) :
    (State.modeLead s old m).Canon := by
  unfold State.modeLead
  with_reducible repeat'
    (first | assumption | apply State.put_canon | refine ite_canon ?_ ?_ | (apply mk_canon; assumption)
           | (show State.Canon sv; unfold sv) | (intro sv; refine (fun (hv : State.Canon sv) => ?_) ?_) | (intro sv)
           | (lift_lets))

theorem State.modePilot_canon (s : State) (old : Nat) (h_s : s.Canon) :
    (State.modePilot s old).Canon := by
  unfold State.modePilot
  with_reducible repeat'
    (first | assumption | apply State.put_canon | apply State.clearFlag_canon | refine ite_canon ?_ ?_)

theorem State.modeSnuffer_canon (s : State) (m : Nat) (h_s : s.Canon) :
    (State.modeSnuffer s m).Canon := by
  unfold State.modeSnuffer
  with_reducible repeat'
    (first | assumption | refine ite_canon ?_ ?_ | (apply mk_canon; assumption) | (show State.Canon sv; unfold sv)
           | (intro sv; refine (fun (hv : State.Canon sv) => ?_) ?_) | (intro sv) | (lift_lets))

theorem State.modeFire_canon (s : State) (m : Nat) (h_s : s.Canon) :
    (State.modeFire s m).Canon := by
  unfold State.modeFire
  with_reducible repeat'
    (first | assumption | apply State.fireHalt_canon | refine ite_canon ?_ ?_)

theorem State.enterMode_canon (s : State) (m : Nat) (h_s : s.Canon) :
    (State.enterMode s m).Canon := by
  unfold State.enterMode
  with_reducible repeat'
    (first | assumption | apply State.grantsCheck_canon | apply State.leaveService_canon | apply State.modeWrite_canon
           | apply State.modeLead_canon | apply State.modePilot_canon | apply State.modeSnuffer_canon
           | apply State.modeFire_canon | refine ite_canon ?_ ?_ | (show State.Canon sv; unfold sv)
           | (intro sv; refine (fun (hv : State.Canon sv) => ?_) ?_) | (intro sv) | (lift_lets))

theorem State.autoMode_canon (s : State) (m : Nat) (h_s : s.Canon) :
    (State.autoMode s m).Canon := by
  unfold State.autoMode
  with_reducible repeat'
    (first | assumption | apply State.modeReqEnd_canon | apply State.enterMode_canon | refine ite_canon ?_ ?_
           | (show State.Canon sv; unfold sv) | (intro sv; refine (fun (hv : State.Canon sv) => ?_) ?_) | (intro sv)
           | (lift_lets))

theorem State.enterPilot_canon (s : State) (cause : Nat) (byReq : Bool) (h_s : s.Canon) :
    (State.enterPilot s cause byReq).Canon := by
  unfold State.enterPilot
  with_reducible repeat'
    (first | assumption | apply State.put_canon | apply State.emit_canon | apply State.grantsCheck_canon
           | apply State.enterMode_canon | apply State.autoMode_canon | refine ite_canon ?_ ?_
           | (apply mk_canon; first | assumption | apply State.put_canon | apply State.emit_canon | apply State.grantsCheck_canon | apply State.enterMode_canon | apply State.autoMode_canon)
           | (show State.Canon sv; unfold sv) | (show State.Canon sv.2; unfold sv) | (show State.Canon sv.st; unfold sv)
           | (show State.Canon sv.2.2; unfold sv) | (intro sv; refine (fun (hv : State.Canon sv) => ?_) ?_)
           | (intro sv; refine (fun (hv : State.Canon sv.2) => ?_) ?_)
           | (intro sv; refine (fun (hv : State.Canon sv.st) => ?_) ?_)
           | (intro sv; refine (fun (hv : State.Canon sv.2.2) => ?_) ?_) | (intro sv) | (lift_lets) | (split)
           | (dsimp -zeta only))

theorem State.faultNote_canon (s : State) (cause info : Nat) (h_s : s.Canon) :
    (State.faultNote s cause info).Canon := by
  unfold State.faultNote
  with_reducible repeat'
    (first | assumption | apply State.put_canon | apply State.bump_canon | refine ite_canon ?_ ?_)

theorem State.faultMode_canon (s : State) (h_s : s.Canon) :
    (State.faultMode s).Canon := by
  unfold State.faultMode
  with_reducible repeat'
    (first | assumption | apply State.autoMode_canon | refine ite_canon ?_ ?_)

theorem State.safetyFault_canon (s : State) (cause info : Nat) (h_s : s.Canon) :
    (State.safetyFault s cause info).Canon := by
  unfold State.safetyFault
  with_reducible repeat'
    (first | assumption | apply State.raise_canon | apply State.grantsDrop_canon | apply State.setLockout_canon
           | apply State.faultNote_canon | apply State.faultMode_canon
           | (apply mk_canon; first | assumption | apply State.raise_canon | apply State.grantsDrop_canon | apply State.setLockout_canon | apply State.faultNote_canon | apply State.faultMode_canon)
           | (show State.Canon sv; unfold sv) | (show State.Canon sv.2; unfold sv) | (show State.Canon sv.st; unfold sv)
           | (show State.Canon sv.2.2; unfold sv) | (intro sv; refine (fun (hv : State.Canon sv) => ?_) ?_)
           | (intro sv; refine (fun (hv : State.Canon sv.2) => ?_) ?_)
           | (intro sv; refine (fun (hv : State.Canon sv.st) => ?_) ?_)
           | (intro sv; refine (fun (hv : State.Canon sv.2.2) => ?_) ?_) | (intro sv) | (lift_lets) | (split)
           | (dsimp -zeta only))

theorem State.toStandby_canon (s : State) (h_s : s.Canon) :
    (State.toStandby s).2.Canon := by
  unfold State.toStandby
  with_reducible repeat'
    (first | assumption | apply State.setFlag_canon | apply State.fireOff_canon | apply State.stopAsk_canon
           | apply State.enterMode_canon | refine ite_canon ?_ ?_ | (split) | (dsimp -zeta only))

theorem State.requestMode_canon (s : State) (target : Nat) (who : Option (Nat × Nat)) (h_s : s.Canon) :
    (State.requestMode s target who).2.Canon := by
  unfold State.requestMode
  dsimp only
  repeat' (first
    | (with_reducible assumption)
    | (with_reducible apply State.raiseIf_canon)
    | (with_reducible apply State.enterMode_canon)
    | (with_reducible apply State.enterPilot_canon)
    | (with_reducible apply State.toStandby_canon)
    | (with_reducible refine ite_canon ?_ ?_)
    | (with_reducible apply mk_canon; first | (with_reducible assumption) | (with_reducible apply State.raiseIf_canon) | (with_reducible apply State.enterMode_canon) | (with_reducible apply State.enterPilot_canon) | (with_reducible apply State.toStandby_canon) | (with_reducible refine ite_canon ?_ ?_))
    | (with_reducible show State.Canon sv; unfold sv)
    | (with_reducible show State.Canon sv.2; unfold sv)
    | (with_reducible show State.Canon sv.st; unfold sv)
    | (with_reducible show State.Canon sv.2.2; unfold sv)
    | (intro sv; refine (fun (hv : State.Canon sv) => ?_) ?_)
    | (intro sv; refine (fun (hv : State.Canon sv.2) => ?_) ?_)
    | (intro sv; refine (fun (hv : State.Canon sv.st) => ?_) ?_)
    | (intro sv; refine (fun (hv : State.Canon sv.2.2) => ?_) ?_)
    | (intro sv)
    | lift_lets
    | split
    | (dsimp -zeta only))

end Sys2Proof.Machine
end

