-- ==== Sys2Proof/Laws/Canon/Saf.lean ====
section
/-! SUPPORT. Every operation of Machine/Saf.lean keeps the canonical form of the tables and memories. -/

namespace Sys2Proof.Machine

theorem State.zoneShow_canon (s : State) (c : SafSel) (h_s : s.Canon) :
    (State.zoneShow s c).Canon := by
  unfold State.zoneShow
  with_reducible repeat'
    (first | assumption | apply State.setReg_canon | refine foldl_canon (fun s a h => ?_) ?_ | refine ite_canon ?_ ?_
           | (show State.Canon sv; unfold sv) | (intro sv; refine (fun (hv : State.Canon sv) => ?_) ?_) | (intro sv)
           | (lift_lets))

theorem State.zoneLoad_canon (s : State) (g n : Nat) (h_s : s.Canon) :
    (State.zoneLoad s g n).Canon := by
  unfold State.zoneLoad
  with_reducible repeat'
    (first | assumption | apply State.hubScan_canon)

theorem State.withdraw_canon (s : State) (c : SafSel) (t : List Byte) (v : List ZoneVerdict) (h_s : s.Canon) :
    (State.withdraw s c t v).Canon := by
  unfold State.withdraw
  with_reducible repeat'
    (first | assumption | apply State.clearFlag_canon | refine foldl_canon (fun s a h => ?_) ?_ | refine ite_canon ?_ ?_)

theorem State.zoneBlind_canon (s : State) (t : List Byte) (c : ClosedCell) (v : List ZoneVerdict) (h_s : s.Canon) :
    (State.zoneBlind s t c v).Canon := by
  unfold State.zoneBlind
  with_reducible repeat'
    (first | assumption | apply State.raise_canon | refine ite_canon ?_ ?_ | (apply mk_canon; assumption)
           | (show State.Canon sv; unfold sv) | (intro sv; refine (fun (hv : State.Canon sv) => ?_) ?_) | (intro sv)
           | (lift_lets) | (split))

theorem State.zoneJudge_canon (s : State) (c : SafSel) (cell : ClosedCell) (h_s : s.Canon) :
    (State.zoneJudge s c cell).Canon := by
  unfold State.zoneJudge
  with_reducible repeat'
    (first | assumption | apply State.put_canon | apply State.setChanOf_canon | apply State.grantsCheck_canon
           | apply State.zoneShow_canon | apply State.withdraw_canon | apply State.zoneBlind_canon | refine ite_canon ?_ ?_
           | (apply mk_canon; assumption) | (show State.Canon sv; unfold sv)
           | (intro sv; refine (fun (hv : State.Canon sv) => ?_) ?_) | (intro sv) | (lift_lets))

theorem State.zoneTaken_canon (s : State) (c : SafSel) (cell : ClosedCell) (rest : List ClosedCell) (h_s : s.Canon) :
    (State.zoneTaken s c cell rest).Canon := by
  unfold State.zoneTaken
  with_reducible repeat'
    (first | assumption | apply State.setChanOf_canon | (apply mk_canon; assumption) | (show State.Canon sv; unfold sv)
           | (intro sv; refine (fun (hv : State.Canon sv) => ?_) ?_) | (intro sv) | (lift_lets))

theorem State.zoneEvaluate_canon (s : State) (c : SafSel) (h_s : s.Canon) :
    (State.zoneEvaluate s c).Canon := by
  unfold State.zoneEvaluate
  dsimp only
  repeat' (first
    | (with_reducible assumption)
    | (with_reducible refine State.when_canon _ _ _ ?_ (fun s h => ?_))
    | (with_reducible apply State.zoneLoad_canon)
    | (with_reducible apply State.zoneJudge_canon)
    | (with_reducible apply State.zoneTaken_canon)
    | (with_reducible refine ite_canon ?_ ?_)
    | (with_reducible apply mk_canon; first | (with_reducible assumption) | (with_reducible refine State.when_canon _ _ _ ?_ (fun s h => ?_)) | (with_reducible apply State.zoneLoad_canon) | (with_reducible apply State.zoneJudge_canon) | (with_reducible apply State.zoneTaken_canon) | (with_reducible refine ite_canon ?_ ?_))
    | (with_reducible show State.Canon sv; unfold sv)
    | (with_reducible show State.Canon sv.2; unfold sv)
    | (with_reducible show State.Canon sv.st; unfold sv)
    | (with_reducible show State.Canon sv.2.2; unfold sv)
    | (intro sv; refine (fun (hv : State.Canon sv) => ?_) ?_)
    | (intro sv; refine (fun (hv : State.Canon sv.2) => ?_) ?_)
    | (intro sv; refine (fun (hv : State.Canon sv.st) => ?_) ?_)
    | (intro sv; refine (fun (hv : State.Canon sv.2.2) => ?_) ?_)
    | (intro sv)
    | lift_lets
    | split
    | (dsimp -zeta only))

theorem State.verdictEvents_canon (s : State) (l : List ZoneVerdict) (h_s : s.Canon) :
    (State.verdictEvents s l).Canon := by
  unfold State.verdictEvents
  with_reducible repeat'
    (first | assumption | apply State.raiseIf_canon | refine foldl_canon (fun s a h => ?_) ?_ | refine ite_canon ?_ ?_)

theorem State.verdictExchange_canon (s : State) (h_s : s.Canon) :
    (State.verdictExchange s).Canon := by
  unfold State.verdictExchange
  with_reducible repeat'
    (first | assumption | apply State.safetyFault_canon | apply State.verdictEvents_canon | refine ite_canon ?_ ?_
           | (apply mk_canon; assumption) | (show State.Canon sv; unfold sv)
           | (intro sv; refine (fun (hv : State.Canon sv) => ?_) ?_) | (intro sv) | (lift_lets) | (split))

theorem State.restartDone_canon (s : State) (c : SafSel) (p : Pair) (h_s : s.Canon) :
    (State.restartDone s c p).Canon := by
  unfold State.restartDone
  with_reducible repeat'
    (first | assumption | apply State.setFlag_canon | apply State.permUpdate_canon | refine ite_canon ?_ ?_
           | (apply mk_canon; first | assumption | apply State.setFlag_canon | apply State.permUpdate_canon)
           | (show State.Canon sv; unfold sv) | (show State.Canon sv.2; unfold sv) | (show State.Canon sv.st; unfold sv)
           | (show State.Canon sv.2.2; unfold sv) | (intro sv; refine (fun (hv : State.Canon sv) => ?_) ?_)
           | (intro sv; refine (fun (hv : State.Canon sv.2) => ?_) ?_)
           | (intro sv; refine (fun (hv : State.Canon sv.st) => ?_) ?_)
           | (intro sv; refine (fun (hv : State.Canon sv.2.2) => ?_) ?_) | (intro sv) | (lift_lets) | (split)
           | (dsimp -zeta only))

theorem State.clockStop_canon (s : State) (p : Pair) (h_s : s.Canon) :
    (State.clockStop s p).Canon := by
  unfold State.clockStop
  with_reducible repeat'
    (first | assumption | apply State.permUpdate_canon | apply State.safetyFault_canon | refine ite_canon ?_ ?_
           | (apply mk_canon; assumption) | (show State.Canon sv; unfold sv)
           | (intro sv; refine (fun (hv : State.Canon sv) => ?_) ?_) | (intro sv) | (lift_lets))

theorem State.setApply_canon (s : State) (k b : Nat) (h_s : s.Canon) :
    (State.setApply s k b).Canon := by
  unfold State.setApply
  with_reducible repeat'
    (first | assumption | apply State.put_canon | apply State.raise_canon | apply State.raiseIf_canon
           | apply State.grantsCheck_canon | apply State.zoneShow_canon | (apply mk_canon; assumption)
           | (show State.Canon sv; unfold sv) | (intro sv; refine (fun (hv : State.Canon sv) => ?_) ?_) | (intro sv)
           | (lift_lets))

theorem State.setAgree_canon (s : State) (h_s : s.Canon) :
    (State.setAgree s).Canon := by
  unfold State.setAgree
  with_reducible repeat'
    (first | assumption | apply State.setApply_canon | refine ite_canon ?_ ?_ | (apply mk_canon; assumption)
           | (show State.Canon sv; unfold sv) | (intro sv; refine (fun (hv : State.Canon sv) => ?_) ?_) | (intro sv)
           | (lift_lets))

theorem State.switchEnd_canon (s : State) (h_s : s.Canon) :
    (State.switchEnd s).Canon := by
  unfold State.switchEnd
  with_reducible repeat'
    (first | assumption | apply State.clearFlag_canon | apply State.grantsCheck_canon | refine ite_canon ?_ ?_
           | (apply mk_canon; assumption) | (show State.Canon sv; unfold sv)
           | (intro sv; refine (fun (hv : State.Canon sv) => ?_) ?_) | (intro sv) | (lift_lets) | (split))

theorem State.putBit_canon (s : State) (f : FRef) (n : Nat) (b : Bool) (h_s : s.Canon) :
    (State.putBit s f n b).Canon := by
  unfold State.putBit
  with_reducible repeat'
    (first | assumption | apply State.put_canon | (show State.Canon sv; unfold sv)
           | (intro sv; refine (fun (hv : State.Canon sv) => ?_) ?_) | (intro sv) | (lift_lets))

theorem State.dciEval_canon (s : State) (n : Nat) (h_s : s.Canon) :
    (State.dciEval s n).Canon := by
  unfold State.dciEval
  with_reducible repeat'
    (first | assumption | apply State.raise_canon | apply State.putBit_canon | refine ite_canon ?_ ?_
           | (apply mk_canon; assumption) | (show State.Canon sv; unfold sv)
           | (intro sv; refine (fun (hv : State.Canon sv) => ?_) ?_) | (intro sv) | (lift_lets) | (split))

theorem State.dciSample_canon (s : State) (v : BitVec 8) (h_s : s.Canon) :
    (State.dciSample s v).Canon := by
  unfold State.dciSample
  with_reducible repeat'
    (first | assumption | apply State.put_canon | apply State.dciEval_canon | refine foldl_canon (fun s a h => ?_) ?_
           | refine ite_canon ?_ ?_ | (apply mk_canon; assumption) | (show State.Canon sv; unfold sv)
           | (intro sv; refine (fun (hv : State.Canon sv) => ?_) ?_) | (intro sv) | (lift_lets))

theorem State.dciExpire_canon (s : State) (n : Nat) (second : Bool) (h_s : s.Canon) :
    (State.dciExpire s n second).Canon := by
  unfold State.dciExpire
  with_reducible repeat'
    (first | assumption | apply State.safetyFault_canon | apply State.putBit_canon | refine ite_canon ?_ ?_
           | (apply mk_canon; first | assumption | apply State.safetyFault_canon | apply State.putBit_canon)
           | (show State.Canon sv; unfold sv) | (show State.Canon sv.2; unfold sv) | (show State.Canon sv.st; unfold sv)
           | (show State.Canon sv.2.2; unfold sv) | (intro sv; refine (fun (hv : State.Canon sv) => ?_) ?_)
           | (intro sv; refine (fun (hv : State.Canon sv.2) => ?_) ?_)
           | (intro sv; refine (fun (hv : State.Canon sv.st) => ?_) ?_)
           | (intro sv; refine (fun (hv : State.Canon sv.2.2) => ?_) ?_) | (intro sv) | (lift_lets) | (split)
           | (dsimp -zeta only))

theorem State.dciSwap_canon (s : State) (old : List Byte) (n : Nat) (h_s : s.Canon) :
    (State.dciSwap s old n).Canon := by
  unfold State.dciSwap
  with_reducible repeat'
    (first | assumption | apply State.putBit_canon | refine ite_canon ?_ ?_ | (apply mk_canon; assumption)
           | (show State.Canon sv; unfold sv) | (intro sv; refine (fun (hv : State.Canon sv) => ?_) ?_) | (intro sv)
           | (lift_lets))

theorem State.ztEnd_canon (s : State) (err : Nat) (h_s : s.Canon) :
    (State.ztEnd s err).Canon := by
  unfold State.ztEnd
  with_reducible repeat'
    (first | assumption | apply State.put_canon | apply State.setFlag_canon | apply State.clearFlag_canon
           | refine State.when_canon _ _ _ ?_ (fun s h => ?_) | (show State.Canon sv; unfold sv)
           | (intro sv; refine (fun (hv : State.Canon sv) => ?_) ?_) | (intro sv) | (lift_lets))

theorem State.ztPrepare_canon (s : State) (h_s : s.Canon) :
    (State.ztPrepare s).Canon := by
  unfold State.ztPrepare
  with_reducible repeat'
    (first | assumption | apply State.put_canon | apply State.setFlag_canon | apply State.clearFlag_canon
           | apply State.hubScan_canon | apply State.hubWrite_canon | apply State.ztEnd_canon | refine ite_canon ?_ ?_
           | (apply mk_canon; first | assumption | apply State.put_canon | apply State.setFlag_canon | apply State.clearFlag_canon | apply State.hubScan_canon | apply State.hubWrite_canon | apply State.ztEnd_canon)
           | (show State.Canon sv; unfold sv) | (show State.Canon sv.2; unfold sv) | (show State.Canon sv.st; unfold sv)
           | (show State.Canon sv.2.2; unfold sv) | (intro sv; refine (fun (hv : State.Canon sv) => ?_) ?_)
           | (intro sv; refine (fun (hv : State.Canon sv.2) => ?_) ?_)
           | (intro sv; refine (fun (hv : State.Canon sv.st) => ?_) ?_)
           | (intro sv; refine (fun (hv : State.Canon sv.2.2) => ?_) ?_) | (intro sv) | (lift_lets) | (split)
           | (dsimp -zeta only))

theorem State.ztFail_canon (s : State) (err : Nat) (h_s : s.Canon) :
    (State.ztFail s err).Canon := by
  unfold State.ztFail
  with_reducible repeat'
    (first | assumption | apply State.raise_canon | apply State.ztEnd_canon)

theorem State.ztChecked_canon (s0 : State) (c : SafSel) (h_s0 : s0.Canon) :
    (State.ztChecked s0 c).Canon := by
  unfold State.ztChecked
  with_reducible repeat'
    (first | assumption | apply State.put_canon | apply State.setFlag_canon | apply State.clearFlag_canon
           | refine State.when_canon _ _ _ ?_ (fun s h => ?_) | apply State.zoneLoad_canon | apply State.ztFail_canon
           | refine ite_canon ?_ ?_ | (show State.Canon sv; unfold sv)
           | (intro sv; refine (fun (hv : State.Canon sv) => ?_) ?_) | (intro sv) | (lift_lets))

theorem State.ztSwap_canon (s : State) (b : Nat) (h_s : s.Canon) :
    (State.ztSwap s b).Canon := by
  unfold State.ztSwap
  with_reducible repeat'
    (first | assumption | apply State.put_canon | apply State.clearFlag_canon | apply State.raise_canon
           | apply State.raiseIf_canon | apply State.grantsCheck_canon | apply State.zoneShow_canon | apply State.dciSwap_canon
           | apply State.ztEnd_canon | refine foldl_canon (fun s a h => ?_) ?_
           | (apply mk_canon; first | assumption | apply State.put_canon | apply State.clearFlag_canon | apply State.raise_canon | apply State.raiseIf_canon | apply State.grantsCheck_canon | apply State.zoneShow_canon | apply State.dciSwap_canon | apply State.ztEnd_canon)
           | (show State.Canon sv; unfold sv) | (show State.Canon sv.2; unfold sv) | (show State.Canon sv.st; unfold sv)
           | (show State.Canon sv.2.2; unfold sv) | (intro sv; refine (fun (hv : State.Canon sv) => ?_) ?_)
           | (intro sv; refine (fun (hv : State.Canon sv.2) => ?_) ?_)
           | (intro sv; refine (fun (hv : State.Canon sv.st) => ?_) ?_)
           | (intro sv; refine (fun (hv : State.Canon sv.2.2) => ?_) ?_) | (intro sv) | (lift_lets) | (split)
           | (dsimp -zeta only))

theorem State.ztIdleSwap_canon (s : State) (h_s : s.Canon) :
    (State.ztIdleSwap s).Canon := by
  unfold State.ztIdleSwap
  with_reducible repeat'
    (first | assumption | apply State.ztSwap_canon | refine ite_canon ?_ ?_)

theorem State.ztCommit_canon (s : State) (h_s : s.Canon) :
    (State.ztCommit s).Canon := by
  unfold State.ztCommit
  with_reducible repeat'
    (first | assumption | apply State.put_canon | apply State.setFlag_canon | apply State.ztIdleSwap_canon
           | refine ite_canon ?_ ?_ | (show State.Canon sv; unfold sv)
           | (intro sv; refine (fun (hv : State.Canon sv) => ?_) ?_) | (intro sv) | (lift_lets))

theorem State.ztAbort_canon (s : State) (h_s : s.Canon) :
    (State.ztAbort s).Canon := by
  unfold State.ztAbort
  with_reducible repeat'
    (first | assumption | apply State.ztEnd_canon | refine ite_canon ?_ ?_)

theorem State.safBoundary_canon (s : State) (b : Nat) (h_s : s.Canon) :
    (State.safBoundary s b).Canon := by
  unfold State.safBoundary
  with_reducible repeat'
    (first | assumption | apply State.setApply_canon | apply State.ztSwap_canon | refine ite_canon ?_ ?_
           | (apply mk_canon; assumption) | (split))

theorem State.tableRecheck_canon (s : State) (c : SafSel) (ok : Bool) (h_s : s.Canon) :
    (State.tableRecheck s c ok).Canon := by
  unfold State.tableRecheck
  with_reducible repeat'
    (first | assumption | refine State.when_canon _ _ _ ?_ (fun s h => ?_) | apply State.safetyFault_canon
           | apply State.zoneLoad_canon | refine ite_canon ?_ ?_ | (show State.Canon sv; unfold sv)
           | (intro sv; refine (fun (hv : State.Canon sv) => ?_) ?_) | (intro sv) | (lift_lets))

theorem State.testPulse_canon (s : State) (i : Nat) (off : Bool) (h_s : s.Canon) :
    (State.testPulse s i off).Canon := by
  unfold State.testPulse
  with_reducible repeat'
    (first | assumption | refine ite_canon ?_ ?_ | (apply mk_canon; assumption))

theorem State.readback_canon (s : State) (level settled : BitVec 4) (h_s : s.Canon) :
    (State.readback s level settled).Canon := by
  unfold State.readback
  with_reducible repeat'
    (first | assumption | apply State.put_canon | apply State.safetyFault_canon | refine ite_canon ?_ ?_
           | (show State.Canon sv; unfold sv) | (intro sv; refine (fun (hv : State.Canon sv) => ?_) ?_) | (intro sv)
           | (lift_lets))

theorem State.lorReject_canon (s : State) (h_s : s.Canon) :
    (State.lorReject s).Canon := by
  unfold State.lorReject
  with_reducible repeat'
    (first | assumption | apply State.bump_canon | apply State.raise_canon)

theorem State.lorFall_canon (s : State) (spMs snfMs : Nat) (present : Bool) (h_s : s.Canon) :
    (State.lorFall s spMs snfMs present).Canon := by
  unfold State.lorFall
  with_reducible repeat'
    (first | assumption | apply State.incr_canon | apply State.lorReject_canon | refine ite_canon ?_ ?_
           | (apply mk_canon; first | assumption | apply State.incr_canon | apply State.lorReject_canon)
           | (show State.Canon sv; unfold sv) | (show State.Canon sv.2; unfold sv) | (show State.Canon sv.st; unfold sv)
           | (show State.Canon sv.2.2; unfold sv) | (intro sv; refine (fun (hv : State.Canon sv) => ?_) ?_)
           | (intro sv; refine (fun (hv : State.Canon sv.2) => ?_) ?_)
           | (intro sv; refine (fun (hv : State.Canon sv.st) => ?_) ?_)
           | (intro sv; refine (fun (hv : State.Canon sv.2.2) => ?_) ?_) | (intro sv) | (lift_lets) | (split)
           | (dsimp -zeta only))

theorem State.lorLong_canon (s : State) (h_s : s.Canon) :
    (State.lorLong s).Canon := by
  unfold State.lorLong
  with_reducible repeat'
    (first | assumption | apply State.lorReject_canon | refine ite_canon ?_ ?_ | (apply mk_canon; assumption))

theorem State.lockoutClear_canon (s : State) (h_s : s.Canon) :
    (State.lockoutClear s).Canon := by
  unfold State.lockoutClear
  with_reducible repeat'
    (first | assumption | apply State.raise_canon | apply State.grantsCheck_canon | apply State.setLockout_canon
           | apply State.autoMode_canon | refine ite_canon ?_ ?_ | (apply mk_canon; assumption)
           | (show State.Canon sv; unfold sv) | (intro sv; refine (fun (hv : State.Canon sv) => ?_) ?_) | (intro sv)
           | (lift_lets))

theorem State.tablesGone_canon (s : State) (h_s : s.Canon) :
    (State.tablesGone s).Canon := by
  unfold State.tablesGone
  with_reducible repeat'
    (first | assumption | apply State.setReg_canon | apply State.put_canon | apply State.resetReg_canon
           | apply State.clearFlag_canon | apply State.grantsDrop_canon | (apply mk_canon; assumption)
           | (show State.Canon sv; unfold sv) | (intro sv; refine (fun (hv : State.Canon sv) => ?_) ?_) | (intro sv)
           | (lift_lets))

theorem State.snfTempsGone_canon (s : State) (h_s : s.Canon) :
    (State.snfTempsGone s).Canon := by
  unfold State.snfTempsGone
  with_reducible repeat'
    (first | assumption | apply State.setFlag_canon | apply State.raiseIf_canon | (apply mk_canon; assumption)
           | (show State.Canon sv; unfold sv) | (intro sv; refine (fun (hv : State.Canon sv) => ?_) ?_) | (intro sv)
           | (lift_lets))

theorem State.snufferStart_canon (s : State) (h_s : s.Canon) :
    (State.snufferStart s).Canon := by
  unfold State.snufferStart
  with_reducible repeat'
    (first | assumption | apply State.put_canon | apply State.resetReg_canon | apply State.setLockout_canon
           | apply State.readback_canon | apply State.tablesGone_canon | apply State.snfTempsGone_canon
           | (apply mk_canon; first | assumption | apply State.put_canon | apply State.resetReg_canon | apply State.setLockout_canon | apply State.readback_canon | apply State.tablesGone_canon | apply State.snfTempsGone_canon)
           | (show State.Canon sv; unfold sv) | (show State.Canon sv.2; unfold sv) | (show State.Canon sv.st; unfold sv)
           | (show State.Canon sv.2.2; unfold sv) | (intro sv; refine (fun (hv : State.Canon sv) => ?_) ?_)
           | (intro sv; refine (fun (hv : State.Canon sv.2) => ?_) ?_)
           | (intro sv; refine (fun (hv : State.Canon sv.st) => ?_) ?_)
           | (intro sv; refine (fun (hv : State.Canon sv.2.2) => ?_) ?_) | (intro sv) | (lift_lets) | (split)
           | (dsimp -zeta only))

end Sys2Proof.Machine
end

