-- ==== Sys2Proof/Laws/Canon/Frame.lean ====
section
/-! SUPPORT. Every operation of Machine/Frame.lean keeps the canonical form of the tables and memories. -/

namespace Sys2Proof.Machine

theorem State.fireScan_canon (s : State) (port a n : Nat) (h_s : s.Canon) :
    (State.fireScan s port a n).Canon := by
  unfold State.fireScan
  with_reducible repeat'
    (first | assumption | apply State.hubScan_canon)

theorem State.frameJudge_canon (s : State) (buf : Nat) (h_s : s.Canon) :
    (State.frameJudge s buf).2.Canon := by
  unfold State.frameJudge
  with_reducible repeat'
    (first | assumption | apply State.fresh_canon | apply State.fireScan_canon | (show State.Canon sv; unfold sv)
           | (intro sv; refine (fun (hv : State.Canon sv) => ?_) ?_) | (intro sv) | (lift_lets))

end Sys2Proof.Machine
end

