-- ==== Sys2Proof/Laws/Canon/Fire.lean ====
section
/-! SUPPORT. Every operation of Machine/Fire.lean keeps the canonical form of the tables and memories. -/

namespace Sys2Proof.Machine

theorem State.onFire_canon (s : State) (f : FireSt → FireSt) (h_s : s.Canon) :
    (State.onFire s f).Canon := by
  unfold State.onFire
  with_reducible repeat'
    (first | assumption | (apply mk_canon; assumption))

theorem State.taperSend_canon (s : State) (d type seq b3 mask current : Nat) (h_s : s.Canon) :
    (State.taperSend s d type seq b3 mask current).Canon := by
  unfold State.taperSend
  with_reducible repeat'
    (first | assumption | apply State.emit_canon | refine ite_canon ?_ ?_)

theorem State.taperReset_canon (s : State) (h_s : s.Canon) :
    (State.taperReset s).Canon := by
  unfold State.taperReset
  with_reducible repeat'
    (first | assumption | apply State.emit_canon | apply State.onFire_canon | (apply mk_canon; assumption))

theorem State.runRise_canon (s : State) (h_s : s.Canon) :
    (State.runRise s).Canon := by
  unfold State.runRise
  with_reducible repeat'
    (first | assumption | apply State.setFlag_canon | apply State.clearFlag_canon | apply State.onFire_canon
           | apply State.taperSend_canon | apply State.taperReset_canon | refine foldl_canon (fun s a h => ?_) ?_
           | (apply mk_canon; assumption) | (show State.Canon sv; unfold sv)
           | (intro sv; refine (fun (hv : State.Canon sv) => ?_) ?_) | (intro sv) | (lift_lets))

theorem State.runSet_canon (s : State) (h_s : s.Canon) :
    (State.runSet s).Canon := by
  unfold State.runSet
  with_reducible repeat'
    (first | assumption | apply State.setFlag_canon | apply State.claim_canon | apply State.onFire_canon
           | apply State.runRise_canon | refine ite_canon ?_ ?_ | (apply mk_canon; assumption)
           | (show State.Canon sv; unfold sv) | (intro sv; refine (fun (hv : State.Canon sv) => ?_) ?_) | (intro sv)
           | (lift_lets))

theorem State.runClear_canon (s : State) (h_s : s.Canon) :
    (State.runClear s).Canon := by
  unfold State.runClear
  with_reducible repeat'
    (first | assumption | apply State.clearFlag_canon | apply State.stopAsk_canon | apply State.onFire_canon
           | refine ite_canon ?_ ?_ | (apply mk_canon; assumption) | (show State.Canon sv; unfold sv)
           | (intro sv; refine (fun (hv : State.Canon sv) => ?_) ?_) | (intro sv) | (lift_lets))

theorem State.swapValidate_canon (s : State) (h_s : s.Canon) :
    (State.swapValidate s).Canon := by
  unfold State.swapValidate
  with_reducible repeat'
    (first | assumption | apply State.clearFlag_canon | apply State.onFire_canon | (apply mk_canon; assumption))

theorem State.swapReq_canon (s : State) (h_s : s.Canon) :
    (State.swapReq s).Canon := by
  unfold State.swapReq
  with_reducible repeat'
    (first | assumption | apply State.setFlag_canon | apply State.onFire_canon | apply State.swapValidate_canon
           | refine ite_canon ?_ ?_ | (apply mk_canon; assumption))

theorem State.syncPinSelect_canon (s : State) (start swap : Nat) (h_s : s.Canon) :
    (State.syncPinSelect s start swap).Canon := by
  unfold State.syncPinSelect
  with_reducible repeat'
    (first | assumption | apply State.put_canon | apply State.claim_canon | apply State.unclaim_canon | refine ite_canon ?_ ?_
           | (show State.Canon sv; unfold sv) | (intro sv; refine (fun (hv : State.Canon sv) => ?_) ?_) | (intro sv)
           | (lift_lets))

theorem State.enumDone_canon (s : State) (answered : Nat) (h_s : s.Canon) :
    (State.enumDone s answered).Canon := by
  unfold State.enumDone
  with_reducible repeat'
    (first | assumption | apply State.put_canon | apply State.onFire_canon | refine ite_canon ?_ ?_
           | (apply mk_canon; assumption))

theorem State.validFail_canon (s : State) (err idx : Nat) (h_s : s.Canon) :
    (State.validFail s err idx).Canon := by
  unfold State.validFail
  with_reducible repeat'
    (first | assumption | apply State.put_canon | apply State.raise_canon)

theorem State.validRunDone_canon (s : State) (h_s : s.Canon) :
    (State.validRunDone s).Canon := by
  unfold State.validRunDone
  with_reducible repeat'
    (first | assumption | apply State.put_canon | apply State.clearFlag_canon
           | refine State.when_canon _ _ _ ?_ (fun s h => ?_) | apply State.fireOff_canon | apply State.frameJudge_canon
           | apply State.onFire_canon | apply State.swapValidate_canon | apply State.validFail_canon | refine ite_canon ?_ ?_
           | (apply mk_canon; assumption) | (show State.Canon sv; unfold sv)
           | (intro sv; refine (fun (hv : State.Canon sv) => ?_) ?_) | (intro sv) | (lift_lets))

theorem State.validSwapDone_canon (s : State) (h_s : s.Canon) :
    (State.validSwapDone s).Canon := by
  unfold State.validSwapDone
  with_reducible repeat'
    (first | assumption | apply State.put_canon | apply State.setFlag_canon | apply State.clearFlag_canon
           | refine State.when_canon _ _ _ ?_ (fun s h => ?_) | apply State.raiseIf_canon | apply State.frameJudge_canon
           | apply State.onFire_canon | apply State.validFail_canon | refine ite_canon ?_ ?_
           | (apply mk_canon; first | assumption | apply State.put_canon | apply State.setFlag_canon | apply State.clearFlag_canon | refine State.when_canon _ _ _ ?_ (fun s h => ?_) | apply State.raiseIf_canon | apply State.frameJudge_canon | apply State.onFire_canon | apply State.validFail_canon)
           | (show State.Canon sv; unfold sv) | (show State.Canon sv.2; unfold sv) | (show State.Canon sv.st; unfold sv)
           | (show State.Canon sv.2.2; unfold sv) | (intro sv; refine (fun (hv : State.Canon sv) => ?_) ?_)
           | (intro sv; refine (fun (hv : State.Canon sv.2) => ?_) ?_)
           | (intro sv; refine (fun (hv : State.Canon sv.st) => ?_) ?_)
           | (intro sv; refine (fun (hv : State.Canon sv.2.2) => ?_) ?_) | (intro sv) | (lift_lets) | (split)
           | (dsimp -zeta only))

theorem State.validDone_canon (s : State) (h_s : s.Canon) :
    (State.validDone s).Canon := by
  unfold State.validDone
  with_reducible repeat'
    (first | assumption | apply State.validRunDone_canon | apply State.validSwapDone_canon | refine ite_canon ?_ ?_)

theorem State.swapTake_canon (s : State) (h_s : s.Canon) :
    (State.swapTake s).Canon := by
  unfold State.swapTake
  with_reducible repeat'
    (first | assumption | apply State.put_canon | apply State.incr_canon | apply State.clearFlag_canon
           | apply State.raise_canon | apply State.onFire_canon
           | (apply mk_canon; first | assumption | apply State.put_canon | apply State.incr_canon | apply State.clearFlag_canon | apply State.raise_canon | apply State.onFire_canon)
           | (show State.Canon sv; unfold sv) | (show State.Canon sv.2; unfold sv) | (show State.Canon sv.st; unfold sv)
           | (show State.Canon sv.2.2; unfold sv) | (intro sv; refine (fun (hv : State.Canon sv) => ?_) ?_)
           | (intro sv; refine (fun (hv : State.Canon sv.2) => ?_) ?_)
           | (intro sv; refine (fun (hv : State.Canon sv.st) => ?_) ?_)
           | (intro sv; refine (fun (hv : State.Canon sv.2.2) => ?_) ?_) | (intro sv) | (lift_lets) | (split)
           | (dsimp -zeta only))

theorem State.rekeyTake_canon (s : State) (h_s : s.Canon) :
    (State.rekeyTake s).Canon := by
  unfold State.rekeyTake
  with_reducible repeat'
    (first | assumption | apply State.clearFlag_canon | apply State.raise_canon | apply State.onFire_canon
           | apply State.rekey_canon | (apply mk_canon; assumption) | (split))

theorem State.rekey_canon (s : State) (h_s : s.Canon) :
    (State.rekey s).Canon := by
  unfold State.rekey
  with_reducible repeat'
    (first | assumption | apply State.setFlag_canon | apply State.onFire_canon | apply State.rekeyTake_canon
           | refine ite_canon ?_ ?_ | (apply mk_canon; assumption) | (show State.Canon sv; unfold sv)
           | (intro sv; refine (fun (hv : State.Canon sv) => ?_) ?_) | (intro sv) | (lift_lets))

theorem State.setSegCnt_canon (s : State) (k : Nat) (c : SegCnt) (h_s : s.Canon) :
    (State.setSegCnt s k c).Canon := by
  unfold State.setSegCnt
  with_reducible repeat'
    (first | assumption | apply State.onFire_canon | (apply mk_canon; assumption))

theorem State.commitStart_canon (s : State) (t0 : Nat) (h_s : s.Canon) :
    (State.commitStart s t0).Canon := by
  unfold State.commitStart
  with_reducible repeat'
    (first | assumption | apply State.fireScan_canon | apply State.onFire_canon | (apply mk_canon; assumption)
           | (show State.Canon sv; unfold sv) | (intro sv; refine (fun (hv : State.Canon sv) => ?_) ?_) | (intro sv)
           | (lift_lets))

theorem State.commitEntry_canon (s0 : State) (h_s0 : s0.Canon) :
    (State.commitEntry s0).Canon := by
  unfold State.commitEntry
  with_reducible repeat'
    (first | assumption | apply State.fireKill_canon | apply State.fireScan_canon | apply State.onFire_canon
           | refine ite_canon ?_ ?_ | (apply mk_canon; assumption) | (show State.Canon sv; unfold sv)
           | (intro sv; refine (fun (hv : State.Canon sv) => ?_) ?_) | (intro sv) | (lift_lets))

theorem State.startRequest_canon (s : State) (t : Nat) (h_s : s.Canon) :
    (State.startRequest s t).Canon := by
  unfold State.startRequest
  with_reducible repeat'
    (first | assumption | apply State.setFlag_canon | apply State.raise_canon | apply State.onFire_canon
           | refine ite_canon ?_ ?_ | (apply mk_canon; assumption) | (show State.Canon sv; unfold sv)
           | (intro sv; refine (fun (hv : State.Canon sv) => ?_) ?_) | (intro sv) | (lift_lets))

theorem State.startsDue_canon (s : State) (h_s : s.Canon) :
    (State.startsDue s).Canon := by
  unfold State.startsDue
  with_reducible repeat'
    (first | assumption | apply State.startRequest_canon | refine foldl_canon (fun s a h => ?_) ?_
           | (apply mk_canon; assumption))

theorem State.phaseTake_canon (s : State) (h_s : s.Canon) :
    (State.phaseTake s).Canon := by
  unfold State.phaseTake
  with_reducible repeat'
    (first | assumption | refine ite_canon ?_ ?_ | (apply mk_canon; assumption) | (show State.Canon sv; unfold sv)
           | (intro sv; refine (fun (hv : State.Canon sv) => ?_) ?_) | (intro sv) | (lift_lets))

theorem State.decideStart_canon (s : State) (h_s : s.Canon) :
    (State.decideStart s).Canon := by
  unfold State.decideStart
  dsimp only
  repeat' (first
    | (with_reducible assumption)
    | (with_reducible apply State.fireStop_canon)
    | (with_reducible apply State.safBoundary_canon)
    | (with_reducible apply State.onFire_canon)
    | (with_reducible apply State.swapTake_canon)
    | (with_reducible apply State.rekeyTake_canon)
    | (with_reducible apply State.commitStart_canon)
    | (with_reducible apply State.phaseTake_canon)
    | (with_reducible refine ite_canon ?_ ?_)
    | (with_reducible apply mk_canon; first | (with_reducible assumption) | (with_reducible apply State.fireStop_canon) | (with_reducible apply State.safBoundary_canon) | (with_reducible apply State.onFire_canon) | (with_reducible apply State.swapTake_canon) | (with_reducible apply State.rekeyTake_canon) | (with_reducible apply State.commitStart_canon) | (with_reducible apply State.phaseTake_canon) | (with_reducible refine ite_canon ?_ ?_))
    | (with_reducible show State.Canon sv; unfold sv)
    | (with_reducible show State.Canon sv.2; unfold sv)
    | (with_reducible show State.Canon sv.st; unfold sv)
    | (with_reducible show State.Canon sv.2.2; unfold sv)
    | (intro sv; refine (fun (hv : State.Canon sv) => ?_) ?_)
    | (intro sv; refine (fun (hv : State.Canon sv.2) => ?_) ?_)
    | (intro sv; refine (fun (hv : State.Canon sv.st) => ?_) ?_)
    | (intro sv; refine (fun (hv : State.Canon sv.2.2) => ?_) ?_)
    | (intro sv)
    | lift_lets
    | split
    | (dsimp -zeta only))

theorem State.decideEntry_canon (s : State) (h_s : s.Canon) :
    (State.decideEntry s).Canon := by
  unfold State.decideEntry
  with_reducible repeat'
    (first | assumption | apply State.fireStop_canon | apply State.safBoundary_canon | apply State.swapTake_canon
           | apply State.rekeyTake_canon | apply State.commitStart_canon | apply State.commitEntry_canon
           | refine ite_canon ?_ ?_ | (show State.Canon sv; unfold sv)
           | (intro sv; refine (fun (hv : State.Canon sv) => ?_) ?_) | (intro sv) | (lift_lets))

theorem State.decisionPoint_canon (s : State) (h_s : s.Canon) :
    (State.decisionPoint s).Canon := by
  unfold State.decisionPoint
  with_reducible repeat'
    (first | assumption | apply State.startsDue_canon | apply State.decideStart_canon | apply State.decideEntry_canon
           | (apply mk_canon; assumption) | (show State.Canon sv; unfold sv)
           | (intro sv; refine (fun (hv : State.Canon sv) => ?_) ?_) | (intro sv) | (lift_lets) | (split))

theorem State.judgeLock_canon (s : State) (h_s : s.Canon) :
    (State.judgeLock s).Canon := by
  unfold State.judgeLock
  with_reducible repeat'
    (first | assumption | apply State.put_canon | apply State.setFlag_canon | apply State.clearFlag_canon
           | refine State.when_canon _ _ _ ?_ (fun s h => ?_) | apply State.raiseIf_canon | apply State.onFire_canon
           | refine ite_canon ?_ ?_ | (apply mk_canon; assumption) | (show State.Canon sv; unfold sv)
           | (intro sv; refine (fun (hv : State.Canon sv) => ?_) ?_) | (intro sv) | (lift_lets) | (split))

theorem State.latchConsume_canon (s : State) (h_s : s.Canon) :
    (State.latchConsume s).Canon := by
  unfold State.latchConsume
  with_reducible repeat'
    (first | assumption | apply State.clearFlag_canon | apply State.onFire_canon | (apply mk_canon; assumption))

theorem State.frameStart_canon (s : State) (h_s : s.Canon) :
    (State.frameStart s).Canon := by
  unfold State.frameStart
  with_reducible repeat'
    (first | assumption | apply State.setFlag_canon | apply State.syncOutPulse_canon | apply State.syncFlush_canon
           | apply State.onFire_canon | apply State.judgeLock_canon | apply State.latchConsume_canon | refine ite_canon ?_ ?_
           | (apply mk_canon; assumption) | (show State.Canon sv; unfold sv)
           | (intro sv; refine (fun (hv : State.Canon sv) => ?_) ?_) | (intro sv) | (lift_lets))

theorem State.overlapJudge_canon (s : State) (h_s : s.Canon) :
    (State.overlapJudge s).Canon := by
  unfold State.overlapJudge
  with_reducible repeat'
    (first | assumption | apply State.setFlag_canon | apply State.raise_canon | refine ite_canon ?_ ?_
           | (apply mk_canon; assumption) | (show State.Canon sv; unfold sv)
           | (intro sv; refine (fun (hv : State.Canon sv) => ?_) ?_) | (intro sv) | (lift_lets) | (split))

theorem State.frameFinish_canon (s : State) (h_s : s.Canon) :
    (State.frameFinish s).Canon := by
  unfold State.frameFinish
  with_reducible repeat'
    (first | assumption | apply State.clearFlag_canon | apply State.fireOff_canon | apply State.onFire_canon
           | apply State.startsDue_canon | apply State.decideStart_canon | apply State.latchConsume_canon
           | apply State.overlapJudge_canon | refine ite_canon ?_ ?_
           | (apply mk_canon; first | assumption | apply State.clearFlag_canon | apply State.fireOff_canon | apply State.onFire_canon | apply State.startsDue_canon | apply State.decideStart_canon | apply State.latchConsume_canon | apply State.overlapJudge_canon)
           | (show State.Canon sv; unfold sv) | (show State.Canon sv.2; unfold sv) | (show State.Canon sv.st; unfold sv)
           | (show State.Canon sv.2.2; unfold sv) | (intro sv; refine (fun (hv : State.Canon sv) => ?_) ?_)
           | (intro sv; refine (fun (hv : State.Canon sv.2) => ?_) ?_)
           | (intro sv; refine (fun (hv : State.Canon sv.st) => ?_) ?_)
           | (intro sv; refine (fun (hv : State.Canon sv.2.2) => ?_) ?_) | (intro sv) | (lift_lets) | (split)
           | (dsimp -zeta only))

theorem State.syncInEdge_canon (s : State) (h_s : s.Canon) :
    (State.syncInEdge s).Canon := by
  unfold State.syncInEdge
  with_reducible repeat'
    (first | assumption | refine State.when_canon _ _ _ ?_ (fun s h => ?_) | apply State.onFire_canon
           | apply State.startRequest_canon | refine ite_canon ?_ ?_ | (apply mk_canon; assumption)
           | (show State.Canon sv; unfold sv) | (intro sv; refine (fun (hv : State.Canon sv) => ?_) ?_) | (intro sv)
           | (lift_lets))

theorem State.mirrorIndex_canon (s : State) (latch : Nat) (h_s : s.Canon) :
    (State.mirrorIndex s latch).Canon := by
  unfold State.mirrorIndex
  with_reducible repeat'
    (first | assumption | apply State.onFire_canon | apply State.startRequest_canon | refine ite_canon ?_ ?_
           | (apply mk_canon; assumption) | (show State.Canon sv; unfold sv)
           | (intro sv; refine (fun (hv : State.Canon sv) => ?_) ?_) | (intro sv) | (lift_lets))

theorem State.indexMissing_canon (s : State) (h_s : s.Canon) :
    (State.indexMissing s).Canon := by
  unfold State.indexMissing
  with_reducible repeat'
    (first | assumption | apply State.setFlag_canon | apply State.raise_canon | refine ite_canon ?_ ?_)

theorem State.positionSample_canon (s : State) (pos : Nat) (h_s : s.Canon) :
    (State.positionSample s pos).Canon := by
  unfold State.positionSample
  with_reducible repeat'
    (first | assumption | apply State.onFire_canon | refine foldl_canon (fun s a h => ?_) ?_ | refine ite_canon ?_ ?_
           | (apply mk_canon; assumption) | (show State.Canon sv; unfold sv)
           | (intro sv; refine (fun (hv : State.Canon sv) => ?_) ?_) | (intro sv) | (lift_lets))

theorem State.cellSeen_canon (s : State) (id : Nat) (g : CellInfo → CellInfo) (h_s : s.Canon) :
    (State.cellSeen s id g).Canon := by
  unfold State.cellSeen
  with_reducible repeat'
    (first | assumption | apply State.onFire_canon | refine ite_canon ?_ ?_ | (apply mk_canon; assumption))

theorem State.suppress_canon (s : State) (c : Committed) (h_s : s.Canon) :
    (State.suppress s c).Canon := by
  unfold State.suppress
  with_reducible repeat'
    (first | assumption | apply State.incr_canon | apply State.cellSeen_canon)

theorem State.prefetch_canon (s : State) (h_s : s.Canon) :
    (State.prefetch s).Canon := by
  unfold State.prefetch
  dsimp only
  repeat' (first
    | (with_reducible assumption)
    | (with_reducible apply State.onFire_canon)
    | (with_reducible apply State.suppress_canon)
    | (with_reducible refine ite_canon ?_ ?_)
    | (with_reducible apply mk_canon; first | (with_reducible assumption) | (with_reducible apply State.onFire_canon) | (with_reducible apply State.suppress_canon) | (with_reducible refine ite_canon ?_ ?_))
    | (with_reducible show State.Canon sv; unfold sv)
    | (with_reducible show State.Canon sv.2; unfold sv)
    | (with_reducible show State.Canon sv.st; unfold sv)
    | (with_reducible show State.Canon sv.2.2; unfold sv)
    | (intro sv; refine (fun (hv : State.Canon sv) => ?_) ?_)
    | (intro sv; refine (fun (hv : State.Canon sv.2) => ?_) ?_)
    | (intro sv; refine (fun (hv : State.Canon sv.st) => ?_) ?_)
    | (intro sv; refine (fun (hv : State.Canon sv.2.2) => ?_) ?_)
    | (intro sv)
    | lift_lets
    | split
    | (dsimp -zeta only))

end Sys2Proof.Machine
end

