-- ==== Sys2Proof/Laws/Canon/Shots.lean ====
section
/-! SUPPORT. Every operation of Machine/Shots.lean keeps the canonical form of the tables and memories. -/

namespace Sys2Proof.Machine

theorem State.setShot_canon (s : State) (x : Shot) (h_s : s.Canon) :
    (State.setShot s x).Canon := by
  unfold State.setShot
  with_reducible repeat'
    (first | assumption | apply State.onFire_canon | refine ite_canon ?_ ?_ | (apply mk_canon; assumption))

theorem State.dropShot_canon (s : State) (x : Shot) (h_s : s.Canon) :
    (State.dropShot s x).Canon := by
  unfold State.dropShot
  with_reducible repeat'
    (first | assumption | apply State.onFire_canon | (apply mk_canon; assumption))

theorem State.budgetSuppress_canon (s : State) (c : Committed) (h_s : s.Canon) :
    (State.budgetSuppress s c).Canon := by
  unfold State.budgetSuppress
  with_reducible repeat'
    (first | assumption | apply State.bump_canon | apply State.setFlag_canon | apply State.raiseIf_canon
           | apply State.onFire_canon | apply State.suppress_canon | refine ite_canon ?_ ?_ | (apply mk_canon; assumption)
           | (show State.Canon sv; unfold sv) | (intro sv; refine (fun (hv : State.Canon sv) => ?_) ?_) | (intro sv)
           | (lift_lets))

theorem State.snufferCharge_canon (s : State) (bank : Nat) (bins : List Nat) (current segs e : Nat) (h_s : s.Canon) :
    (State.snufferCharge s bank bins current segs e).Canon := by
  unfold State.snufferCharge
  with_reducible repeat'
    (first | assumption | apply State.safetyFault_canon | refine ite_canon ?_ ?_ | (apply mk_canon; assumption)
           | (show State.Canon sv; unfold sv) | (intro sv; refine (fun (hv : State.Canon sv) => ?_) ?_) | (intro sv)
           | (lift_lets) | (split))

theorem State.shadeCheck_canon (s0 : State) (h_s0 : s0.Canon) :
    (State.shadeCheck s0).Canon := by
  unfold State.shadeCheck
  with_reducible repeat'
    (first | assumption | apply State.fireScan_canon | apply State.onFire_canon | apply State.suppress_canon
           | apply State.setShot_canon | apply State.dropShot_canon | apply State.budgetSuppress_canon
           | apply State.snufferCharge_canon | refine ite_canon ?_ ?_ | (apply mk_canon; assumption)
           | (show State.Canon sv; unfold sv) | (intro sv; refine (fun (hv : State.Canon sv) => ?_) ?_) | (intro sv)
           | (lift_lets) | (split))

theorem State.bucketAdvance_canon (s : State) (w : Nat) (h_s : s.Canon) :
    (State.bucketAdvance s w).Canon := by
  unfold State.bucketAdvance
  with_reducible repeat'
    (first | assumption | apply State.onFire_canon | (apply mk_canon; assumption) | (show State.Canon sv; unfold sv)
           | (intro sv; refine (fun (hv : State.Canon sv) => ?_) ?_) | (intro sv) | (lift_lets))

theorem State.shadeLock_canon (s : State) (same : Bool) (h_s : s.Canon) :
    (State.shadeLock s same).Canon := by
  unfold State.shadeLock
  with_reducible repeat'
    (first | assumption | apply State.setFlag_canon | apply State.safetyFault_canon | apply State.fireScan_canon
           | refine ite_canon ?_ ?_
           | (apply mk_canon; first | assumption | apply State.setFlag_canon | apply State.safetyFault_canon | apply State.fireScan_canon)
           | (show State.Canon sv; unfold sv) | (show State.Canon sv.2; unfold sv) | (show State.Canon sv.st; unfold sv)
           | (show State.Canon sv.2.2; unfold sv) | (intro sv; refine (fun (hv : State.Canon sv) => ?_) ?_)
           | (intro sv; refine (fun (hv : State.Canon sv.2) => ?_) ?_)
           | (intro sv; refine (fun (hv : State.Canon sv.st) => ?_) ?_)
           | (intro sv; refine (fun (hv : State.Canon sv.2.2) => ?_) ?_) | (intro sv) | (lift_lets) | (split)
           | (dsimp -zeta only))

theorem State.budgetWrite_canon (s : State) (w v : Nat) (h_s : s.Canon) :
    (State.budgetWrite s w v).Canon := by
  unfold State.budgetWrite
  with_reducible repeat'
    (first | assumption | apply State.put_canon | apply State.raise_canon | refine ite_canon ?_ ?_
           | (apply mk_canon; assumption) | (show State.Canon sv; unfold sv)
           | (intro sv; refine (fun (hv : State.Canon sv) => ?_) ?_) | (intro sv) | (lift_lets))

theorem State.inhibitStart_canon (s : State) (src rtd : Nat) (h_s : s.Canon) :
    (State.inhibitStart s src rtd).Canon := by
  unfold State.inhibitStart
  with_reducible repeat'
    (first | assumption | apply State.setFlag_canon | apply State.raiseInst_canon | apply State.onFire_canon
           | refine ite_canon ?_ ?_ | (apply mk_canon; assumption))

theorem State.tempInhibit_canon (s : State) (h_s : s.Canon) :
    (State.tempInhibit s).Canon := by
  unfold State.tempInhibit
  with_reducible repeat'
    (first | assumption | apply State.inhibitStart_canon | (apply mk_canon; assumption) | (split))

theorem State.tempStale_canon (s : State) (k : Nat) (h_s : s.Canon) :
    (State.tempStale s k).Canon := by
  unfold State.tempStale
  with_reducible repeat'
    (first | assumption | apply State.setFlag_canon | apply State.onFire_canon | apply State.inhibitStart_canon
           | refine ite_canon ?_ ?_
           | (apply mk_canon; first | assumption | apply State.setFlag_canon | apply State.onFire_canon | apply State.inhibitStart_canon)
           | (show State.Canon sv; unfold sv) | (show State.Canon sv.2; unfold sv) | (show State.Canon sv.st; unfold sv)
           | (show State.Canon sv.2.2; unfold sv) | (intro sv; refine (fun (hv : State.Canon sv) => ?_) ?_)
           | (intro sv; refine (fun (hv : State.Canon sv.2) => ?_) ?_)
           | (intro sv; refine (fun (hv : State.Canon sv.st) => ?_) ?_)
           | (intro sv; refine (fun (hv : State.Canon sv.2.2) => ?_) ?_) | (intro sv) | (lift_lets) | (split)
           | (dsimp -zeta only))

theorem State.tempSample_canon (s : State) (k : Nat) (t : Int) (h_s : s.Canon) :
    (State.tempSample s k t).Canon := by
  unfold State.tempSample
  with_reducible repeat'
    (first | assumption | apply State.clearFlag_canon | refine State.when_canon _ _ _ ?_ (fun s h => ?_)
           | apply State.onFire_canon | apply State.tempStale_canon | refine ite_canon ?_ ?_
           | (apply mk_canon; first | assumption | apply State.clearFlag_canon | refine State.when_canon _ _ _ ?_ (fun s h => ?_) | apply State.onFire_canon | apply State.tempStale_canon)
           | (show State.Canon sv; unfold sv) | (show State.Canon sv.2; unfold sv) | (show State.Canon sv.st; unfold sv)
           | (show State.Canon sv.2.2; unfold sv) | (intro sv; refine (fun (hv : State.Canon sv) => ?_) ?_)
           | (intro sv; refine (fun (hv : State.Canon sv.2) => ?_) ?_)
           | (intro sv; refine (fun (hv : State.Canon sv.st) => ?_) ?_)
           | (intro sv; refine (fun (hv : State.Canon sv.2.2) => ?_) ?_) | (intro sv) | (lift_lets) | (split)
           | (dsimp -zeta only))

theorem State.tempRound_canon (s : State) (h_s : s.Canon) :
    (State.tempRound s).Canon := by
  unfold State.tempRound
  with_reducible repeat'
    (first | assumption | apply State.clearFlag_canon | refine ite_canon ?_ ?_)

theorem State.shotLost_canon (s : State) (x : Shot) (h_s : s.Canon) :
    (State.shotLost s x).Canon := by
  unfold State.shotLost
  with_reducible repeat'
    (first | assumption | apply State.incr_canon | apply State.onFire_canon | refine ite_canon ?_ ?_
           | (apply mk_canon; assumption))

theorem State.commandSend_canon (s : State) (h_s : s.Canon) :
    (State.commandSend s).Canon := by
  unfold State.commandSend
  with_reducible repeat'
    (first | assumption | apply State.onFire_canon | apply State.taperSend_canon | apply State.setShot_canon
           | apply State.shotLost_canon | refine ite_canon ?_ ?_ | (apply mk_canon; assumption)
           | (show State.Canon sv; unfold sv) | (intro sv; refine (fun (hv : State.Canon sv) => ?_) ?_) | (intro sv)
           | (lift_lets) | (split))

theorem State.strobe_canon (s0 : State) (h_s0 : s0.Canon) :
    (State.strobe s0).Canon := by
  unfold State.strobe
  with_reducible repeat'
    (first | assumption | apply State.incr_canon | apply State.emit_canon | apply State.syncFlush_canon
           | apply State.setShot_canon | refine ite_canon ?_ ?_ | (apply mk_canon; assumption)
           | (show State.Canon sv; unfold sv) | (intro sv; refine (fun (hv : State.Canon sv) => ?_) ?_) | (intro sv)
           | (lift_lets) | (split))

theorem State.pilotStatus_canon (s : State) (l : List Byte) (h_s : s.Canon) :
    (State.pilotStatus s l).Canon := by
  unfold State.pilotStatus
  with_reducible repeat'
    (first | assumption | refine ite_canon ?_ ?_ | (apply mk_canon; assumption) | (show State.Canon sv; unfold sv)
           | (intro sv; refine (fun (hv : State.Canon sv) => ?_) ?_) | (intro sv) | (lift_lets))

theorem State.statusReceive_canon (s : State) (lane : Nat) (l : List Byte) (h_s : s.Canon) :
    (State.statusReceive s lane l).Canon := by
  unfold State.statusReceive
  with_reducible repeat'
    (first | assumption | apply State.onFire_canon | apply State.setShot_canon | apply State.pilotStatus_canon
           | refine ite_canon ?_ ?_ | (apply mk_canon; assumption) | (show State.Canon sv; unfold sv)
           | (intro sv; refine (fun (hv : State.Canon sv) => ?_) ?_) | (intro sv) | (lift_lets) | (split))

theorem State.diagCount_canon (s : State) (x : Shot) (seen : Bool) (h_s : s.Canon) :
    (State.diagCount s x seen).Canon := by
  unfold State.diagCount
  with_reducible repeat'
    (first | assumption | apply State.put_canon | apply State.setSegCnt_canon | refine ite_canon ?_ ?_
           | (apply mk_canon; assumption) | (show State.Canon sv; unfold sv)
           | (intro sv; refine (fun (hv : State.Canon sv) => ?_) ?_) | (intro sv) | (lift_lets))

theorem State.diagJudge_canon (s : State) (x : Shot) (h_s : s.Canon) :
    (State.diagJudge s x).Canon := by
  unfold State.diagJudge
  with_reducible repeat'
    (first | assumption | apply State.diagCount_canon | refine ite_canon ?_ ?_ | (apply mk_canon; assumption)
           | (show State.Canon sv; unfold sv) | (intro sv; refine (fun (hv : State.Canon sv) => ?_) ?_) | (intro sv)
           | (lift_lets) | (split))

theorem State.shortSegments_canon (s : State) (x : Shot) (m : Nat) (h_s : s.Canon) :
    (State.shortSegments s x m).Canon := by
  unfold State.shortSegments
  with_reducible repeat'
    (first | assumption | apply State.put_canon | apply State.raiseInst_canon | refine foldl_canon (fun s a h => ?_) ?_
           | refine ite_canon ?_ ?_)

theorem State.noCommand_canon (s : State) (x : Shot) (h_s : s.Canon) :
    (State.noCommand s x).Canon := by
  unfold State.noCommand
  with_reducible repeat'
    (first | assumption | apply State.raiseInst_canon | apply State.shotLost_canon)

theorem State.statusFail_canon (s : State) (d : Nat) (missing : Bool) (h_s : s.Canon) :
    (State.statusFail s d missing).Canon := by
  unfold State.statusFail
  with_reducible repeat'
    (first | assumption | apply State.bump_canon | apply State.raiseInst_canon | apply State.onFire_canon
           | refine ite_canon ?_ ?_ | (apply mk_canon; assumption) | (show State.Canon sv; unfold sv)
           | (intro sv; refine (fun (hv : State.Canon sv) => ?_) ?_) | (intro sv) | (lift_lets))

theorem State.statusGood_canon (s : State) (d : Nat) (h_s : s.Canon) :
    (State.statusGood s d).Canon := by
  unfold State.statusGood
  with_reducible repeat'
    (first | assumption | apply State.onFire_canon | (apply mk_canon; assumption))

theorem State.shotEvaluate_canon (s : State) (x : Shot) (h_s : s.Canon) :
    (State.shotEvaluate s x).Canon := by
  unfold State.shotEvaluate
  with_reducible repeat'
    (first | assumption | apply State.setShot_canon | apply State.diagJudge_canon | apply State.shortSegments_canon
           | apply State.noCommand_canon | apply State.statusFail_canon | apply State.statusGood_canon | refine ite_canon ?_ ?_
           | (apply mk_canon; assumption) | (show State.Canon sv; unfold sv)
           | (intro sv; refine (fun (hv : State.Canon sv) => ?_) ?_) | (intro sv) | (lift_lets) | (split))

theorem State.clearEvaluate_canon (s : State) (d : Nat) (status : Option (List Byte)) (h_s : s.Canon) :
    (State.clearEvaluate s d status).Canon := by
  unfold State.clearEvaluate
  with_reducible repeat'
    (first | assumption | apply State.statusFail_canon | apply State.statusGood_canon | refine ite_canon ?_ ?_
           | (apply mk_canon; assumption) | (split))

theorem State.statusEvaluate_canon (s : State) (h_s : s.Canon) :
    (State.statusEvaluate s).Canon := by
  unfold State.statusEvaluate
  with_reducible repeat'
    (first | assumption | apply State.onFire_canon | apply State.shotEvaluate_canon | apply State.clearEvaluate_canon
           | refine ite_canon ?_ ?_ | (apply mk_canon; assumption) | (split))

theorem State.driverFault_canon (s : State) (d : Nat) (h_s : s.Canon) :
    (State.driverFault s d).Canon := by
  unfold State.driverFault
  with_reducible repeat'
    (first | assumption | apply State.put_canon | apply State.raiseInst_canon | refine ite_canon ?_ ?_)

theorem State.driverClear_canon (s : State) (d : Nat) (answered : Bool) (h_s : s.Canon) :
    (State.driverClear s d answered).Canon := by
  unfold State.driverClear
  with_reducible repeat'
    (first | assumption | apply State.put_canon | apply State.onFire_canon | apply State.taperSend_canon
           | apply State.taperReset_canon | refine ite_canon ?_ ?_ | (apply mk_canon; assumption)
           | (show State.Canon sv; unfold sv) | (intro sv; refine (fun (hv : State.Canon sv) => ?_) ?_) | (intro sv)
           | (lift_lets))

theorem State.segmentOpen_canon (s : State) (b i : Nat) (h_s : s.Canon) :
    (State.segmentOpen s b i).Canon := by
  unfold State.segmentOpen
  with_reducible repeat'
    (first | assumption | apply State.put_canon | apply State.raiseInst_canon | refine ite_canon ?_ ?_)

theorem State.segClear_canon (s : State) (k : Nat) (h_s : s.Canon) :
    (State.segClear s k).Canon := by
  unfold State.segClear
  with_reducible repeat'
    (first | assumption | apply State.put_canon | apply State.setSegCnt_canon)

theorem State.diagClear_canon (s : State) (bank seg : Nat) (whole all : Bool) (h_s : s.Canon) :
    (State.diagClear s bank seg whole all).Canon := by
  unfold State.diagClear
  with_reducible repeat'
    (first | assumption | apply State.segClear_canon | refine foldl_canon (fun s a h => ?_) ?_ | refine ite_canon ?_ ?_)

theorem State.bankUnreferenced_canon (s : State) (b : Nat) (h_s : s.Canon) :
    (State.bankUnreferenced s b).Canon := by
  unfold State.bankUnreferenced
  with_reducible repeat'
    (first | assumption | apply State.put_canon | apply State.setSegCnt_canon | refine foldl_canon (fun s a h => ?_) ?_
           | refine ite_canon ?_ ?_ | (apply mk_canon; assumption) | (show State.Canon sv; unfold sv)
           | (intro sv; refine (fun (hv : State.Canon sv) => ?_) ?_) | (intro sv) | (lift_lets))

theorem State.periodEnd_canon (s : State) (h_s : s.Canon) :
    (State.periodEnd s).Canon := by
  unfold State.periodEnd
  dsimp only
  repeat' (first
    | (with_reducible assumption)
    | (with_reducible apply State.put_canon)
    | (with_reducible apply State.raise_canon)
    | (with_reducible apply State.onFire_canon)
    | (with_reducible apply State.setSegCnt_canon)
    | (with_reducible refine foldl_canon (fun s a h => ?_) ?_)
    | (with_reducible refine ite_canon ?_ ?_)
    | (with_reducible apply mk_canon; first | (with_reducible assumption) | (with_reducible apply State.put_canon) | (with_reducible apply State.raise_canon) | (with_reducible apply State.onFire_canon) | (with_reducible apply State.setSegCnt_canon) | (with_reducible refine foldl_canon (fun s a h => ?_) ?_) | (with_reducible refine ite_canon ?_ ?_))
    | (with_reducible show State.Canon sv; unfold sv)
    | (with_reducible show State.Canon sv.2; unfold sv)
    | (with_reducible show State.Canon sv.st; unfold sv)
    | (with_reducible show State.Canon sv.2.2; unfold sv)
    | (intro sv; refine (fun (hv : State.Canon sv) => ?_) ?_)
    | (intro sv; refine (fun (hv : State.Canon sv.2) => ?_) ?_)
    | (intro sv; refine (fun (hv : State.Canon sv.st) => ?_) ?_)
    | (intro sv; refine (fun (hv : State.Canon sv.2.2) => ?_) ?_)
    | (intro sv)
    | lift_lets
    | split
    | (dsimp -zeta only))

theorem State.shadeDigest_canon (s : State) (h_s : s.Canon) :
    (State.shadeDigest s).Canon := by
  unfold State.shadeDigest
  with_reducible repeat'
    (first | assumption | apply State.safetyFault_canon | refine ite_canon ?_ ?_)

end Sys2Proof.Machine
end

