-- ==== Sys2Proof/Laws/Canon/Stats.lean ====
section
/-! SUPPORT. Every operation of Machine/Stats.lean keeps the canonical form of the tables and memories. -/

namespace Sys2Proof.Machine

theorem State.statsGive_canon (s : State) (x : Int) (h_s : s.Canon) :
    (State.statsGive s x).Canon := by
  unfold State.statsGive
  with_reducible repeat'
    (first | assumption | (apply mk_canon; assumption))

theorem State.statsRef_canon (s : State) (t k x : Nat) (h_s : s.Canon) :
    (State.statsRef s t k x).Canon := by
  unfold State.statsRef
  with_reducible repeat'
    (first | assumption | apply State.statsGive_canon | refine ite_canon ?_ ?_ | (apply mk_canon; assumption) | (split))

theorem State.statsPtp_canon (s : State) (off : Int) (h_s : s.Canon) :
    (State.statsPtp s off).Canon := by
  unfold State.statsPtp
  with_reducible repeat'
    (first | assumption | apply State.statsGive_canon | refine ite_canon ?_ ?_ | (apply mk_canon; assumption) | (split))

theorem State.statsEdge_canon (s : State) (n stamp : Nat) (h_s : s.Canon) :
    (State.statsEdge s n stamp).Canon := by
  unfold State.statsEdge
  with_reducible repeat'
    (first | assumption | apply State.statsGive_canon | refine ite_canon ?_ ?_
           | (apply mk_canon; first | assumption | apply State.statsGive_canon) | (show State.Canon sv; unfold sv)
           | (show State.Canon sv.2; unfold sv) | (show State.Canon sv.st; unfold sv) | (show State.Canon sv.2.2; unfold sv)
           | (intro sv; refine (fun (hv : State.Canon sv) => ?_) ?_)
           | (intro sv; refine (fun (hv : State.Canon sv.2) => ?_) ?_)
           | (intro sv; refine (fun (hv : State.Canon sv.st) => ?_) ?_)
           | (intro sv; refine (fun (hv : State.Canon sv.2.2) => ?_) ?_) | (intro sv) | (lift_lets) | (split)
           | (dsimp -zeta only))

theorem State.statsEnd_canon (s : State) (r : StatsRun) (h_s : s.Canon) :
    (State.statsEnd s r).Canon := by
  unfold State.statsEnd
  with_reducible repeat'
    (first | assumption | apply State.clearFlag_canon | apply State.unclaim_canon | (apply mk_canon; assumption)
           | (show State.Canon sv; unfold sv) | (intro sv; refine (fun (hv : State.Canon sv) => ?_) ?_) | (intro sv)
           | (lift_lets))

theorem State.statsStart_canon (s : State) (who : Nat) (h_s : s.Canon) :
    (State.statsStart s who).Canon := by
  unfold State.statsStart
  with_reducible repeat'
    (first | assumption | apply State.setFlag_canon | apply State.claim_canon | refine ite_canon ?_ ?_
           | (apply mk_canon; assumption) | (show State.Canon sv; unfold sv)
           | (intro sv; refine (fun (hv : State.Canon sv) => ?_) ?_) | (intro sv) | (lift_lets))

theorem State.statsStartBy_canon (s : State) (p : Port) (h_s : s.Canon) :
    (State.statsStartBy s p).Canon := by
  unfold State.statsStartBy
  with_reducible repeat'
    (first | assumption | apply State.statsStart_canon | refine ite_canon ?_ ?_
           | (apply mk_canon; first | assumption | apply State.statsStart_canon) | (show State.Canon sv; unfold sv)
           | (show State.Canon sv.2; unfold sv) | (show State.Canon sv.st; unfold sv) | (show State.Canon sv.2.2; unfold sv)
           | (intro sv; refine (fun (hv : State.Canon sv) => ?_) ?_)
           | (intro sv; refine (fun (hv : State.Canon sv.2) => ?_) ?_)
           | (intro sv; refine (fun (hv : State.Canon sv.st) => ?_) ?_)
           | (intro sv; refine (fun (hv : State.Canon sv.2.2) => ?_) ?_) | (intro sv) | (lift_lets) | (split)
           | (dsimp -zeta only))

theorem State.statsAbort_canon (s : State) (h_s : s.Canon) :
    (State.statsAbort s).Canon := by
  unfold State.statsAbort
  with_reducible repeat'
    (first | assumption | apply State.setFlag_canon | apply State.statsEnd_canon | (apply mk_canon; assumption) | (split))

theorem State.statsSample_canon (s : State) (h_s : s.Canon) :
    (State.statsSample s).Canon := by
  unfold State.statsSample
  with_reducible repeat'
    (first | assumption | apply State.bump_canon | refine ite_canon ?_ ?_
           | (apply mk_canon; first | assumption | apply State.bump_canon) | (show State.Canon sv; unfold sv)
           | (show State.Canon sv.2; unfold sv) | (show State.Canon sv.st; unfold sv) | (show State.Canon sv.2.2; unfold sv)
           | (intro sv; refine (fun (hv : State.Canon sv) => ?_) ?_)
           | (intro sv; refine (fun (hv : State.Canon sv.2) => ?_) ?_)
           | (intro sv; refine (fun (hv : State.Canon sv.st) => ?_) ?_)
           | (intro sv; refine (fun (hv : State.Canon sv.2.2) => ?_) ?_) | (intro sv) | (lift_lets) | (split)
           | (dsimp -zeta only))

theorem State.statsDone_canon (s : State) (h_s : s.Canon) :
    (State.statsDone s).Canon := by
  unfold State.statsDone
  with_reducible repeat'
    (first | assumption | apply State.put_canon | apply State.setFlag_canon | apply State.raise_canon
           | apply State.statsEnd_canon | refine ite_canon ?_ ?_ | (apply mk_canon; assumption)
           | (show State.Canon sv; unfold sv) | (intro sv; refine (fun (hv : State.Canon sv) => ?_) ?_) | (intro sv)
           | (lift_lets) | (split))

end Sys2Proof.Machine
end

