-- ==== Sys2Proof/Laws/Canon/Tile.lean ====
section
/-! SUPPORT. Every operation of Machine/Tile.lean keeps the canonical form of the tables and memories. -/

namespace Sys2Proof.Machine

theorem State.tileCell_canon (s : State) (t : Nat) (x : Shot) (h_s : s.Canon) :
    (State.tileCell s t x).Canon := by
  unfold State.tileCell
  with_reducible repeat'
    (first | assumption | apply State.setTile_canon | refine ite_canon ?_ ?_ | (apply mk_canon; assumption)
           | (show State.Canon sv; unfold sv) | (intro sv; refine (fun (hv : State.Canon sv) => ?_) ?_) | (intro sv)
           | (lift_lets))

theorem State.lateJoin_canon (s : State) (t id : Nat) (h_s : s.Canon) :
    (State.lateJoin s t id).Canon := by
  unfold State.lateJoin
  with_reducible repeat'
    (first | assumption | apply State.bump_canon | apply State.setFlag_canon | apply State.raiseIf_canon
           | apply State.setTile_canon | refine ite_canon ?_ ?_ | (apply mk_canon; assumption)
           | (show State.Canon sv; unfold sv) | (intro sv; refine (fun (hv : State.Canon sv) => ?_) ?_) | (intro sv)
           | (lift_lets))

theorem State.joinCell_canon (s : State) (t c : Nat) (x : Shot) (h_s : s.Canon) :
    (State.joinCell s t c x).Canon := by
  unfold State.joinCell
  with_reducible repeat'
    (first | assumption | apply State.setChan_canon | apply State.lateJoin_canon | refine ite_canon ?_ ?_
           | (apply mk_canon; assumption) | (show State.Canon sv; unfold sv)
           | (intro sv; refine (fun (hv : State.Canon sv) => ?_) ?_) | (intro sv) | (lift_lets))

theorem State.openWindow_canon (s : State) (t c : Nat) (x : Shot) (h_s : s.Canon) :
    (State.openWindow s t c x).Canon := by
  unfold State.openWindow
  with_reducible repeat'
    (first | assumption | apply State.setChan_canon | refine ite_canon ?_ ?_ | (apply mk_canon; assumption)
           | (show State.Canon sv; unfold sv) | (intro sv; refine (fun (hv : State.Canon sv) => ?_) ?_) | (intro sv)
           | (lift_lets) | (split))

theorem State.noticeChan_canon (s : State) (t : Nat) (x : Shot) (c : Nat) (h_s : s.Canon) :
    (State.noticeChan s t x c).Canon := by
  unfold State.noticeChan
  with_reducible repeat'
    (first | assumption | apply State.joinCell_canon | apply State.openWindow_canon | refine ite_canon ?_ ?_
           | (show State.Canon sv; unfold sv) | (intro sv; refine (fun (hv : State.Canon sv) => ?_) ?_) | (intro sv)
           | (lift_lets))

theorem State.noticeTile_canon (s : State) (x : Shot) (t : Nat) (h_s : s.Canon) :
    (State.noticeTile s x t).Canon := by
  unfold State.noticeTile
  with_reducible repeat'
    (first | assumption | apply State.setTile_canon | apply State.tileCell_canon | apply State.noticeChan_canon
           | refine foldl_canon (fun s a h => ?_) ?_ | refine ite_canon ?_ ?_ | (apply mk_canon; assumption)
           | (show State.Canon sv; unfold sv) | (intro sv; refine (fun (hv : State.Canon sv) => ?_) ?_) | (intro sv)
           | (lift_lets))

theorem State.shotNotice_canon (s : State) (h_s : s.Canon) :
    (State.shotNotice s).Canon := by
  unfold State.shotNotice
  with_reducible repeat'
    (first | assumption | apply State.cellSeen_canon | apply State.setShot_canon | apply State.noticeTile_canon
           | refine foldl_canon (fun s a h => ?_) ?_ | (apply mk_canon; assumption) | (show State.Canon sv; unfold sv)
           | (intro sv; refine (fun (hv : State.Canon sv) => ?_) ?_) | (intro sv) | (lift_lets) | (split))

theorem State.closeWindows_canon (s : State) (x : Shot) (t : Nat) (h_s : s.Canon) :
    (State.closeWindows s x t).Canon := by
  unfold State.closeWindows
  with_reducible repeat'
    (first | assumption | apply State.setTile_canon | apply State.drainTile_canon | refine foldl_canon (fun s a h => ?_) ?_
           | (apply mk_canon; assumption) | (show State.Canon sv; unfold sv)
           | (intro sv; refine (fun (hv : State.Canon sv) => ?_) ?_) | (intro sv) | (lift_lets))

theorem State.windowClose_canon (s : State) (h_s : s.Canon) :
    (State.windowClose s).Canon := by
  unfold State.windowClose
  with_reducible repeat'
    (first | assumption | apply State.dropShot_canon | apply State.closeWindows_canon | refine foldl_canon (fun s a h => ?_) ?_
           | (apply mk_canon; assumption) | (split))

theorem State.deadLoss_canon (s : State) (t c lead : Nat) (h_s : s.Canon) :
    (State.deadLoss s t c lead).Canon := by
  unfold State.deadLoss
  with_reducible repeat'
    (first | assumption | apply State.bump_canon | apply State.setChan_canon | refine ite_canon ?_ ?_
           | (show State.Canon sv; unfold sv) | (intro sv; refine (fun (hv : State.Canon sv) => ?_) ?_) | (intro sv)
           | (lift_lets))

theorem State.pilotEvent_canon (s : State) (t c lead : Nat) (h_s : s.Canon) :
    (State.pilotEvent s t c lead).Canon := by
  unfold State.pilotEvent
  with_reducible repeat'
    (first | assumption | apply State.setTile_canon | refine foldl_canon (fun s a h => ?_) ?_ | refine ite_canon ?_ ?_
           | (apply mk_canon; assumption) | (show State.Canon sv; unfold sv)
           | (intro sv; refine (fun (hv : State.Canon sv) => ?_) ?_) | (intro sv) | (lift_lets))

theorem State.stampedEvent_canon (s : State) (t c : Nat) (e : TdcEvent) (h_s : s.Canon) :
    (State.stampedEvent s t c e).Canon := by
  unfold State.stampedEvent
  with_reducible repeat'
    (first | assumption | apply State.bump_canon | apply State.setChan_canon | apply State.pilotEvent_canon
           | refine ite_canon ?_ ?_ | (apply mk_canon; assumption) | (show State.Canon sv; unfold sv)
           | (intro sv; refine (fun (hv : State.Canon sv) => ?_) ?_) | (intro sv) | (lift_lets))

theorem State.codeSeen_canon (s : State) (t c unit code : Nat) (h_s : s.Canon) :
    (State.codeSeen s t c unit code).Canon := by
  unfold State.codeSeen
  with_reducible repeat'
    (first | assumption | apply State.setTile_canon | refine ite_canon ?_ ?_ | (apply mk_canon; assumption)
           | (show State.Canon sv; unfold sv) | (intro sv; refine (fun (hv : State.Canon sv) => ?_) ?_) | (intro sv)
           | (lift_lets))

theorem State.comparator_canon (s : State) (t c peak : Nat) (codes : List (Nat × Nat)) (stamp : Int → Nat × Nat) (h_s : s.Canon) :
    (State.comparator s t c peak codes stamp).Canon := by
  unfold State.comparator
  with_reducible repeat'
    (first | assumption | apply State.deadLoss_canon | apply State.stampedEvent_canon | apply State.codeSeen_canon
           | refine foldl_canon (fun s a h => ?_) ?_ | refine ite_canon ?_ ?_ | (show State.Canon sv; unfold sv)
           | (intro sv; refine (fun (hv : State.Canon sv) => ?_) ?_) | (intro sv) | (lift_lets))

theorem State.pulseSeen_canon (s : State) (above : Nat) (h_s : s.Canon) :
    (State.pulseSeen s above).2.Canon := by
  unfold State.pulseSeen
  with_reducible repeat'
    (first | assumption | apply State.fresh_canon | refine ite_canon ?_ ?_ | (show State.Canon sv; unfold sv)
           | (show State.Canon sv.2; unfold sv) | (show State.Canon sv.st; unfold sv) | (show State.Canon sv.2.2; unfold sv)
           | (intro sv; refine (fun (hv : State.Canon sv) => ?_) ?_)
           | (intro sv; refine (fun (hv : State.Canon sv.2) => ?_) ?_)
           | (intro sv; refine (fun (hv : State.Canon sv.st) => ?_) ?_)
           | (intro sv; refine (fun (hv : State.Canon sv.2.2) => ?_) ?_) | (intro sv) | (lift_lets) | (split)
           | (dsimp -zeta only))

theorem State.comparatorEvent_canon (s : State) (t c cl rl ct rt above peak : Nat) (h_s : s.Canon) :
    (State.comparatorEvent s t c cl rl ct rt above peak).Canon := by
  unfold State.comparatorEvent
  with_reducible repeat'
    (first | assumption | apply State.comparator_canon | apply State.pulseSeen_canon | refine ite_canon ?_ ?_
           | (show State.Canon sv; unfold sv) | (intro sv; refine (fun (hv : State.Canon sv) => ?_) ?_) | (intro sv)
           | (lift_lets))

theorem State.gainSwitch_canon (s : State) (t c : Nat) (h_s : s.Canon) :
    (State.gainSwitch s t c).Canon := by
  unfold State.gainSwitch
  dsimp only
  repeat' (first
    | (with_reducible assumption)
    | (with_reducible apply State.setChan_canon)
    | (with_reducible refine ite_canon ?_ ?_)
    | (with_reducible apply mk_canon; first | (with_reducible assumption) | (with_reducible apply State.setChan_canon) | (with_reducible refine ite_canon ?_ ?_))
    | (with_reducible show State.Canon sv; unfold sv)
    | (with_reducible show State.Canon sv.2; unfold sv)
    | (with_reducible show State.Canon sv.st; unfold sv)
    | (with_reducible show State.Canon sv.2.2; unfold sv)
    | (intro sv; refine (fun (hv : State.Canon sv) => ?_) ?_)
    | (intro sv; refine (fun (hv : State.Canon sv.2) => ?_) ?_)
    | (intro sv; refine (fun (hv : State.Canon sv.st) => ?_) ?_)
    | (intro sv; refine (fun (hv : State.Canon sv.2.2) => ?_) ?_)
    | (intro sv)
    | lift_lets
    | split
    | (dsimp -zeta only))

theorem State.gainBlankEnd_canon (s : State) (t c : Nat) (h_s : s.Canon) :
    (State.gainBlankEnd s t c).Canon := by
  unfold State.gainBlankEnd
  with_reducible repeat'
    (first | assumption | apply State.setChan_canon | (apply mk_canon; assumption))

theorem State.chEnable_canon (s : State) (t w v : Nat) (h_s : s.Canon) :
    (State.chEnable s t w v).Canon := by
  unfold State.chEnable
  with_reducible repeat'
    (first | assumption | apply State.put_canon | apply State.setChan_canon | refine foldl_canon (fun s a h => ?_) ?_
           | refine ite_canon ?_ ?_ | (apply mk_canon; assumption) | (show State.Canon sv; unfold sv)
           | (intro sv; refine (fun (hv : State.Canon sv) => ?_) ?_) | (intro sv) | (lift_lets))

theorem State.thrWrite_canon (s : State) (t c : Nat) (v : BitVec 64) (h_s : s.Canon) :
    (State.thrWrite s t c v).Canon := by
  unfold State.thrWrite
  with_reducible repeat'
    (first | assumption | apply State.setReg_canon | apply State.setChan_canon | refine ite_canon ?_ ?_
           | (apply mk_canon; assumption) | (show State.Canon sv; unfold sv)
           | (intro sv; refine (fun (hv : State.Canon sv) => ?_) ?_) | (intro sv) | (lift_lets))

theorem State.tileAge_canon (s : State) (t : Nat) (h_s : s.Canon) :
    (State.tileAge s t).Canon := by
  unfold State.tileAge
  with_reducible repeat'
    (first | assumption | apply State.setTile_canon | refine foldl_canon (fun s a h => ?_) ?_ | (apply mk_canon; assumption)
           | (show State.Canon sv; unfold sv) | (intro sv; refine (fun (hv : State.Canon sv) => ?_) ?_) | (intro sv)
           | (lift_lets))

theorem State.cdtRecompute_canon (s : State) (t : Nat) (temps : List (BitVec 16)) (h_s : s.Canon) :
    (State.cdtRecompute s t temps).Canon := by
  unfold State.cdtRecompute
  with_reducible repeat'
    (first | assumption | apply State.put_canon | apply State.clearFlag_canon | refine ite_canon ?_ ?_
           | (apply mk_canon; assumption) | (show State.Canon sv; unfold sv)
           | (intro sv; refine (fun (hv : State.Canon sv) => ?_) ?_) | (intro sv) | (lift_lets) | (split))

theorem State.cdtStale_canon (s : State) (t : Nat) (h_s : s.Canon) :
    (State.cdtStale s t).Canon := by
  unfold State.cdtStale
  with_reducible repeat'
    (first | assumption | apply State.setFlag_canon | apply State.raise_canon | apply State.setTile_canon
           | refine foldl_canon (fun s a h => ?_) ?_ | refine ite_canon ?_ ?_ | (apply mk_canon; assumption)
           | (show State.Canon sv; unfold sv) | (intro sv; refine (fun (hv : State.Canon sv) => ?_) ?_) | (intro sv)
           | (lift_lets))

theorem State.sparesCount_canon (s : State) (t : Nat) (h_s : s.Canon) :
    (State.sparesCount s t).Canon := by
  unfold State.sparesCount
  with_reducible repeat'
    (first | assumption | apply State.put_canon)

theorem State.tdcFault_canon (s : State) (t n : Nat) (h_s : s.Canon) :
    (State.tdcFault s t n).Canon := by
  unfold State.tdcFault
  with_reducible repeat'
    (first | assumption | apply State.put_canon | apply State.setFlag_canon | apply State.clearFlag_canon
           | apply State.raise_canon | apply State.setBitAt_canon | apply State.dropChanAll_canon
           | apply State.sparesCount_canon | refine ite_canon ?_ ?_ | (apply mk_canon; assumption)
           | (show State.Canon sv; unfold sv) | (intro sv; refine (fun (hv : State.Canon sv) => ?_) ?_) | (intro sv)
           | (lift_lets) | (split))

theorem State.healthCheck_canon (s : State) (t n unit span : Nat) (h_s : s.Canon) :
    (State.healthCheck s t n unit span).Canon := by
  unfold State.healthCheck
  with_reducible repeat'
    (first | assumption | apply State.setTile_canon | apply State.tdcFault_canon | refine ite_canon ?_ ?_
           | (apply mk_canon; assumption) | (show State.Canon sv; unfold sv)
           | (intro sv; refine (fun (hv : State.Canon sv) => ?_) ?_) | (intro sv) | (lift_lets))

theorem State.stampSilence_canon (s : State) (t n : Nat) (h_s : s.Canon) :
    (State.stampSilence s t n).Canon := by
  unfold State.stampSilence
  with_reducible repeat'
    (first | assumption | apply State.tdcFault_canon | refine ite_canon ?_ ?_)

theorem State.tdcFailWrite_canon (s : State) (t w v : Nat) (h_s : s.Canon) :
    (State.tdcFailWrite s t w v).Canon := by
  unfold State.tdcFailWrite
  with_reducible repeat'
    (first | assumption | apply State.tdcFault_canon | refine foldl_canon (fun s a h => ?_) ?_)

theorem State.spareWrite_canon (s : State) (t k target : Nat) (valid : Bool) (h_s : s.Canon) :
    (State.spareWrite s t k target valid).Canon := by
  unfold State.spareWrite
  with_reducible repeat'
    (first | assumption | apply State.put_canon | apply State.setFlag_canon | apply State.clearFlag_canon
           | apply State.raise_canon | apply State.setChan_canon | apply State.sparesCount_canon | refine ite_canon ?_ ?_
           | (apply mk_canon; assumption) | (show State.Canon sv; unfold sv)
           | (intro sv; refine (fun (hv : State.Canon sv) => ?_) ?_) | (intro sv) | (lift_lets))

theorem State.gangMeasure_canon (s0 : State) (t : Nat) (raw : Int) (h_s0 : s0.Canon) :
    (State.gangMeasure s0 t raw).Canon := by
  unfold State.gangMeasure
  with_reducible repeat'
    (first | assumption | apply State.put_canon | apply State.setTile_canon | apply State.tileAge_canon
           | refine ite_canon ?_ ?_ | (apply mk_canon; assumption) | (show State.Canon sv; unfold sv)
           | (intro sv; refine (fun (hv : State.Canon sv) => ?_) ?_) | (intro sv) | (lift_lets))

theorem State.gangLock_canon (s : State) (t : Nat) (h_s : s.Canon) :
    (State.gangLock s t).Canon := by
  unfold State.gangLock
  with_reducible repeat'
    (first | assumption | apply State.setFlag_canon | apply State.setTile_canon | refine ite_canon ?_ ?_
           | (apply mk_canon; assumption))

theorem State.gangDrop_canon (s : State) (t : Nat) (h_s : s.Canon) :
    (State.gangDrop s t).Canon := by
  unfold State.gangDrop
  with_reducible repeat'
    (first | assumption | apply State.setTile_canon | apply State.dropTile_canon | refine ite_canon ?_ ?_
           | (apply mk_canon; assumption) | (show State.Canon sv; unfold sv)
           | (intro sv; refine (fun (hv : State.Canon sv) => ?_) ?_) | (intro sv) | (lift_lets))

theorem State.gangUnlock_canon (s : State) (t : Nat) (h_s : s.Canon) :
    (State.gangUnlock s t).Canon := by
  unfold State.gangUnlock
  with_reducible repeat'
    (first | assumption | apply State.fresh_canon | apply State.setFlag_canon | apply State.clearFlag_canon
           | apply State.raise_canon | apply State.setTile_canon | apply State.gangDrop_canon | refine ite_canon ?_ ?_
           | (apply mk_canon; assumption) | (show State.Canon sv; unfold sv)
           | (intro sv; refine (fun (hv : State.Canon sv) => ?_) ?_) | (intro sv) | (lift_lets))

theorem State.gangEnable_canon (s : State) (t : Nat) (en : Bool) (h_s : s.Canon) :
    (State.gangEnable s t en).Canon := by
  unfold State.gangEnable
  with_reducible repeat'
    (first | assumption | apply State.put_canon | apply State.gangDrop_canon | refine ite_canon ?_ ?_
           | (show State.Canon sv; unfold sv) | (intro sv; refine (fun (hv : State.Canon sv) => ?_) ?_) | (intro sv)
           | (lift_lets))

theorem State.emisRearm_canon (s : State) (t k d : Nat) (h_s : s.Canon) :
    (State.emisRearm s t k d).Canon := by
  unfold State.emisRearm
  with_reducible repeat'
    (first | assumption | (apply mk_canon; assumption) | (show State.Canon sv; unfold sv)
           | (intro sv; refine (fun (hv : State.Canon sv) => ?_) ?_) | (intro sv) | (lift_lets))

theorem State.refCredit_canon (s : State) (t k lead : Nat) (w : RefWin) (h_s : s.Canon) :
    (State.refCredit s t k lead w).Canon := by
  unfold State.refCredit
  with_reducible repeat'
    (first | assumption | apply State.put_canon | apply State.setTile_canon | apply State.setShot_canon
           | apply State.statsRef_canon | apply State.emisRearm_canon | refine ite_canon ?_ ?_ | (apply mk_canon; assumption)
           | (show State.Canon sv; unfold sv) | (intro sv; refine (fun (hv : State.Canon sv) => ?_) ?_) | (intro sv)
           | (lift_lets) | (split))

theorem State.refReturn_canon (s : State) (t k lead tot : Nat) (h_s : s.Canon) :
    (State.refReturn s t k lead tot).Canon := by
  unfold State.refReturn
  with_reducible repeat'
    (first | assumption | apply State.refCredit_canon | refine foldl_canon (fun s a h => ?_) ?_ | refine ite_canon ?_ ?_
           | (show State.Canon sv; unfold sv) | (intro sv; refine (fun (hv : State.Canon sv) => ?_) ?_) | (intro sv)
           | (lift_lets))

theorem State.refClose_canon (s : State) (t : Nat) (h_s : s.Canon) :
    (State.refClose s t).Canon := by
  unfold State.refClose
  with_reducible repeat'
    (first | assumption | apply State.setTile_canon | apply State.setShot_canon | apply State.diagJudge_canon
           | refine ite_canon ?_ ?_ | (apply mk_canon; assumption) | (show State.Canon sv; unfold sv)
           | (intro sv; refine (fun (hv : State.Canon sv) => ?_) ?_) | (intro sv) | (lift_lets) | (split))

theorem State.refClear_canon (s : State) (t : Nat) (h_s : s.Canon) :
    (State.refClear s t).Canon := by
  unfold State.refClear
  with_reducible repeat'
    (first | assumption | apply State.resetRange_canon)

theorem State.walkCopy_canon (s : State) (a : Nat) (h_s : s.Canon) :
    (State.walkCopy s a).Canon := by
  unfold State.walkCopy
  with_reducible repeat'
    (first | assumption | (apply mk_canon; assumption))

end Sys2Proof.Machine
end

