-- ==== Sys2Proof/Laws/Canon/Hist.lean ====
section
/-! SUPPORT. Every operation of Machine/Hist.lean keeps the canonical form of the tables and memories. -/

namespace Sys2Proof.Machine

theorem State.setLink_canon (s : State) (l : Nat) (x : JexLink) (h_s : s.Canon) :
    (State.setLink s l x).Canon := by
  unfold State.setLink
  with_reducible repeat'
    (first | assumption | (apply mk_canon; assumption))

theorem State.creditTake_canon (s : State) (l vc n : Nat) (h_s : s.Canon) :
    (State.creditTake s l vc n).Canon := by
  unfold State.creditTake
  with_reducible repeat'
    (first | assumption | apply State.setLink_canon | (apply mk_canon; assumption) | (show State.Canon sv; unfold sv)
           | (intro sv; refine (fun (hv : State.Canon sv) => ?_) ?_) | (intro sv) | (lift_lets))

theorem State.creditGive_canon (s : State) (l vc n : Nat) (h_s : s.Canon) :
    (State.creditGive s l vc n).Canon := by
  unfold State.creditGive
  with_reducible repeat'
    (first | assumption | apply State.setLink_canon | (apply mk_canon; assumption) | (show State.Canon sv; unfold sv)
           | (intro sv; refine (fun (hv : State.Canon sv) => ?_) ?_) | (intro sv) | (lift_lets))

theorem State.snapshot_canon (s0 : State) (t : Nat) (z : ScanWord) (h_s0 : s0.Canon) :
    (State.snapshot s0 t z).Canon := by
  unfold State.snapshot
  with_reducible repeat'
    (first | assumption | apply State.setTile_canon | apply State.chanScan_canon | refine foldl_canon (fun s a h => ?_) ?_
           | refine ite_canon ?_ ?_ | (apply mk_canon; assumption) | (show State.Canon sv; unfold sv)
           | (intro sv; refine (fun (hv : State.Canon sv) => ?_) ?_) | (intro sv) | (lift_lets) | (split))

theorem State.summarySend_canon (s : State) (t k : Nat) (h_s : s.Canon) :
    (State.summarySend s t k).Canon := by
  unfold State.summarySend
  with_reducible repeat'
    (first | assumption | apply State.emit_canon | apply State.setTile_canon | apply State.creditTake_canon
           | refine ite_canon ?_ ?_ | (apply mk_canon; assumption) | (show State.Canon sv; unfold sv)
           | (intro sv; refine (fun (hv : State.Canon sv) => ?_) ?_) | (intro sv) | (lift_lets) | (split))

theorem State.zoomAnswer_canon (s : State) (t : Nat) (late : Bool) (h_s : s.Canon) :
    (State.zoomAnswer s t late).Canon := by
  unfold State.zoomAnswer
  with_reducible repeat'
    (first | assumption | apply State.bump_canon | refine State.when_canon _ _ _ ?_ (fun s h => ?_) | apply State.setTile_canon
           | apply State.creditGive_canon | apply Rd.answer_canon | (apply mk_canon; assumption)
           | (show State.Canon sv; unfold sv) | (intro sv; refine (fun (hv : State.Canon sv) => ?_) ?_) | (intro sv)
           | (lift_lets) | (split))

theorem State.zoomInstall_canon (s : State) (t c : Nat) (h_s : s.Canon) :
    (State.zoomInstall s t c).Canon := by
  unfold State.zoomInstall
  with_reducible repeat'
    (first | assumption | apply State.setTile_canon | apply State.setChan_canon | apply Rd.answer_canon
           | refine ite_canon ?_ ?_ | (apply mk_canon; assumption) | (show State.Canon sv; unfold sv)
           | (intro sv; refine (fun (hv : State.Canon sv) => ?_) ?_) | (intro sv) | (lift_lets) | (split))

theorem State.cellSeal_canon (s : State) (t b : Nat) (h_s : s.Canon) :
    (State.cellSeal s t b).Canon := by
  unfold State.cellSeal
  with_reducible repeat'
    (first | assumption | apply State.sealCell_canon | (apply mk_canon; assumption) | (split))

theorem State.bufClear_canon (s : State) (t c i : Nat) (h_s : s.Canon) :
    (State.bufClear s t c i).Canon := by
  unfold State.bufClear
  with_reducible repeat'
    (first | assumption | apply State.setChan_canon | (apply mk_canon; assumption) | (show State.Canon sv; unfold sv)
           | (intro sv; refine (fun (hv : State.Canon sv) => ?_) ?_) | (intro sv) | (lift_lets))

theorem State.handRead_canon (s : State) (t : Nat) (r : ChanRec) (w : Nat) (e : Ecc) (h_s : s.Canon) :
    (State.handRead s t r w e).2.Canon := by
  unfold State.handRead
  with_reducible repeat'
    (first | assumption | apply State.bufScan_canon | apply State.bufClear_canon | refine ite_canon ?_ ?_
           | (apply mk_canon; assumption) | (show State.Canon sv; unfold sv)
           | (intro sv; refine (fun (hv : State.Canon sv) => ?_) ?_) | (intro sv) | (lift_lets) | (split))

theorem State.packetSend_canon (s : State) (t k w : Nat) (e : Ecc) (h_s : s.Canon) :
    (State.packetSend s t k w e).Canon := by
  unfold State.packetSend
  dsimp only
  repeat' (first
    | (with_reducible assumption)
    | (with_reducible apply State.emit_canon)
    | (with_reducible apply State.setTile_canon)
    | (with_reducible apply State.creditTake_canon)
    | (with_reducible apply State.handRead_canon)
    | (with_reducible refine foldl_canon (fun s a h => ?_) ?_)
    | (with_reducible refine ite_canon ?_ ?_)
    | (with_reducible apply mk_canon; first | (with_reducible assumption) | (with_reducible apply State.emit_canon) | (with_reducible apply State.setTile_canon) | (with_reducible apply State.creditTake_canon) | (with_reducible apply State.handRead_canon) | (with_reducible refine foldl_canon (fun s a h => ?_) ?_) | (with_reducible refine ite_canon ?_ ?_))
    | (with_reducible show State.Canon sv; unfold sv)
    | (with_reducible show State.Canon sv.2; unfold sv)
    | (with_reducible show State.Canon sv.st; unfold sv)
    | (with_reducible show State.Canon sv.2.2; unfold sv)
    | (intro sv; refine (fun (hv : State.Canon sv) => ?_) ?_)
    | (intro sv; refine (fun (hv : State.Canon sv.2) => ?_) ?_)
    | (intro sv; refine (fun (hv : State.Canon sv.st) => ?_) ?_)
    | (intro sv; refine (fun (hv : State.Canon sv.2.2) => ?_) ?_)
    | (intro sv)
    | lift_lets
    | split
    | (dsimp -zeta only))

theorem State.repairRow_canon (s : State) (t row : Nat) (h_s : s.Canon) :
    (State.repairRow s t row).Canon := by
  unfold State.repairRow
  with_reducible repeat'
    (first | assumption | apply State.put_canon | apply State.setTile_canon | apply State.repairExhausted_canon
           | refine ite_canon ?_ ?_ | (apply mk_canon; assumption) | (show State.Canon sv; unfold sv)
           | (intro sv; refine (fun (hv : State.Canon sv) => ?_) ?_) | (intro sv) | (lift_lets))

theorem State.handoffDone_canon (s : State) (t c : Nat) (h_s : s.Canon) :
    (State.handoffDone s t c).Canon := by
  unfold State.handoffDone
  with_reducible repeat'
    (first | assumption | apply State.setChan_canon | apply State.repairRow_canon | refine foldl_canon (fun s a h => ?_) ?_
           | (apply mk_canon; assumption) | (show State.Canon sv; unfold sv)
           | (intro sv; refine (fun (hv : State.Canon sv) => ?_) ?_) | (intro sv) | (lift_lets) | (split))

theorem State.seqCheck_canon (s : State) (r : ChanRec) (h_s : s.Canon) :
    (State.seqCheck s r).Canon := by
  unfold State.seqCheck
  with_reducible repeat'
    (first | assumption | apply State.put_canon | apply State.bump_canon | apply State.setFlag_canon | apply State.raise_canon
           | refine ite_canon ?_ ?_ | (apply mk_canon; assumption) | (show State.Canon sv; unfold sv)
           | (intro sv; refine (fun (hv : State.Canon sv) => ?_) ?_) | (intro sv) | (lift_lets))

theorem State.tapCountIn_canon (s : State) (d : Nat) (h_s : s.Canon) :
    (State.tapCountIn s d).2.Canon := by
  unfold State.tapCountIn
  with_reducible repeat'
    (first | assumption | (apply mk_canon; assumption) | (show State.Canon sv; unfold sv)
           | (intro sv; refine (fun (hv : State.Canon sv) => ?_) ?_) | (intro sv) | (lift_lets) | (split))

theorem State.recordBad_canon (s : State) (t : Nat) (h_s : s.Canon) :
    (State.recordBad s t).Canon := by
  unfold State.recordBad
  with_reducible repeat'
    (first | assumption | apply State.bump_canon | apply State.raiseInst_canon)

theorem State.recordReceive_canon (s : State) (t : Nat) (e : Ecc) (h_s : s.Canon) :
    (State.recordReceive s t e).Canon := by
  unfold State.recordReceive
  with_reducible repeat'
    (first | assumption | refine State.when_canon _ _ _ ?_ (fun s h => ?_) | apply State.w256Write_canon
           | apply State.w256Read_canon | apply State.creditGive_canon | apply State.seqCheck_canon
           | apply State.tapCountIn_canon | apply State.recordBad_canon | refine ite_canon ?_ ?_
           | (apply mk_canon; first | assumption | refine State.when_canon _ _ _ ?_ (fun s h => ?_) | apply State.w256Write_canon | apply State.w256Read_canon | apply State.creditGive_canon | apply State.seqCheck_canon | apply State.tapCountIn_canon | apply State.recordBad_canon)
           | (show State.Canon sv; unfold sv) | (show State.Canon sv.2; unfold sv) | (show State.Canon sv.st; unfold sv)
           | (show State.Canon sv.2.2; unfold sv) | (intro sv; refine (fun (hv : State.Canon sv) => ?_) ?_)
           | (intro sv; refine (fun (hv : State.Canon sv.2) => ?_) ?_)
           | (intro sv; refine (fun (hv : State.Canon sv.st) => ?_) ?_)
           | (intro sv; refine (fun (hv : State.Canon sv.2.2) => ?_) ?_) | (intro sv) | (lift_lets) | (split)
           | (dsimp -zeta only))

theorem State.storeFree_canon (s : State) (h_s : s.Canon) :
    (State.storeFree s).Canon := by
  unfold State.storeFree
  with_reducible repeat'
    (first | assumption | (apply mk_canon; assumption))

theorem State.tapLevel_canon (s : State) (h_s : s.Canon) :
    (State.tapLevel s).Canon := by
  unfold State.tapLevel
  with_reducible repeat'
    (first | assumption | apply State.put_canon | apply State.setFlag_canon | refine State.when_canon _ _ _ ?_ (fun s h => ?_)
           | apply State.raiseIf_canon
           | (apply mk_canon; first | assumption | apply State.put_canon | apply State.setFlag_canon | refine State.when_canon _ _ _ ?_ (fun s h => ?_) | apply State.raiseIf_canon)
           | (show State.Canon sv; unfold sv) | (show State.Canon sv.2; unfold sv) | (show State.Canon sv.st; unfold sv)
           | (show State.Canon sv.2.2; unfold sv) | (intro sv; refine (fun (hv : State.Canon sv) => ?_) ?_)
           | (intro sv; refine (fun (hv : State.Canon sv.2) => ?_) ?_)
           | (intro sv; refine (fun (hv : State.Canon sv.st) => ?_) ?_)
           | (intro sv; refine (fun (hv : State.Canon sv.2.2) => ?_) ?_) | (intro sv) | (lift_lets) | (split)
           | (dsimp -zeta only))

theorem State.tapSelect_canon (s : State) (n ch : Nat) (en : Bool) (decim : Nat) (h_s : s.Canon) :
    (State.tapSelect s n ch en decim).Canon := by
  unfold State.tapSelect
  with_reducible repeat'
    (first | assumption | apply State.put_canon | apply State.raise_canon | refine ite_canon ?_ ?_
           | (apply mk_canon; assumption) | (show State.Canon sv; unfold sv)
           | (intro sv; refine (fun (hv : State.Canon sv) => ?_) ?_) | (intro sv) | (lift_lets))

theorem State.tapEnable_canon (s : State) (en ovr : Bool) (wm : Nat) (h_s : s.Canon) :
    (State.tapEnable s en ovr wm).Canon := by
  unfold State.tapEnable
  with_reducible repeat'
    (first | assumption | apply State.put_canon | apply State.setFlag_canon | apply State.clearFlag_canon
           | refine State.when_canon _ _ _ ?_ (fun s h => ?_) | apply State.storeFree_canon | refine ite_canon ?_ ?_
           | (apply mk_canon; first | assumption | apply State.put_canon | apply State.setFlag_canon | apply State.clearFlag_canon | refine State.when_canon _ _ _ ?_ (fun s h => ?_) | apply State.storeFree_canon)
           | (show State.Canon sv; unfold sv) | (show State.Canon sv.2; unfold sv) | (show State.Canon sv.st; unfold sv)
           | (show State.Canon sv.2.2; unfold sv) | (intro sv; refine (fun (hv : State.Canon sv) => ?_) ?_)
           | (intro sv; refine (fun (hv : State.Canon sv.2) => ?_) ?_)
           | (intro sv; refine (fun (hv : State.Canon sv.st) => ?_) ?_)
           | (intro sv; refine (fun (hv : State.Canon sv.2.2) => ?_) ?_) | (intro sv) | (lift_lets) | (split)
           | (dsimp -zeta only))

theorem State.tapFlush_canon (s : State) (partly : Bool) (h_s : s.Canon) :
    (State.tapFlush s partly).Canon := by
  unfold State.tapFlush
  with_reducible repeat'
    (first | assumption | apply State.put_canon | apply State.bump_canon | apply State.storeFree_canon
           | apply State.tapLevel_canon | refine ite_canon ?_ ?_
           | (apply mk_canon; first | assumption | apply State.put_canon | apply State.bump_canon | apply State.storeFree_canon | apply State.tapLevel_canon)
           | (show State.Canon sv; unfold sv) | (show State.Canon sv.2; unfold sv) | (show State.Canon sv.st; unfold sv)
           | (show State.Canon sv.2.2; unfold sv) | (intro sv; refine (fun (hv : State.Canon sv) => ?_) ?_)
           | (intro sv; refine (fun (hv : State.Canon sv.2) => ?_) ?_)
           | (intro sv; refine (fun (hv : State.Canon sv.st) => ?_) ?_)
           | (intro sv; refine (fun (hv : State.Canon sv.2.2) => ?_) ?_) | (intro sv) | (lift_lets) | (split)
           | (dsimp -zeta only))

theorem State.tapTail_canon (s : State) (v : Nat) (h_s : s.Canon) :
    (State.tapTail s v).Canon := by
  unfold State.tapTail
  with_reducible repeat'
    (first | assumption | apply State.put_canon | apply State.tapLevel_canon | refine ite_canon ?_ ?_
           | (show State.Canon sv; unfold sv) | (intro sv; refine (fun (hv : State.Canon sv) => ?_) ?_) | (intro sv)
           | (lift_lets))

theorem State.tapWrite_canon (s : State) (r : ChanRec) (h_s : s.Canon) :
    (State.tapWrite s r).Canon := by
  unfold State.tapWrite
  with_reducible repeat'
    (first | assumption | apply State.put_canon | apply State.tagPulse_canon | apply State.devWrite_canon
           | apply State.tapLevel_canon | (show State.Canon sv; unfold sv)
           | (intro sv; refine (fun (hv : State.Canon sv) => ?_) ?_) | (intro sv) | (lift_lets))

theorem State.storeRead_canon (s : State) (same : ChanRec → Bool) (r : ChanRec) (port : Nat) (e : Ecc) (h_s : s.Canon) :
    (State.storeRead s same r port e).2.Canon := by
  unfold State.storeRead
  with_reducible repeat'
    (first | assumption | apply State.w256Read_canon | apply State.recordBad_canon | refine ite_canon ?_ ?_
           | (apply mk_canon; assumption) | (show State.Canon sv; unfold sv)
           | (intro sv; refine (fun (hv : State.Canon sv) => ?_) ?_) | (intro sv) | (lift_lets) | (split))

theorem State.tapRead_canon (s : State) (r : ChanRec) (h_s : s.Canon) :
    (State.tapRead s r).2.Canon := by
  unfold State.tapRead
  with_reducible repeat'
    (first | assumption | apply State.fresh_canon | apply State.storeRead_canon | (show State.Canon sv; unfold sv)
           | (intro sv; refine (fun (hv : State.Canon sv) => ?_) ?_) | (intro sv) | (lift_lets))

theorem State.tapTaken_canon (s : State) (h_s : s.Canon) :
    (State.tapTaken s).Canon := by
  unfold State.tapTaken
  with_reducible repeat'
    (first | assumption | (apply mk_canon; assumption))

theorem State.tapCommit_canon (s : State) (h_s : s.Canon) :
    (State.tapCommit s).Canon := by
  unfold State.tapCommit
  with_reducible repeat'
    (first | assumption | apply State.put_canon | apply State.bump_canon | apply State.raiseIf_canon
           | apply State.tagWait_canon | apply State.storeFree_canon | apply State.tapLevel_canon | apply State.tapWrite_canon
           | apply State.tapRead_canon | apply State.tapTaken_canon | refine ite_canon ?_ ?_ | (apply mk_canon; assumption)
           | (show State.Canon sv; unfold sv) | (intro sv; refine (fun (hv : State.Canon sv) => ?_) ?_) | (intro sv)
           | (lift_lets) | (split))

theorem State.loadShow_canon (s : State) (t b : Nat) (h_s : s.Canon) :
    (State.loadShow s t b).Canon := by
  unfold State.loadShow
  with_reducible repeat'
    (first | assumption | apply State.put_canon)

theorem State.loadPeakClr_canon (s : State) (t b : Nat) (h_s : s.Canon) :
    (State.loadPeakClr s t b).Canon := by
  unfold State.loadPeakClr
  with_reducible repeat'
    (first | assumption | apply State.put_canon | apply State.loadShow_canon | (show State.Canon sv; unfold sv)
           | (intro sv; refine (fun (hv : State.Canon sv) => ?_) ?_) | (intro sv) | (lift_lets))

end Sys2Proof.Machine
end

