-- ==== Sys2Proof/Laws/Canon/Power.lean ====
section
/-! SUPPORT. Every operation of Machine/Power.lean keeps the canonical form of the tables and memories. -/

namespace Sys2Proof.Machine

theorem State.domainUnclaim_canon (s : State) (d : Domain) (h_s : s.Canon) :
    (State.domainUnclaim s d).Canon := by
  unfold State.domainUnclaim
  with_reducible repeat'
    (first | assumption | apply State.unclaim_canon | refine ite_canon ?_ ?_)

theorem State.domainOff_canon (s : State) (d : Domain) (h_s : s.Canon) :
    (State.domainOff s d).Canon := by
  unfold State.domainOff
  with_reducible repeat'
    (first | assumption | apply State.failOps_canon | apply State.memDrop_canon | apply State.descFail_canon
           | apply State.domainUnclaim_canon | refine foldl_canon (fun s a h => ?_) ?_ | refine ite_canon ?_ ?_
           | (apply mk_canon; first | assumption | apply State.failOps_canon | apply State.memDrop_canon | apply State.descFail_canon | apply State.domainUnclaim_canon)
           | (show State.Canon sv; unfold sv) | (show State.Canon sv.2; unfold sv) | (show State.Canon sv.st; unfold sv)
           | (show State.Canon sv.2.2; unfold sv) | (intro sv; refine (fun (hv : State.Canon sv) => ?_) ?_)
           | (intro sv; refine (fun (hv : State.Canon sv.2) => ?_) ?_)
           | (intro sv; refine (fun (hv : State.Canon sv.st) => ?_) ?_)
           | (intro sv; refine (fun (hv : State.Canon sv.2.2) => ?_) ?_) | (intro sv) | (lift_lets) | (split)
           | (dsimp -zeta only))

theorem domainReset_canon (d : Domain) (s : State) (h_s : s.Canon) :
    (domainReset d s).Canon := by
  unfold domainReset
  with_reducible repeat'
    (first | assumption | apply State.put_canon | apply State.resetReg_canon | apply State.resetRange_canon
           | apply State.setTile_canon | refine foldl_canon (fun s a h => ?_) ?_
           | (apply mk_canon; first | assumption | apply State.put_canon | apply State.resetReg_canon | apply State.resetRange_canon | apply State.setTile_canon)
           | (show State.Canon sv; unfold sv) | (show State.Canon sv.2; unfold sv) | (show State.Canon sv.st; unfold sv)
           | (show State.Canon sv.2.2; unfold sv) | (intro sv; refine (fun (hv : State.Canon sv) => ?_) ?_)
           | (intro sv; refine (fun (hv : State.Canon sv.2) => ?_) ?_)
           | (intro sv; refine (fun (hv : State.Canon sv.st) => ?_) ?_)
           | (intro sv; refine (fun (hv : State.Canon sv.2.2) => ?_) ?_) | (intro sv) | (lift_lets) | (split)
           | (dsimp -zeta only))

theorem State.domainOn_canon (s : State) (d : Domain) (h_s : s.Canon) :
    (State.domainOn s d).Canon := by
  unfold State.domainOn
  with_reducible repeat'
    (first | assumption | apply domainReset_canon | refine ite_canon ?_ ?_ | (apply mk_canon; assumption))

end Sys2Proof.Machine
end

