-- ==== Sys2Proof/Laws/Canon/Mem.lean ====
section
/-! SUPPORT. Every operation of Machine/Mem.lean keeps the canonical form of the tables and memories. -/

namespace Sys2Proof.Machine

theorem State.memFind_canon (s : State) (m : Nat) (f : MemFound) (h_s : s.Canon) :
    (State.memFind s m f).Canon := by
  unfold State.memFind
  with_reducible repeat'
    (first | assumption | apply State.put_canon | apply State.fresh_canon | apply State.setFlag_canon
           | apply State.raiseInst_canon | refine ite_canon ?_ ?_
           | (apply mk_canon; first | assumption | apply State.put_canon | apply State.fresh_canon | apply State.setFlag_canon | apply State.raiseInst_canon)
           | (show State.Canon sv; unfold sv) | (show State.Canon sv.2; unfold sv) | (show State.Canon sv.st; unfold sv)
           | (show State.Canon sv.2.2; unfold sv) | (intro sv; refine (fun (hv : State.Canon sv) => ?_) ?_)
           | (intro sv; refine (fun (hv : State.Canon sv.2) => ?_) ?_)
           | (intro sv; refine (fun (hv : State.Canon sv.st) => ?_) ?_)
           | (intro sv; refine (fun (hv : State.Canon sv.2.2) => ?_) ?_) | (intro sv) | (lift_lets) | (split)
           | (dsimp -zeta only))

theorem State.memInit_canon (s : State) (order : Nat) (f : Fin 4 → MemFound) (h_s : s.Canon) :
    (State.memInit s order f).Canon := by
  unfold State.memInit
  with_reducible repeat'
    (first | assumption | apply State.put_canon | apply State.setFlag_canon | apply State.memFind_canon
           | refine foldl_canon (fun s a h => ?_) ?_ | refine ite_canon ?_ ?_
           | (apply mk_canon; first | assumption | apply State.put_canon | apply State.setFlag_canon | apply State.memFind_canon)
           | (show State.Canon sv; unfold sv) | (show State.Canon sv.2; unfold sv) | (show State.Canon sv.st; unfold sv)
           | (show State.Canon sv.2.2; unfold sv) | (intro sv; refine (fun (hv : State.Canon sv) => ?_) ?_)
           | (intro sv; refine (fun (hv : State.Canon sv.2) => ?_) ?_)
           | (intro sv; refine (fun (hv : State.Canon sv.st) => ?_) ?_)
           | (intro sv; refine (fun (hv : State.Canon sv.2.2) => ?_) ?_) | (intro sv) | (lift_lets) | (split)
           | (dsimp -zeta only))

theorem State.memInitDone_canon (s : State) (h_s : s.Canon) :
    (State.memInitDone s).Canon := by
  unfold State.memInitDone
  repeat' (first
    | (with_reducible assumption)
    | (with_reducible apply State.put_canon)
    | (with_reducible apply State.setFlag_canon)
    | (with_reducible apply State.clearFlag_canon)
    | (with_reducible apply State.raise_canon)
    | (with_reducible refine ite_canon ?_ ?_)
    | (with_reducible apply mk_canon; first | (with_reducible assumption) | (with_reducible apply State.put_canon) | (with_reducible apply State.setFlag_canon) | (with_reducible apply State.clearFlag_canon) | (with_reducible apply State.raise_canon) | (with_reducible refine ite_canon ?_ ?_))
    | (with_reducible refine mk_mem_canon ?_ ?_ ?_ ?_ ?_ ?_ ?_; (first | (with_reducible assumption) | (with_reducible apply State.put_canon) | (with_reducible apply State.setFlag_canon) | (with_reducible apply State.clearFlag_canon) | (with_reducible apply State.raise_canon) | (with_reducible refine ite_canon ?_ ?_)))
    | (exact (rfl : Memory.wf [] = true))
    | (with_reducible refine memStore_wf ?_)
    | (with_reducible refine filter_wf ?_)
    | (with_reducible refine State.Canon.fireTab ?_)
    | (with_reducible refine State.Canon.ztStage ?_)
    | (with_reducible refine State.Canon.devMem ?_)
    | (with_reducible refine State.Canon.hostMem ?_)
    | (with_reducible refine State.Canon.nor ?_)
    | (with_reducible refine State.Canon.calStage ?_)
    | (with_reducible show State.Canon sv; unfold sv)
    | (with_reducible show State.Canon sv.2; unfold sv)
    | (with_reducible show State.Canon sv.st; unfold sv)
    | (with_reducible show State.Canon sv.2.2; unfold sv)
    | (intro sv; refine (fun (hv : State.Canon sv) => ?_) ?_)
    | (intro sv; refine (fun (hv : State.Canon sv.2) => ?_) ?_)
    | (intro sv; refine (fun (hv : State.Canon sv.st) => ?_) ?_)
    | (intro sv; refine (fun (hv : State.Canon sv.2.2) => ?_) ?_)
    | (intro sv)
    | lift_lets
    | split
    | (dsimp -zeta only))

theorem State.memAccept_canon (s : State) (r : MemReq) (h_s : s.Canon) :
    (State.memAccept s r).Canon := by
  unfold State.memAccept
  with_reducible repeat'
    (first | assumption | apply State.put_canon | apply State.tagTake_canon | (apply mk_canon; assumption)
           | (show State.Canon sv; unfold sv) | (intro sv; refine (fun (hv : State.Canon sv) => ?_) ?_) | (intro sv)
           | (lift_lets))

theorem State.memPumpGo_canon (s : State) (held : List Nat) (y0 : List MemReq) (h_s : s.Canon) :
    (State.memPumpGo s held y0).Canon := by
  induction y0 generalizing s held with
  | nil => 
    unfold State.memPumpGo
    repeat' (first
    | (with_reducible apply ih)
    | (with_reducible assumption)
    | (with_reducible refine State.when_canon _ _ _ ?_ (fun s h => ?_))
    | (with_reducible apply State.tagWait_canon)
    | (with_reducible apply State.memAccept_canon)
    | (with_reducible refine ite_canon ?_ ?_)
    | (with_reducible apply mk_canon; first | (with_reducible assumption) | (with_reducible refine State.when_canon _ _ _ ?_ (fun s h => ?_)) | (with_reducible apply State.tagWait_canon) | (with_reducible apply State.memAccept_canon) | (with_reducible refine ite_canon ?_ ?_))
    | (with_reducible show State.Canon sv; unfold sv)
    | (with_reducible show State.Canon sv.2; unfold sv)
    | (with_reducible show State.Canon sv.st; unfold sv)
    | (with_reducible show State.Canon sv.2.2; unfold sv)
    | (intro sv; refine (fun (hv : State.Canon sv) => ?_) ?_)
    | (intro sv; refine (fun (hv : State.Canon sv.2) => ?_) ?_)
    | (intro sv; refine (fun (hv : State.Canon sv.st) => ?_) ?_)
    | (intro sv; refine (fun (hv : State.Canon sv.2.2) => ?_) ?_)
    | (intro sv)
    | lift_lets
    | split
    | (dsimp -zeta only))
  | cons p l ih =>
    unfold State.memPumpGo
    repeat' (first
    | (with_reducible apply ih)
    | (with_reducible assumption)
    | (with_reducible refine State.when_canon _ _ _ ?_ (fun s h => ?_))
    | (with_reducible apply State.tagWait_canon)
    | (with_reducible apply State.memAccept_canon)
    | (with_reducible refine ite_canon ?_ ?_)
    | (with_reducible apply mk_canon; first | (with_reducible assumption) | (with_reducible refine State.when_canon _ _ _ ?_ (fun s h => ?_)) | (with_reducible apply State.tagWait_canon) | (with_reducible apply State.memAccept_canon) | (with_reducible refine ite_canon ?_ ?_))
    | (with_reducible show State.Canon sv; unfold sv)
    | (with_reducible show State.Canon sv.2; unfold sv)
    | (with_reducible show State.Canon sv.st; unfold sv)
    | (with_reducible show State.Canon sv.2.2; unfold sv)
    | (intro sv; refine (fun (hv : State.Canon sv) => ?_) ?_)
    | (intro sv; refine (fun (hv : State.Canon sv.2) => ?_) ?_)
    | (intro sv; refine (fun (hv : State.Canon sv.st) => ?_) ?_)
    | (intro sv; refine (fun (hv : State.Canon sv.2.2) => ?_) ?_)
    | (intro sv)
    | lift_lets
    | split
    | (dsimp -zeta only))

theorem State.memPump_canon (s : State) (h_s : s.Canon) :
    (State.memPump s).Canon := by
  unfold State.memPump
  with_reducible repeat'
    (first | assumption | apply State.memPumpGo_canon | (apply mk_canon; assumption))

theorem State.memRequest_canon (s : State) (p d : Nat) (write : Bool) (h_s : s.Canon) :
    (State.memRequest s p d write).Canon := by
  unfold State.memRequest
  with_reducible repeat'
    (first | assumption | apply State.extentViolation_canon | apply State.memPump_canon | refine ite_canon ?_ ?_
           | (apply mk_canon; assumption))

theorem State.owedShow_canon (s : State) (m : Nat) (h_s : s.Canon) :
    (State.owedShow s m).Canon := by
  unfold State.owedShow
  with_reducible repeat'
    (first | assumption | apply State.put_canon | refine foldl_canon (fun s a h => ?_) ?_ | (show State.Canon sv; unfold sv)
           | (intro sv; refine (fun (hv : State.Canon sv) => ?_) ?_) | (intro sv) | (lift_lets))

theorem State.refreshIssue_canon (s : State) (m k : Nat) (h_s : s.Canon) :
    (State.refreshIssue s m k).Canon := by
  unfold State.refreshIssue
  with_reducible repeat'
    (first | assumption | (apply mk_canon; assumption) | (show State.Canon sv; unfold sv)
           | (intro sv; refine (fun (hv : State.Canon sv) => ?_) ?_) | (intro sv) | (lift_lets))

theorem State.refreshPreempt_canon (s : State) (m b : Nat) (h_s : s.Canon) :
    (State.refreshPreempt s m b).Canon := by
  unfold State.refreshPreempt
  with_reducible repeat'
    (first | assumption | apply State.bump_canon | apply State.raiseInst_canon | apply State.owedShow_canon
           | apply State.refreshIssue_canon | refine ite_canon ?_ ?_
           | (apply mk_canon; first | assumption | apply State.bump_canon | apply State.raiseInst_canon | apply State.owedShow_canon | apply State.refreshIssue_canon)
           | (show State.Canon sv; unfold sv) | (show State.Canon sv.2; unfold sv) | (show State.Canon sv.st; unfold sv)
           | (show State.Canon sv.2.2; unfold sv) | (intro sv; refine (fun (hv : State.Canon sv) => ?_) ?_)
           | (intro sv; refine (fun (hv : State.Canon sv.2) => ?_) ?_)
           | (intro sv; refine (fun (hv : State.Canon sv.st) => ?_) ?_)
           | (intro sv; refine (fun (hv : State.Canon sv.2.2) => ?_) ?_) | (intro sv) | (lift_lets) | (split)
           | (dsimp -zeta only))

theorem State.memIssue_canon (s : State) (m k : Nat) (r : MemReq) (u : Nat) (h_s : s.Canon) :
    (State.memIssue s m k r u).Canon := by
  unfold State.memIssue
  with_reducible repeat'
    (first | assumption | refine ite_canon ?_ ?_ | (apply mk_canon; assumption) | (show State.Canon sv; unfold sv)
           | (intro sv; refine (fun (hv : State.Canon sv) => ?_) ?_) | (intro sv) | (lift_lets) | (split))

theorem State.refreshOwed_canon (s : State) (m k : Nat) (h_s : s.Canon) :
    (State.refreshOwed s m k).Canon := by
  unfold State.refreshOwed
  with_reducible repeat'
    (first | assumption | apply State.refreshIssue_canon | refine ite_canon ?_ ?_)

theorem State.memSlot_canon (s : State) (m : Nat) (h_s : s.Canon) :
    (State.memSlot s m).Canon := by
  unfold State.memSlot
  with_reducible repeat'
    (first | assumption | apply State.memPump_canon | apply State.owedShow_canon | apply State.refreshPreempt_canon
           | apply State.memIssue_canon | apply State.refreshOwed_canon | refine foldl_canon (fun s a h => ?_) ?_
           | (apply mk_canon; assumption) | (show State.Canon sv; unfold sv)
           | (intro sv; refine (fun (hv : State.Canon sv) => ?_) ?_) | (intro sv) | (lift_lets) | (split))

theorem State.memEnd_canon (s : State) (r : MemReq) (h_s : s.Canon) :
    (State.memEnd s r).Canon := by
  unfold State.memEnd
  with_reducible repeat'
    (first | assumption | apply State.put_canon | apply State.bump_canon | apply State.setFlag_canon
           | apply State.raiseInst_canon | apply State.tagRelease_canon | apply State.memPump_canon | refine ite_canon ?_ ?_
           | (apply mk_canon; first | assumption | apply State.put_canon | apply State.bump_canon | apply State.setFlag_canon | apply State.raiseInst_canon | apply State.tagRelease_canon | apply State.memPump_canon)
           | (show State.Canon sv; unfold sv) | (show State.Canon sv.2; unfold sv) | (show State.Canon sv.st; unfold sv)
           | (show State.Canon sv.2.2; unfold sv) | (intro sv; refine (fun (hv : State.Canon sv) => ?_) ?_)
           | (intro sv; refine (fun (hv : State.Canon sv.2) => ?_) ?_)
           | (intro sv; refine (fun (hv : State.Canon sv.st) => ?_) ?_)
           | (intro sv; refine (fun (hv : State.Canon sv.2.2) => ?_) ?_) | (intro sv) | (lift_lets) | (split)
           | (dsimp -zeta only))

theorem State.memComplete_canon (s : State) (p : Nat) (e : Ecc) (h_s : s.Canon) :
    (State.memComplete s p e).Canon := by
  unfold State.memComplete
  with_reducible repeat'
    (first | assumption | apply State.emit_canon | apply State.devRead_canon | apply State.memEnd_canon
           | refine foldl_canon (fun s a h => ?_) ?_ | refine ite_canon ?_ ?_ | (apply mk_canon; assumption)
           | (show State.Canon sv; unfold sv) | (intro sv; refine (fun (hv : State.Canon sv) => ?_) ?_) | (intro sv)
           | (lift_lets) | (split))

theorem State.memQuotaWrite_canon (s : State) (p v : Nat) (h_s : s.Canon) :
    (State.memQuotaWrite s p v).Canon := by
  unfold State.memQuotaWrite
  with_reducible repeat'
    (first | assumption | apply State.put_canon | apply State.setFlag_canon | apply State.raiseInst_canon
           | apply State.memPump_canon | refine ite_canon ?_ ?_ | (show State.Canon sv; unfold sv)
           | (intro sv; refine (fun (hv : State.Canon sv) => ?_) ?_) | (intro sv) | (lift_lets))

theorem State.memPortWrite_canon (s : State) (p target : Nat) (rt : Bool) (h_s : s.Canon) :
    (State.memPortWrite s p target rt).Canon := by
  unfold State.memPortWrite
  with_reducible repeat'
    (first | assumption | apply State.put_canon | apply State.raiseInst_canon | refine ite_canon ?_ ?_)

theorem State.refreshDue_canon (s : State) (m : Nat) (h_s : s.Canon) :
    (State.refreshDue s m).Canon := by
  unfold State.refreshDue
  with_reducible repeat'
    (first | assumption | apply State.owedShow_canon | apply State.refreshOwed_canon | refine foldl_canon (fun s a h => ?_) ?_
           | refine ite_canon ?_ ?_ | (apply mk_canon; assumption) | (show State.Canon sv; unfold sv)
           | (intro sv; refine (fun (hv : State.Canon sv) => ?_) ?_) | (intro sv) | (lift_lets))

theorem State.mr4_canon (s : State) (m mult : Nat) (h_s : s.Canon) :
    (State.mr4 s m mult).Canon := by
  unfold State.mr4
  with_reducible repeat'
    (first | assumption | apply State.put_canon | apply State.raiseInst_canon | refine ite_canon ?_ ?_)

theorem State.retrainStep_canon (s : State) (m : Nat) (ok : Bool) (h_s : s.Canon) :
    (State.retrainStep s m ok).Canon := by
  unfold State.retrainStep
  with_reducible repeat'
    (first | assumption | apply State.fresh_canon | apply State.setFlag_canon
           | refine State.when_canon _ _ _ ?_ (fun s h => ?_) | apply State.raiseInst_canon | refine ite_canon ?_ ?_
           | (apply mk_canon; first | assumption | apply State.fresh_canon | apply State.setFlag_canon | refine State.when_canon _ _ _ ?_ (fun s h => ?_) | apply State.raiseInst_canon)
           | (show State.Canon sv; unfold sv) | (show State.Canon sv.2; unfold sv) | (show State.Canon sv.st; unfold sv)
           | (show State.Canon sv.2.2; unfold sv) | (intro sv; refine (fun (hv : State.Canon sv) => ?_) ?_)
           | (intro sv; refine (fun (hv : State.Canon sv.2) => ?_) ?_)
           | (intro sv; refine (fun (hv : State.Canon sv.st) => ?_) ?_)
           | (intro sv; refine (fun (hv : State.Canon sv.2.2) => ?_) ?_) | (intro sv) | (lift_lets) | (split)
           | (dsimp -zeta only))

theorem State.trainingEnd_canon (s : State) (m : Nat) (h_s : s.Canon) :
    (State.trainingEnd s m).Canon := by
  unfold State.trainingEnd
  with_reducible repeat'
    (first | assumption | apply State.clearFlag_canon | refine ite_canon ?_ ?_ | (apply mk_canon; assumption)
           | (show State.Canon sv; unfold sv) | (intro sv; refine (fun (hv : State.Canon sv) => ?_) ?_) | (intro sv)
           | (lift_lets))

theorem State.freqReq_canon (s : State) (sp : Nat) (h_s : s.Canon) :
    (State.freqReq s sp).Canon := by
  unfold State.freqReq
  with_reducible repeat'
    (first | assumption | apply State.put_canon | apply State.setFlag_canon | refine ite_canon ?_ ?_
           | (apply mk_canon; assumption) | (show State.Canon sv; unfold sv)
           | (intro sv; refine (fun (hv : State.Canon sv) => ?_) ?_) | (intro sv) | (lift_lets))

theorem State.freqApply_canon (s : State) (h_s : s.Canon) :
    (State.freqApply s).Canon := by
  unfold State.freqApply
  with_reducible repeat'
    (first | assumption | apply State.put_canon | apply State.clearFlag_canon | apply State.raise_canon
           | refine ite_canon ?_ ?_
           | (apply mk_canon; first | assumption | apply State.put_canon | apply State.clearFlag_canon | apply State.raise_canon)
           | (show State.Canon sv; unfold sv) | (show State.Canon sv.2; unfold sv) | (show State.Canon sv.st; unfold sv)
           | (show State.Canon sv.2.2; unfold sv) | (intro sv; refine (fun (hv : State.Canon sv) => ?_) ?_)
           | (intro sv; refine (fun (hv : State.Canon sv.2) => ?_) ?_)
           | (intro sv; refine (fun (hv : State.Canon sv.st) => ?_) ?_)
           | (intro sv; refine (fun (hv : State.Canon sv.2.2) => ?_) ?_) | (intro sv) | (lift_lets) | (split)
           | (dsimp -zeta only))

theorem State.scrubEnd_canon (s : State) (h_s : s.Canon) :
    (State.scrubEnd s).Canon := by
  unfold State.scrubEnd
  with_reducible repeat'
    (first | assumption | apply State.raise_canon | apply State.devReadWord_canon | refine foldl_canon (fun s a h => ?_) ?_
           | refine ite_canon ?_ ?_ | (show State.Canon sv; unfold sv)
           | (intro sv; refine (fun (hv : State.Canon sv) => ?_) ?_) | (intro sv) | (lift_lets))

theorem State.ceRate_canon (s : State) (m : Nat) (h_s : s.Canon) :
    (State.ceRate s m).Canon := by
  unfold State.ceRate
  with_reducible repeat'
    (first | assumption | apply State.setFlag_canon | apply State.raiseInst_canon | refine ite_canon ?_ ?_
           | (apply mk_canon; assumption) | (show State.Canon sv; unfold sv)
           | (intro sv; refine (fun (hv : State.Canon sv) => ?_) ?_) | (intro sv) | (lift_lets))

theorem State.retireStart_canon (s : State) (m : Nat) (h_s : s.Canon) :
    (State.retireStart s m).Canon := by
  unfold State.retireStart
  with_reducible repeat'
    (first | assumption | apply State.put_canon | apply State.setFlag_canon | apply State.raiseInst_canon
           | refine ite_canon ?_ ?_
           | (apply mk_canon; first | assumption | apply State.put_canon | apply State.setFlag_canon | apply State.raiseInst_canon)
           | (show State.Canon sv; unfold sv) | (show State.Canon sv.2; unfold sv) | (show State.Canon sv.st; unfold sv)
           | (show State.Canon sv.2.2; unfold sv) | (intro sv; refine (fun (hv : State.Canon sv) => ?_) ?_)
           | (intro sv; refine (fun (hv : State.Canon sv.2) => ?_) ?_)
           | (intro sv; refine (fun (hv : State.Canon sv.st) => ?_) ?_)
           | (intro sv; refine (fun (hv : State.Canon sv.2.2) => ?_) ?_) | (intro sv) | (lift_lets) | (split)
           | (dsimp -zeta only))

theorem State.memFollow_canon (s : State) (k : Nat) (p : Nat) (h_s : s.Canon) :
    (State.memFollow s k p).Canon := by
  unfold State.memFollow
  with_reducible repeat'
    (first | assumption | refine ite_canon ?_ ?_ | (apply mk_canon; assumption) | (show State.Canon sv; unfold sv)
           | (intro sv; refine (fun (hv : State.Canon sv) => ?_) ?_) | (intro sv) | (lift_lets))

theorem State.migrate_canon (s : State) (bad : List (Fin 8)) (h_s : s.Canon) :
    (State.migrate s bad).Canon := by
  unfold State.migrate
  dsimp only
  repeat' (first
    | (with_reducible assumption)
    | (with_reducible apply State.put_canon)
    | (with_reducible apply State.devReadWord_canon)
    | (with_reducible apply State.memFollow_canon)
    | (with_reducible refine foldl_canon (fun s a h => ?_) ?_)
    | (with_reducible refine ite_canon ?_ ?_)
    | (with_reducible apply mk_canon; first | (with_reducible assumption) | (with_reducible apply State.put_canon) | (with_reducible apply State.devReadWord_canon) | (with_reducible apply State.memFollow_canon) | (with_reducible refine foldl_canon (fun s a h => ?_) ?_) | (with_reducible refine ite_canon ?_ ?_))
    | (with_reducible show State.Canon sv; unfold sv)
    | (with_reducible show State.Canon sv.2; unfold sv)
    | (with_reducible show State.Canon sv.st; unfold sv)
    | (with_reducible show State.Canon sv.2.2; unfold sv)
    | (intro sv; refine (fun (hv : State.Canon sv) => ?_) ?_)
    | (intro sv; refine (fun (hv : State.Canon sv.2) => ?_) ?_)
    | (intro sv; refine (fun (hv : State.Canon sv.st) => ?_) ?_)
    | (intro sv; refine (fun (hv : State.Canon sv.2.2) => ?_) ?_)
    | (intro sv)
    | lift_lets
    | split
    | (dsimp -zeta only))

theorem State.retireDone_canon (s : State) (h_s : s.Canon) :
    (State.retireDone s).Canon := by
  unfold State.retireDone
  with_reducible repeat'
    (first | assumption | apply State.put_canon | apply State.setFlag_canon | apply State.clearFlag_canon
           | apply State.raiseInst_canon | apply State.domainOff_canon | refine ite_canon ?_ ?_
           | (show State.Canon sv; unfold sv) | (intro sv; refine (fun (hv : State.Canon sv) => ?_) ?_) | (intro sv)
           | (lift_lets))

theorem State.memErrClear_canon (s : State) (m : Nat) (h_s : s.Canon) :
    (State.memErrClear s m).Canon := by
  unfold State.memErrClear
  with_reducible repeat'
    (first | assumption | apply State.put_canon)

end Sys2Proof.Machine
end

