-- ==== Sys2Proof/Laws/Canon/Boot.lean ====
section
/-! SUPPORT. Every operation of Machine/Boot.lean keeps the canonical form of the tables and memories. -/

namespace Sys2Proof.Machine

theorem State.modeRequest_canon (s : State) (target : Nat) (h_s : s.Canon) :
    (State.modeRequest s target).Canon := by
  unfold State.modeRequest
  with_reducible repeat'
    (first | assumption | apply State.put_canon | apply State.setFlag_canon | apply State.requestMode_canon
           | (apply mk_canon; assumption) | (show State.Canon sv; unfold sv)
           | (intro sv; refine (fun (hv : State.Canon sv) => ?_) ?_) | (intro sv) | (lift_lets) | (split))

theorem State.standbyEntry_canon (s : State) (h_s : s.Canon) :
    (State.standbyEntry s).Canon := by
  unfold State.standbyEntry
  with_reducible repeat'
    (first | assumption | apply State.fireOff_canon | apply State.modeReqEnd_canon | apply State.enterMode_canon
           | refine ite_canon ?_ ?_ | (show State.Canon sv; unfold sv)
           | (intro sv; refine (fun (hv : State.Canon sv) => ?_) ?_) | (intro sv) | (lift_lets))

theorem State.bootConfig_canon (s : State) (a b : List Byte) (h_s : s.Canon) :
    (State.bootConfig s a b).Canon := by
  unfold State.bootConfig
  with_reducible repeat'
    (first | assumption | apply State.setFlag_canon | refine ite_canon ?_ ?_ | (apply mk_canon; assumption)
           | (show State.Canon sv; unfold sv) | (intro sv; refine (fun (hv : State.Canon sv) => ?_) ?_) | (intro sv)
           | (lift_lets))

theorem State.imagePass_canon (s : State) (slot : Nat) (i : ImageFound) (h_s : s.Canon) :
    (State.imagePass s slot i).Canon := by
  unfold State.imagePass
  with_reducible repeat'
    (first | assumption | apply State.put_canon | (apply mk_canon; assumption) | (show State.Canon sv; unfold sv)
           | (intro sv; refine (fun (hv : State.Canon sv) => ?_) ?_) | (intro sv) | (lift_lets))

theorem State.imageCheck_canon (s : State) (a b : ImageFound) (h_s : s.Canon) :
    (State.imageCheck s a b).Canon := by
  unfold State.imageCheck
  with_reducible repeat'
    (first | assumption | apply State.put_canon | apply State.setFlag_canon | apply State.imagePass_canon
           | refine ite_canon ?_ ?_ | (apply mk_canon; assumption) | (show State.Canon sv; unfold sv)
           | (intro sv; refine (fun (hv : State.Canon sv) => ?_) ?_) | (intro sv) | (lift_lets) | (split))

theorem State.devScan_canon (s : State) (d n : Nat) (h_s : s.Canon) :
    (State.devScan s d n).Canon := by
  unfold State.devScan
  with_reducible repeat'
    (first | assumption | apply State.devReadWord_canon | refine foldl_canon (fun s a h => ?_) ?_)

theorem State.bootRetry_canon (s : State) (readErr : Bool) (h_s : s.Canon) :
    (State.bootRetry s readErr).Canon := by
  unfold State.bootRetry
  with_reducible repeat'
    (first | assumption | apply State.put_canon | apply State.clearFlag_canon | apply State.imagePass_canon
           | apply State.devScan_canon | refine ite_canon ?_ ?_ | (show State.Canon sv; unfold sv)
           | (intro sv; refine (fun (hv : State.Canon sv) => ?_) ?_) | (intro sv) | (lift_lets))

theorem State.svnCommit_canon (s : State) (h_s : s.Canon) :
    (State.svnCommit s).Canon := by
  unfold State.svnCommit
  with_reducible repeat'
    (first | assumption | apply State.put_canon | refine ite_canon ?_ ?_ | (apply mk_canon; assumption) | (split))

theorem State.bootComplete_canon (s : State) (factoryEn : Bool) (h_s : s.Canon) :
    (State.bootComplete s factoryEn).Canon := by
  unfold State.bootComplete
  with_reducible repeat'
    (first | assumption | apply State.setFlag_canon | apply State.clearFlag_canon | apply State.enterMode_canon
           | refine ite_canon ?_ ?_
           | (apply mk_canon; first | assumption | apply State.setFlag_canon | apply State.clearFlag_canon | apply State.enterMode_canon)
           | (show State.Canon sv; unfold sv) | (show State.Canon sv.2; unfold sv) | (show State.Canon sv.st; unfold sv)
           | (show State.Canon sv.2.2; unfold sv) | (intro sv; refine (fun (hv : State.Canon sv) => ?_) ?_)
           | (intro sv; refine (fun (hv : State.Canon sv.2) => ?_) ?_)
           | (intro sv; refine (fun (hv : State.Canon sv.st) => ?_) ?_)
           | (intro sv; refine (fun (hv : State.Canon sv.2.2) => ?_) ?_) | (intro sv) | (lift_lets) | (split)
           | (dsimp -zeta only))

theorem State.blocksAgain_canon (s : State) (h_s : s.Canon) :
    (State.blocksAgain s).Canon := by
  unfold State.blocksAgain
  with_reducible repeat'
    (first | assumption | (apply mk_canon; assumption))

theorem State.startTestEnd_canon (s : State) (tiles : Nat) (hub snf : Bool) (rows : List (Nat × Nat)) (h_s : s.Canon) :
    (State.startTestEnd s tiles hub snf rows).Canon := by
  unfold State.startTestEnd
  repeat' (first
    | (with_reducible assumption)
    | (with_reducible apply State.put_canon)
    | (with_reducible apply State.setFlag_canon)
    | (with_reducible apply State.enterMode_canon)
    | (with_reducible apply State.autoMode_canon)
    | (with_reducible apply State.safetyFault_canon)
    | (with_reducible apply State.domainOff_canon)
    | (with_reducible apply State.repairRow_canon)
    | (with_reducible apply State.blocksAgain_canon)
    | (with_reducible refine foldl_canon (fun s a h => ?_) ?_)
    | (with_reducible refine ite_canon ?_ ?_)
    | (with_reducible apply mk_canon; first | (with_reducible assumption) | (with_reducible apply State.put_canon) | (with_reducible apply State.setFlag_canon) | (with_reducible apply State.enterMode_canon) | (with_reducible apply State.autoMode_canon) | (with_reducible apply State.safetyFault_canon) | (with_reducible apply State.domainOff_canon) | (with_reducible apply State.repairRow_canon) | (with_reducible apply State.blocksAgain_canon) | (with_reducible refine foldl_canon (fun s a h => ?_) ?_) | (with_reducible refine ite_canon ?_ ?_))
    | (with_reducible show State.Canon sv; unfold sv)
    | (with_reducible show State.Canon sv.2; unfold sv)
    | (with_reducible show State.Canon sv.st; unfold sv)
    | (with_reducible show State.Canon sv.2.2; unfold sv)
    | (intro sv; refine (fun (hv : State.Canon sv) => ?_) ?_)
    | (intro sv; refine (fun (hv : State.Canon sv.2) => ?_) ?_)
    | (intro sv; refine (fun (hv : State.Canon sv.st) => ?_) ?_)
    | (intro sv; refine (fun (hv : State.Canon sv.2.2) => ?_) ?_)
    | (intro sv)
    | lift_lets
    | split
    | (dsimp -zeta only))

end Sys2Proof.Machine
end

