-- ==== Sys2Proof/Laws/Canon/Echo.lean ====
section
/-! SUPPORT. Every operation of Machine/Echo.lean keeps the canonical form of the tables and memories. -/

namespace Sys2Proof.Machine

theorem State.safetySend_canon (s : State) (l : List Byte) (h_s : s.Canon) :
    (State.safetySend s l).Canon := by
  unfold State.safetySend
  with_reducible repeat'
    (first | assumption | apply State.emit_canon)

theorem State.summaryOut_canon (s : State) (r : ChanRec) (missing : Bool) (l : List EchoRes) (h_s : s.Canon) :
    (State.summaryOut s r missing l).Canon := by
  unfold State.summaryOut
  with_reducible repeat'
    (first | assumption | refine State.when_canon _ _ _ ?_ (fun s h => ?_) | apply State.safetySend_canon)

theorem State.pointOut_canon (s : State) (t : Nat) (recs : List (List Byte)) (h_s : s.Canon) :
    (State.pointOut s t recs).Canon := by
  unfold State.pointOut
  with_reducible repeat'
    (first | assumption | apply State.hubWrite_canon | refine ite_canon ?_ ?_ | (apply mk_canon; assumption))

theorem State.overlapOut_canon (s : State) (r : ChanRec) (near : Option Nat) (h_s : s.Canon) :
    (State.overlapOut s r near).Canon := by
  unfold State.overlapOut
  with_reducible repeat'
    (first | assumption | apply State.emit_canon | refine ite_canon ?_ ?_ | (apply mk_canon; assumption)
           | (show State.Canon sv; unfold sv) | (intro sv; refine (fun (hv : State.Canon sv) => ?_) ?_) | (intro sv)
           | (lift_lets))

theorem State.missingOut_canon (s : State) (r : ChanRec) (cause : Nat) (h_s : s.Canon) :
    (State.missingOut s r cause).Canon := by
  unfold State.missingOut
  with_reducible repeat'
    (first | assumption | apply State.summaryOut_canon | apply State.pointOut_canon | apply State.overlapOut_canon)

theorem State.emissionCheck_canon (s : State) (b : Nat) (h_s : s.Canon) :
    (State.emissionCheck s b).Canon := by
  unfold State.emissionCheck
  with_reducible repeat'
    (first | assumption | apply State.setFlag_canon | apply State.raise_canon | refine ite_canon ?_ ?_
           | (apply mk_canon; assumption))

theorem State.clutterSeen_canon (s : State) (on : Bool) (h_s : s.Canon) :
    (State.clutterSeen s on).Canon := by
  unfold State.clutterSeen
  with_reducible repeat'
    (first | assumption | apply State.raiseIf_canon | refine ite_canon ?_ ?_ | (apply mk_canon; assumption)
           | (show State.Canon sv; unfold sv) | (intro sv; refine (fun (hv : State.Canon sv) => ?_) ?_) | (intro sv)
           | (lift_lets))

theorem State.extractData_canon (s : State) (r : ChanRec) (h_s : s.Canon) :
    (State.extractData s r).Canon := by
  unfold State.extractData
  with_reducible repeat'
    (first | assumption | apply State.put_canon | apply State.setFlag_canon | refine State.when_canon _ _ _ ?_ (fun s h => ?_)
           | apply State.raise_canon | apply State.summaryOut_canon | apply State.pointOut_canon | apply State.overlapOut_canon
           | apply State.emissionCheck_canon | apply State.clutterSeen_canon | refine foldl_canon (fun s a h => ?_) ?_
           | refine ite_canon ?_ ?_
           | (apply mk_canon; first | assumption | apply State.put_canon | apply State.setFlag_canon | refine State.when_canon _ _ _ ?_ (fun s h => ?_) | apply State.raise_canon | apply State.summaryOut_canon | apply State.pointOut_canon | apply State.overlapOut_canon | apply State.emissionCheck_canon | apply State.clutterSeen_canon)
           | (show State.Canon sv; unfold sv) | (show State.Canon sv.2; unfold sv) | (show State.Canon sv.st; unfold sv)
           | (show State.Canon sv.2.2; unfold sv) | (intro sv; refine (fun (hv : State.Canon sv) => ?_) ?_)
           | (intro sv; refine (fun (hv : State.Canon sv.2) => ?_) ?_)
           | (intro sv; refine (fun (hv : State.Canon sv.st) => ?_) ?_)
           | (intro sv; refine (fun (hv : State.Canon sv.2.2) => ?_) ?_) | (intro sv) | (lift_lets) | (split)
           | (dsimp -zeta only))

theorem State.extractRec_canon (s : State) (r : ChanRec) (h_s : s.Canon) :
    (State.extractRec s r).Canon := by
  unfold State.extractRec
  with_reducible repeat'
    (first | assumption | apply State.missingOut_canon | apply State.extractData_canon | refine ite_canon ?_ ?_)

theorem State.shedRec_canon (s : State) (r : ChanRec) (h_s : s.Canon) :
    (State.shedRec s r).Canon := by
  unfold State.shedRec
  with_reducible repeat'
    (first | assumption | apply State.bump_canon | apply State.setFlag_canon | apply State.raiseIf_canon
           | apply State.missingOut_canon | (apply mk_canon; assumption) | (show State.Canon sv; unfold sv)
           | (intro sv; refine (fun (hv : State.Canon sv) => ?_) ?_) | (intro sv) | (lift_lets))

theorem State.echoLoadShow_canon (s : State) (h_s : s.Canon) :
    (State.echoLoadShow s).Canon := by
  unfold State.echoLoadShow
  with_reducible repeat'
    (first | assumption | apply State.put_canon | (apply mk_canon; assumption) | (show State.Canon sv; unfold sv)
           | (intro sv; refine (fun (hv : State.Canon sv) => ?_) ?_) | (intro sv) | (lift_lets))

theorem State.echoLoad_canon (s : State) (h_s : s.Canon) :
    (State.echoLoad s).Canon := by
  unfold State.echoLoad
  with_reducible repeat'
    (first | assumption | apply State.put_canon | apply State.echoLoadShow_canon | (apply mk_canon; assumption)
           | (show State.Canon sv; unfold sv) | (intro sv; refine (fun (hv : State.Canon sv) => ?_) ?_) | (intro sv)
           | (lift_lets))

theorem State.echoPeakClr_canon (s : State) (h_s : s.Canon) :
    (State.echoPeakClr s).Canon := by
  unfold State.echoPeakClr
  with_reducible repeat'
    (first | assumption | apply State.put_canon | apply State.echoLoadShow_canon | (show State.Canon sv; unfold sv)
           | (intro sv; refine (fun (hv : State.Canon sv) => ?_) ?_) | (intro sv) | (lift_lets))

theorem State.closeCells_canon (s : State) (h_s : s.Canon) :
    (State.closeCells s).Canon := by
  unfold State.closeCells
  with_reducible repeat'
    (first | assumption | refine State.when_canon _ _ _ ?_ (fun s h => ?_) | apply State.safetySend_canon
           | refine foldl_canon (fun s a h => ?_) ?_ | (apply mk_canon; assumption) | (show State.Canon sv; unfold sv)
           | (intro sv; refine (fun (hv : State.Canon sv) => ?_) ?_) | (intro sv) | (lift_lets))

theorem State.echoExtract_canon (s : State) (e : Ecc) (h_s : s.Canon) :
    (State.echoExtract s e).Canon := by
  unfold State.echoExtract
  with_reducible repeat'
    (first | assumption | apply State.clearFlag_canon | apply State.storeFree_canon | apply State.storeRead_canon
           | apply State.extractRec_canon | apply State.shedRec_canon | apply State.echoLoad_canon
           | apply State.closeCells_canon | refine ite_canon ?_ ?_ | (apply mk_canon; assumption)
           | (show State.Canon sv; unfold sv) | (intro sv; refine (fun (hv : State.Canon sv) => ?_) ?_) | (intro sv)
           | (lift_lets) | (split))

theorem State.pointWrite_canon (s : State) (held : Bool) (h_s : s.Canon) :
    (State.pointWrite s held).Canon := by
  unfold State.pointWrite
  dsimp only
  repeat' (first
    | (with_reducible assumption)
    | (with_reducible apply State.put_canon)
    | (with_reducible apply State.hubScan_canon)
    | (with_reducible refine State.withTag_canon _ _ _ ?_ (fun s h => ?_))
    | (with_reducible apply State.prPacket_canon)
    | (with_reducible refine ite_canon ?_ ?_)
    | (with_reducible apply mk_canon; first | (with_reducible assumption) | (with_reducible apply State.put_canon) | (with_reducible apply State.hubScan_canon) | (with_reducible refine State.withTag_canon _ _ _ ?_ (fun s h => ?_)) | (with_reducible apply State.prPacket_canon) | (with_reducible refine ite_canon ?_ ?_))
    | (with_reducible show State.Canon sv; unfold sv)
    | (with_reducible show State.Canon sv.2; unfold sv)
    | (with_reducible show State.Canon sv.st; unfold sv)
    | (with_reducible show State.Canon sv.2.2; unfold sv)
    | (intro sv; refine (fun (hv : State.Canon sv) => ?_) ?_)
    | (intro sv; refine (fun (hv : State.Canon sv.2) => ?_) ?_)
    | (intro sv; refine (fun (hv : State.Canon sv.st) => ?_) ?_)
    | (intro sv; refine (fun (hv : State.Canon sv.2.2) => ?_) ?_)
    | (intro sv)
    | lift_lets
    | split
    | (dsimp -zeta only))

theorem State.autoRekey_canon (s : State) (h_s : s.Canon) :
    (State.autoRekey s).Canon := by
  unfold State.autoRekey
  with_reducible repeat'
    (first | assumption | apply State.put_canon | apply State.setFlag_canon | apply State.raise_canon | apply State.rekey_canon
           | refine ite_canon ?_ ?_
           | (apply mk_canon; first | assumption | apply State.put_canon | apply State.setFlag_canon | apply State.raise_canon | apply State.rekey_canon)
           | (show State.Canon sv; unfold sv) | (show State.Canon sv.2; unfold sv) | (show State.Canon sv.st; unfold sv)
           | (show State.Canon sv.2.2; unfold sv) | (intro sv; refine (fun (hv : State.Canon sv) => ?_) ?_)
           | (intro sv; refine (fun (hv : State.Canon sv.2) => ?_) ?_)
           | (intro sv; refine (fun (hv : State.Canon sv.st) => ?_) ?_)
           | (intro sv; refine (fun (hv : State.Canon sv.2.2) => ?_) ?_) | (intro sv) | (lift_lets) | (split)
           | (dsimp -zeta only))

theorem State.ifFrame_canon (s : State) (h_s : s.Canon) :
    (State.ifFrame s).Canon := by
  unfold State.ifFrame
  with_reducible repeat'
    (first | assumption | apply State.put_canon | apply State.setFlag_canon | apply State.clearFlag_canon
           | apply State.raise_canon | apply State.autoRekey_canon | refine ite_canon ?_ ?_ | (apply mk_canon; assumption)
           | (show State.Canon sv; unfold sv) | (intro sv; refine (fun (hv : State.Canon sv) => ?_) ?_) | (intro sv)
           | (lift_lets))

end Sys2Proof.Machine
end

