-- ==== Sys2Proof/Laws/Canon/Service.lean ====
section
/-! SUPPORT. Every operation of Machine/Service.lean keeps the canonical form of the tables and memories. -/

namespace Sys2Proof.Machine

theorem State.serviceDenied_canon (s : State) (h_s : s.Canon) :
    (State.serviceDenied s).Canon := by
  unfold State.serviceDenied
  with_reducible repeat'
    (first | assumption | apply State.put_canon | apply State.setFlag_canon)

theorem State.hoBegin_canon (s : State) (h_s : s.Canon) :
    (State.hoBegin s).Canon := by
  unfold State.hoBegin
  with_reducible repeat'
    (first | assumption | apply State.put_canon | apply State.setFlag_canon | apply State.clearFlag_canon
           | apply State.enterMode_canon | apply State.domainOn_canon | apply State.serviceDenied_canon
           | refine ite_canon ?_ ?_
           | (apply mk_canon; first | assumption | apply State.put_canon | apply State.setFlag_canon | apply State.clearFlag_canon | apply State.enterMode_canon | apply State.domainOn_canon | apply State.serviceDenied_canon)
           | (show State.Canon sv; unfold sv) | (show State.Canon sv.2; unfold sv) | (show State.Canon sv.st; unfold sv)
           | (show State.Canon sv.2.2; unfold sv) | (intro sv; refine (fun (hv : State.Canon sv) => ?_) ?_)
           | (intro sv; refine (fun (hv : State.Canon sv.2) => ?_) ?_)
           | (intro sv; refine (fun (hv : State.Canon sv.st) => ?_) ?_)
           | (intro sv; refine (fun (hv : State.Canon sv.2.2) => ?_) ?_) | (intro sv) | (lift_lets) | (split)
           | (dsimp -zeta only))

theorem State.hoStart_canon (s : State) (h_s : s.Canon) :
    (State.hoStart s).Canon := by
  unfold State.hoStart
  with_reducible repeat'
    (first | assumption | apply State.setFlag_canon | apply State.serviceDenied_canon | apply State.hoBegin_canon
           | refine ite_canon ?_ ?_
           | (apply mk_canon; first | assumption | apply State.setFlag_canon | apply State.serviceDenied_canon | apply State.hoBegin_canon)
           | (show State.Canon sv; unfold sv) | (show State.Canon sv.2; unfold sv) | (show State.Canon sv.st; unfold sv)
           | (show State.Canon sv.2.2; unfold sv) | (intro sv; refine (fun (hv : State.Canon sv) => ?_) ?_)
           | (intro sv; refine (fun (hv : State.Canon sv.2) => ?_) ?_)
           | (intro sv; refine (fun (hv : State.Canon sv.st) => ?_) ?_)
           | (intro sv; refine (fun (hv : State.Canon sv.2.2) => ?_) ?_) | (intro sv) | (lift_lets) | (split)
           | (dsimp -zeta only))

theorem State.hoSwitch_canon (s : State) (h_s : s.Canon) :
    (State.hoSwitch s).Canon := by
  unfold State.hoSwitch
  with_reducible repeat'
    (first | assumption | refine ite_canon ?_ ?_ | (apply mk_canon; assumption))

theorem State.hoReady_canon (s : State) (h_s : s.Canon) :
    (State.hoReady s).Canon := by
  unfold State.hoReady
  with_reducible repeat'
    (first | assumption | apply State.hoSwitch_canon | refine ite_canon ?_ ?_ | (apply mk_canon; assumption)
           | (show State.Canon sv; unfold sv) | (intro sv; refine (fun (hv : State.Canon sv) => ?_) ?_) | (intro sv)
           | (lift_lets))

theorem State.hoEnd_canon (s : State) (h_s : s.Canon) :
    (State.hoEnd s).Canon := by
  unfold State.hoEnd
  with_reducible repeat'
    (first | assumption | apply State.enterMode_canon | apply State.domainOff_canon | refine ite_canon ?_ ?_
           | (show State.Canon sv; unfold sv) | (intro sv; refine (fun (hv : State.Canon sv) => ?_) ?_) | (intro sv)
           | (lift_lets))

theorem State.hoAbort_canon (s : State) (timeout : Bool) (e : Nat) (h_s : s.Canon) :
    (State.hoAbort s timeout e).Canon := by
  unfold State.hoAbort
  with_reducible repeat'
    (first | assumption | apply State.put_canon | apply State.enterMode_canon | apply State.domainOff_canon
           | refine ite_canon ?_ ?_ | (show State.Canon sv; unfold sv)
           | (intro sv; refine (fun (hv : State.Canon sv) => ?_) ?_) | (intro sv) | (lift_lets))

theorem State.clusterDog_canon (s : State) (h_s : s.Canon) :
    (State.clusterDog s).Canon := by
  unfold State.clusterDog
  with_reducible repeat'
    (first | assumption | apply State.hoSwitch_canon | (apply mk_canon; assumption))

theorem State.sliceStart_canon (s : State) (t action : Nat) (h_s : s.Canon) :
    (State.sliceStart s t action).Canon := by
  unfold State.sliceStart
  with_reducible repeat'
    (first | assumption | apply State.put_canon | apply State.setFlag_canon | apply State.enterMode_canon
           | apply State.serviceDenied_canon | refine ite_canon ?_ ?_ | (apply mk_canon; assumption)
           | (show State.Canon sv; unfold sv) | (intro sv; refine (fun (hv : State.Canon sv) => ?_) ?_) | (intro sv)
           | (lift_lets))

theorem State.sliceIsolate_canon (s : State) (h_s : s.Canon) :
    (State.sliceIsolate s).Canon := by
  unfold State.sliceIsolate
  repeat' (first
    | (with_reducible assumption)
    | (with_reducible apply State.setFlag_canon)
    | (with_reducible apply State.killCells_canon)
    | (with_reducible apply State.domainOff_canon)
    | (with_reducible apply State.repairRow_canon)
    | (with_reducible refine foldl_canon (fun s a h => ?_) ?_)
    | (with_reducible refine ite_canon ?_ ?_)
    | (with_reducible apply mk_canon; first | (with_reducible assumption) | (with_reducible apply State.setFlag_canon) | (with_reducible apply State.killCells_canon) | (with_reducible apply State.domainOff_canon) | (with_reducible apply State.repairRow_canon) | (with_reducible refine foldl_canon (fun s a h => ?_) ?_) | (with_reducible refine ite_canon ?_ ?_))
    | (with_reducible show State.Canon sv; unfold sv)
    | (with_reducible show State.Canon sv.2; unfold sv)
    | (with_reducible show State.Canon sv.st; unfold sv)
    | (with_reducible show State.Canon sv.2.2; unfold sv)
    | (intro sv; refine (fun (hv : State.Canon sv) => ?_) ?_)
    | (intro sv; refine (fun (hv : State.Canon sv.2) => ?_) ?_)
    | (intro sv; refine (fun (hv : State.Canon sv.st) => ?_) ?_)
    | (intro sv; refine (fun (hv : State.Canon sv.2.2) => ?_) ?_)
    | (intro sv)
    | lift_lets
    | split
    | (dsimp -zeta only))

theorem State.sliceAction_canon (s : State) (o : SliceOutcome) (tdcs : Nat) (h_s : s.Canon) :
    (State.sliceAction s o tdcs).Canon := by
  unfold State.sliceAction
  with_reducible repeat'
    (first | assumption | apply State.put_canon | apply State.setFlag_canon | apply State.enterMode_canon
           | refine ite_canon ?_ ?_ | (apply mk_canon; assumption) | (show State.Canon sv; unfold sv)
           | (intro sv; refine (fun (hv : State.Canon sv) => ?_) ?_) | (intro sv) | (lift_lets) | (split))

theorem State.writeBack_canon (s : State) (a : Nat) (v : BitVec 64) (h_s : s.Canon) :
    (State.writeBack s a v).Canon := by
  unfold State.writeBack
  with_reducible repeat'
    (first | assumption | apply State.put_canon | refine foldl_canon (fun s a h => ?_) ?_ | (apply mk_canon; assumption)
           | (split))

theorem State.sliceRejoin_canon (s : State) (h_s : s.Canon) :
    (State.sliceRejoin s).Canon := by
  unfold State.sliceRejoin
  with_reducible repeat'
    (first | assumption | apply State.setReg_canon | apply State.setFlag_canon | apply State.enterMode_canon
           | apply State.domainOn_canon | apply State.sparesCount_canon | apply State.writeBack_canon
           | refine foldl_canon (fun s a h => ?_) ?_ | refine ite_canon ?_ ?_ | (apply mk_canon; assumption)
           | (show State.Canon sv; unfold sv) | (intro sv; refine (fun (hv : State.Canon sv) => ?_) ?_) | (intro sv)
           | (lift_lets) | (split))

end Sys2Proof.Machine
end

