-- ==== Sys2Proof/Laws/Canon/Ind.lean ====
section
/-! SUPPORT. Every operation of Machine/Ind.lean keeps the canonical form of the tables and memories. -/

namespace Sys2Proof.Machine

theorem State.indDiagnose_canon (s : State) (h_s : s.Canon) :
    (State.indDiagnose s).Canon := by
  unfold State.indDiagnose
  with_reducible repeat'
    (first | assumption | apply State.put_canon | refine foldl_canon (fun s a h => ?_) ?_ | refine ite_canon ?_ ?_)

theorem State.indApply_canon (s : State) (atTime : Bool) (h_s : s.Canon) :
    (State.indApply s atTime).Canon := by
  unfold State.indApply
  with_reducible repeat'
    (first | assumption | apply State.put_canon | apply State.setFlag_canon | refine ite_canon ?_ ?_
           | (apply mk_canon; assumption) | (show State.Canon sv; unfold sv)
           | (intro sv; refine (fun (hv : State.Canon sv) => ?_) ?_) | (intro sv) | (lift_lets))

theorem State.indTake_canon (s : State) (n w : Nat) (h_s : s.Canon) :
    (State.indTake s n w).Canon := by
  unfold State.indTake
  with_reducible repeat'
    (first | assumption | apply State.claim_canon | apply State.unclaim_canon | refine ite_canon ?_ ?_
           | (apply mk_canon; assumption) | (show State.Canon sv; unfold sv)
           | (intro sv; refine (fun (hv : State.Canon sv) => ?_) ?_) | (intro sv) | (lift_lets))

theorem State.indTakeEffect_canon (s : State) (h_s : s.Canon) :
    (State.indTakeEffect s).Canon := by
  unfold State.indTakeEffect
  with_reducible repeat'
    (first | assumption | apply State.clearFlag_canon | apply State.indDiagnose_canon | apply State.indTake_canon
           | refine foldl_canon (fun s a h => ?_) ?_ | refine ite_canon ?_ ?_ | (apply mk_canon; assumption)
           | (show State.Canon sv; unfold sv) | (intro sv; refine (fun (hv : State.Canon sv) => ?_) ?_) | (intro sv)
           | (lift_lets) | (split))

theorem State.lampDiag_canon (s : State) (n : Nat) (short : Bool) (h_s : s.Canon) :
    (State.lampDiag s n short).Canon := by
  unfold State.lampDiag
  with_reducible repeat'
    (first | assumption | apply State.put_canon | refine ite_canon ?_ ?_ | (show State.Canon sv; unfold sv)
           | (intro sv; refine (fun (hv : State.Canon sv) => ?_) ?_) | (intro sv) | (lift_lets))

theorem State.indClear_canon (s : State) (m : Nat) (h_s : s.Canon) :
    (State.indClear s m).Canon := by
  unfold State.indClear
  with_reducible repeat'
    (first | assumption | apply State.put_canon | refine foldl_canon (fun s a h => ?_) ?_ | refine ite_canon ?_ ?_
           | (show State.Canon sv; unfold sv) | (intro sv; refine (fun (hv : State.Canon sv) => ?_) ?_) | (intro sv)
           | (lift_lets))

end Sys2Proof.Machine
end

