-- ==== Sys2Proof/Laws/Canon/Time.lean ====
section
/-! SUPPORT. Every operation of Machine/Time.lean keeps the canonical form of the tables and memories. -/

namespace Sys2Proof.Machine

theorem State.tick_canon (s' : State) (h_s' : s'.Canon) :
    (State.tick s').Canon := by
  unfold State.tick
  with_reducible repeat'
    (first | assumption | apply State.put_canon | apply State.incr_canon | apply State.marksAge_canon
           | apply State.startsDue_canon | apply State.indDiagnose_canon | refine ite_canon ?_ ?_
           | (show State.Canon sv; unfold sv) | (intro sv; refine (fun (hv : State.Canon sv) => ?_) ?_) | (intro sv)
           | (lift_lets))

theorem State.timeWrap_canon (s : State) (h_s : s.Canon) :
    (State.timeWrap s).Canon := by
  unfold State.timeWrap
  with_reducible repeat'
    (first | assumption | apply State.put_canon | apply State.incr_canon | apply State.marksAge_canon | refine ite_canon ?_ ?_)

theorem State.timeStep_canon (s : State) (d : Int) (h_s : s.Canon) :
    (State.timeStep s d).Canon := by
  unfold State.timeStep
  with_reducible repeat'
    (first | assumption | apply State.put_canon | apply State.raise_canon | apply State.marksStep_canon
           | (show State.Canon sv; unfold sv) | (intro sv; refine (fun (hv : State.Canon sv) => ?_) ?_) | (intro sv)
           | (lift_lets))

theorem State.timeStepWrite_canon (s : State) (d : Int) (h_s : s.Canon) :
    (State.timeStepWrite s d).Canon := by
  unfold State.timeStepWrite
  with_reducible repeat'
    (first | assumption | apply State.raise_canon | apply State.timeStep_canon | refine ite_canon ?_ ?_)

theorem State.srcLock_canon (s : State) (off : Int) (h_s : s.Canon) :
    (State.srcLock s off).Canon := by
  unfold State.srcLock
  with_reducible repeat'
    (first | assumption | apply State.setFlag_canon | apply State.clearFlag_canon | apply State.raise_canon
           | refine ite_canon ?_ ?_ | (apply mk_canon; assumption) | (show State.Canon sv; unfold sv)
           | (intro sv; refine (fun (hv : State.Canon sv) => ?_) ?_) | (intro sv) | (lift_lets))

theorem State.servoTake_canon (s : State) (off : Int) (h_s : s.Canon) :
    (State.servoTake s off).Canon := by
  unfold State.servoTake
  with_reducible repeat'
    (first | assumption | apply State.put_canon | apply State.clearFlag_canon | apply State.timeStep_canon
           | apply State.srcLock_canon | apply State.holdover_canon | refine ite_canon ?_ ?_
           | (apply mk_canon; first | assumption | apply State.put_canon | apply State.clearFlag_canon | apply State.timeStep_canon | apply State.srcLock_canon | apply State.holdover_canon)
           | (show State.Canon sv; unfold sv) | (show State.Canon sv.2; unfold sv) | (show State.Canon sv.st; unfold sv)
           | (show State.Canon sv.2.2; unfold sv) | (intro sv; refine (fun (hv : State.Canon sv) => ?_) ?_)
           | (intro sv; refine (fun (hv : State.Canon sv.2) => ?_) ?_)
           | (intro sv; refine (fun (hv : State.Canon sv.st) => ?_) ?_)
           | (intro sv; refine (fun (hv : State.Canon sv.2.2) => ?_) ?_) | (intro sv) | (lift_lets) | (split)
           | (dsimp -zeta only))

theorem State.wrapAlign_canon (s : State) (off : Int) (wrap : Nat) (h_s : s.Canon) :
    (State.wrapAlign s off wrap).Canon := by
  unfold State.wrapAlign
  with_reducible repeat'
    (first | assumption | apply State.put_canon)

theorem State.servoOffset_canon (s : State) (src : Nat) (off : Int) (wrap : Nat) (h_s : s.Canon) :
    (State.servoOffset s src off wrap).Canon := by
  unfold State.servoOffset
  with_reducible repeat'
    (first | assumption | apply State.statsPtp_canon | apply State.servoTake_canon | apply State.wrapAlign_canon
           | refine ite_canon ?_ ?_ | (show State.Canon sv; unfold sv)
           | (intro sv; refine (fun (hv : State.Canon sv) => ?_) ?_) | (intro sv) | (lift_lets))

theorem State.holdover_canon (s : State) (h_s : s.Canon) :
    (State.holdover s).Canon := by
  unfold State.holdover
  with_reducible repeat'
    (first | assumption | apply State.setFlag_canon | apply State.clearFlag_canon | apply State.raise_canon
           | refine ite_canon ?_ ?_ | (apply mk_canon; assumption) | (show State.Canon sv; unfold sv)
           | (intro sv; refine (fun (hv : State.Canon sv) => ?_) ?_) | (intro sv) | (lift_lets))

theorem State.trimUpdate_canon (s : State) (h_s : s.Canon) :
    (State.trimUpdate s).Canon := by
  unfold State.trimUpdate
  with_reducible repeat'
    (first | assumption | apply State.put_canon | apply State.fresh_canon | apply State.holdover_canon | refine ite_canon ?_ ?_
           | (show State.Canon sv; unfold sv) | (intro sv; refine (fun (hv : State.Canon sv) => ?_) ?_) | (intro sv)
           | (lift_lets))

theorem State.warmTurn_canon (s : State) (h_s : s.Canon) :
    (State.warmTurn s).Canon := by
  unfold State.warmTurn
  with_reducible repeat'
    (first | assumption | (apply mk_canon; assumption))

theorem State.warmReached_canon (s : State) (held : Nat) (h_s : s.Canon) :
    (State.warmReached s held).Canon := by
  unfold State.warmReached
  with_reducible repeat'
    (first | assumption | apply State.setFlag_canon | apply State.raise_canon | apply State.warmTurn_canon
           | refine ite_canon ?_ ?_)

theorem State.warmEnd_canon (s : State) (h_s : s.Canon) :
    (State.warmEnd s).Canon := by
  unfold State.warmEnd
  with_reducible repeat'
    (first | assumption | apply State.setFlag_canon | apply State.clearFlag_canon | apply State.raise_canon
           | apply State.warmTurn_canon | refine ite_canon ?_ ?_)

theorem State.ocxoChange_canon (s : State) (level : Bool) (h_s : s.Canon) :
    (State.ocxoChange s level).Canon := by
  unfold State.ocxoChange
  with_reducible repeat'
    (first | assumption | apply State.put_canon | apply State.warmEnd_canon | refine ite_canon ?_ ?_
           | (show State.Canon sv; unfold sv) | (intro sv; refine (fun (hv : State.Canon sv) => ?_) ?_) | (intro sv)
           | (lift_lets))

theorem State.rpllLock_canon (s : State) (h_s : s.Canon) :
    (State.rpllLock s).Canon := by
  unfold State.rpllLock
  with_reducible repeat'
    (first | assumption | apply State.setFlag_canon | (apply mk_canon; assumption))

theorem State.rpllLoss_canon (s : State) (h_s : s.Canon) :
    (State.rpllLoss s).Canon := by
  unfold State.rpllLoss
  with_reducible repeat'
    (first | assumption | apply State.setFlag_canon | apply State.clearFlag_canon | apply State.raise_canon
           | apply State.fireHalt_canon | apply State.safetyFault_canon | apply State.warmEnd_canon | refine ite_canon ?_ ?_
           | (show State.Canon sv; unfold sv) | (intro sv; refine (fun (hv : State.Canon sv) => ?_) ?_) | (intro sv)
           | (lift_lets))

theorem State.noteEdge_canon (s : State) (n stamp : Nat) (h_s : s.Canon) :
    (State.noteEdge s n stamp).Canon := by
  unfold State.noteEdge
  with_reducible repeat'
    (first | assumption | (apply mk_canon; assumption))

theorem State.ppsEdge_canon (s : State) (coarse code : Nat) (h_s : s.Canon) :
    (State.ppsEdge s coarse code).Canon := by
  unfold State.ppsEdge
  with_reducible repeat'
    (first | assumption | apply State.put_canon | apply State.servoOffset_canon | apply State.noteEdge_canon
           | refine ite_canon ?_ ?_ | (show State.Canon sv; unfold sv)
           | (intro sv; refine (fun (hv : State.Canon sv) => ?_) ?_) | (intro sv) | (lift_lets))

theorem State.ppsMissing_canon (s : State) (h_s : s.Canon) :
    (State.ppsMissing s).Canon := by
  unfold State.ppsMissing
  with_reducible repeat'
    (first | assumption | apply State.setFlag_canon | apply State.raise_canon)

theorem State.setFifo_canon (s : State) (n : Nat) (l : List Nat) (h_s : s.Canon) :
    (State.setFifo s n l).Canon := by
  unfold State.setFifo
  with_reducible repeat'
    (first | assumption | apply State.put_canon | (apply mk_canon; assumption))

theorem State.fifoPush_canon (s : State) (n v : Nat) (h_s : s.Canon) :
    (State.fifoPush s n v).Canon := by
  unfold State.fifoPush
  with_reducible repeat'
    (first | assumption | apply State.bump_canon | apply State.setFlag_canon | apply State.raiseIf_canon
           | apply State.setFifo_canon | refine ite_canon ?_ ?_ | (apply mk_canon; assumption)
           | (show State.Canon sv; unfold sv) | (intro sv; refine (fun (hv : State.Canon sv) => ?_) ?_) | (intro sv)
           | (lift_lets))

theorem State.timeinEdge_canon (s : State) (n : Nat) (rising : Bool) (coarse code : Nat) (h_s : s.Canon) :
    (State.timeinEdge s n rising coarse code).Canon := by
  unfold State.timeinEdge
  with_reducible repeat'
    (first | assumption | apply State.bump_canon | refine State.when_canon _ _ _ ?_ (fun s h => ?_)
           | apply State.statsEdge_canon | apply State.noteEdge_canon | apply State.fifoPush_canon | refine ite_canon ?_ ?_
           | (show State.Canon sv; unfold sv) | (intro sv; refine (fun (hv : State.Canon sv) => ?_) ?_) | (intro sv)
           | (lift_lets))

theorem State.fifoPop_canon (s : State) (n : Nat) (h_s : s.Canon) :
    (State.fifoPop s n).2.Canon := by
  unfold State.fifoPop
  with_reducible repeat'
    (first | assumption | apply State.setFifo_canon | (apply mk_canon; assumption) | (split))

end Sys2Proof.Machine
end

