-- ==== Sys2Proof/Laws/Canon/Cal.lean ====
section
/-! SUPPORT. Every operation of Machine/Cal.lean keeps the canonical form of the tables and memories. -/

namespace Sys2Proof.Machine

theorem State.recMissing_canon (s : State) (k : Nat × Nat) (h_s : s.Canon) :
    (State.recMissing s k).Canon := by
  unfold State.recMissing
  with_reducible repeat'
    (first | assumption | apply State.incr_canon | apply State.raise_canon)

theorem State.cdtMissing_canon (s : State) (ix : Nat) (h_s : s.Canon) :
    (State.cdtMissing s ix).Canon := by
  unfold State.cdtMissing
  with_reducible repeat'
    (first | assumption | apply State.incr_canon | apply State.setFlag_canon | apply State.raise_canon
           | apply State.tdcFault_canon | (show State.Canon sv; unfold sv)
           | (intro sv; refine (fun (hv : State.Canon sv) => ?_) ?_) | (intro sv) | (lift_lets))

theorem State.factoryMissing_canon (s : State) (k : Nat × Nat) (h_s : s.Canon) :
    (State.factoryMissing s k).Canon := by
  unfold State.factoryMissing
  with_reducible repeat'
    (first | assumption | apply State.setReg_canon | apply State.clearFlag_canon | apply State.sparesCount_canon
           | apply State.recMissing_canon | refine ite_canon ?_ ?_
           | (apply mk_canon; first | assumption | apply State.setReg_canon | apply State.clearFlag_canon | apply State.sparesCount_canon | apply State.recMissing_canon)
           | (show State.Canon sv; unfold sv) | (show State.Canon sv.2; unfold sv) | (show State.Canon sv.st; unfold sv)
           | (show State.Canon sv.2.2; unfold sv) | (intro sv; refine (fun (hv : State.Canon sv) => ?_) ?_)
           | (intro sv; refine (fun (hv : State.Canon sv.2) => ?_) ?_)
           | (intro sv; refine (fun (hv : State.Canon sv.st) => ?_) ?_)
           | (intro sv; refine (fun (hv : State.Canon sv.2.2) => ?_) ?_) | (intro sv) | (lift_lets) | (split)
           | (dsimp -zeta only))

theorem State.recApply_canon (s : State) (r : CalRec) (h_s : s.Canon) :
    (State.recApply s r).Canon := by
  unfold State.recApply
  with_reducible repeat'
    (first | assumption | apply State.put_canon | refine foldl_canon (fun s a h => ?_) ?_ | refine ite_canon ?_ ?_
           | (apply mk_canon; assumption) | (show State.Canon sv; unfold sv)
           | (intro sv; refine (fun (hv : State.Canon sv) => ?_) ?_) | (intro sv) | (lift_lets))

theorem State.fieldLoad_canon (s : State) (act other : List CalRec) (k : Nat × Nat) (h_s : s.Canon) :
    (State.fieldLoad s act other k).Canon := by
  unfold State.fieldLoad
  with_reducible repeat'
    (first | assumption | apply State.setFlag_canon | apply State.recMissing_canon | apply State.recApply_canon
           | (apply mk_canon; assumption) | (show State.Canon sv; unfold sv)
           | (intro sv; refine (fun (hv : State.Canon sv) => ?_) ?_) | (intro sv) | (lift_lets) | (split))

theorem State.calLoad_canon (s : State) (h_s : s.Canon) :
    (State.calLoad s).Canon := by
  unfold State.calLoad
  with_reducible repeat'
    (first | assumption | apply State.put_canon | apply State.cdtMissing_canon | apply State.factoryMissing_canon
           | apply State.fieldLoad_canon | refine foldl_canon (fun s a h => ?_) ?_ | refine ite_canon ?_ ?_
           | (apply mk_canon; assumption) | (show State.Canon sv; unfold sv)
           | (intro sv; refine (fun (hv : State.Canon sv) => ?_) ?_) | (intro sv) | (lift_lets))

theorem State.nvmErr_canon (s : State) (e : Nat) (h_s : s.Canon) :
    (State.nvmErr s e).Canon := by
  unfold State.nvmErr
  with_reducible repeat'
    (first | assumption | apply State.put_canon | apply State.setFlag_canon | apply State.raise_canon)

theorem State.nvmWrite_canon (s : State) (h_s : s.Canon) :
    (State.nvmWrite s).Canon := by
  unfold State.nvmWrite
  with_reducible repeat'
    (first | assumption | apply State.put_canon | apply State.setFlag_canon | apply State.nvmErr_canon | refine ite_canon ?_ ?_
           | (apply mk_canon; assumption) | (show State.Canon sv; unfold sv)
           | (intro sv; refine (fun (hv : State.Canon sv) => ?_) ?_) | (intro sv) | (lift_lets) | (split))

theorem State.nvmErase_canon (s : State) (h n : Nat) (h_s : s.Canon) :
    (State.nvmErase s h n).Canon := by
  unfold State.nvmErase
  with_reducible repeat'
    (first | assumption | apply State.put_canon | (apply mk_canon; assumption)
           | (refine mk_mem_canon ?_ ?_ ?_ ?_ ?_ ?_ ?_; first | assumption) | (exact (rfl : Memory.wf [] = true))
           | refine memStore_wf ?_ | refine filter_wf ?_ | refine State.Canon.fireTab ?_ | refine State.Canon.ztStage ?_
           | refine State.Canon.devMem ?_ | refine State.Canon.hostMem ?_ | refine State.Canon.nor ?_
           | refine State.Canon.calStage ?_ | (show State.Canon sv; unfold sv)
           | (intro sv; refine (fun (hv : State.Canon sv) => ?_) ?_) | (intro sv) | (lift_lets))

theorem State.nvmDone_canon (s : State) (stopped verifyFail : Bool) (h_s : s.Canon) :
    (State.nvmDone s stopped verifyFail).Canon := by
  unfold State.nvmDone
  with_reducible repeat'
    (first | assumption | apply State.put_canon | apply State.fresh_canon | apply State.clearFlag_canon
           | apply State.nvmErr_canon | apply State.nvmErase_canon | refine ite_canon ?_ ?_
           | (apply mk_canon; first | assumption | apply State.put_canon | apply State.fresh_canon | apply State.clearFlag_canon | apply State.nvmErr_canon | apply State.nvmErase_canon)
           | (refine mk_mem_canon ?_ ?_ ?_ ?_ ?_ ?_ ?_; first | assumption | apply State.put_canon | apply State.fresh_canon | apply State.clearFlag_canon | apply State.nvmErr_canon | apply State.nvmErase_canon)
           | (exact (rfl : Memory.wf [] = true)) | refine memStore_wf ?_ | refine filter_wf ?_ | refine State.Canon.fireTab ?_
           | refine State.Canon.ztStage ?_ | refine State.Canon.devMem ?_ | refine State.Canon.hostMem ?_
           | refine State.Canon.nor ?_ | refine State.Canon.calStage ?_ | (show State.Canon sv; unfold sv)
           | (show State.Canon sv.2; unfold sv) | (show State.Canon sv.st; unfold sv) | (show State.Canon sv.2.2; unfold sv)
           | (intro sv; refine (fun (hv : State.Canon sv) => ?_) ?_)
           | (intro sv; refine (fun (hv : State.Canon sv.2) => ?_) ?_)
           | (intro sv; refine (fun (hv : State.Canon sv.st) => ?_) ?_)
           | (intro sv; refine (fun (hv : State.Canon sv.2.2) => ?_) ?_) | (intro sv) | (lift_lets) | (split)
           | (dsimp -zeta only))

theorem State.nvmCut_canon (s : State) (h_s : s.Canon) :
    (State.nvmCut s).Canon := by
  unfold State.nvmCut
  with_reducible repeat'
    (first | assumption | apply State.fresh_canon | apply State.clearFlag_canon | apply State.nvmErase_canon
           | refine ite_canon ?_ ?_ | (apply mk_canon; assumption) | (show State.Canon sv; unfold sv)
           | (intro sv; refine (fun (hv : State.Canon sv) => ?_) ?_) | (intro sv) | (lift_lets) | (split))

theorem State.brownout_canon (s : State) (h_s : s.Canon) :
    (State.brownout s).Canon := by
  unfold State.brownout
  with_reducible repeat'
    (first | assumption | apply State.tablesGone_canon | apply State.snfTempsGone_canon | apply State.nvmCut_canon
           | (apply mk_canon; assumption) | (show State.Canon sv; unfold sv)
           | (intro sv; refine (fun (hv : State.Canon sv) => ?_) ?_) | (intro sv) | (lift_lets))

theorem State.nvmNone_canon (s : State) (h_s : s.Canon) :
    (State.nvmNone s).Canon := by
  unfold State.nvmNone
  with_reducible repeat'
    (first | assumption | apply State.nvmErr_canon | refine ite_canon ?_ ?_)

theorem State.nvmRead_canon (s : State) (ty ix : Nat) (h_s : s.Canon) :
    (State.nvmRead s ty ix).Canon := by
  unfold State.nvmRead
  with_reducible repeat'
    (first | assumption | apply State.put_canon | apply State.nvmErr_canon | refine ite_canon ?_ ?_
           | (apply mk_canon; first | assumption | apply State.put_canon | apply State.nvmErr_canon)
           | (refine mk_mem_canon ?_ ?_ ?_ ?_ ?_ ?_ ?_; first | assumption | apply State.put_canon | apply State.nvmErr_canon)
           | (exact (rfl : Memory.wf [] = true)) | refine memStore_wf ?_ | refine filter_wf ?_ | refine State.Canon.fireTab ?_
           | refine State.Canon.ztStage ?_ | refine State.Canon.devMem ?_ | refine State.Canon.hostMem ?_
           | refine State.Canon.nor ?_ | refine State.Canon.calStage ?_ | (show State.Canon sv; unfold sv)
           | (show State.Canon sv.2; unfold sv) | (show State.Canon sv.st; unfold sv) | (show State.Canon sv.2.2; unfold sv)
           | (intro sv; refine (fun (hv : State.Canon sv) => ?_) ?_)
           | (intro sv; refine (fun (hv : State.Canon sv.2) => ?_) ?_)
           | (intro sv; refine (fun (hv : State.Canon sv.st) => ?_) ?_)
           | (intro sv; refine (fun (hv : State.Canon sv.2.2) => ?_) ?_) | (intro sv) | (lift_lets) | (split)
           | (dsimp -zeta only))

theorem State.calGo_canon (s : State) (tiles kind : Nat) (h_s : s.Canon) :
    (State.calGo s tiles kind).Canon := by
  unfold State.calGo
  with_reducible repeat'
    (first | assumption | apply State.put_canon | apply State.setFlag_canon | refine ite_canon ?_ ?_
           | (apply mk_canon; first | assumption | apply State.put_canon | apply State.setFlag_canon)
           | (show State.Canon sv; unfold sv) | (show State.Canon sv.2; unfold sv) | (show State.Canon sv.st; unfold sv)
           | (show State.Canon sv.2.2; unfold sv) | (intro sv; refine (fun (hv : State.Canon sv) => ?_) ?_)
           | (intro sv; refine (fun (hv : State.Canon sv.2) => ?_) ?_)
           | (intro sv; refine (fun (hv : State.Canon sv.st) => ?_) ?_)
           | (intro sv; refine (fun (hv : State.Canon sv.2.2) => ?_) ?_) | (intro sv) | (lift_lets) | (split)
           | (dsimp -zeta only))

theorem State.calView_canon (s : State) (h_s : s.Canon) :
    (State.calView s).Canon := by
  unfold State.calView
  with_reducible repeat'
    (first | assumption | apply State.setReg_canon | refine foldl_canon (fun s a h => ?_) ?_ | (apply mk_canon; assumption)
           | (split))

theorem State.calOffset_canon (s : State) (r : CalResult) (h_s : s.Canon) :
    (State.calOffset s r).2.Canon := by
  unfold State.calOffset
  with_reducible repeat'
    (first | assumption | apply State.put_canon | apply State.incr_canon | apply State.setFlag_canon | refine ite_canon ?_ ?_
           | (show State.Canon sv; unfold sv) | (show State.Canon sv.2; unfold sv) | (show State.Canon sv.st; unfold sv)
           | (show State.Canon sv.2.2; unfold sv) | (intro sv; refine (fun (hv : State.Canon sv) => ?_) ?_)
           | (intro sv; refine (fun (hv : State.Canon sv.2) => ?_) ?_)
           | (intro sv; refine (fun (hv : State.Canon sv.st) => ?_) ?_)
           | (intro sv; refine (fun (hv : State.Canon sv.2.2) => ?_) ?_) | (intro sv) | (lift_lets) | (split)
           | (dsimp -zeta only))

theorem State.calSkew_canon (s v : State) (target2 : Int) (r : CalResult) (h_s : s.Canon) (h_v : v.Canon) :
    (State.calSkew s v target2 r).2.Canon := by
  unfold State.calSkew
  with_reducible repeat'
    (first | assumption | apply State.put_canon | apply State.incr_canon | apply State.setFlag_canon | refine ite_canon ?_ ?_
           | (show State.Canon sv; unfold sv) | (show State.Canon sv.2; unfold sv) | (show State.Canon sv.st; unfold sv)
           | (show State.Canon sv.2.2; unfold sv) | (intro sv; refine (fun (hv : State.Canon sv) => ?_) ?_)
           | (intro sv; refine (fun (hv : State.Canon sv.2) => ?_) ?_)
           | (intro sv; refine (fun (hv : State.Canon sv.st) => ?_) ?_)
           | (intro sv; refine (fun (hv : State.Canon sv.2.2) => ?_) ?_) | (intro sv) | (lift_lets) | (split)
           | (dsimp -zeta only))

theorem State.calChan_canon (v : State) (l : List CalResult) (kind : Nat) (a : Nat × State) (r : CalResult) (h_v : v.Canon) (h_a : a.2.Canon) :
    (State.calChan v l kind a r).2.Canon := by
  unfold State.calChan
  dsimp only
  repeat' (first
    | (with_reducible assumption)
    | (with_reducible apply State.calOffset_canon)
    | (with_reducible apply State.calSkew_canon)
    | (with_reducible refine ite_canon ?_ ?_)
    | (with_reducible apply mk_canon; first | (with_reducible assumption) | (with_reducible apply State.calOffset_canon) | (with_reducible apply State.calSkew_canon) | (with_reducible refine ite_canon ?_ ?_))
    | (with_reducible show State.Canon sv; unfold sv)
    | (with_reducible show State.Canon sv.2; unfold sv)
    | (with_reducible show State.Canon sv.st; unfold sv)
    | (with_reducible show State.Canon sv.2.2; unfold sv)
    | (intro sv; refine (fun (hv : State.Canon sv) => ?_) ?_)
    | (intro sv; refine (fun (hv : State.Canon sv.2) => ?_) ?_)
    | (intro sv; refine (fun (hv : State.Canon sv.st) => ?_) ?_)
    | (intro sv; refine (fun (hv : State.Canon sv.2.2) => ?_) ?_)
    | (intro sv)
    | lift_lets
    | split
    | (dsimp -zeta only))

theorem State.calClear_canon (s : State) (kind t : Nat) (h_s : s.Canon) :
    (State.calClear s kind t).Canon := by
  unfold State.calClear
  with_reducible repeat'
    (first | assumption | apply State.put_canon | refine ite_canon ?_ ?_ | (show State.Canon sv; unfold sv)
           | (intro sv; refine (fun (hv : State.Canon sv) => ?_) ?_) | (intro sv) | (lift_lets))

theorem State.calDone_canon (s : State) (results : List CalResult) (h_s : s.Canon) :
    (State.calDone s results).Canon := by
  unfold State.calDone
  split
  · exact h_s
  · refine State.raise_canon _ _ _ _ (State.setFlag_canon _ _ (State.clearFlag_canon _ _ (ite_canon ?_ ?_)))
    · refine foldl_snd_canon (fun a r h => State.calChan_canon _ _ _ _ _ (State.calView_canon _ h_s) h) ?_
      exact foldl_canon (fun s a h => State.calClear_canon _ _ _ h) (mk_canon h_s)
    · refine State.raise_canon _ _ _ _ (State.setFlag_canon _ _ ?_)
      refine foldl_snd_canon (fun a r h => State.calChan_canon _ _ _ _ _ (State.calView_canon _ h_s) h) ?_
      exact foldl_canon (fun s a h => State.calClear_canon _ _ _ h) (mk_canon h_s)

theorem State.bistRotation_canon (s : State) (h_s : s.Canon) :
    (State.bistRotation s).Canon := by
  unfold State.bistRotation
  with_reducible repeat'
    (first | assumption | apply State.incr_canon | apply State.raise_canon | refine ite_canon ?_ ?_
           | (apply mk_canon; assumption))

theorem State.standbyUp_canon (s : State) (x : Nat) (h_s : s.Canon) :
    (State.standbyUp s x).Canon := by
  unfold State.standbyUp
  with_reducible repeat'
    (first | assumption | apply State.domainOn_canon | refine ite_canon ?_ ?_ | (apply mk_canon; assumption)
           | (show State.Canon sv; unfold sv) | (intro sv; refine (fun (hv : State.Canon sv) => ?_) ?_) | (intro sv)
           | (lift_lets))

theorem State.standbyDown_canon (s : State) (h_s : s.Canon) :
    (State.standbyDown s).Canon := by
  unfold State.standbyDown
  with_reducible repeat'
    (first | assumption | apply State.domainOff_canon | refine ite_canon ?_ ?_ | (apply mk_canon; assumption)
           | (show State.Canon sv; unfold sv) | (intro sv; refine (fun (hv : State.Canon sv) => ?_) ?_) | (intro sv)
           | (lift_lets))

theorem State.bistIsolate_canon (s : State) (x : Nat) (h_s : s.Canon) :
    (State.bistIsolate s x).Canon := by
  unfold State.bistIsolate
  with_reducible repeat'
    (first | assumption | apply State.failOps_canon | refine ite_canon ?_ ?_)

theorem State.bistDue_canon (s : State) (free : Bool) (h_s : s.Canon) :
    (State.bistDue s free).Canon := by
  unfold State.bistDue
  with_reducible repeat'
    (first | assumption | apply State.put_canon | apply State.bump_canon | apply State.setFlag_canon
           | apply State.raiseIf_canon | apply State.standbyUp_canon | apply State.bistIsolate_canon | refine ite_canon ?_ ?_
           | (apply mk_canon; first | assumption | apply State.put_canon | apply State.bump_canon | apply State.setFlag_canon | apply State.raiseIf_canon | apply State.standbyUp_canon | apply State.bistIsolate_canon)
           | (show State.Canon sv; unfold sv) | (show State.Canon sv.2; unfold sv) | (show State.Canon sv.st; unfold sv)
           | (show State.Canon sv.2.2; unfold sv) | (intro sv; refine (fun (hv : State.Canon sv) => ?_) ?_)
           | (intro sv; refine (fun (hv : State.Canon sv.2) => ?_) ?_)
           | (intro sv; refine (fun (hv : State.Canon sv.st) => ?_) ?_)
           | (intro sv; refine (fun (hv : State.Canon sv.2.2) => ?_) ?_) | (intro sv) | (lift_lets) | (split)
           | (dsimp -zeta only))

theorem State.bistDone_canon (s : State) (sig : Word64) (zeroed : Bool) (h_s : s.Canon) :
    (State.bistDone s sig zeroed).Canon := by
  unfold State.bistDone
  with_reducible repeat'
    (first | assumption | apply State.put_canon | apply State.incr_canon | apply State.setFlag_canon
           | apply State.clearFlag_canon | apply State.raise_canon | apply State.hoBegin_canon | apply State.bistRotation_canon
           | apply State.standbyDown_canon | refine ite_canon ?_ ?_ | (apply mk_canon; assumption)
           | (show State.Canon sv; unfold sv) | (intro sv; refine (fun (hv : State.Canon sv) => ?_) ?_) | (intro sv)
           | (lift_lets) | (split))

end Sys2Proof.Machine
end

