-- ==== Sys2Proof/Laws/Canon/Eth.lean ====
section
/-! SUPPORT. Every operation of Machine/Eth.lean keeps the canonical form of the tables and memories. -/

namespace Sys2Proof.Machine

theorem State.setEthPort_canon (s : State) (p : Nat) (x : EthPort) (h_s : s.Canon) :
    (State.setEthPort s p x).Canon := by
  unfold State.setEthPort
  with_reducible repeat'
    (first | assumption | (apply mk_canon; assumption))

theorem State.atPort_canon (s : State) (p : Nat) (f : State → State) (h_s : s.Canon) (h_f : ∀ s : State, s.Canon → (f s).Canon) :
    (State.atPort s p f).Canon := by
  unfold State.atPort
  with_reducible repeat'
    (first | assumption | apply h_f | refine ite_canon ?_ ?_)

theorem State.ethDown_canon (s : State) (p : Nat) (h_s : s.Canon) :
    (State.ethDown s p).Canon := by
  unfold State.ethDown
  with_reducible repeat'
    (first | assumption | apply State.setFlag_canon | apply State.clearFlag_canon | apply State.raiseInst_canon
           | refine ite_canon ?_ ?_)

theorem State.ethTrain_canon (s : State) (p : Nat) (h_s : s.Canon) :
    (State.ethTrain s p).Canon := by
  unfold State.ethTrain
  with_reducible repeat'
    (first | assumption | apply State.put_canon | apply State.setEthPort_canon | (apply mk_canon; assumption)
           | (show State.Canon sv; unfold sv) | (intro sv; refine (fun (hv : State.Canon sv) => ?_) ?_) | (intro sv)
           | (lift_lets))

theorem State.ethApply_canon (s : State) (p : Nat) (re : Bool) (h_s : s.Canon) :
    (State.ethApply s p re).Canon := by
  unfold State.ethApply
  with_reducible repeat'
    (first | assumption | apply State.clearFlag_canon | apply State.setEthPort_canon | apply State.ethDown_canon
           | apply State.ethTrain_canon | (apply mk_canon; assumption) | (show State.Canon sv; unfold sv)
           | (intro sv; refine (fun (hv : State.Canon sv) => ?_) ?_) | (intro sv) | (lift_lets))

theorem State.ethModeApply_canon (s : State) (p : Nat) (h_s : s.Canon) :
    (State.ethModeApply s p).Canon := by
  unfold State.ethModeApply
  with_reducible repeat'
    (first | assumption | apply State.ethApply_canon)

theorem State.ethRetrainApply_canon (s : State) (p : Nat) (h_s : s.Canon) :
    (State.ethRetrainApply s p).Canon := by
  unfold State.ethRetrainApply
  with_reducible repeat'
    (first | assumption | apply State.ethApply_canon)

theorem State.ethModeWrite_canon (s : State) (p m : Nat) (inStep : Bool) (h_s : s.Canon) :
    (State.ethModeWrite s p m inStep).Canon := by
  unfold State.ethModeWrite
  with_reducible repeat'
    (first | assumption | apply State.put_canon | apply State.setFlag_canon | apply State.setEthPort_canon
           | apply State.ethModeApply_canon | refine ite_canon ?_ ?_ | (apply mk_canon; assumption)
           | (show State.Canon sv; unfold sv) | (intro sv; refine (fun (hv : State.Canon sv) => ?_) ?_) | (intro sv)
           | (lift_lets))

theorem State.ethRetrainWrite_canon (s : State) (p : Nat) (inStep : Bool) (h_s : s.Canon) :
    (State.ethRetrainWrite s p inStep).Canon := by
  unfold State.ethRetrainWrite
  with_reducible repeat'
    (first | assumption | apply State.setFlag_canon | apply State.clearFlag_canon | apply State.setEthPort_canon
           | apply State.ethRetrainApply_canon | refine ite_canon ?_ ?_ | (apply mk_canon; assumption)
           | (show State.Canon sv; unfold sv) | (intro sv; refine (fun (hv : State.Canon sv) => ?_) ?_) | (intro sv)
           | (lift_lets))

theorem State.eqStepEnd_canon (s : State) (p : Nat) (h_s : s.Canon) :
    (State.eqStepEnd s p).Canon := by
  unfold State.eqStepEnd
  with_reducible repeat'
    (first | assumption | apply State.fresh_canon | apply State.setEthPort_canon | apply State.ethModeApply_canon
           | apply State.ethRetrainApply_canon | refine ite_canon ?_ ?_ | (apply mk_canon; assumption)
           | (show State.Canon sv; unfold sv) | (intro sv; refine (fun (hv : State.Canon sv) => ?_) ?_) | (intro sv)
           | (lift_lets))

theorem State.twinLaneDown_canon (s : State) (l : Nat) (h_s : s.Canon) :
    (State.twinLaneDown s l).Canon := by
  unfold State.twinLaneDown
  with_reducible repeat'
    (first | assumption | apply State.put_canon | apply State.clearFlag_canon | apply State.raise_canon
           | refine ite_canon ?_ ?_ | (show State.Canon sv; unfold sv)
           | (intro sv; refine (fun (hv : State.Canon sv) => ?_) ?_) | (intro sv) | (lift_lets))

theorem State.twinRetrain_canon (s : State) (l : Nat) (h_s : s.Canon) :
    (State.twinRetrain s l).Canon := by
  unfold State.twinRetrain
  with_reducible repeat'
    (first | assumption | apply State.put_canon | apply State.twinLaneDown_canon | (apply mk_canon; assumption)
           | (show State.Canon sv; unfold sv) | (intro sv; refine (fun (hv : State.Canon sv) => ?_) ?_) | (intro sv)
           | (lift_lets))

theorem State.twinRetrainReq_canon (s : State) (l : Nat) (write inStep : Bool) (h_s : s.Canon) :
    (State.twinRetrainReq s l write inStep).Canon := by
  unfold State.twinRetrainReq
  with_reducible repeat'
    (first | assumption | apply State.put_canon | apply State.setFlag_canon | apply State.twinRetrain_canon
           | refine ite_canon ?_ ?_
           | (apply mk_canon; first | assumption | apply State.put_canon | apply State.setFlag_canon | apply State.twinRetrain_canon)
           | (show State.Canon sv; unfold sv) | (show State.Canon sv.2; unfold sv) | (show State.Canon sv.st; unfold sv)
           | (show State.Canon sv.2.2; unfold sv) | (intro sv; refine (fun (hv : State.Canon sv) => ?_) ?_)
           | (intro sv; refine (fun (hv : State.Canon sv.2) => ?_) ?_)
           | (intro sv; refine (fun (hv : State.Canon sv.st) => ?_) ?_)
           | (intro sv; refine (fun (hv : State.Canon sv.2.2) => ?_) ?_) | (intro sv) | (lift_lets) | (split)
           | (dsimp -zeta only))

theorem State.twinStepEnd_canon (s : State) (l : Nat) (h_s : s.Canon) :
    (State.twinStepEnd s l).Canon := by
  unfold State.twinStepEnd
  with_reducible repeat'
    (first | assumption | apply State.fresh_canon | apply State.twinRetrain_canon | refine ite_canon ?_ ?_
           | (apply mk_canon; first | assumption | apply State.fresh_canon | apply State.twinRetrain_canon)
           | (show State.Canon sv; unfold sv) | (show State.Canon sv.2; unfold sv) | (show State.Canon sv.st; unfold sv)
           | (show State.Canon sv.2.2; unfold sv) | (intro sv; refine (fun (hv : State.Canon sv) => ?_) ?_)
           | (intro sv; refine (fun (hv : State.Canon sv.2) => ?_) ?_)
           | (intro sv; refine (fun (hv : State.Canon sv.st) => ?_) ?_)
           | (intro sv; refine (fun (hv : State.Canon sv.2.2) => ?_) ?_) | (intro sv) | (lift_lets) | (split)
           | (dsimp -zeta only))

theorem State.ethUp_canon (s : State) (p : Nat) (h_s : s.Canon) :
    (State.ethUp s p).Canon := by
  unfold State.ethUp
  with_reducible repeat'
    (first | assumption | apply State.setFlag_canon | apply State.clearFlag_canon | apply State.raiseInst_canon
           | apply State.raiseIf_canon | apply State.setEthPort_canon | refine ite_canon ?_ ?_ | (apply mk_canon; assumption)
           | (show State.Canon sv; unfold sv) | (intro sv; refine (fun (hv : State.Canon sv) => ?_) ?_) | (intro sv)
           | (lift_lets))

theorem State.ethLost_canon (s : State) (p : Nat) (h_s : s.Canon) :
    (State.ethLost s p).Canon := by
  unfold State.ethLost
  with_reducible repeat'
    (first | assumption | apply State.ethApply_canon | refine ite_canon ?_ ?_)

theorem State.fecBad_canon (s : State) (p : Nat) (h_s : s.Canon) :
    (State.fecBad s p).Canon := by
  unfold State.fecBad
  with_reducible repeat'
    (first | assumption | apply State.bump_canon | apply State.setFlag_canon | apply State.raiseInst_canon
           | apply State.setEthPort_canon | refine ite_canon ?_ ?_ | (apply mk_canon; assumption)
           | (show State.Canon sv; unfold sv) | (intro sv; refine (fun (hv : State.Canon sv) => ?_) ?_) | (intro sv)
           | (lift_lets))

theorem State.creditSync_canon (s : State) (p : Nat) (h_s : s.Canon) :
    (State.creditSync s p).Canon := by
  unfold State.creditSync
  with_reducible repeat'
    (first | assumption | apply State.setEthPort_canon | refine ite_canon ?_ ?_ | (apply mk_canon; assumption)
           | (show State.Canon sv; unfold sv) | (intro sv; refine (fun (hv : State.Canon sv) => ?_) ?_) | (intro sv)
           | (lift_lets))

theorem State.ethQueue_canon (s : State) (p q : Nat) (f : TxFrame) (h_s : s.Canon) :
    (State.ethQueue s p q f).2.Canon := by
  unfold State.ethQueue
  with_reducible repeat'
    (first | assumption | apply State.setEthPort_canon | apply State.creditSync_canon | refine ite_canon ?_ ?_
           | (apply mk_canon; first | assumption | apply State.setEthPort_canon | apply State.creditSync_canon)
           | (show State.Canon sv; unfold sv) | (show State.Canon sv.2; unfold sv) | (show State.Canon sv.st; unfold sv)
           | (show State.Canon sv.2.2; unfold sv) | (intro sv; refine (fun (hv : State.Canon sv) => ?_) ?_)
           | (intro sv; refine (fun (hv : State.Canon sv.2) => ?_) ?_)
           | (intro sv; refine (fun (hv : State.Canon sv.st) => ?_) ?_)
           | (intro sv; refine (fun (hv : State.Canon sv.2.2) => ?_) ?_) | (intro sv) | (lift_lets) | (split)
           | (dsimp -zeta only))

theorem State.sduDropQueue_canon (s : State) (p q : Nat) (y0 : List TxFrame) (h_s : s.Canon) :
    (State.sduDropQueue s p q y0).Canon := by
  induction y0 generalizing s p q with
  | nil => 
    unfold State.sduDropQueue
    repeat' (first
    | (with_reducible apply ih)
    | (with_reducible assumption)
    | (with_reducible apply State.bump_canon)
    | (with_reducible apply State.raiseInst_canon)
    | (with_reducible apply State.setEthPort_canon)
    | (with_reducible refine ite_canon ?_ ?_)
    | (with_reducible apply mk_canon; first | (with_reducible assumption) | (with_reducible apply State.bump_canon) | (with_reducible apply State.raiseInst_canon) | (with_reducible apply State.setEthPort_canon) | (with_reducible refine ite_canon ?_ ?_))
    | (with_reducible show State.Canon sv; unfold sv)
    | (with_reducible show State.Canon sv.2; unfold sv)
    | (with_reducible show State.Canon sv.st; unfold sv)
    | (with_reducible show State.Canon sv.2.2; unfold sv)
    | (intro sv; refine (fun (hv : State.Canon sv) => ?_) ?_)
    | (intro sv; refine (fun (hv : State.Canon sv.2) => ?_) ?_)
    | (intro sv; refine (fun (hv : State.Canon sv.st) => ?_) ?_)
    | (intro sv; refine (fun (hv : State.Canon sv.2.2) => ?_) ?_)
    | (intro sv)
    | lift_lets
    | split
    | (dsimp -zeta only))
  | cons p l ih =>
    unfold State.sduDropQueue
    repeat' (first
    | (with_reducible apply ih)
    | (with_reducible assumption)
    | (with_reducible apply State.bump_canon)
    | (with_reducible apply State.raiseInst_canon)
    | (with_reducible apply State.setEthPort_canon)
    | (with_reducible refine ite_canon ?_ ?_)
    | (with_reducible apply mk_canon; first | (with_reducible assumption) | (with_reducible apply State.bump_canon) | (with_reducible apply State.raiseInst_canon) | (with_reducible apply State.setEthPort_canon) | (with_reducible refine ite_canon ?_ ?_))
    | (with_reducible show State.Canon sv; unfold sv)
    | (with_reducible show State.Canon sv.2; unfold sv)
    | (with_reducible show State.Canon sv.st; unfold sv)
    | (with_reducible show State.Canon sv.2.2; unfold sv)
    | (intro sv; refine (fun (hv : State.Canon sv) => ?_) ?_)
    | (intro sv; refine (fun (hv : State.Canon sv.2) => ?_) ?_)
    | (intro sv; refine (fun (hv : State.Canon sv.st) => ?_) ?_)
    | (intro sv; refine (fun (hv : State.Canon sv.2.2) => ?_) ?_)
    | (intro sv)
    | lift_lets
    | split
    | (dsimp -zeta only))

theorem State.txCharge_canon (s : State) (p q len : Nat) (h_s : s.Canon) :
    (State.txCharge s p q len).Canon := by
  unfold State.txCharge
  with_reducible repeat'
    (first | assumption | apply State.setEthPort_canon | refine ite_canon ?_ ?_ | (apply mk_canon; assumption)
           | (show State.Canon sv; unfold sv) | (intro sv; refine (fun (hv : State.Canon sv) => ?_) ?_) | (intro sv)
           | (lift_lets))

theorem State.ptpQueue_canon (s : State) (p : Nat) (k : FrameKind) (time : Nat) (h_s : s.Canon) :
    (State.ptpQueue s p k time).Canon := by
  unfold State.ptpQueue
  with_reducible repeat'
    (first | assumption | apply State.ethQueue_canon)

theorem State.txSelect_canon (s : State) (p : Nat) (h_s : s.Canon) :
    (State.txSelect s p).Canon := by
  unfold State.txSelect
  dsimp only
  repeat' (first
    | (with_reducible assumption)
    | (with_reducible apply State.emit_canon)
    | (with_reducible apply State.setEthPort_canon)
    | (with_reducible apply State.creditSync_canon)
    | (with_reducible apply State.sduDropQueue_canon)
    | (with_reducible apply State.txCharge_canon)
    | (with_reducible apply State.ptpQueue_canon)
    | (with_reducible refine foldl_canon (fun s a h => ?_) ?_)
    | (with_reducible refine ite_canon ?_ ?_)
    | (with_reducible apply mk_canon; first | (with_reducible assumption) | (with_reducible apply State.emit_canon) | (with_reducible apply State.setEthPort_canon) | (with_reducible apply State.creditSync_canon) | (with_reducible apply State.sduDropQueue_canon) | (with_reducible apply State.txCharge_canon) | (with_reducible apply State.ptpQueue_canon) | (with_reducible refine foldl_canon (fun s a h => ?_) ?_) | (with_reducible refine ite_canon ?_ ?_))
    | (with_reducible show State.Canon sv; unfold sv)
    | (with_reducible show State.Canon sv.2; unfold sv)
    | (with_reducible show State.Canon sv.st; unfold sv)
    | (with_reducible show State.Canon sv.2.2; unfold sv)
    | (intro sv; refine (fun (hv : State.Canon sv) => ?_) ?_)
    | (intro sv; refine (fun (hv : State.Canon sv.2) => ?_) ?_)
    | (intro sv; refine (fun (hv : State.Canon sv.st) => ?_) ?_)
    | (intro sv; refine (fun (hv : State.Canon sv.2.2) => ?_) ?_)
    | (intro sv)
    | lift_lets
    | split
    | (dsimp -zeta only))

theorem State.gateChange_canon (s : State) (p : Nat) (h_s : s.Canon) :
    (State.gateChange s p).Canon := by
  unfold State.gateChange
  with_reducible repeat'
    (first | assumption | apply State.setFlag_canon | apply State.clearFlag_canon | apply State.raiseInst_canon
           | apply State.setEthPort_canon | refine ite_canon ?_ ?_ | (apply mk_canon; assumption)
           | (show State.Canon sv; unfold sv) | (intro sv; refine (fun (hv : State.Canon sv) => ?_) ?_) | (intro sv)
           | (lift_lets))

theorem State.gateSwitch_canon (s : State) (p : Nat) (h_s : s.Canon) :
    (State.gateSwitch s p).Canon := by
  unfold State.gateSwitch
  with_reducible repeat'
    (first | assumption | apply State.put_canon | apply State.clearFlag_canon | apply State.raiseInst_canon
           | apply State.setEthPort_canon | apply State.creditSync_canon | (apply mk_canon; assumption)
           | (show State.Canon sv; unfold sv) | (intro sv; refine (fun (hv : State.Canon sv) => ?_) ?_) | (intro sv)
           | (lift_lets) | (split))

theorem State.gclAdvance_canon (s : State) (p : Nat) (h_s : s.Canon) :
    (State.gclAdvance s p).Canon := by
  unfold State.gclAdvance
  with_reducible repeat'
    (first | assumption | apply State.setEthPort_canon | apply State.creditSync_canon | refine ite_canon ?_ ?_
           | (apply mk_canon; assumption) | (show State.Canon sv; unfold sv)
           | (intro sv; refine (fun (hv : State.Canon sv) => ?_) ?_) | (intro sv) | (lift_lets))

theorem State.exportEnable_canon (s : State) (x : Nat) (h_s : s.Canon) :
    (State.exportEnable s x).Canon := by
  unfold State.exportEnable
  with_reducible repeat'
    (first | assumption | apply State.setFlag_canon | apply State.clearFlag_canon | apply State.raiseInst_canon
           | refine ite_canon ?_ ?_ | (show State.Canon sv; unfold sv)
           | (intro sv; refine (fun (hv : State.Canon sv) => ?_) ?_) | (intro sv) | (lift_lets))

theorem State.prConsume_canon (s : State) (n k : Nat) (h_s : s.Canon) :
    (State.prConsume s n k).Canon := by
  unfold State.prConsume
  with_reducible repeat'
    (first | assumption | apply State.put_canon | apply State.setPr_canon | apply State.prLevel_canon
           | (apply mk_canon; assumption) | (show State.Canon sv; unfold sv)
           | (intro sv; refine (fun (hv : State.Canon sv) => ?_) ?_) | (intro sv) | (lift_lets))

theorem State.exportSend_canon (s : State) (x : Nat) (h_s : s.Canon) :
    (State.exportSend s x).Canon := by
  unfold State.exportSend
  with_reducible repeat'
    (first | assumption | refine State.withTag_canon _ _ _ ?_ (fun s h => ?_) | apply State.setPr_canon
           | apply State.ethQueue_canon | apply State.prConsume_canon | refine foldl_canon (fun s a h => ?_) ?_
           | refine ite_canon ?_ ?_ | (apply mk_canon; assumption) | (show State.Canon sv; unfold sv)
           | (intro sv; refine (fun (hv : State.Canon sv) => ?_) ?_) | (intro sv) | (lift_lets))

theorem State.psfpEvent_canon (s : State) (p : Nat) (h_s : s.Canon) :
    (State.psfpEvent s p).Canon := by
  unfold State.psfpEvent
  with_reducible repeat'
    (first | assumption | apply State.raiseInst_canon | refine ite_canon ?_ ?_ | (apply mk_canon; assumption))

theorem State.meter_canon (s : State) (f len : Nat) (h_s : s.Canon) :
    (State.meter s f len).2.Canon := by
  unfold State.meter
  with_reducible repeat'
    (first | assumption | refine ite_canon ?_ ?_ | (apply mk_canon; assumption) | (show State.Canon sv; unfold sv)
           | (intro sv; refine (fun (hv : State.Canon sv) => ?_) ?_) | (intro sv) | (lift_lets) | (split))

theorem State.police_canon (s : State) (p len : Nat) (q : QslFrame) (h_s : s.Canon) :
    (State.police s p len q).2.Canon := by
  unfold State.police
  with_reducible repeat'
    (first | assumption | apply State.bump_canon | apply State.incr_canon | apply State.clearFlag_canon
           | apply State.raiseInst_canon | apply State.psfpEvent_canon | apply State.meter_canon | refine ite_canon ?_ ?_
           | (apply mk_canon; assumption) | (show State.Canon sv; unfold sv)
           | (intro sv; refine (fun (hv : State.Canon sv) => ?_) ?_) | (intro sv) | (lift_lets) | (split))

theorem State.frerTake_canon (s : State) (p : Nat) (q : QslFrame) (seq : Nat) (h_s : s.Canon) :
    (State.frerTake s p q seq).2.Canon := by
  unfold State.frerTake
  with_reducible repeat'
    (first | assumption | apply State.put_canon | apply State.raiseIf_canon | refine ite_canon ?_ ?_
           | (apply mk_canon; first | assumption | apply State.put_canon | apply State.raiseIf_canon)
           | (show State.Canon sv; unfold sv) | (show State.Canon sv.2; unfold sv) | (show State.Canon sv.st; unfold sv)
           | (show State.Canon sv.2.2; unfold sv) | (intro sv; refine (fun (hv : State.Canon sv) => ?_) ?_)
           | (intro sv; refine (fun (hv : State.Canon sv.2) => ?_) ?_)
           | (intro sv; refine (fun (hv : State.Canon sv.st) => ?_) ?_)
           | (intro sv; refine (fun (hv : State.Canon sv.2.2) => ?_) ?_) | (intro sv) | (lift_lets) | (split)
           | (dsimp -zeta only))

theorem State.frerReset_canon (s : State) (dst vid : Nat) (h_s : s.Canon) :
    (State.frerReset s dst vid).Canon := by
  unfold State.frerReset
  with_reducible repeat'
    (first | assumption | apply State.bump_canon | apply State.raise_canon | refine ite_canon ?_ ?_
           | (apply mk_canon; assumption) | (show State.Canon sv; unfold sv)
           | (intro sv; refine (fun (hv : State.Canon sv) => ?_) ?_) | (intro sv) | (lift_lets))

theorem State.ptpReceive_canon (s : State) (p stamp : Nat) (r : PtpResult) (h_s : s.Canon) :
    (State.ptpReceive s p stamp r).Canon := by
  unfold State.ptpReceive
  with_reducible repeat'
    (first | assumption | apply State.put_canon | apply State.setFlag_canon | apply State.clearFlag_canon
           | apply State.raise_canon | apply State.servoOffset_canon | apply State.setEthPort_canon
           | apply State.ptpQueue_canon | refine ite_canon ?_ ?_ | (apply mk_canon; assumption)
           | (show State.Canon sv; unfold sv) | (intro sv; refine (fun (hv : State.Canon sv) => ?_) ?_) | (intro sv)
           | (lift_lets) | (split))

theorem State.ptpSettle_canon (s : State) (h_s : s.Canon) :
    (State.ptpSettle s).Canon := by
  unfold State.ptpSettle
  with_reducible repeat'
    (first | assumption | apply State.setFlag_canon | apply State.clearFlag_canon | apply State.raise_canon
           | refine ite_canon ?_ ?_ | (show State.Canon sv; unfold sv)
           | (intro sv; refine (fun (hv : State.Canon sv) => ?_) ?_) | (intro sv) | (lift_lets))

theorem State.ptpSync_canon (s : State) (h_s : s.Canon) :
    (State.ptpSync s).Canon := by
  unfold State.ptpSync
  with_reducible repeat'
    (first | assumption | apply State.ptpQueue_canon | refine foldl_canon (fun s a h => ?_) ?_ | refine ite_canon ?_ ?_
           | (show State.Canon sv; unfold sv) | (intro sv; refine (fun (hv : State.Canon sv) => ?_) ?_) | (intro sv)
           | (lift_lets))

end Sys2Proof.Machine
end

