-- ==== Sys2Proof/Laws/Canon/Qsl.lean ====
section
/-! SUPPORT. Every operation of Machine/Qsl.lean keeps the canonical form of the tables and memories. -/

namespace Sys2Proof.Machine

theorem State.setQtx_canon (s : State) (c : Nat) (x : QslTx) (h_s : s.Canon) :
    (State.setQtx s c x).Canon := by
  unfold State.setQtx
  with_reducible repeat'
    (first | assumption | (apply mk_canon; assumption))

theorem State.setQrx_canon (s : State) (c : Nat) (x : QslRx) (h_s : s.Canon) :
    (State.setQrx s c x).Canon := by
  unfold State.setQrx
  with_reducible repeat'
    (first | assumption | (apply mk_canon; assumption))

theorem State.qslTxEnable_canon (s : State) (c : Nat) (h_s : s.Canon) :
    (State.qslTxEnable s c).Canon := by
  unfold State.qslTxEnable
  with_reducible repeat'
    (first | assumption | apply State.setFlag_canon | apply State.raiseInst_canon | refine ite_canon ?_ ?_)

theorem State.qslCommit_canon (s : State) (c : Nat) (h_s : s.Canon) :
    (State.qslCommit s c).Canon := by
  unfold State.qslCommit
  with_reducible repeat'
    (first | assumption | apply State.clearFlag_canon | apply State.setQtx_canon | (apply mk_canon; assumption))

theorem State.qslPeriod_canon (s : State) (c : Nat) (h_s : s.Canon) :
    (State.qslPeriod s c).Canon := by
  unfold State.qslPeriod
  with_reducible repeat'
    (first | assumption | apply State.bump_canon | apply State.ethQueue_canon | apply State.setQtx_canon
           | refine foldl_canon (fun s a h => ?_) ?_ | refine ite_canon ?_ ?_ | (apply mk_canon; assumption)
           | (show State.Canon sv; unfold sv) | (intro sv; refine (fun (hv : State.Canon sv) => ?_) ?_) | (intro sv)
           | (lift_lets))

theorem State.qslWait_canon (s : State) (c : Nat) (h_s : s.Canon) :
    (State.qslWait s c).Canon := by
  unfold State.qslWait
  with_reducible repeat'
    (first | assumption | apply State.put_canon | apply State.grantsCheck_canon | apply State.setQrx_canon | (split))

theorem State.qslRxEnable_canon (s : State) (c : Nat) (h_s : s.Canon) :
    (State.qslRxEnable s c).Canon := by
  unfold State.qslRxEnable
  with_reducible repeat'
    (first | assumption | apply State.setFlag_canon | apply State.raiseInst_canon | apply State.qslWait_canon
           | refine ite_canon ?_ ?_)

theorem State.qslRestart_canon (s : State) (c : Nat) (h_s : s.Canon) :
    (State.qslRestart s c).Canon := by
  unfold State.qslRestart
  with_reducible repeat'
    (first | assumption | apply State.qslWait_canon | refine ite_canon ?_ ?_)

theorem State.qslFail_canon (s : State) (c cause : Nat) (h_s : s.Canon) :
    (State.qslFail s c cause).Canon := by
  unfold State.qslFail
  with_reducible repeat'
    (first | assumption | apply State.put_canon | apply State.setFlag_canon | apply State.raise_canon
           | apply State.grantsCheck_canon | (show State.Canon sv; unfold sv)
           | (intro sv; refine (fun (hv : State.Canon sv) => ?_) ?_) | (intro sv) | (lift_lets))

theorem State.qslWatchdog_canon (s : State) (c : Nat) (arrived : Bool) (h_s : s.Canon) :
    (State.qslWatchdog s c arrived).Canon := by
  unfold State.qslWatchdog
  with_reducible repeat'
    (first | assumption | apply State.qslFail_canon | refine ite_canon ?_ ?_ | (show State.Canon sv; unfold sv)
           | (intro sv; refine (fun (hv : State.Canon sv) => ?_) ?_) | (intro sv) | (lift_lets))

theorem State.qslUnknown_canon (s : State) (h_s : s.Canon) :
    (State.qslUnknown s).Canon := by
  unfold State.qslUnknown
  with_reducible repeat'
    (first | assumption | apply State.raise_canon | refine ite_canon ?_ ?_ | (apply mk_canon; assumption))

theorem State.qslBadCheck_canon (s : State) (c : Nat) (h_s : s.Canon) :
    (State.qslBadCheck s c).Canon := by
  unfold State.qslBadCheck
  with_reducible repeat'
    (first | assumption | apply State.bump_canon | apply State.raiseInst_canon | apply State.setQrx_canon
           | apply State.qslFail_canon | refine ite_canon ?_ ?_ | (apply mk_canon; assumption)
           | (show State.Canon sv; unfold sv) | (intro sv; refine (fun (hv : State.Canon sv) => ?_) ?_) | (intro sv)
           | (lift_lets))

theorem State.qslReject_canon (s : State) (c : Nat) (step4 : Bool) (h_s : s.Canon) :
    (State.qslReject s c step4).Canon := by
  unfold State.qslReject
  with_reducible repeat'
    (first | assumption | apply State.bump_canon | apply State.raiseIf_canon)

theorem State.qslPayload_canon (s : State) (c : Nat) (l : List Byte) (h_s : s.Canon) :
    (State.qslPayload s c l).Canon := by
  unfold State.qslPayload
  with_reducible repeat'
    (first | assumption | apply State.put_canon | refine foldl_canon (fun s a h => ?_) ?_)

theorem State.qslTake_canon (s : State) (c : Nat) (payload : List Byte) (h_s : s.Canon) :
    (State.qslTake s c payload).Canon := by
  unfold State.qslTake
  with_reducible repeat'
    (first | assumption | (apply mk_canon; assumption))

theorem State.qslMismatch_canon (s : State) (c : Nat) (h_s : s.Canon) :
    (State.qslMismatch s c).Canon := by
  unfold State.qslMismatch
  with_reducible repeat'
    (first | assumption | apply State.raiseInst_canon | apply State.safetyFault_canon | apply State.setQrx_canon
           | refine ite_canon ?_ ?_ | (apply mk_canon; assumption) | (show State.Canon sv; unfold sv)
           | (intro sv; refine (fun (hv : State.Canon sv) => ?_) ?_) | (intro sv) | (lift_lets) | (split))

theorem State.qslAccept_canon (s : State) (c seq lost : Nat) (payload : List Byte) (mismatch : Bool) (h_s : s.Canon) :
    (State.qslAccept s c seq lost payload mismatch).Canon := by
  unfold State.qslAccept
  with_reducible repeat'
    (first | assumption | apply State.put_canon | apply State.incr_canon | apply State.raiseInst_canon
           | apply State.setQrx_canon | apply State.qslPayload_canon | apply State.qslTake_canon
           | apply State.qslMismatch_canon | refine ite_canon ?_ ?_
           | (apply mk_canon; first | assumption | apply State.put_canon | apply State.incr_canon | apply State.raiseInst_canon | apply State.setQrx_canon | apply State.qslPayload_canon | apply State.qslTake_canon | apply State.qslMismatch_canon)
           | (show State.Canon sv; unfold sv) | (show State.Canon sv.2; unfold sv) | (show State.Canon sv.st; unfold sv)
           | (show State.Canon sv.2.2; unfold sv) | (intro sv; refine (fun (hv : State.Canon sv) => ?_) ?_)
           | (intro sv; refine (fun (hv : State.Canon sv.2) => ?_) ?_)
           | (intro sv; refine (fun (hv : State.Canon sv.st) => ?_) ?_)
           | (intro sv; refine (fun (hv : State.Canon sv.2.2) => ?_) ?_) | (intro sv) | (lift_lets) | (split)
           | (dsimp -zeta only))

theorem State.qslSteps_canon (s : State) (c : Nat) (l : List Byte) (mismatch : Bool) (h_s : s.Canon) :
    (State.qslSteps s c l mismatch).Canon := by
  unfold State.qslSteps
  with_reducible repeat'
    (first | assumption | apply State.holdover_canon | apply State.qslFail_canon | apply State.qslReject_canon
           | apply State.qslAccept_canon | refine ite_canon ?_ ?_ | (show State.Canon sv; unfold sv)
           | (intro sv; refine (fun (hv : State.Canon sv) => ?_) ?_) | (intro sv) | (lift_lets) | (split))

theorem State.qslReceive_canon (s : State) (p : Nat) (l : List Byte) (mismatch : Bool) (h_s : s.Canon) :
    (State.qslReceive s p l mismatch).Canon := by
  unfold State.qslReceive
  with_reducible repeat'
    (first | assumption | apply State.qslUnknown_canon | apply State.qslBadCheck_canon | apply State.qslSteps_canon
           | refine ite_canon ?_ ?_ | (apply mk_canon; assumption) | (show State.Canon sv; unfold sv)
           | (intro sv; refine (fun (hv : State.Canon sv) => ?_) ?_) | (intro sv) | (lift_lets) | (split))

theorem State.rxRoom_canon (s : State) (p n : Nat) (own : Bool) (note : RxNote) (h_s : s.Canon) :
    (State.rxRoom s p n own note).2.Canon := by
  unfold State.rxRoom
  with_reducible repeat'
    (first | assumption | apply State.setEthPort_canon | refine ite_canon ?_ ?_ | (apply mk_canon; assumption)
           | (show State.Canon sv; unfold sv) | (intro sv; refine (fun (hv : State.Canon sv) => ?_) ?_) | (intro sv)
           | (lift_lets))

theorem State.rxArrive_canon (s : State) (p n : Nat) (own : Bool) (note : RxNote) (h_s : s.Canon) :
    (State.rxArrive s p n own note).2.Canon := by
  unfold State.rxArrive
  with_reducible repeat'
    (first | assumption | apply State.put_canon | apply State.rxRoom_canon | refine ite_canon ?_ ?_
           | (show State.Canon sv; unfold sv) | (intro sv; refine (fun (hv : State.Canon sv) => ?_) ?_) | (intro sv)
           | (lift_lets))

theorem State.ethReceive_canon (s0 : State) (p : Nat) (l : List Byte) (note : RxNote) (mismatch : Bool) (h_s0 : s0.Canon) :
    (State.ethReceive s0 p l note mismatch).Canon := by
  unfold State.ethReceive
  with_reducible repeat'
    (first | assumption | apply State.bump_canon | apply State.police_canon | apply State.frerTake_canon
           | apply State.qslReceive_canon | apply State.rxArrive_canon | refine ite_canon ?_ ?_ | (apply mk_canon; assumption)
           | (show State.Canon sv; unfold sv) | (intro sv; refine (fun (hv : State.Canon sv) => ?_) ?_) | (intro sv)
           | (lift_lets) | (split))

end Sys2Proof.Machine
end

