-- ==== Sys2Proof/Laws/Canon/Tags.lean ====
section
/-! SUPPORT. Every operation of Machine/Tags.lean keeps the canonical form of the tables and memories. -/

namespace Sys2Proof.Machine

theorem State.injectArm_canon (s : State) (n loc : Nat) (h_s : s.Canon) :
    (State.injectArm s n loc).Canon := by
  unfold State.injectArm
  with_reducible repeat'
    (first | assumption | apply State.put_canon | apply State.setFlag_canon)

theorem State.w256Clear_canon (s : State) (h_s : s.Canon) :
    (State.w256Clear s).Canon := by
  unfold State.w256Clear
  with_reducible repeat'
    (first | assumption | apply State.put_canon)

theorem State.tagPoolWrite_canon (s : State) (c floor ceil : Nat) (h_s : s.Canon) :
    (State.tagPoolWrite s c floor ceil).Canon := by
  unfold State.tagPoolWrite
  with_reducible repeat'
    (first | assumption | apply State.put_canon | apply State.raiseInst_canon | apply State.raiseIf_canon
           | refine ite_canon ?_ ?_ | (apply mk_canon; assumption) | (show State.Canon sv; unfold sv)
           | (intro sv; refine (fun (hv : State.Canon sv) => ?_) ?_) | (intro sv) | (lift_lets))

theorem State.tagPeakClear_canon (s : State) (c : Nat) (h_s : s.Canon) :
    (State.tagPeakClear s c).Canon := by
  unfold State.tagPeakClear
  with_reducible repeat'
    (first | assumption | apply State.put_canon)

theorem State.tagGrant_canon (s : State) (w : Waiter) (h_s : s.Canon) :
    (State.tagGrant s w).Canon := by
  unfold State.tagGrant
  with_reducible repeat'
    (first | assumption | apply State.tagTake_canon | apply State.tagWait_canon | refine ite_canon ?_ ?_
           | (apply mk_canon; assumption) | (show State.Canon sv; unfold sv)
           | (intro sv; refine (fun (hv : State.Canon sv) => ?_) ?_) | (intro sv) | (lift_lets) | (split))

theorem State.tagTimeout_canon (s : State) (i : Nat) (arrived : Bool) (h_s : s.Canon) :
    (State.tagTimeout s i arrived).Canon := by
  unfold State.tagTimeout
  with_reducible repeat'
    (first | assumption | apply State.emit_canon | apply State.raiseInst_canon | apply State.tagRelease_canon
           | apply State.memDrop_canon | apply State.descFail_canon | refine ite_canon ?_ ?_ | (apply mk_canon; assumption)
           | (show State.Canon sv; unfold sv) | (intro sv; refine (fun (hv : State.Canon sv) => ?_) ?_) | (intro sv)
           | (lift_lets) | (split))

theorem State.claimReserve_canon (s : State) (i : Nat) (h_s : s.Canon) :
    (State.claimReserve s i).Canon := by
  unfold State.claimReserve
  with_reducible repeat'
    (first | assumption | apply State.claim_canon | refine ite_canon ?_ ?_)

theorem State.claimRelease_canon (s : State) (i : Nat) (h_s : s.Canon) :
    (State.claimRelease s i).Canon := by
  unfold State.claimRelease
  with_reducible repeat'
    (first | assumption | apply State.unclaim_canon)

theorem State.pcieError_canon (s : State) (correctable : Bool) (h_s : s.Canon) :
    (State.pcieError s correctable).Canon := by
  unfold State.pcieError
  with_reducible repeat'
    (first | assumption | apply State.raise_canon | refine ite_canon ?_ ?_)

end Sys2Proof.Machine
end

