-- ==== Sys2Proof/Laws/Canon/Hk.lean ====
section
/-! SUPPORT. Every operation of Machine/Hk.lean keeps the canonical form of the tables and memories. -/

namespace Sys2Proof.Machine

theorem State.onHk_canon (s : State) (g : HkSt → HkSt) (h_s : s.Canon) :
    (State.onHk s g).Canon := by
  unfold State.onHk
  with_reducible repeat'
    (first | assumption | (apply mk_canon; assumption))

theorem State.hkLatch_canon (s : State) (h_s : s.Canon) :
    (State.hkLatch s).Canon := by
  unfold State.hkLatch
  with_reducible repeat'
    (first | assumption | apply State.onHk_canon | (apply mk_canon; assumption) | (split))

theorem State.hkLatchDue_canon (s : State) (h_s : s.Canon) :
    (State.hkLatchDue s).Canon := by
  unfold State.hkLatchDue
  with_reducible repeat'
    (first | assumption | apply State.hkLatch_canon | refine ite_canon ?_ ?_)

theorem State.hkPhase_canon (s : State) (e ph : Nat) (h_s : s.Canon) :
    (State.hkPhase s e ph).Canon := by
  unfold State.hkPhase
  with_reducible repeat'
    (first | assumption | apply State.onHk_canon | apply State.hkLatchDue_canon | refine ite_canon ?_ ?_
           | (apply mk_canon; assumption) | (show State.Canon sv; unfold sv)
           | (intro sv; refine (fun (hv : State.Canon sv) => ?_) ?_) | (intro sv) | (lift_lets))

theorem State.hkEntryRest_canon (s : State) (h_s : s.Canon) :
    (State.hkEntryRest s).Canon := by
  unfold State.hkEntryRest
  with_reducible repeat'
    (first | assumption | apply State.onHk_canon | (apply mk_canon; assumption))

theorem State.hkRoundRest_canon (s : State) (h_s : s.Canon) :
    (State.hkRoundRest s).Canon := by
  unfold State.hkRoundRest
  with_reducible repeat'
    (first | assumption | apply State.onHk_canon | (apply mk_canon; assumption) | (show State.Canon sv; unfold sv)
           | (intro sv; refine (fun (hv : State.Canon sv) => ?_) ?_) | (intro sv) | (lift_lets))

theorem State.hkRound_canon (s : State) (h_s : s.Canon) :
    (State.hkRound s).Canon := by
  unfold State.hkRound
  with_reducible repeat'
    (first | assumption | apply State.setFlag_canon | apply State.onHk_canon | apply State.hkPhase_canon
           | (apply mk_canon; assumption) | (show State.Canon sv; unfold sv)
           | (intro sv; refine (fun (hv : State.Canon sv) => ?_) ?_) | (intro sv) | (lift_lets))

theorem State.hkMissed_canon (s : State) (h_s : s.Canon) :
    (State.hkMissed s).Canon := by
  unfold State.hkMissed
  with_reducible repeat'
    (first | assumption | apply State.bump_canon | apply State.raiseIf_canon)

theorem State.hkTrigger_canon (s : State) (h_s : s.Canon) :
    (State.hkTrigger s).Canon := by
  unfold State.hkTrigger
  with_reducible repeat'
    (first | assumption | apply State.setFlag_canon | apply State.hkRound_canon | apply State.hkMissed_canon
           | refine ite_canon ?_ ?_)

theorem State.hkCalBegin_canon (s : State) (h_s : s.Canon) :
    (State.hkCalBegin s).Canon := by
  unfold State.hkCalBegin
  with_reducible repeat'
    (first | assumption | apply State.onHk_canon | (apply mk_canon; assumption) | (split))

theorem State.hkNext_canon (s : State) (h_s : s.Canon) :
    (State.hkNext s).Canon := by
  unfold State.hkNext
  with_reducible repeat'
    (first | assumption | apply State.clearFlag_canon | apply State.hkRound_canon | apply State.hkCalBegin_canon
           | refine ite_canon ?_ ?_)

theorem State.hkStopEnd_canon (s : State) (h_s : s.Canon) :
    (State.hkStopEnd s).Canon := by
  unfold State.hkStopEnd
  with_reducible repeat'
    (first | assumption | apply State.clearFlag_canon | apply State.onHk_canon | apply State.hkRoundRest_canon
           | apply State.hkNext_canon | (apply mk_canon; assumption) | (show State.Canon sv; unfold sv)
           | (intro sv; refine (fun (hv : State.Canon sv) => ?_) ?_) | (intro sv) | (lift_lets))

theorem State.hkValue_canon (s : State) (c : Int) (h_s : s.Canon) :
    (State.hkValue s c).2.Canon := by
  unfold State.hkValue
  dsimp only
  repeat' (first
    | (with_reducible assumption)
    | (with_reducible apply State.fresh_canon)
    | (with_reducible refine ite_canon ?_ ?_)
    | (with_reducible apply mk_canon; first | (with_reducible assumption) | (with_reducible apply State.fresh_canon) | (with_reducible refine ite_canon ?_ ?_))
    | (with_reducible show State.Canon sv; unfold sv)
    | (with_reducible show State.Canon sv.2; unfold sv)
    | (with_reducible show State.Canon sv.st; unfold sv)
    | (with_reducible show State.Canon sv.2.2; unfold sv)
    | (intro sv; refine (fun (hv : State.Canon sv) => ?_) ?_)
    | (intro sv; refine (fun (hv : State.Canon sv.2) => ?_) ?_)
    | (intro sv; refine (fun (hv : State.Canon sv.st) => ?_) ?_)
    | (intro sv; refine (fun (hv : State.Canon sv.2.2) => ?_) ?_)
    | (intro sv)
    | lift_lets
    | split
    | (dsimp -zeta only))

theorem State.hkThresholds_canon (s : State) (e : Nat) (v : Int) (h_s : s.Canon) :
    (State.hkThresholds s e v).Canon := by
  unfold State.hkThresholds
  with_reducible repeat'
    (first | assumption | apply State.put_canon | apply State.setFlag_canon | apply State.raiseInst_canon
           | refine ite_canon ?_ ?_ | (show State.Canon sv; unfold sv)
           | (intro sv; refine (fun (hv : State.Canon sv) => ?_) ?_) | (intro sv) | (lift_lets))

theorem State.hkDeliver_canon (s : State) (e : Nat) (v : Int) (h_s : s.Canon) :
    (State.hkDeliver s e v).Canon := by
  unfold State.hkDeliver
  with_reducible repeat'
    (first | assumption | apply State.tempSample_canon | apply State.onHk_canon | refine ite_canon ?_ ?_
           | (apply mk_canon; assumption) | (show State.Canon sv; unfold sv)
           | (intro sv; refine (fun (hv : State.Canon sv) => ?_) ?_) | (intro sv) | (lift_lets))

theorem State.hkLoad_canon (s : State) (e : Nat) (c : Int) (ovr broken fb good : Bool) (h_s : s.Canon) :
    (State.hkLoad s e c ovr broken fb good).Canon := by
  unfold State.hkLoad
  with_reducible repeat'
    (first | assumption | apply State.put_canon | apply State.raiseInst_canon | apply State.hkValue_canon
           | apply State.hkThresholds_canon | apply State.hkDeliver_canon | refine ite_canon ?_ ?_
           | (show State.Canon sv; unfold sv) | (intro sv; refine (fun (hv : State.Canon sv) => ?_) ?_) | (intro sv)
           | (lift_lets))

theorem State.hkLoadAll_canon (s : State) (h_s : s.Canon) :
    (State.hkLoadAll s).Canon := by
  unfold State.hkLoadAll
  with_reducible repeat'
    (first | assumption | apply State.onHk_canon | apply State.hkLoad_canon | refine foldl_canon (fun s a h => ?_) ?_
           | (apply mk_canon; assumption) | (show State.Canon sv; unfold sv)
           | (intro sv; refine (fun (hv : State.Canon sv) => ?_) ?_) | (intro sv) | (lift_lets))

theorem State.hkAdvance_canon (s : State) (e : Nat) (h_s : s.Canon) :
    (State.hkAdvance s e).Canon := by
  unfold State.hkAdvance
  with_reducible repeat'
    (first | assumption | apply State.clearFlag_canon | apply State.raise_canon | apply State.tempRound_canon
           | apply State.onHk_canon | apply State.hkPhase_canon | apply State.hkEntryRest_canon | apply State.hkRoundRest_canon
           | apply State.hkNext_canon | apply State.hkLoadAll_canon | refine ite_canon ?_ ?_ | (apply mk_canon; assumption)
           | (show State.Canon sv; unfold sv) | (intro sv; refine (fun (hv : State.Canon sv) => ?_) ?_) | (intro sv)
           | (lift_lets))

theorem State.hkLead_canon (s : State) (e : Nat) (c : Int) (h_s : s.Canon) :
    (State.hkLead s e c).Canon := by
  unfold State.hkLead
  with_reducible repeat'
    (first | assumption | apply State.put_canon | apply State.setFlag_canon)

theorem State.hkPend_canon (s : State) (e : Nat) (c : Int) (ovr broken fb good : Bool) (h_s : s.Canon) :
    (State.hkPend s e c ovr broken fb good).Canon := by
  unfold State.hkPend
  with_reducible repeat'
    (first | assumption | apply State.onHk_canon | (apply mk_canon; assumption))

theorem State.hkFinish_canon (s : State) (e : Nat) (codes : List Int) (ovr : Bool) (h_s : s.Canon) :
    (State.hkFinish s e codes ovr).Canon := by
  unfold State.hkFinish
  with_reducible repeat'
    (first | assumption | apply State.raiseInst_canon | apply State.onHk_canon | apply State.hkLead_canon
           | apply State.hkPend_canon | refine ite_canon ?_ ?_ | (apply mk_canon; assumption)
           | (show State.Canon sv; unfold sv) | (intro sv; refine (fun (hv : State.Canon sv) => ?_) ?_) | (intro sv)
           | (lift_lets))

theorem State.hkPhaseDone_canon (s : State) (raw : Int) (overload : Bool) (h_s : s.Canon) :
    (State.hkPhaseDone s raw overload).Canon := by
  unfold State.hkPhaseDone
  dsimp only
  repeat' (first
    | (with_reducible assumption)
    | (with_reducible apply State.onHk_canon)
    | (with_reducible apply State.hkLatch_canon)
    | (with_reducible apply State.hkPhase_canon)
    | (with_reducible apply State.hkStopEnd_canon)
    | (with_reducible apply State.hkAdvance_canon)
    | (with_reducible apply State.hkFinish_canon)
    | (with_reducible refine ite_canon ?_ ?_)
    | (with_reducible apply mk_canon; first | (with_reducible assumption) | (with_reducible apply State.onHk_canon) | (with_reducible apply State.hkLatch_canon) | (with_reducible apply State.hkPhase_canon) | (with_reducible apply State.hkStopEnd_canon) | (with_reducible apply State.hkAdvance_canon) | (with_reducible apply State.hkFinish_canon) | (with_reducible refine ite_canon ?_ ?_))
    | (with_reducible show State.Canon sv; unfold sv)
    | (with_reducible show State.Canon sv.2; unfold sv)
    | (with_reducible show State.Canon sv.st; unfold sv)
    | (with_reducible show State.Canon sv.2.2; unfold sv)
    | (intro sv; refine (fun (hv : State.Canon sv) => ?_) ?_)
    | (intro sv; refine (fun (hv : State.Canon sv.2) => ?_) ?_)
    | (intro sv; refine (fun (hv : State.Canon sv.st) => ?_) ?_)
    | (intro sv; refine (fun (hv : State.Canon sv.2.2) => ?_) ?_)
    | (intro sv)
    | lift_lets
    | split
    | (dsimp -zeta only))

theorem State.hkEnable_canon (s : State) (h_s : s.Canon) :
    (State.hkEnable s).Canon := by
  unfold State.hkEnable
  with_reducible repeat'
    (first | assumption | apply State.setFlag_canon | apply State.clearFlag_canon | apply State.raise_canon
           | apply State.onHk_canon | apply State.hkRound_canon | refine foldl_canon (fun s a h => ?_) ?_
           | refine ite_canon ?_ ?_ | (apply mk_canon; assumption) | (show State.Canon sv; unfold sv)
           | (intro sv; refine (fun (hv : State.Canon sv) => ?_) ?_) | (intro sv) | (lift_lets))

theorem State.hkDisable_canon (s : State) (h_s : s.Canon) :
    (State.hkDisable s).Canon := by
  unfold State.hkDisable
  with_reducible repeat'
    (first | assumption | apply State.clearFlag_canon | apply State.onHk_canon | (apply mk_canon; assumption)
           | (show State.Canon sv; unfold sv) | (intro sv; refine (fun (hv : State.Canon sv) => ?_) ?_) | (intro sv)
           | (lift_lets))

theorem State.hkSwTrigger_canon (s : State) (h_s : s.Canon) :
    (State.hkSwTrigger s).Canon := by
  unfold State.hkSwTrigger
  with_reducible repeat'
    (first | assumption | apply State.hkTrigger_canon | refine ite_canon ?_ ?_)

theorem State.hkTimer_canon (s : State) (h_s : s.Canon) :
    (State.hkTimer s).Canon := by
  unfold State.hkTimer
  with_reducible repeat'
    (first | assumption | apply State.hkTrigger_canon | refine ite_canon ?_ ?_)

theorem State.hkBreak_canon (s : State) (x : Nat) (h_s : s.Canon) :
    (State.hkBreak s x).Canon := by
  unfold State.hkBreak
  with_reducible repeat'
    (first | assumption | apply State.raise_canon | apply State.onHk_canon | refine ite_canon ?_ ?_
           | (apply mk_canon; assumption) | (show State.Canon sv; unfold sv)
           | (intro sv; refine (fun (hv : State.Canon sv) => ?_) ?_) | (intro sv) | (lift_lets))

theorem State.hkSync_canon (s : State) (h_s : s.Canon) :
    (State.hkSync s).Canon := by
  unfold State.hkSync
  with_reducible repeat'
    (first | assumption | apply State.onHk_canon | refine ite_canon ?_ ?_ | (apply mk_canon; assumption))

theorem State.hkCalStart_canon (s : State) (e kind fs : Nat) (h_s : s.Canon) :
    (State.hkCalStart s e kind fs).Canon := by
  unfold State.hkCalStart
  with_reducible repeat'
    (first | assumption | apply State.put_canon | apply State.setFlag_canon | apply State.raise_canon | apply State.onHk_canon
           | apply State.hkCalBegin_canon | refine ite_canon ?_ ?_ | (apply mk_canon; assumption)
           | (show State.Canon sv; unfold sv) | (intro sv; refine (fun (hv : State.Canon sv) => ?_) ?_) | (intro sv)
           | (lift_lets))

theorem State.hkCalDone_canon (s : State) (sum : Int) (h_s : s.Canon) :
    (State.hkCalDone s sum).Canon := by
  unfold State.hkCalDone
  dsimp only
  repeat' (first
    | (with_reducible assumption)
    | (with_reducible apply State.put_canon)
    | (with_reducible apply State.fresh_canon)
    | (with_reducible apply State.setFlag_canon)
    | (with_reducible apply State.clearFlag_canon)
    | (with_reducible apply State.raiseInst_canon)
    | (with_reducible apply State.onHk_canon)
    | (with_reducible apply State.hkRoundRest_canon)
    | (with_reducible apply State.hkNext_canon)
    | (with_reducible refine ite_canon ?_ ?_)
    | (with_reducible apply mk_canon; first | (with_reducible assumption) | (with_reducible apply State.put_canon) | (with_reducible apply State.fresh_canon) | (with_reducible apply State.setFlag_canon) | (with_reducible apply State.clearFlag_canon) | (with_reducible apply State.raiseInst_canon) | (with_reducible apply State.onHk_canon) | (with_reducible apply State.hkRoundRest_canon) | (with_reducible apply State.hkNext_canon) | (with_reducible refine ite_canon ?_ ?_))
    | (with_reducible show State.Canon sv; unfold sv)
    | (with_reducible show State.Canon sv.2; unfold sv)
    | (with_reducible show State.Canon sv.st; unfold sv)
    | (with_reducible show State.Canon sv.2.2; unfold sv)
    | (intro sv; refine (fun (hv : State.Canon sv) => ?_) ?_)
    | (intro sv; refine (fun (hv : State.Canon sv.2) => ?_) ?_)
    | (intro sv; refine (fun (hv : State.Canon sv.st) => ?_) ?_)
    | (intro sv; refine (fun (hv : State.Canon sv.2.2) => ?_) ?_)
    | (intro sv)
    | lift_lets
    | split
    | (dsimp -zeta only))

end Sys2Proof.Machine
end

