-- ==== Sys2Proof/Laws/Canon/Chimney.lean ====
section
/-! SUPPORT. Every operation of Machine/Chimney.lean keeps the canonical form of the tables and memories. -/

namespace Sys2Proof.Machine

theorem State.chmReport_canon (s : State) (e c : Nat) (h_s : s.Canon) :
    (State.chmReport s e c).Canon := by
  unfold State.chmReport
  with_reducible repeat'
    (first | assumption | apply State.put_canon | apply State.setFlag_canon | apply State.raise_canon | refine ite_canon ?_ ?_
           | (apply mk_canon; assumption) | (show State.Canon sv; unfold sv)
           | (intro sv; refine (fun (hv : State.Canon sv) => ?_) ?_) | (intro sv) | (lift_lets))

theorem State.chmPersist_canon (s : State) (e c : Nat) (h_s : s.Canon) :
    (State.chmPersist s e c).Canon := by
  unfold State.chmPersist
  with_reducible repeat'
    (first | assumption | apply State.chmReport_canon | refine ite_canon ?_ ?_ | (apply mk_canon; assumption)
           | (show State.Canon sv; unfold sv) | (intro sv; refine (fun (hv : State.Canon sv) => ?_) ?_) | (intro sv)
           | (lift_lets))

theorem State.chmDrive_canon (s : State) (d mv : Nat) (h_s : s.Canon) :
    (State.chmDrive s d mv).Canon := by
  unfold State.chmDrive
  with_reducible repeat'
    (first | assumption | apply State.put_canon | apply State.raiseInst_canon | apply State.chmReport_canon
           | refine foldl_canon (fun s a h => ?_) ?_ | refine ite_canon ?_ ?_ | (show State.Canon sv; unfold sv)
           | (intro sv; refine (fun (hv : State.Canon sv) => ?_) ?_) | (intro sv) | (lift_lets))

theorem State.chmLoss_canon (s : State) (e : Nat) (dc dg : Int) (h_s : s.Canon) :
    (State.chmLoss s e dc dg).Canon := by
  unfold State.chmLoss
  with_reducible repeat'
    (first | assumption | apply State.put_canon | apply State.fresh_canon | refine ite_canon ?_ ?_
           | (show State.Canon sv; unfold sv) | (intro sv; refine (fun (hv : State.Canon sv) => ?_) ?_) | (intro sv)
           | (lift_lets))

theorem State.chmMeasure_canon (s : State) (e : Nat) (c g : Int) (mv : Nat) (h_s : s.Canon) :
    (State.chmMeasure s e c g mv).Canon := by
  unfold State.chmMeasure
  with_reducible repeat'
    (first | assumption | apply State.put_canon | apply State.setFlag_canon | apply State.chmReport_canon
           | apply State.chmPersist_canon | apply State.chmDrive_canon | apply State.chmLoss_canon | refine ite_canon ?_ ?_
           | (apply mk_canon; assumption) | (show State.Canon sv; unfold sv)
           | (intro sv; refine (fun (hv : State.Canon sv) => ?_) ?_) | (intro sv) | (lift_lets))

theorem State.chmRefCapture_canon (s : State) (mask : Nat) (h_s : s.Canon) :
    (State.chmRefCapture s mask).Canon := by
  unfold State.chmRefCapture
  with_reducible repeat'
    (first | assumption | apply State.put_canon)

theorem State.chmStop_canon (s : State) (h_s : s.Canon) :
    (State.chmStop s).Canon := by
  unfold State.chmStop
  with_reducible repeat'
    (first | assumption | apply State.put_canon | apply State.clearFlag_canon | refine foldl_canon (fun s a h => ?_) ?_
           | (apply mk_canon; assumption) | (show State.Canon sv; unfold sv)
           | (intro sv; refine (fun (hv : State.Canon sv) => ?_) ?_) | (intro sv) | (lift_lets))

end Sys2Proof.Machine
end

