-- ==== Sys2Proof/Laws/Canon/Thermal.lean ====
section
/-! SUPPORT. Every operation of Machine/Thermal.lean keeps the canonical form of the tables and memories. -/

namespace Sys2Proof.Machine

theorem State.setSens_canon (s : State) (i : Nat) (x : ThmSens) (h_s : s.Canon) :
    (State.setSens s i x).Canon := by
  unfold State.setSens
  with_reducible repeat'
    (first | assumption | (apply mk_canon; assumption))

theorem State.sensShow_canon (s : State) (i : Nat) (t : Option Int) (h_s : s.Canon) :
    (State.sensShow s i t).Canon := by
  unfold State.sensShow
  with_reducible repeat'
    (first | assumption | apply State.put_canon | apply State.setFlag_canon | apply State.clearFlag_canon
           | (apply mk_canon; assumption) | (split))

theorem State.crossCheck_canon (s : State) (l : List (Option Int)) (marked : List Nat) (i : Nat) (h_s : s.Canon) :
    (State.crossCheck s l marked i).Canon := by
  unfold State.crossCheck
  with_reducible repeat'
    (first | assumption | apply State.setFlag_canon | apply State.clearFlag_canon | apply State.raise_canon
           | apply State.setSens_canon | refine ite_canon ?_ ?_ | (apply mk_canon; assumption)
           | (show State.Canon sv; unfold sv) | (intro sv; refine (fun (hv : State.Canon sv) => ?_) ?_) | (intro sv)
           | (lift_lets) | (split))

theorem State.snfDrop_canon (s : State) (j : Nat) (h_s : s.Canon) :
    (State.snfDrop s j).Canon := by
  unfold State.snfDrop
  with_reducible repeat'
    (first | assumption | (apply mk_canon; assumption))

theorem State.sensStates_canon (s : State) (l : List (Option Int)) (i : Nat) (h_s : s.Canon) :
    (State.sensStates s l i).Canon := by
  unfold State.sensStates
  with_reducible repeat'
    (first | assumption | apply State.put_canon | refine State.when_canon _ _ _ ?_ (fun s h => ?_) | apply State.setSens_canon
           | apply State.snfDrop_canon | refine ite_canon ?_ ?_ | (apply mk_canon; assumption)
           | (show State.Canon sv; unfold sv) | (intro sv; refine (fun (hv : State.Canon sv) => ?_) ?_) | (intro sv)
           | (lift_lets) | (split))

theorem State.classState_canon (s s0 : State) (k j : Nat) (h_s : s.Canon) (h_s0 : s0.Canon) :
    (State.classState s s0 k j).Canon := by
  unfold State.classState
  with_reducible repeat'
    (first | assumption | apply State.raise_canon | apply State.safetyFault_canon | refine ite_canon ?_ ?_
           | (apply mk_canon; assumption) | (split))

theorem State.classShow_canon (s : State) (k : Nat) (h_s : s.Canon) :
    (State.classShow s k).Canon := by
  unfold State.classShow
  with_reducible repeat'
    (first | assumption | apply State.put_canon)

theorem State.memThrottle_canon (s : State) (h_s : s.Canon) :
    (State.memThrottle s).Canon := by
  unfold State.memThrottle
  with_reducible repeat'
    (first | assumption | apply State.put_canon | apply State.clearFlag_canon | apply State.freqReq_canon
           | refine ite_canon ?_ ?_
           | (apply mk_canon; first | assumption | apply State.put_canon | apply State.clearFlag_canon | apply State.freqReq_canon)
           | (show State.Canon sv; unfold sv) | (show State.Canon sv.2; unfold sv) | (show State.Canon sv.st; unfold sv)
           | (show State.Canon sv.2.2; unfold sv) | (intro sv; refine (fun (hv : State.Canon sv) => ?_) ?_)
           | (intro sv; refine (fun (hv : State.Canon sv.2) => ?_) ?_)
           | (intro sv; refine (fun (hv : State.Canon sv.st) => ?_) ?_)
           | (intro sv; refine (fun (hv : State.Canon sv.2.2) => ?_) ?_) | (intro sv) | (lift_lets) | (split)
           | (dsimp -zeta only))

theorem State.hubMedian_canon (s : State) (l : List (Option Int)) (h_s : s.Canon) :
    (State.hubMedian s l).Canon := by
  unfold State.hubMedian
  with_reducible repeat'
    (first | assumption | refine ite_canon ?_ ?_ | (apply mk_canon; assumption) | (show State.Canon sv; unfold sv)
           | (intro sv; refine (fun (hv : State.Canon sv) => ?_) ?_) | (intro sv) | (lift_lets))

theorem State.thermalRound_canon (s : State) (die : List (BitVec 16)) (h_s : s.Canon) :
    (State.thermalRound s die).Canon := by
  unfold State.thermalRound
  with_reducible repeat'
    (first | assumption | apply State.onHk_canon | apply State.sensShow_canon | apply State.crossCheck_canon
           | apply State.sensStates_canon | apply State.classState_canon | apply State.classShow_canon
           | apply State.memThrottle_canon | apply State.hubMedian_canon | refine foldl_canon (fun s a h => ?_) ?_
           | (apply mk_canon; assumption) | (show State.Canon sv; unfold sv)
           | (intro sv; refine (fun (hv : State.Canon sv) => ?_) ?_) | (intro sv) | (lift_lets))

theorem State.classStale_canon (s : State) (k : Nat) (h_s : s.Canon) :
    (State.classStale s k).Canon := by
  unfold State.classStale
  with_reducible repeat'
    (first | assumption | apply State.safetyFault_canon | refine ite_canon ?_ ?_)

theorem State.nvmWindow_canon (s : State) (v : Option Int) (h_s : s.Canon) :
    (State.nvmWindow s v).Canon := by
  unfold State.nvmWindow
  with_reducible repeat'
    (first | assumption | apply State.setFlag_canon | apply State.clearFlag_canon | apply State.raise_canon
           | refine ite_canon ?_ ?_ | (apply mk_canon; assumption) | (show State.Canon sv; unfold sv)
           | (intro sv; refine (fun (hv : State.Canon sv) => ?_) ?_) | (intro sv) | (lift_lets) | (split))

theorem State.snfShutdown_canon (s : State) (j : Nat) (v : Option Int) (h_s : s.Canon) :
    (State.snfShutdown s j v).Canon := by
  unfold State.snfShutdown
  with_reducible repeat'
    (first | assumption | apply State.raise_canon | apply State.safetyFault_canon | apply State.snfDrop_canon
           | refine ite_canon ?_ ?_ | (apply mk_canon; assumption) | (show State.Canon sv; unfold sv)
           | (intro sv; refine (fun (hv : State.Canon sv) => ?_) ?_) | (intro sv) | (lift_lets) | (split))

theorem State.snufferTemp_canon (s : State) (a b : Int) (h_s : s.Canon) :
    (State.snufferTemp s a b).Canon := by
  unfold State.snufferTemp
  with_reducible repeat'
    (first | assumption | apply State.nvmWindow_canon | apply State.snfShutdown_canon | refine ite_canon ?_ ?_
           | (show State.Canon sv; unfold sv) | (intro sv; refine (fun (hv : State.Canon sv) => ?_) ?_) | (intro sv)
           | (lift_lets))

end Sys2Proof.Machine
end

