-- ==== Sys2Proof/Laws/Canon/Ctl.lean ====
section
/-! SUPPORT. Every operation of Machine/Ctl.lean keeps the canonical form of the tables and memories. -/

namespace Sys2Proof.Machine

theorem State.setLoop_canon (s : State) (n : Nat) (x : LoopSt) (h_s : s.Canon) :
    (State.setLoop s n x).Canon := by
  unfold State.setLoop
  with_reducible repeat'
    (first | assumption | (apply mk_canon; assumption))

theorem State.putF_canon (s : State) (f : FRef) (x : Flt) (h_s : s.Canon) :
    (State.putF s f x).Canon := by
  unfold State.putF
  with_reducible repeat'
    (first | assumption | apply State.put_canon | apply State.fresh_canon | refine ite_canon ?_ ?_
           | (show State.Canon sv; unfold sv) | (intro sv; refine (fun (hv : State.Canon sv) => ?_) ?_) | (intro sv)
           | (lift_lets))

theorem State.loopDrive_canon (s : State) (n : Nat) (u : Flt) (h_s : s.Canon) :
    (State.loopDrive s n u).Canon := by
  unfold State.loopDrive
  with_reducible repeat'
    (first | assumption | apply State.emit_canon | apply State.fresh_canon | apply State.setLoop_canon | refine ite_canon ?_ ?_
           | (apply mk_canon; assumption) | (show State.Canon sv; unfold sv)
           | (intro sv; refine (fun (hv : State.Canon sv) => ?_) ?_) | (intro sv) | (lift_lets) | (split))

theorem State.loopApply_canon (s : State) (n : Nat) (h_s : s.Canon) :
    (State.loopApply s n).Canon := by
  unfold State.loopApply
  with_reducible repeat'
    (first | assumption | apply State.clearFlag_canon | apply State.setLoop_canon | (apply mk_canon; assumption)
           | (show State.Canon sv; unfold sv) | (intro sv; refine (fun (hv : State.Canon sv) => ?_) ?_) | (intro sv)
           | (lift_lets) | (split))

theorem State.loopValid_canon (s : State) (n : Nat) (pv : Flt) (h_s : s.Canon) :
    (State.loopValid s n pv).Canon := by
  unfold State.loopValid
  with_reducible repeat'
    (first | assumption | apply State.put_canon | apply State.setFlag_canon | apply State.raiseInst_canon
           | apply State.raiseIf_canon | apply State.setLoop_canon | apply State.putF_canon | apply State.loopDrive_canon
           | refine ite_canon ?_ ?_ | (apply mk_canon; assumption) | (show State.Canon sv; unfold sv)
           | (intro sv; refine (fun (hv : State.Canon sv) => ?_) ?_) | (intro sv) | (lift_lets))

theorem State.loopMissing_canon (s : State) (n : Nat) (was : Bool) (h_s : s.Canon) :
    (State.loopMissing s n was).Canon := by
  unfold State.loopMissing
  with_reducible repeat'
    (first | assumption | apply State.setFlag_canon | apply State.raiseIf_canon | apply State.setLoop_canon
           | apply State.putF_canon | apply State.loopDrive_canon | (apply mk_canon; assumption)
           | (show State.Canon sv; unfold sv) | (intro sv; refine (fun (hv : State.Canon sv) => ?_) ?_) | (intro sv)
           | (lift_lets))

theorem State.loopFresh_canon (s : State) (n : Nat) (was : Bool) (pv : Flt) (h_s : s.Canon) :
    (State.loopFresh s n was pv).Canon := by
  unfold State.loopFresh
  with_reducible repeat'
    (first | assumption | apply State.clearFlag_canon | apply State.setLoop_canon | apply State.loopValid_canon
           | refine ite_canon ?_ ?_ | (apply mk_canon; assumption))

theorem State.loopTake_canon (s : State) (n : Nat) (mirror : Nat) (h_s : s.Canon) :
    (State.loopTake s n mirror).Canon := by
  unfold State.loopTake
  with_reducible repeat'
    (first | assumption | apply State.loopMissing_canon | apply State.loopFresh_canon | (apply mk_canon; assumption) | (split))

theorem State.loopSample_canon (s0 : State) (n : Nat) (mirror : Nat) (h_s0 : s0.Canon) :
    (State.loopSample s0 n mirror).Canon := by
  unfold State.loopSample
  with_reducible repeat'
    (first | assumption | apply State.put_canon | apply State.loopApply_canon | apply State.loopTake_canon
           | refine ite_canon ?_ ?_)

theorem State.loopWith_canon (s : State) (n o : Nat) (h_s : s.Canon) :
    (State.loopWith s n o).Canon := by
  unfold State.loopWith
  with_reducible repeat'
    (first | assumption | apply State.put_canon | apply State.setLoop_canon | (apply mk_canon; assumption))

theorem State.loopEnable_canon (s : State) (n : Nat) (on : Bool) (h_s : s.Canon) :
    (State.loopEnable s n on).Canon := by
  unfold State.loopEnable
  with_reducible repeat'
    (first | assumption | apply State.setFlag_canon | apply State.clearFlag_canon | apply State.raiseInst_canon
           | apply State.claim_canon | apply State.unclaim_canon | apply State.setLoop_canon | refine ite_canon ?_ ?_
           | (apply mk_canon; assumption) | (show State.Canon sv; unfold sv)
           | (intro sv; refine (fun (hv : State.Canon sv) => ?_) ?_) | (intro sv) | (lift_lets) | (split))

theorem State.loopAuto_canon (s : State) (n : Nat) (on : Bool) (h_s : s.Canon) :
    (State.loopAuto s n on).Canon := by
  unfold State.loopAuto
  with_reducible repeat'
    (first | assumption | apply State.put_canon | apply State.setLoop_canon | refine ite_canon ?_ ?_
           | (apply mk_canon; assumption) | (show State.Canon sv; unfold sv)
           | (intro sv; refine (fun (hv : State.Canon sv) => ?_) ?_) | (intro sv) | (lift_lets))

theorem State.loopCommit_canon (s : State) (n : Nat) (h_s : s.Canon) :
    (State.loopCommit s n).Canon := by
  unfold State.loopCommit
  with_reducible repeat'
    (first | assumption | apply State.setFlag_canon | apply State.raiseInst_canon | apply State.setLoop_canon
           | refine ite_canon ?_ ?_ | (apply mk_canon; assumption))

theorem State.loopSaturated_canon (s : State) (n : Nat) (h_s : s.Canon) :
    (State.loopSaturated s n).Canon := by
  unfold State.loopSaturated
  with_reducible repeat'
    (first | assumption | apply State.raiseIf_canon | (show State.Canon sv; unfold sv)
           | (intro sv; refine (fun (hv : State.Canon sv) => ?_) ?_) | (intro sv) | (lift_lets))

theorem State.loopDeviation_canon (s : State) (n : Nat) (h_s : s.Canon) :
    (State.loopDeviation s n).Canon := by
  unfold State.loopDeviation
  with_reducible repeat'
    (first | assumption | apply State.raiseIf_canon | (show State.Canon sv; unfold sv)
           | (intro sv; refine (fun (hv : State.Canon sv) => ?_) ?_) | (intro sv) | (lift_lets))

end Sys2Proof.Machine
end

