-- ==== Sys2Proof/Laws/Canon/Twin.lean ====
section
/-! SUPPORT. Every operation of Machine/Twin.lean keeps the canonical form of the tables and memories. -/

namespace Sys2Proof.Machine

theorem State.onTwn_canon (s : State) (g : TwnSt → TwnSt) (h_s : s.Canon) :
    (State.onTwn s g).Canon := by
  unfold State.onTwn
  with_reducible repeat'
    (first | assumption | (apply mk_canon; assumption))

theorem State.onTwin_canon (s : State) (f : State → State) (h_s : s.Canon) (h_f : ∀ s : State, s.Canon → (f s).Canon) :
    (State.onTwin s f).Canon := by
  unfold State.onTwin
  with_reducible repeat'
    (first | assumption | apply h_f | refine ite_canon ?_ ?_)

theorem State.twinRead_canon (s : State) (x : TwinRx) (h_s : s.Canon) :
    (State.twinRead s x).Canon := by
  unfold State.twinRead
  with_reducible repeat'
    (first | assumption | apply State.fresh_canon | apply State.w256_canon | (apply mk_canon; assumption)
           | (show State.Canon sv; unfold sv) | (intro sv; refine (fun (hv : State.Canon sv) => ?_) ?_) | (intro sv)
           | (lift_lets) | (split))

theorem State.twinFail_canon (s : State) (l : Nat) (h_s : s.Canon) :
    (State.twinFail s l).Canon := by
  unfold State.twinFail
  with_reducible repeat'
    (first | assumption | apply State.twinRetrain_canon | apply State.onTwn_canon | refine ite_canon ?_ ?_
           | (apply mk_canon; assumption) | (show State.Canon sv; unfold sv)
           | (intro sv; refine (fun (hv : State.Canon sv) => ?_) ?_) | (intro sv) | (lift_lets))

theorem State.twinGet_canon (s : State) (x : TwinRx) (g : State → State) (h_s : s.Canon) (h_g : ∀ s : State, s.Canon → (g s).Canon) :
    (State.twinGet s x g).Canon := by
  unfold State.twinGet
  with_reducible repeat'
    (first | assumption | apply h_g | apply State.onTwn_canon | refine State.onTwin_canon _ _ ?_ (fun s h => ?_)
           | apply State.twinRead_canon | apply State.twinFail_canon | (apply mk_canon; assumption) | (split))

theorem State.heartbeatSend_canon (s : State) (h_s : s.Canon) :
    (State.heartbeatSend s).Canon := by
  unfold State.heartbeatSend
  with_reducible repeat'
    (first | assumption | apply State.emit_canon | refine ite_canon ?_ ?_)

theorem State.hbShow_canon (s : State) (h : Heartbeat) (h_s : s.Canon) :
    (State.hbShow s h).Canon := by
  unfold State.hbShow
  with_reducible repeat'
    (first | assumption | apply State.put_canon | apply State.onTwn_canon | (apply mk_canon; assumption)
           | (show State.Canon sv; unfold sv) | (intro sv; refine (fun (hv : State.Canon sv) => ?_) ?_) | (intro sv)
           | (lift_lets) | (split))

theorem State.hbLead_canon (s : State) (was now : Bool) (h_s : s.Canon) :
    (State.hbLead s was now).Canon := by
  unfold State.hbLead
  with_reducible repeat'
    (first | assumption | apply State.put_canon | apply State.onTwn_canon | refine ite_canon ?_ ?_
           | (apply mk_canon; assumption) | (show State.Canon sv; unfold sv)
           | (intro sv; refine (fun (hv : State.Canon sv) => ?_) ?_) | (intro sv) | (lift_lets))

theorem State.hbPairSwap_canon (s : State) (old : Option Heartbeat) (h : Heartbeat) (h_s : s.Canon) :
    (State.hbPairSwap s old h).Canon := by
  unfold State.hbPairSwap
  with_reducible repeat'
    (first | assumption | apply State.onTwn_canon | (apply mk_canon; assumption) | (show State.Canon sv; unfold sv)
           | (intro sv; refine (fun (hv : State.Canon sv) => ?_) ?_) | (intro sv) | (lift_lets))

theorem State.hbStart_canon (s : State) (old : Option Heartbeat) (h : Heartbeat) (h_s : s.Canon) :
    (State.hbStart s old h).Canon := by
  unfold State.hbStart
  with_reducible repeat'
    (first | assumption | apply State.startsDue_canon | apply State.onTwn_canon | refine ite_canon ?_ ?_
           | (apply mk_canon; assumption) | (show State.Canon sv; unfold sv)
           | (intro sv; refine (fun (hv : State.Canon sv) => ?_) ?_) | (intro sv) | (lift_lets))

theorem State.hbCommit_canon (s : State) (h_s : s.Canon) :
    (State.hbCommit s).Canon := by
  unfold State.hbCommit
  with_reducible repeat'
    (first | assumption | apply State.put_canon | apply State.ztIdleSwap_canon | refine ite_canon ?_ ?_)

theorem State.hbRejoin_canon (s : State) (h_s : s.Canon) :
    (State.hbRejoin s).Canon := by
  unfold State.hbRejoin
  with_reducible repeat'
    (first | assumption | apply State.put_canon | apply State.raise_canon | apply State.autoMode_canon | refine ite_canon ?_ ?_)

theorem State.heartbeatReceive_canon (s : State) (h : Heartbeat) (h_s : s.Canon) :
    (State.heartbeatReceive s h).Canon := by
  unfold State.heartbeatReceive
  with_reducible repeat'
    (first | assumption | apply State.setFlag_canon | apply State.onTwn_canon | apply State.hbShow_canon
           | apply State.hbLead_canon | apply State.hbPairSwap_canon | apply State.hbStart_canon | apply State.hbCommit_canon
           | apply State.hbRejoin_canon | refine ite_canon ?_ ?_ | (apply mk_canon; assumption)
           | (show State.Canon sv; unfold sv) | (intro sv; refine (fun (hv : State.Canon sv) => ?_) ?_) | (intro sv)
           | (lift_lets))

theorem State.heartbeatTimeout_canon (s : State) (arrived : Bool) (h_s : s.Canon) :
    (State.heartbeatTimeout s arrived).Canon := by
  unfold State.heartbeatTimeout
  with_reducible repeat'
    (first | assumption | apply State.put_canon | apply State.setFlag_canon | apply State.clearFlag_canon
           | apply State.raise_canon | apply State.autoMode_canon | apply State.onTwn_canon | refine ite_canon ?_ ?_
           | (apply mk_canon; assumption) | (show State.Canon sv; unfold sv)
           | (intro sv; refine (fun (hv : State.Canon sv) => ?_) ?_) | (intro sv) | (lift_lets))

theorem State.twinTimeSend_canon (s : State) (h_s : s.Canon) :
    (State.twinTimeSend s).Canon := by
  unfold State.twinTimeSend
  with_reducible repeat'
    (first | assumption | apply State.emit_canon | apply State.twinTime_canon | refine ite_canon ?_ ?_)

theorem State.twinTime_canon (s : State) (m : TwinStamps) (peerFollows : Bool) (h_s : s.Canon) :
    (State.twinTime s m peerFollows).Canon := by
  unfold State.twinTime
  with_reducible repeat'
    (first | assumption | apply State.servoOffset_canon | apply State.onTwn_canon | refine ite_canon ?_ ?_
           | (apply mk_canon; assumption) | (show State.Canon sv; unfold sv)
           | (intro sv; refine (fun (hv : State.Canon sv) => ?_) ?_) | (intro sv) | (lift_lets) | (split))

theorem State.mirrorStateSend_canon (s : State) (speed amplitude : Word32) (h_s : s.Canon) :
    (State.mirrorStateSend s speed amplitude).Canon := by
  unfold State.mirrorStateSend
  with_reducible repeat'
    (first | assumption | apply State.emit_canon | apply State.mirrorState_canon | refine foldl_canon (fun s a h => ?_) ?_
           | refine ite_canon ?_ ?_ | (show State.Canon sv; unfold sv)
           | (intro sv; refine (fun (hv : State.Canon sv) => ?_) ?_) | (intro sv) | (lift_lets))

theorem State.warmTake_canon (s : State) (n : Nat) (h_s : s.Canon) :
    (State.warmTake s n).Canon := by
  unfold State.warmTake
  with_reducible repeat'
    (first | assumption | apply State.put_canon | (apply mk_canon; assumption) | (split))

theorem State.mirrorState_canon (s : State) (n : Nat) (m : LoopMsg) (h_s : s.Canon) :
    (State.mirrorState s n m).Canon := by
  unfold State.mirrorState
  with_reducible repeat'
    (first | assumption | apply State.onTwn_canon | apply State.warmTake_canon | refine ite_canon ?_ ?_
           | (apply mk_canon; assumption) | (show State.Canon sv; unfold sv)
           | (intro sv; refine (fun (hv : State.Canon sv) => ?_) ?_) | (intro sv) | (lift_lets))

theorem State.ownTake_canon (s : State) (h_s : s.Canon) :
    (State.ownTake s).Canon := by
  unfold State.ownTake
  with_reducible repeat'
    (first | assumption | apply State.setFlag_canon | apply State.raise_canon | apply State.setLoop_canon
           | apply State.onTwn_canon | apply State.warmTake_canon | refine foldl_canon (fun s a h => ?_) ?_
           | (apply mk_canon; assumption) | (show State.Canon sv; unfold sv)
           | (intro sv; refine (fun (hv : State.Canon sv) => ?_) ?_) | (intro sv) | (lift_lets))

theorem State.ownDrop_canon (s : State) (low : Bool) (h_s : s.Canon) :
    (State.ownDrop s low).Canon := by
  unfold State.ownDrop
  with_reducible repeat'
    (first | assumption | apply State.put_canon | apply State.clearFlag_canon | apply State.raise_canon
           | apply State.onTwn_canon | apply State.handoff_canon | (apply mk_canon; assumption)
           | (show State.Canon sv; unfold sv) | (intro sv; refine (fun (hv : State.Canon sv) => ?_) ?_) | (intro sv)
           | (lift_lets))

theorem State.handoff_canon (s : State) (time : Nat) (h_s : s.Canon) :
    (State.handoff s time).Canon := by
  unfold State.handoff
  with_reducible repeat'
    (first | assumption | apply State.emit_canon | apply State.setFlag_canon | apply State.onTwn_canon | refine ite_canon ?_ ?_
           | (apply mk_canon; assumption) | (show State.Canon sv; unfold sv)
           | (intro sv; refine (fun (hv : State.Canon sv) => ?_) ?_) | (intro sv) | (lift_lets))

theorem State.handoffRun_canon (s : State) (h_s : s.Canon) :
    (State.handoffRun s).Canon := by
  unfold State.handoffRun
  with_reducible repeat'
    (first | assumption | apply State.ownTake_canon | apply State.ownDrop_canon | refine ite_canon ?_ ?_)

theorem State.mirrorRelease_canon (s : State) (h_s : s.Canon) :
    (State.mirrorRelease s).Canon := by
  unfold State.mirrorRelease
  with_reducible repeat'
    (first | assumption | apply State.ownDrop_canon | refine ite_canon ?_ ?_)

theorem State.takeoverWait_canon (s : State) (h_s : s.Canon) :
    (State.takeoverWait s).Canon := by
  unfold State.takeoverWait
  with_reducible repeat'
    (first | assumption | apply State.clearFlag_canon | apply State.onTwn_canon | refine ite_canon ?_ ?_
           | (apply mk_canon; assumption))

theorem State.takeoverEnd_canon (s : State) (high : Bool) (h_s : s.Canon) :
    (State.takeoverEnd s high).Canon := by
  unfold State.takeoverEnd
  with_reducible repeat'
    (first | assumption | apply State.setFlag_canon | apply State.onTwn_canon | apply State.ownTake_canon
           | refine ite_canon ?_ ?_ | (apply mk_canon; assumption))

theorem State.overlapMessage_canon (s : State) (chan bank az : Nat) (range : Option Nat) (h_s : s.Canon) :
    (State.overlapMessage s chan bank az range).Canon := by
  unfold State.overlapMessage
  with_reducible repeat'
    (first | assumption | apply State.onTwn_canon | (apply mk_canon; assumption) | (show State.Canon sv; unfold sv)
           | (intro sv; refine (fun (hv : State.Canon sv) => ?_) ?_) | (intro sv) | (lift_lets) | (split))

theorem State.bulkMessage_canon (s : State) (addr : Nat) (data : Flit) (h_s : s.Canon) :
    (State.bulkMessage s addr data).Canon := by
  unfold State.bulkMessage
  with_reducible repeat'
    (first | assumption | refine State.withTag_canon _ _ _ ?_ (fun s h => ?_) | apply State.devWrite_canon
           | apply State.onTwn_canon | refine ite_canon ?_ ?_ | (apply mk_canon; assumption) | (show State.Canon sv; unfold sv)
           | (intro sv; refine (fun (hv : State.Canon sv) => ?_) ?_) | (intro sv) | (lift_lets))

theorem State.bulkSend_canon (s : State) (h_s : s.Canon) :
    (State.bulkSend s).Canon := by
  unfold State.bulkSend
  with_reducible repeat'
    (first | assumption | apply State.emit_canon | refine foldl_canon (fun s a h => ?_) ?_ | refine ite_canon ?_ ?_)

theorem State.epochMismatch_canon (s : State) (h_s : s.Canon) :
    (State.epochMismatch s).Canon := by
  unfold State.epochMismatch
  with_reducible repeat'
    (first | assumption | apply State.raise_canon | apply State.onTwn_canon | refine State.onTwin_canon _ _ ?_ (fun s h => ?_)
           | apply State.bulkSend_canon | refine ite_canon ?_ ?_ | (apply mk_canon; assumption) | (split))

theorem State.twinLaneUp_canon (s : State) (l : Nat) (h_s : s.Canon) :
    (State.twinLaneUp s l).Canon := by
  unfold State.twinLaneUp
  with_reducible repeat'
    (first | assumption | apply State.put_canon | apply State.setFlag_canon | apply State.raise_canon
           | apply State.raiseIf_canon | apply State.onTwn_canon | refine ite_canon ?_ ?_ | (apply mk_canon; assumption)
           | (show State.Canon sv; unfold sv) | (intro sv; refine (fun (hv : State.Canon sv) => ?_) ?_) | (intro sv)
           | (lift_lets))

end Sys2Proof.Machine
end

