-- ==== Sys2Proof/Laws/Canon/Bus.lean ====
section
/-! SUPPORT. Every operation of Machine/Bus.lean keeps the canonical form of the tables and memories. -/

namespace Sys2Proof.Machine

theorem State.wr_canon (s : State) (a : Nat) (v m : BitVec 64) (h_s : s.Canon) :
    (State.wr s a v m).Canon := by
  unfold State.wr
  with_reducible repeat'
    (first | assumption | apply State.setReg_canon | (apply mk_canon; assumption) | (split))

theorem State.hitKeep_canon (s : State) (a : Nat) (hit : BitVec 64) (h_s : s.Canon) :
    (State.hitKeep s a hit).Canon := by
  unfold State.hitKeep
  with_reducible repeat'
    (first | assumption | apply State.setReg_canon | refine ite_canon ?_ ?_ | (apply mk_canon; assumption)
           | (show State.Canon sv; unfold sv) | (intro sv; refine (fun (hv : State.Canon sv) => ?_) ?_) | (intro sv)
           | (lift_lets) | (split))

theorem State.wrBut_canon (s : State) (a : Nat) (w : Wrote) (l : List FRef) (h_s : s.Canon) :
    (State.wrBut s a w l).Canon := by
  unfold State.wrBut
  with_reducible repeat'
    (first | assumption | apply State.wr_canon | refine foldl_canon (fun s a h => ?_) ?_)

theorem State.coin_canon (s : State) (h_s : s.Canon) :
    (State.coin s).2.Canon := by
  unfold State.coin
  with_reducible repeat'
    (first | assumption | apply State.fresh_canon | (show State.Canon sv; unfold sv)
           | (intro sv; refine (fun (hv : State.Canon sv) => ?_) ?_) | (intro sv) | (lift_lets))

theorem State.wrTagStat_canon (s : State) (a : Nat) (w : Wrote) (c : Nat) (h_s : s.Canon) :
    (State.wrTagStat s a w c).Canon := by
  unfold State.wrTagStat
  with_reducible repeat'
    (first | assumption | refine State.when_canon _ _ _ ?_ (fun s h => ?_) | apply State.tagPeakClear_canon
           | apply State.wr_canon)

theorem State.wrClaim_canon (s : State) (a : Nat) (w : Wrote) (i : Nat) (h_s : s.Canon) :
    (State.wrClaim s a w i).Canon := by
  unfold State.wrClaim
  with_reducible repeat'
    (first | assumption | refine State.when_canon _ _ _ ?_ (fun s h => ?_) | apply State.claimReserve_canon
           | apply State.claimRelease_canon | apply State.wrBut_canon | (show State.Canon sv; unfold sv)
           | (intro sv; refine (fun (hv : State.Canon sv) => ?_) ?_) | (intro sv) | (lift_lets))

theorem State.wrHub_canon (s : State) (a : Nat) (w : Wrote) (h_s : s.Canon) :
    (State.wrHub s a w).Canon := by
  unfold State.wrHub
  with_reducible repeat'
    (first | assumption | refine State.when_canon _ _ _ ?_ (fun s h => ?_) | apply State.modeRequest_canon
           | apply State.bootRetry_canon | apply State.svnCommit_canon | apply State.w256Clear_canon
           | apply State.tagPoolWrite_canon | apply State.hoStart_canon | apply State.sliceStart_canon | apply State.wr_canon
           | apply State.wrTagStat_canon | apply State.wrClaim_canon | refine ite_canon ?_ ?_ | (apply mk_canon; assumption)
           | (show State.Canon sv; unfold sv) | (intro sv; refine (fun (hv : State.Canon sv) => ?_) ?_) | (intro sv)
           | (lift_lets) | (split))

theorem State.wrTime_canon (s : State) (p : Port) (a : Nat) (w : Wrote) (h_s : s.Canon) :
    (State.wrTime s p a w).Canon := by
  unfold State.wrTime
  with_reducible repeat'
    (first | assumption | apply State.clearFlag_canon | refine State.when_canon _ _ _ ?_ (fun s h => ?_)
           | apply State.statsStartBy_canon | apply State.statsAbort_canon | apply State.timeStepWrite_canon
           | apply State.wr_canon | apply State.wrBut_canon | refine ite_canon ?_ ?_ | (apply mk_canon; assumption)
           | (show State.Canon sv; unfold sv) | (intro sv; refine (fun (hv : State.Canon sv) => ?_) ?_) | (intro sv)
           | (lift_lets) | (split))

theorem State.wrFrameCtl_canon (s : State) (a : Nat) (w : Wrote) (h_s : s.Canon) :
    (State.wrFrameCtl s a w).Canon := by
  unfold State.wrFrameCtl
  with_reducible repeat'
    (first | assumption | refine State.when_canon _ _ _ ?_ (fun s h => ?_) | apply State.runSet_canon
           | apply State.runClear_canon | apply State.swapReq_canon | apply State.syncPinSelect_canon | apply State.wrBut_canon
           | refine ite_canon ?_ ?_ | (show State.Canon sv; unfold sv)
           | (intro sv; refine (fun (hv : State.Canon sv) => ?_) ?_) | (intro sv) | (lift_lets))

theorem State.wrDrvFault_canon (s : State) (mask : Nat) (h_s : s.Canon) :
    (State.wrDrvFault s mask).Canon := by
  unfold State.wrDrvFault
  with_reducible repeat'
    (first | assumption | apply State.driverClear_canon | apply State.coin_canon | refine foldl_canon (fun s a h => ?_) ?_
           | refine ite_canon ?_ ?_ | (show State.Canon sv; unfold sv)
           | (intro sv; refine (fun (hv : State.Canon sv) => ?_) ?_) | (intro sv) | (lift_lets))

theorem State.wrFire_canon (s : State) (a : Nat) (w : Wrote) (h_s : s.Canon) :
    (State.wrFire s a w).Canon := by
  unfold State.wrFire
  with_reducible repeat'
    (first | assumption | refine State.when_canon _ _ _ ?_ (fun s h => ?_) | apply State.raise_canon | apply State.rekey_canon
           | apply State.shadeLock_canon | apply State.budgetWrite_canon | apply State.diagClear_canon
           | apply State.bankUnreferenced_canon | apply State.wr_canon | apply State.wrBut_canon | apply State.coin_canon
           | apply State.wrFrameCtl_canon | apply State.wrDrvFault_canon | refine ite_canon ?_ ?_
           | (apply mk_canon; assumption) | (show State.Canon sv; unfold sv)
           | (intro sv; refine (fun (hv : State.Canon sv) => ?_) ?_) | (intro sv) | (lift_lets) | (split))

theorem State.wrZoom_canon (s : State) (a t : Nat) (w : Wrote) (h_s : s.Canon) :
    (State.wrZoom s a t w).Canon := by
  unfold State.wrZoom
  with_reducible repeat'
    (first | assumption | apply State.setTile_canon | apply State.wr_canon | (apply mk_canon; assumption)
           | (show State.Canon sv; unfold sv) | (intro sv; refine (fun (hv : State.Canon sv) => ?_) ?_) | (intro sv)
           | (lift_lets))

theorem State.wrTile_canon (s : State) (a : Nat) (w : Wrote) (h_s : s.Canon) :
    (State.wrTile s a w).Canon := by
  unfold State.wrTile
  with_reducible repeat'
    (first | assumption | refine State.when_canon _ _ _ ?_ (fun s h => ?_) | apply State.chEnable_canon
           | apply State.thrWrite_canon | apply State.tdcFailWrite_canon | apply State.spareWrite_canon
           | apply State.gangEnable_canon | apply State.refClear_canon | apply State.walkCopy_canon
           | apply State.loadPeakClr_canon | apply State.wr_canon | apply State.wrZoom_canon | refine ite_canon ?_ ?_
           | (apply mk_canon; assumption) | (show State.Canon sv; unfold sv)
           | (intro sv; refine (fun (hv : State.Canon sv) => ?_) ?_) | (intro sv) | (lift_lets) | (split))

theorem State.wrHist_canon (s : State) (a : Nat) (w : Wrote) (h_s : s.Canon) :
    (State.wrHist s a w).Canon := by
  unfold State.wrHist
  with_reducible repeat'
    (first | assumption | refine State.when_canon _ _ _ ?_ (fun s h => ?_) | apply State.raise_canon
           | apply State.tapLevel_canon | apply State.tapSelect_canon | apply State.tapEnable_canon
           | apply State.tapFlush_canon | apply State.tapTail_canon | apply State.echoPeakClr_canon | apply State.wr_canon
           | apply State.coin_canon | refine ite_canon ?_ ?_ | (apply mk_canon; assumption) | (show State.Canon sv; unfold sv)
           | (intro sv; refine (fun (hv : State.Canon sv) => ?_) ?_) | (intro sv) | (lift_lets) | (split))

theorem State.wrRing_canon (s : State) (a : Nat) (w : Wrote) (h_s : s.Canon) :
    (State.wrRing s a w).Canon := by
  unfold State.wrRing
  with_reducible repeat'
    (first | assumption | refine State.when_canon _ _ _ ?_ (fun s h => ?_) | apply State.ringCfgWrite_canon
           | apply State.sqFlush_canon | apply State.prQuota_canon | apply State.prFlush_canon | apply State.wr_canon
           | apply State.coin_canon | refine ite_canon ?_ ?_ | (apply mk_canon; assumption) | (show State.Canon sv; unfold sv)
           | (intro sv; refine (fun (hv : State.Canon sv) => ?_) ?_) | (intro sv) | (lift_lets) | (split))

theorem State.wrMem_canon (s : State) (a : Nat) (w : Wrote) (h_s : s.Canon) :
    (State.wrMem s a w).Canon := by
  unfold State.wrMem
  with_reducible repeat'
    (first | assumption | apply State.put_canon | apply State.fresh_canon | refine State.when_canon _ _ _ ?_ (fun s h => ?_)
           | apply State.memInit_canon | apply State.memQuotaWrite_canon | apply State.memPortWrite_canon
           | apply State.freqReq_canon | apply State.retireStart_canon | apply State.memErrClear_canon | apply State.wr_canon
           | apply State.wrBut_canon | refine ite_canon ?_ ?_ | (apply mk_canon; assumption) | (show State.Canon sv; unfold sv)
           | (intro sv; refine (fun (hv : State.Canon sv) => ?_) ?_) | (intro sv) | (lift_lets) | (split))

theorem State.wrEthCfg_canon (s : State) (a p : Nat) (w : Wrote) (h_s : s.Canon) :
    (State.wrEthCfg s a p w).Canon := by
  unfold State.wrEthCfg
  with_reducible repeat'
    (first | assumption | refine State.when_canon _ _ _ ?_ (fun s h => ?_) | apply State.ethModeWrite_canon
           | apply State.ethRetrainWrite_canon | apply State.wrBut_canon | apply State.coin_canon | refine ite_canon ?_ ?_
           | (show State.Canon sv; unfold sv) | (intro sv; refine (fun (hv : State.Canon sv) => ?_) ?_) | (intro sv)
           | (lift_lets))

theorem State.wrEnable_canon (s : State) (f : FRef) (on : Bool) (rise fall : State → State) (h_s : s.Canon) (h_rise : ∀ s : State, s.Canon → (rise s).Canon) (h_fall : ∀ s : State, s.Canon → (fall s).Canon) :
    (State.wrEnable s f on rise fall).Canon := by
  unfold State.wrEnable
  with_reducible repeat'
    (first | assumption | apply h_rise | apply h_fall | refine ite_canon ?_ ?_)

theorem State.qslRxOff_canon (s : State) (c : Nat) (h_s : s.Canon) :
    (State.qslRxOff s c).Canon := by
  unfold State.qslRxOff
  with_reducible repeat'
    (first | assumption | apply State.put_canon | apply State.clearFlag_canon | apply State.grantsCheck_canon)

theorem State.wrExport_canon (s : State) (a x : Nat) (w : Wrote) (h_s : s.Canon) :
    (State.wrExport s a x w).Canon := by
  unfold State.wrExport
  with_reducible repeat'
    (first | assumption | apply State.clearFlag_canon | apply State.exportEnable_canon | apply State.wrBut_canon
           | refine ite_canon ?_ ?_ | (show State.Canon sv; unfold sv)
           | (intro sv; refine (fun (hv : State.Canon sv) => ?_) ?_) | (intro sv) | (lift_lets))

theorem State.wrEth_canon (s : State) (a : Nat) (w : Wrote) (h_s : s.Canon) :
    (State.wrEth s a w).Canon := by
  unfold State.wrEth
  dsimp only
  repeat' (first
    | (with_reducible assumption)
    | (with_reducible apply State.clearFlag_canon)
    | (with_reducible refine State.when_canon _ _ _ ?_ (fun s h => ?_))
    | (with_reducible apply State.raiseInst_canon)
    | (with_reducible apply State.creditSync_canon)
    | (with_reducible apply State.gateChange_canon)
    | (with_reducible apply State.ptpSettle_canon)
    | (with_reducible apply State.qslTxEnable_canon)
    | (with_reducible apply State.qslCommit_canon)
    | (with_reducible apply State.qslRxEnable_canon)
    | (with_reducible apply State.qslRestart_canon)
    | (with_reducible apply State.wr_canon)
    | (with_reducible apply State.wrBut_canon)
    | (with_reducible apply State.wrEthCfg_canon)
    | (with_reducible refine State.wrEnable_canon _ _ _ _ _ ?_ (fun s h => ?_) (fun s h => ?_))
    | (with_reducible apply State.qslRxOff_canon)
    | (with_reducible apply State.wrExport_canon)
    | (with_reducible refine ite_canon ?_ ?_)
    | (with_reducible apply mk_canon; first | (with_reducible assumption) | (with_reducible apply State.clearFlag_canon) | (with_reducible refine State.when_canon _ _ _ ?_ (fun s h => ?_)) | (with_reducible apply State.raiseInst_canon) | (with_reducible apply State.creditSync_canon) | (with_reducible apply State.gateChange_canon) | (with_reducible apply State.ptpSettle_canon) | (with_reducible apply State.qslTxEnable_canon) | (with_reducible apply State.qslCommit_canon) | (with_reducible apply State.qslRxEnable_canon) | (with_reducible apply State.qslRestart_canon) | (with_reducible apply State.wr_canon) | (with_reducible apply State.wrBut_canon) | (with_reducible apply State.wrEthCfg_canon) | (with_reducible refine State.wrEnable_canon _ _ _ _ _ ?_ (fun s h => ?_) (fun s h => ?_)) | (with_reducible apply State.qslRxOff_canon) | (with_reducible apply State.wrExport_canon) | (with_reducible refine ite_canon ?_ ?_))
    | (with_reducible show State.Canon sv; unfold sv)
    | (with_reducible show State.Canon sv.2; unfold sv)
    | (with_reducible show State.Canon sv.st; unfold sv)
    | (with_reducible show State.Canon sv.2.2; unfold sv)
    | (intro sv; refine (fun (hv : State.Canon sv) => ?_) ?_)
    | (intro sv; refine (fun (hv : State.Canon sv.2) => ?_) ?_)
    | (intro sv; refine (fun (hv : State.Canon sv.st) => ?_) ?_)
    | (intro sv; refine (fun (hv : State.Canon sv.2.2) => ?_) ?_)
    | (intro sv)
    | lift_lets
    | split
    | (dsimp -zeta only))

theorem State.wrTwn_canon (s : State) (a : Nat) (w : Wrote) (h_s : s.Canon) :
    (State.wrTwn s a w).Canon := by
  unfold State.wrTwn
  with_reducible repeat'
    (first | assumption | apply State.fresh_canon | refine State.when_canon _ _ _ ?_ (fun s h => ?_)
           | apply State.twinRetrainReq_canon | apply State.handoff_canon | apply State.wr_canon | apply State.wrBut_canon
           | apply State.coin_canon | refine foldl_canon (fun s a h => ?_) ?_ | refine ite_canon ?_ ?_
           | (show State.Canon sv; unfold sv) | (intro sv; refine (fun (hv : State.Canon sv) => ?_) ?_) | (intro sv)
           | (lift_lets))

theorem State.wrSaf_canon (s : State) (a : Nat) (w : Wrote) (h_s : s.Canon) :
    (State.wrSaf s a w).Canon := by
  unfold State.wrSaf
  with_reducible repeat'
    (first | assumption | refine State.when_canon _ _ _ ?_ (fun s h => ?_) | apply State.ztPrepare_canon
           | apply State.ztCommit_canon | apply State.ztAbort_canon | apply State.wr_canon | refine ite_canon ?_ ?_
           | (show State.Canon sv; unfold sv) | (intro sv; refine (fun (hv : State.Canon sv) => ?_) ?_) | (intro sv)
           | (lift_lets))

theorem State.wrHk_canon (s : State) (a : Nat) (w : Wrote) (h_s : s.Canon) :
    (State.wrHk s a w).Canon := by
  unfold State.wrHk
  with_reducible repeat'
    (first | assumption | refine State.when_canon _ _ _ ?_ (fun s h => ?_) | apply State.hkLatchDue_canon
           | apply State.hkEnable_canon | apply State.hkDisable_canon | apply State.hkSwTrigger_canon
           | apply State.hkCalStart_canon | apply State.chmStop_canon | apply State.wr_canon | apply State.wrBut_canon
           | refine State.wrEnable_canon _ _ _ _ _ ?_ (fun s h => ?_) (fun s h => ?_) | refine ite_canon ?_ ?_
           | (show State.Canon sv; unfold sv) | (intro sv; refine (fun (hv : State.Canon sv) => ?_) ?_) | (intro sv)
           | (lift_lets))

theorem State.loopOut_canon (s : State) (n o : Nat) (h_s : s.Canon) :
    (State.loopOut s n o).Canon := by
  unfold State.loopOut
  with_reducible repeat'
    (first | assumption | apply State.put_canon | apply State.claim_canon | apply State.unclaim_canon
           | apply State.setLoop_canon | refine ite_canon ?_ ?_ | (apply mk_canon; assumption)
           | (show State.Canon sv; unfold sv) | (intro sv; refine (fun (hv : State.Canon sv) => ?_) ?_) | (intro sv)
           | (lift_lets) | (split))

theorem State.loopFields_canon (s : State) (a n : Nat) (w : Wrote) (h_s : s.Canon) :
    (State.loopFields s a n w).Canon := by
  unfold State.loopFields
  with_reducible repeat'
    (first | assumption | apply State.raiseInst_canon | apply State.loopWith_canon | apply State.wrBut_canon
           | apply State.loopOut_canon | refine ite_canon ?_ ?_ | (show State.Canon sv; unfold sv)
           | (intro sv; refine (fun (hv : State.Canon sv) => ?_) ?_) | (intro sv) | (lift_lets))

theorem State.wrLoop_canon (s : State) (a n : Nat) (w : Wrote) (h_s : s.Canon) :
    (State.wrLoop s a n w).Canon := by
  unfold State.wrLoop
  with_reducible repeat'
    (first | assumption | refine State.when_canon _ _ _ ?_ (fun s h => ?_) | apply State.loopEnable_canon
           | apply State.loopAuto_canon | apply State.loopCommit_canon
           | refine State.wrEnable_canon _ _ _ _ _ ?_ (fun s h => ?_) (fun s h => ?_) | apply State.loopFields_canon
           | (show State.Canon sv; unfold sv) | (intro sv; refine (fun (hv : State.Canon sv) => ?_) ?_) | (intro sv)
           | (lift_lets))

theorem State.wrThm_canon (s : State) (a : Nat) (w : Wrote) (h_s : s.Canon) :
    (State.wrThm s a w).Canon := by
  unfold State.wrThm
  with_reducible repeat'
    (first | assumption | apply State.wr_canon | apply State.wrLoop_canon | (apply mk_canon; assumption) | (split))

theorem State.wrCal_canon (s : State) (a : Nat) (w : Wrote) (h_s : s.Canon) :
    (State.wrCal s a w).Canon := by
  unfold State.wrCal
  with_reducible repeat'
    (first | assumption | refine State.when_canon _ _ _ ?_ (fun s h => ?_) | apply State.indApply_canon
           | apply State.indClear_canon | apply State.nvmWrite_canon | apply State.nvmNone_canon | apply State.nvmRead_canon
           | apply State.calGo_canon | apply State.wr_canon | apply State.wrBut_canon | refine ite_canon ?_ ?_
           | (show State.Canon sv; unfold sv) | (intro sv; refine (fun (hv : State.Canon sv) => ?_) ?_) | (intro sv)
           | (lift_lets))

theorem State.wrReg_canon (s : State) (p : Port) (a : Nat) (v m : BitVec 64) (h_s : s.Canon) :
    (State.wrReg s p a v m).Canon := by
  unfold State.wrReg
  with_reducible repeat'
    (first | assumption | apply State.wrHub_canon | apply State.wrTime_canon | apply State.wrFire_canon
           | apply State.wrTile_canon | apply State.wrHist_canon | apply State.wrRing_canon | apply State.wrMem_canon
           | apply State.wrEth_canon | apply State.wrTwn_canon | apply State.wrSaf_canon | apply State.wrHk_canon
           | apply State.wrThm_canon | apply State.wrCal_canon | refine ite_canon ?_ ?_ | (show State.Canon sv; unfold sv)
           | (intro sv; refine (fun (hv : State.Canon sv) => ?_) ?_) | (intro sv) | (lift_lets))

theorem State.setPort_canon (s : State) (p : Port) (x : PortSt) (h_s : s.Canon) :
    (State.setPort s p x).Canon := by
  unfold State.setPort
  with_reducible repeat'
    (first | assumption | (apply mk_canon; assumption))

theorem State.write32_canon (s : State) (f : RegWr) (p : Port) (a v : Nat) (h_s : s.Canon) (h_f : ∀ (s : State) (p : Port) (a : Nat) (v m : BitVec 64), s.Canon → (f s p a v m).Canon) :
    (State.write32 s f p a v).Canon := by
  unfold State.write32
  with_reducible repeat'
    (first | assumption | apply h_f | apply State.isoAccess_canon | apply State.setPort_canon | refine ite_canon ?_ ?_
           | (apply mk_canon; assumption) | (show State.Canon sv; unfold sv)
           | (intro sv; refine (fun (hv : State.Canon sv) => ?_) ?_) | (intro sv) | (lift_lets))

theorem State.write64_canon (s : State) (f : RegWr) (p : Port) (a v : Nat) (h_s : s.Canon) (h_f : ∀ (s : State) (p : Port) (a : Nat) (v m : BitVec 64), s.Canon → (f s p a v m).Canon) :
    (State.write64 s f p a v).Canon := by
  unfold State.write64
  with_reducible repeat'
    (first | assumption | apply h_f | apply State.isoAccess_canon | apply State.write32_canon | refine ite_canon ?_ ?_)

theorem State.liveShow_canon (s : State) (a : Nat) (h_s : s.Canon) :
    (State.liveShow s a).Canon := by
  unfold State.liveShow
  with_reducible repeat'
    (first | assumption | apply State.loadShow_canon | apply State.indDiagnose_canon | apply State.echoLoadShow_canon
           | refine ite_canon ?_ ?_ | (apply mk_canon; assumption) | (split))

theorem State.regTake_canon (s : State) (x0 : Port) (a : Nat) (hit : BitVec 64) (h_s : s.Canon) :
    (State.regTake s x0 a hit).st.Canon := by
  unfold State.regTake
  with_reducible repeat'
    (first | assumption | apply State.setReg_canon | apply State.fifoPop_canon | apply State.liveShow_canon
           | refine ite_canon ?_ ?_ | (apply mk_canon; assumption) | (show State.Canon sv; unfold sv)
           | (intro sv; refine (fun (hv : State.Canon sv) => ?_) ?_) | (intro sv) | (lift_lets) | (split))

theorem State.read32_canon (s : State) (g : RegRd) (p : Port) (a : Nat) (hit : BitVec 64) (h_s : s.Canon) (h_g : ∀ (s : State) (p : Port) (a : Nat) (v : BitVec 64), s.Canon → (g s p a v).st.Canon) :
    (State.read32 s g p a hit).st.Canon := by
  unfold State.read32
  with_reducible repeat'
    (first | assumption | apply h_g | apply State.isoAccess_canon | apply State.setPort_canon | refine ite_canon ?_ ?_
           | (apply mk_canon; first | assumption | apply State.isoAccess_canon | apply State.setPort_canon)
           | (show State.Canon sv; unfold sv) | (show State.Canon sv.2; unfold sv) | (show State.Canon sv.st; unfold sv)
           | (show State.Canon sv.2.2; unfold sv) | (intro sv; refine (fun (hv : State.Canon sv) => ?_) ?_)
           | (intro sv; refine (fun (hv : State.Canon sv.2) => ?_) ?_)
           | (intro sv; refine (fun (hv : State.Canon sv.st) => ?_) ?_)
           | (intro sv; refine (fun (hv : State.Canon sv.2.2) => ?_) ?_) | (intro sv) | (lift_lets) | (split)
           | (dsimp -zeta only))

theorem State.read64_canon (s : State) (g : RegRd) (p : Port) (a : Nat) (hit : BitVec 64) (h_s : s.Canon) (h_g : ∀ (s : State) (p : Port) (a : Nat) (v : BitVec 64), s.Canon → (g s p a v).st.Canon) :
    (State.read64 s g p a hit).st.Canon := by
  unfold State.read64
  with_reducible repeat'
    (first | assumption | apply h_g | apply State.isoAccess_canon | apply State.read32_canon | refine ite_canon ?_ ?_
           | (show State.Canon sv; unfold sv) | (show State.Canon sv.2; unfold sv) | (show State.Canon sv.st; unfold sv)
           | (show State.Canon sv.2.2; unfold sv) | (intro sv; refine (fun (hv : State.Canon sv) => ?_) ?_)
           | (intro sv; refine (fun (hv : State.Canon sv.2) => ?_) ?_)
           | (intro sv; refine (fun (hv : State.Canon sv.st) => ?_) ?_)
           | (intro sv; refine (fun (hv : State.Canon sv.2.2) => ?_) ?_) | (intro sv) | (lift_lets) | (split)
           | (dsimp -zeta only))

end Sys2Proof.Machine
end

