-- ==== Sys2Proof/Laws/Canon/Dport.lean ====
section
/-! SUPPORT. Every operation of Machine/Dport.lean keeps the canonical form of the tables and memories. -/

namespace Sys2Proof.Machine

theorem State.fireRead_canon (s : State) (mp tag a n : Nat) (e : Ecc) (h_s : s.Canon) :
    (State.fireRead s mp tag a n e).st.Canon := by
  unfold State.fireRead
  with_reducible repeat'
    (first | assumption | apply State.w256Read_canon | (apply mk_canon; assumption) | (show State.Canon sv; unfold sv)
           | (intro sv; refine (fun (hv : State.Canon sv) => ?_) ?_) | (intro sv) | (lift_lets) | (split))

theorem State.zoneRead_canon (s : State) (mp tag a n : Nat) (e : Ecc) (h_s : s.Canon) :
    (State.zoneRead s mp tag a n e).st.Canon := by
  unfold State.zoneRead
  with_reducible repeat'
    (first | assumption | apply State.w256Read_canon | (apply mk_canon; assumption) | (show State.Canon sv; unfold sv)
           | (intro sv; refine (fun (hv : State.Canon sv) => ?_) ?_) | (intro sv) | (lift_lets) | (split))

theorem State.fireWrite_canon (s : State) (a : Nat) (l : List Byte) (h_s : s.Canon) :
    (State.fireWrite s a l).Canon := by
  unfold State.fireWrite
  with_reducible repeat'
    (first | assumption | apply State.raise_canon | apply State.w256Write_canon | refine ite_canon ?_ ?_
           | (apply mk_canon; assumption) | (refine mk_mem_canon ?_ ?_ ?_ ?_ ?_ ?_ ?_; first | assumption)
           | (exact (rfl : Memory.wf [] = true)) | refine memStore_wf ?_ | refine filter_wf ?_ | refine State.Canon.fireTab ?_
           | refine State.Canon.ztStage ?_ | refine State.Canon.devMem ?_ | refine State.Canon.hostMem ?_
           | refine State.Canon.nor ?_ | refine State.Canon.calStage ?_ | (show State.Canon sv; unfold sv)
           | (intro sv; refine (fun (hv : State.Canon sv) => ?_) ?_) | (intro sv) | (lift_lets))

theorem State.intRead_canon (s : State) (p : Port) (mp tag d n : Nat) (e : Ecc) (h_s : s.Canon) :
    (State.intRead s p mp tag d n e).st.Canon := by
  unfold State.intRead
  dsimp only
  repeat' (first
    | (with_reducible assumption)
    | (with_reducible apply State.devRead_canon)
    | (with_reducible apply State.regTake_canon)
    | (with_reducible apply State.read32_canon)
    | (with_reducible apply State.read64_canon)
    | (with_reducible apply State.fireRead_canon)
    | (with_reducible apply State.zoneRead_canon)
    | (with_reducible refine ite_canon ?_ ?_)
    | (with_reducible apply mk_canon; first | (with_reducible assumption) | (with_reducible apply State.devRead_canon) | (with_reducible apply State.regTake_canon) | (with_reducible apply State.read32_canon) | (with_reducible apply State.read64_canon) | (with_reducible apply State.fireRead_canon) | (with_reducible apply State.zoneRead_canon) | (with_reducible refine ite_canon ?_ ?_))
    | (with_reducible show State.Canon sv; unfold sv)
    | (with_reducible show State.Canon sv.2; unfold sv)
    | (with_reducible show State.Canon sv.st; unfold sv)
    | (with_reducible show State.Canon sv.2.2; unfold sv)
    | (intro sv; refine (fun (hv : State.Canon sv) => ?_) ?_)
    | (intro sv; refine (fun (hv : State.Canon sv.2) => ?_) ?_)
    | (intro sv; refine (fun (hv : State.Canon sv.st) => ?_) ?_)
    | (intro sv; refine (fun (hv : State.Canon sv.2.2) => ?_) ?_)
    | (intro sv)
    | lift_lets
    | split
    | (dsimp -zeta only))

theorem State.intWrite_canon (s : State) (p : Port) (mp tag d : Nat) (l : List Byte) (h_s : s.Canon) :
    (State.intWrite s p mp tag d l).2.Canon := by
  unfold State.intWrite
  dsimp only
  repeat' (first
    | (with_reducible assumption)
    | (with_reducible apply State.w256Write_canon)
    | (with_reducible apply State.devStore_canon)
    | (with_reducible apply State.wrReg_canon)
    | (with_reducible apply State.write32_canon)
    | (with_reducible apply State.write64_canon)
    | (with_reducible apply State.fireWrite_canon)
    | (with_reducible refine ite_canon ?_ ?_)
    | (with_reducible apply mk_canon; first | (with_reducible assumption) | (with_reducible apply State.w256Write_canon) | (with_reducible apply State.devStore_canon) | (with_reducible apply State.wrReg_canon) | (with_reducible apply State.write32_canon) | (with_reducible apply State.write64_canon) | (with_reducible apply State.fireWrite_canon) | (with_reducible refine ite_canon ?_ ?_))
    | (with_reducible refine mk_mem_canon ?_ ?_ ?_ ?_ ?_ ?_ ?_; (first | (with_reducible assumption) | (with_reducible apply State.w256Write_canon) | (with_reducible apply State.devStore_canon) | (with_reducible apply State.wrReg_canon) | (with_reducible apply State.write32_canon) | (with_reducible apply State.write64_canon) | (with_reducible apply State.fireWrite_canon) | (with_reducible refine ite_canon ?_ ?_)))
    | (exact (rfl : Memory.wf [] = true))
    | (with_reducible refine memStore_wf ?_)
    | (with_reducible refine filter_wf ?_)
    | (with_reducible refine State.Canon.fireTab ?_)
    | (with_reducible refine State.Canon.ztStage ?_)
    | (with_reducible refine State.Canon.devMem ?_)
    | (with_reducible refine State.Canon.hostMem ?_)
    | (with_reducible refine State.Canon.nor ?_)
    | (with_reducible refine State.Canon.calStage ?_)
    | (with_reducible show State.Canon sv; unfold sv)
    | (with_reducible show State.Canon sv.2; unfold sv)
    | (with_reducible show State.Canon sv.st; unfold sv)
    | (with_reducible show State.Canon sv.2.2; unfold sv)
    | (intro sv; refine (fun (hv : State.Canon sv) => ?_) ?_)
    | (intro sv; refine (fun (hv : State.Canon sv.2) => ?_) ?_)
    | (intro sv; refine (fun (hv : State.Canon sv.st) => ?_) ?_)
    | (intro sv; refine (fun (hv : State.Canon sv.2.2) => ?_) ?_)
    | (intro sv)
    | lift_lets
    | split
    | (dsimp -zeta only))

theorem State.intStore_canon (s : State) (p : Port) (mp tag : Nat) (y0 : Nat) (y1 : Nat) (y2 : List Byte) (y3 : Nat) (h_s : s.Canon) :
    (State.intStore s p mp tag y0 y1 y2 y3).2.Canon := by
  induction y0 generalizing s p mp tag y1 y2 y3 with
  | zero => unfold State.intStore; exact h_s
  | succ n ih =>
    cases y2 with
    | nil => unfold State.intStore; exact h_s
    | cons b l => unfold State.intStore; exact ih _ _ _ _ _ _ _ (State.intWrite_canon _ _ _ _ _ _ h_s)

theorem State.intFetch_canon (s : State) (p : Port) (mp tag : Nat) (y0 : Nat) (y1 : Nat) (y2 : Nat) (y3 : Ecc) (h_s : s.Canon) :
    (State.intFetch s p mp tag y0 y1 y2 y3).2.2.Canon := by
  induction y0 generalizing s p mp tag y1 y2 y3 with
  | zero => 
    unfold State.intFetch
    repeat' (first
    | (with_reducible apply ih)
    | (with_reducible assumption)
    | (with_reducible apply State.intRead_canon)
    | (with_reducible refine ite_canon ?_ ?_)
    | (with_reducible apply mk_canon; first | (with_reducible assumption) | (with_reducible apply State.intRead_canon) | (with_reducible refine ite_canon ?_ ?_))
    | (with_reducible show State.Canon sv; unfold sv)
    | (with_reducible show State.Canon sv.2; unfold sv)
    | (with_reducible show State.Canon sv.st; unfold sv)
    | (with_reducible show State.Canon sv.2.2; unfold sv)
    | (intro sv; refine (fun (hv : State.Canon sv) => ?_) ?_)
    | (intro sv; refine (fun (hv : State.Canon sv.2) => ?_) ?_)
    | (intro sv; refine (fun (hv : State.Canon sv.st) => ?_) ?_)
    | (intro sv; refine (fun (hv : State.Canon sv.2.2) => ?_) ?_)
    | (intro sv)
    | lift_lets
    | split
    | (dsimp -zeta only))
  | succ n ih =>
    unfold State.intFetch
    repeat' (first
    | (with_reducible apply ih)
    | (with_reducible assumption)
    | (with_reducible apply State.intRead_canon)
    | (with_reducible refine ite_canon ?_ ?_)
    | (with_reducible apply mk_canon; first | (with_reducible assumption) | (with_reducible apply State.intRead_canon) | (with_reducible refine ite_canon ?_ ?_))
    | (with_reducible show State.Canon sv; unfold sv)
    | (with_reducible show State.Canon sv.2; unfold sv)
    | (with_reducible show State.Canon sv.st; unfold sv)
    | (with_reducible show State.Canon sv.2.2; unfold sv)
    | (intro sv; refine (fun (hv : State.Canon sv) => ?_) ?_)
    | (intro sv; refine (fun (hv : State.Canon sv.2) => ?_) ?_)
    | (intro sv; refine (fun (hv : State.Canon sv.st) => ?_) ?_)
    | (intro sv; refine (fun (hv : State.Canon sv.2.2) => ?_) ?_)
    | (intro sv)
    | lift_lets
    | split
    | (dsimp -zeta only))

theorem State.setDportAddr_canon (s : State) (a : Nat) (h_s : s.Canon) :
    (State.setDportAddr s a).Canon := by
  unfold State.setDportAddr
  with_reducible repeat'
    (first | assumption | apply State.put_canon | (apply mk_canon; assumption) | (show State.Canon sv; unfold sv)
           | (intro sv; refine (fun (hv : State.Canon sv) => ?_) ?_) | (intro sv) | (lift_lets))

theorem State.dportErr_canon (s : State) (code : Nat) (h_s : s.Canon) :
    (State.dportErr s code).Canon := by
  unfold State.dportErr
  with_reducible repeat'
    (first | assumption | apply State.put_canon | apply State.setFlag_canon | apply State.raise_canon | refine ite_canon ?_ ?_)

theorem State.timeoutAt_canon (s : State) (d : Nat) (h_s : s.Canon) :
    (State.timeoutAt s d).Canon := by
  unfold State.timeoutAt
  with_reducible repeat'
    (first | assumption | apply State.raiseInst_canon | refine ite_canon ?_ ?_)

theorem State.dportLate_canon (s : State) (d : Nat) (h_s : s.Canon) :
    (State.dportLate s d).Canon := by
  unfold State.dportLate
  with_reducible repeat'
    (first | assumption | apply State.dportErr_canon | apply State.timeoutAt_canon)

theorem State.dportRead_canon (s : State) (p : Port) (e : Ecc) (late : Bool) (h_s : s.Canon) :
    (State.dportRead s p e late).st.Canon := by
  unfold State.dportRead
  with_reducible repeat'
    (first | assumption | apply State.tagWait_canon | apply State.tagPulse_canon | apply State.intRead_canon
           | apply State.setDportAddr_canon | apply State.dportErr_canon | apply State.dportLate_canon | refine ite_canon ?_ ?_
           | (show State.Canon sv; unfold sv) | (show State.Canon sv.2; unfold sv) | (show State.Canon sv.st; unfold sv)
           | (show State.Canon sv.2.2; unfold sv) | (intro sv; refine (fun (hv : State.Canon sv) => ?_) ?_)
           | (intro sv; refine (fun (hv : State.Canon sv.2) => ?_) ?_)
           | (intro sv; refine (fun (hv : State.Canon sv.st) => ?_) ?_)
           | (intro sv; refine (fun (hv : State.Canon sv.2.2) => ?_) ?_) | (intro sv) | (lift_lets) | (split)
           | (dsimp -zeta only))

theorem State.dportWrite_canon (s : State) (p : Port) (l : List Byte) (late : Bool) (h_s : s.Canon) :
    (State.dportWrite s p l late).Canon := by
  unfold State.dportWrite
  with_reducible repeat'
    (first | assumption | refine State.withTag_canon _ _ _ ?_ (fun s h => ?_) | apply State.coin_canon
           | apply State.intWrite_canon | apply State.setDportAddr_canon | apply State.dportErr_canon
           | apply State.dportLate_canon | refine ite_canon ?_ ?_ | (show State.Canon sv; unfold sv)
           | (intro sv; refine (fun (hv : State.Canon sv) => ?_) ?_) | (intro sv) | (lift_lets))

theorem State.apertureWrite_canon (s : State) (p : Port) (o : Nat) (l : List Byte) (late : Bool) (h_s : s.Canon) :
    (State.apertureWrite s p o l late).Canon := by
  unfold State.apertureWrite
  with_reducible repeat'
    (first | assumption | apply State.put_canon | refine State.withTag_canon _ _ _ ?_ (fun s h => ?_) | apply State.coin_canon
           | apply State.intStore_canon | apply State.setDportAddr_canon | apply State.dportErr_canon
           | apply State.dportLate_canon | refine ite_canon ?_ ?_
           | (apply mk_canon; first | assumption | apply State.put_canon | refine State.withTag_canon _ _ _ ?_ (fun s h => ?_) | apply State.coin_canon | apply State.intStore_canon | apply State.setDportAddr_canon | apply State.dportErr_canon | apply State.dportLate_canon)
           | (show State.Canon sv; unfold sv) | (show State.Canon sv.2; unfold sv) | (show State.Canon sv.st; unfold sv)
           | (show State.Canon sv.2.2; unfold sv) | (intro sv; refine (fun (hv : State.Canon sv) => ?_) ?_)
           | (intro sv; refine (fun (hv : State.Canon sv.2) => ?_) ?_)
           | (intro sv; refine (fun (hv : State.Canon sv.st) => ?_) ?_)
           | (intro sv; refine (fun (hv : State.Canon sv.2.2) => ?_) ?_) | (intro sv) | (lift_lets) | (split)
           | (dsimp -zeta only))

theorem State.apertureRead_canon (s : State) (p : Port) (o n : Nat) (e : Ecc) (late : Bool) (h_s : s.Canon) :
    (State.apertureRead s p o n e late).st.Canon := by
  unfold State.apertureRead
  repeat' (first
    | (with_reducible assumption)
    | (with_reducible apply State.tagWait_canon)
    | (with_reducible apply State.tagPulse_canon)
    | (with_reducible apply State.intFetch_canon)
    | (with_reducible apply State.dportErr_canon)
    | (with_reducible apply State.dportLate_canon)
    | (with_reducible refine ite_canon ?_ ?_)
    | (with_reducible apply mk_canon; first | (with_reducible assumption) | (with_reducible apply State.tagWait_canon) | (with_reducible apply State.tagPulse_canon) | (with_reducible apply State.intFetch_canon) | (with_reducible apply State.dportErr_canon) | (with_reducible apply State.dportLate_canon) | (with_reducible refine ite_canon ?_ ?_))
    | (with_reducible show State.Canon sv; unfold sv)
    | (with_reducible show State.Canon sv.2; unfold sv)
    | (with_reducible show State.Canon sv.st; unfold sv)
    | (with_reducible show State.Canon sv.2.2; unfold sv)
    | (intro sv; refine (fun (hv : State.Canon sv) => ?_) ?_)
    | (intro sv; refine (fun (hv : State.Canon sv.2) => ?_) ?_)
    | (intro sv; refine (fun (hv : State.Canon sv.st) => ?_) ?_)
    | (intro sv; refine (fun (hv : State.Canon sv.2.2) => ?_) ?_)
    | (intro sv)
    | lift_lets
    | split
    | (dsimp -zeta only))

theorem State.wrAny_canon (late : Bool) (s : State) (p : Port) (a : Nat) (v m : BitVec 64) (h_s : s.Canon) :
    (State.wrAny late s p a v m).Canon := by
  unfold State.wrAny
  with_reducible repeat'
    (first | assumption | apply State.wr_canon | apply State.wrReg_canon | apply State.setDportAddr_canon
           | apply State.dportWrite_canon | refine ite_canon ?_ ?_)

theorem State.rdAny_canon (e : Ecc) (late : Bool) (s : State) (p : Port) (a : Nat) (hit : BitVec 64) (h_s : s.Canon) :
    (State.rdAny e late s p a hit).st.Canon := by
  unfold State.rdAny
  with_reducible repeat'
    (first | assumption | apply State.regTake_canon | apply State.dportRead_canon | refine ite_canon ?_ ?_ | (split)
           | (dsimp -zeta only))

theorem State.bar4Write_canon (s : State) (a v : Nat) (h_s : s.Canon) :
    (State.bar4Write s a v).Canon := by
  unfold State.bar4Write
  with_reducible repeat'
    (first | assumption | apply State.setReg_canon | apply State.sqDoorbell_canon | apply State.cqDoorbell_canon
           | apply State.prDoorbell_canon | refine ite_canon ?_ ?_ | (show State.Canon sv; unfold sv)
           | (intro sv; refine (fun (hv : State.Canon sv) => ?_) ?_) | (intro sv) | (lift_lets))

theorem State.hostWrite_canon (s : State) (p : Port) (a n v : Nat) (late : Bool) (h_s : s.Canon) :
    (State.hostWrite s p a n v late).Canon := by
  unfold State.hostWrite
  with_reducible repeat'
    (first | assumption | apply State.tagWait_canon | apply State.write32_canon | apply State.write64_canon
           | apply State.wrAny_canon | apply State.bar4Write_canon | refine ite_canon ?_ ?_ | (show State.Canon sv; unfold sv)
           | (intro sv; refine (fun (hv : State.Canon sv) => ?_) ?_) | (intro sv) | (lift_lets))

theorem State.popRead_canon (s : State) (p : Port) (o n : Nat) (h_s : s.Canon) :
    (State.popRead s p o n).2.Canon := by
  unfold State.popRead
  with_reducible repeat'
    (first | assumption | apply State.evPop_canon | refine ite_canon ?_ ?_ | (show State.Canon sv; unfold sv)
           | (intro sv; refine (fun (hv : State.Canon sv) => ?_) ?_) | (intro sv) | (lift_lets))

theorem State.bar4Read_canon (s : State) (p : Port) (o n : Nat) (h_s : s.Canon) :
    (State.bar4Read s p o n).st.Canon := by
  unfold State.bar4Read
  with_reducible repeat'
    (first | assumption | apply State.popRead_canon | refine ite_canon ?_ ?_ | (show State.Canon sv; unfold sv)
           | (show State.Canon sv.2; unfold sv) | (show State.Canon sv.st; unfold sv) | (show State.Canon sv.2.2; unfold sv)
           | (intro sv; refine (fun (hv : State.Canon sv) => ?_) ?_)
           | (intro sv; refine (fun (hv : State.Canon sv.2) => ?_) ?_)
           | (intro sv; refine (fun (hv : State.Canon sv.st) => ?_) ?_)
           | (intro sv; refine (fun (hv : State.Canon sv.2.2) => ?_) ?_) | (intro sv) | (lift_lets) | (split)
           | (dsimp -zeta only))

theorem State.hostRead_canon (s : State) (p : Port) (a n : Nat) (hit : BitVec 64) (e : Ecc) (late : Bool) (h_s : s.Canon) :
    (State.hostRead s p a n hit e late).st.Canon := by
  unfold State.hostRead
  with_reducible repeat'
    (first | assumption | apply State.tagWait_canon | apply State.read32_canon | apply State.read64_canon
           | apply State.rdAny_canon | apply State.bar4Read_canon | refine ite_canon ?_ ?_ | (split) | (dsimp -zeta only))

theorem Rd.answer_canon (r : Rd) (p : Port) (a : Nat) (h_r : r.st.Canon) :
    (Rd.answer r p a).Canon := by
  unfold Rd.answer
  with_reducible repeat'
    (first | assumption | apply State.emit_canon | refine ite_canon ?_ ?_)

theorem State.sbWrite_canon (s : State) (a v : Nat) (x : SbXfer) (h_s : s.Canon) :
    (State.sbWrite s a v x).Canon := by
  unfold State.sbWrite
  with_reducible repeat'
    (first | assumption | apply State.raise_canon | apply State.hostWrite_canon | refine ite_canon ?_ ?_)

theorem State.sbRead_canon (s : State) (a : Nat) (x : SbXfer) (e : Ecc) (late : Bool) (h_s : s.Canon) :
    (State.sbRead s a x e late).Canon := by
  unfold State.sbRead
  with_reducible repeat'
    (first | assumption | apply State.emit_canon | apply State.raise_canon | apply State.popRead_canon
           | apply State.hostRead_canon | refine ite_canon ?_ ?_ | (show State.Canon sv; unfold sv)
           | (intro sv; refine (fun (hv : State.Canon sv) => ?_) ?_) | (intro sv) | (lift_lets))

theorem State.cxlRead_canon (s : State) (d : Nat) (e : Ecc) (h_s : s.Canon) :
    (State.cxlRead s d e).Canon := by
  unfold State.cxlRead
  with_reducible repeat'
    (first | assumption | apply State.emit_canon | refine State.withTag_canon _ _ _ ?_ (fun s h => ?_)
           | apply State.devRead_canon | apply State.extentViolation_canon | refine ite_canon ?_ ?_
           | (show State.Canon sv; unfold sv) | (intro sv; refine (fun (hv : State.Canon sv) => ?_) ?_) | (intro sv)
           | (lift_lets))

theorem State.cxlWrite_canon (s : State) (d : Nat) (l : List Byte) (h_s : s.Canon) :
    (State.cxlWrite s d l).Canon := by
  unfold State.cxlWrite
  with_reducible repeat'
    (first | assumption | refine State.withTag_canon _ _ _ ?_ (fun s h => ?_) | apply State.devWrite_canon
           | apply State.extentViolation_canon | refine ite_canon ?_ ?_ | (show State.Canon sv; unfold sv)
           | (intro sv; refine (fun (hv : State.Canon sv) => ?_) ?_) | (intro sv) | (lift_lets))

end Sys2Proof.Machine
end

