-- ==== Sys2Proof/Laws/Canon/Descs.lean ====
section
/-! SUPPORT. Every operation of Machine/Descs.lean keeps the canonical form of the tables and memories. -/

namespace Sys2Proof.Machine

theorem State.descSt_canon (s : State) (n inst : Nat) (st : DescSt) (h_s : s.Canon) :
    (State.descSt s n inst st).Canon := by
  unfold State.descSt
  with_reducible repeat'
    (first | assumption | apply State.setSq_canon | refine ite_canon ?_ ?_ | (apply mk_canon; assumption)
           | (show State.Canon sv; unfold sv) | (intro sv; refine (fun (hv : State.Canon sv) => ?_) ?_) | (intro sv)
           | (lift_lets))

theorem State.descStart_canon (s : State) (n : Nat) (d : Desc) (h_s : s.Canon) :
    (State.descStart s n d).Canon := by
  unfold State.descStart
  with_reducible repeat'
    (first | assumption | apply State.put_canon | apply State.tagTakeAs_canon | apply State.setSq_canon
           | refine ite_canon ?_ ?_ | (apply mk_canon; assumption) | (show State.Canon sv; unfold sv)
           | (intro sv; refine (fun (hv : State.Canon sv) => ?_) ?_) | (intro sv) | (lift_lets))

theorem State.descRead_canon (s : State) (n : Nat) (d : Desc) (g : State → State) (h_s : s.Canon) (h_g : ∀ s : State, s.Canon → (g s).Canon) :
    (State.descRead s n d g).Canon := by
  unfold State.descRead
  with_reducible repeat'
    (first | assumption | apply h_g | apply State.hubScan_canon | apply State.descEnd_canon | refine ite_canon ?_ ?_
           | (show State.Canon sv; unfold sv) | (intro sv; refine (fun (hv : State.Canon sv) => ?_) ?_) | (intro sv)
           | (lift_lets))

theorem State.runDesc_canon (s : State) (n op : Nat) (g : State → Desc → State) (h_s : s.Canon) (h_g : ∀ (s : State) (d : Desc), s.Canon → (g s d).Canon) :
    (State.runDesc s n op g).Canon := by
  unfold State.runDesc
  with_reducible repeat'
    (first | assumption | apply h_g | apply State.tagWait_canon | apply State.descEnd_canon | apply State.descStart_canon
           | refine State.descRead_canon _ _ _ _ ?_ (fun s h => ?_) | refine ite_canon ?_ ?_ | (apply mk_canon; assumption)
           | (split))

theorem State.moveTurn_canon (s : State) (n op : Nat) (turn : MoveTurn) (g : State → Desc → State) (h_s : s.Canon) (h_g : ∀ (s : State) (d : Desc), s.Canon → (g s d).Canon) :
    (State.moveTurn s n op turn g).Canon := by
  unfold State.moveTurn
  split
  · exact ite_canon (State.runDesc_canon _ _ _ _ h_s h_g) h_s
  · cases s.movingDesc n op _ with
    | none => exact h_s
    | some d => exact h_g _ _ h_s

theorem State.pieceRead_canon (s : State) (space d n tag : Nat) (e : Ecc) (h_s : s.Canon) :
    (State.pieceRead s space d n tag e).2.2.Canon := by
  unfold State.pieceRead
  with_reducible repeat'
    (first | assumption | apply State.intFetch_canon | refine ite_canon ?_ ?_ | (show State.Canon sv; unfold sv)
           | (show State.Canon sv.2; unfold sv) | (show State.Canon sv.st; unfold sv) | (show State.Canon sv.2.2; unfold sv)
           | (intro sv; refine (fun (hv : State.Canon sv) => ?_) ?_)
           | (intro sv; refine (fun (hv : State.Canon sv.2) => ?_) ?_)
           | (intro sv; refine (fun (hv : State.Canon sv.st) => ?_) ?_)
           | (intro sv; refine (fun (hv : State.Canon sv.2.2) => ?_) ?_) | (intro sv) | (lift_lets) | (split)
           | (dsimp -zeta only))

theorem State.pieceWrite_canon (s : State) (space d tag : Nat) (l : List Byte) (h_s : s.Canon) :
    (State.pieceWrite s space d tag l).2.Canon := by
  unfold State.pieceWrite
  with_reducible repeat'
    (first | assumption | apply State.intStore_canon | refine ite_canon ?_ ?_
           | (apply mk_canon; first | assumption | apply State.intStore_canon)
           | (refine mk_mem_canon ?_ ?_ ?_ ?_ ?_ ?_ ?_; first | assumption | apply State.intStore_canon)
           | (exact (rfl : Memory.wf [] = true)) | refine memStore_wf ?_ | refine filter_wf ?_ | refine State.Canon.fireTab ?_
           | refine State.Canon.ztStage ?_ | refine State.Canon.devMem ?_ | refine State.Canon.hostMem ?_
           | refine State.Canon.nor ?_ | refine State.Canon.calStage ?_ | (show State.Canon sv; unfold sv)
           | (show State.Canon sv.2; unfold sv) | (show State.Canon sv.st; unfold sv) | (show State.Canon sv.2.2; unfold sv)
           | (intro sv; refine (fun (hv : State.Canon sv) => ?_) ?_)
           | (intro sv; refine (fun (hv : State.Canon sv.2) => ?_) ?_)
           | (intro sv; refine (fun (hv : State.Canon sv.st) => ?_) ?_)
           | (intro sv; refine (fun (hv : State.Canon sv.2.2) => ?_) ?_) | (intro sv) | (lift_lets) | (split)
           | (dsimp -zeta only))

theorem State.copyGo_canon (s : State) (ss src ds dst tag : Nat) (e : Ecc) (stop : Option DescStop) (n : Nat) (y0 : Nat) (y1 : Nat) (h_s : s.Canon) :
    (State.copyGo s ss src ds dst tag e stop n y0 y1).2.2.Canon := by
  induction y0 generalizing s ss src ds dst tag e stop n y1 with
  | zero => 
    unfold State.copyGo
    repeat' (first
    | (with_reducible apply ih)
    | (with_reducible assumption)
    | (with_reducible apply State.pieceRead_canon)
    | (with_reducible apply State.pieceWrite_canon)
    | (with_reducible refine ite_canon ?_ ?_)
    | (with_reducible apply mk_canon; first | (with_reducible assumption) | (with_reducible apply State.pieceRead_canon) | (with_reducible apply State.pieceWrite_canon) | (with_reducible refine ite_canon ?_ ?_))
    | (with_reducible show State.Canon sv; unfold sv)
    | (with_reducible show State.Canon sv.2; unfold sv)
    | (with_reducible show State.Canon sv.st; unfold sv)
    | (with_reducible show State.Canon sv.2.2; unfold sv)
    | (intro sv; refine (fun (hv : State.Canon sv) => ?_) ?_)
    | (intro sv; refine (fun (hv : State.Canon sv.2) => ?_) ?_)
    | (intro sv; refine (fun (hv : State.Canon sv.st) => ?_) ?_)
    | (intro sv; refine (fun (hv : State.Canon sv.2.2) => ?_) ?_)
    | (intro sv)
    | lift_lets
    | split
    | (dsimp -zeta only))
  | succ n ih =>
    unfold State.copyGo
    repeat' (first
    | (with_reducible apply ih)
    | (with_reducible assumption)
    | (with_reducible apply State.pieceRead_canon)
    | (with_reducible apply State.pieceWrite_canon)
    | (with_reducible refine ite_canon ?_ ?_)
    | (with_reducible apply mk_canon; first | (with_reducible assumption) | (with_reducible apply State.pieceRead_canon) | (with_reducible apply State.pieceWrite_canon) | (with_reducible refine ite_canon ?_ ?_))
    | (with_reducible show State.Canon sv; unfold sv)
    | (with_reducible show State.Canon sv.2; unfold sv)
    | (with_reducible show State.Canon sv.st; unfold sv)
    | (with_reducible show State.Canon sv.2.2; unfold sv)
    | (intro sv; refine (fun (hv : State.Canon sv) => ?_) ?_)
    | (intro sv; refine (fun (hv : State.Canon sv.2) => ?_) ?_)
    | (intro sv; refine (fun (hv : State.Canon sv.st) => ?_) ?_)
    | (intro sv; refine (fun (hv : State.Canon sv.2.2) => ?_) ?_)
    | (intro sv)
    | lift_lets
    | split
    | (dsimp -zeta only))

theorem State.moveDone_canon (s : State) (n : Nat) (d : Desc) (status moved tgt : Nat) (h_s : s.Canon) :
    (State.moveDone s n d status moved tgt).Canon := by
  unfold State.moveDone
  with_reducible repeat'
    (first | assumption | apply State.descEnd_canon | apply State.timeoutAt_canon | apply State.descSt_canon
           | refine ite_canon ?_ ?_)

theorem State.copyRun_canon (s : State) (n : Nat) (e : Ecc) (stop : Option DescStop) (d : Desc) (h_s : s.Canon) :
    (State.copyRun s n e stop d).Canon := by
  unfold State.copyRun
  with_reducible repeat'
    (first | assumption | apply State.descEnd_canon | apply State.copyGo_canon | apply State.moveDone_canon
           | refine ite_canon ?_ ?_ | (show State.Canon sv; unfold sv)
           | (intro sv; refine (fun (hv : State.Canon sv) => ?_) ?_) | (intro sv) | (lift_lets))

theorem State.fillGo_canon (s : State) (ds dst tag : Nat) (pat : List Byte) (stop : Option DescStop) (n : Nat) (y0 : Nat) (y1 : Nat) (h_s : s.Canon) :
    (State.fillGo s ds dst tag pat stop n y0 y1).2.2.Canon := by
  induction y0 generalizing s ds dst tag pat stop n y1 with
  | zero => 
    unfold State.fillGo
    repeat' (first
    | (with_reducible apply ih)
    | (with_reducible assumption)
    | (with_reducible apply State.pieceWrite_canon)
    | (with_reducible refine ite_canon ?_ ?_)
    | (with_reducible apply mk_canon; first | (with_reducible assumption) | (with_reducible apply State.pieceWrite_canon) | (with_reducible refine ite_canon ?_ ?_))
    | (with_reducible show State.Canon sv; unfold sv)
    | (with_reducible show State.Canon sv.2; unfold sv)
    | (with_reducible show State.Canon sv.st; unfold sv)
    | (with_reducible show State.Canon sv.2.2; unfold sv)
    | (intro sv; refine (fun (hv : State.Canon sv) => ?_) ?_)
    | (intro sv; refine (fun (hv : State.Canon sv.2) => ?_) ?_)
    | (intro sv; refine (fun (hv : State.Canon sv.st) => ?_) ?_)
    | (intro sv; refine (fun (hv : State.Canon sv.2.2) => ?_) ?_)
    | (intro sv)
    | lift_lets
    | split
    | (dsimp -zeta only))
  | succ n ih =>
    unfold State.fillGo
    repeat' (first
    | (with_reducible apply ih)
    | (with_reducible assumption)
    | (with_reducible apply State.pieceWrite_canon)
    | (with_reducible refine ite_canon ?_ ?_)
    | (with_reducible apply mk_canon; first | (with_reducible assumption) | (with_reducible apply State.pieceWrite_canon) | (with_reducible refine ite_canon ?_ ?_))
    | (with_reducible show State.Canon sv; unfold sv)
    | (with_reducible show State.Canon sv.2; unfold sv)
    | (with_reducible show State.Canon sv.st; unfold sv)
    | (with_reducible show State.Canon sv.2.2; unfold sv)
    | (intro sv; refine (fun (hv : State.Canon sv) => ?_) ?_)
    | (intro sv; refine (fun (hv : State.Canon sv.2) => ?_) ?_)
    | (intro sv; refine (fun (hv : State.Canon sv.st) => ?_) ?_)
    | (intro sv; refine (fun (hv : State.Canon sv.2.2) => ?_) ?_)
    | (intro sv)
    | lift_lets
    | split
    | (dsimp -zeta only))

theorem State.fillRun_canon (s : State) (n : Nat) (stop : Option DescStop) (d : Desc) (h_s : s.Canon) :
    (State.fillRun s n stop d).Canon := by
  unfold State.fillRun
  with_reducible repeat'
    (first | assumption | apply State.descEnd_canon | apply State.moveDone_canon | apply State.fillGo_canon
           | refine ite_canon ?_ ?_ | (show State.Canon sv; unfold sv)
           | (intro sv; refine (fun (hv : State.Canon sv) => ?_) ?_) | (intro sv) | (lift_lets))

theorem State.regWriteGo_canon (s : State) (d : Desc) (wide : Nat) (y0 : Nat) (y1 : Nat) (h_s : s.Canon) :
    (State.regWriteGo s d wide y0 y1).2.Canon := by
  induction y0 generalizing s d wide y1 with
  | zero => 
    unfold State.regWriteGo
    repeat' (first
    | (with_reducible apply ih)
    | (with_reducible assumption)
    | (with_reducible apply State.isoAccess_canon)
    | (with_reducible apply State.hostWrite_canon)
    | (with_reducible refine ite_canon ?_ ?_)
    | (with_reducible apply mk_canon; first | (with_reducible assumption) | (with_reducible apply State.isoAccess_canon) | (with_reducible apply State.hostWrite_canon) | (with_reducible refine ite_canon ?_ ?_))
    | (with_reducible show State.Canon sv; unfold sv)
    | (with_reducible show State.Canon sv.2; unfold sv)
    | (with_reducible show State.Canon sv.st; unfold sv)
    | (with_reducible show State.Canon sv.2.2; unfold sv)
    | (intro sv; refine (fun (hv : State.Canon sv) => ?_) ?_)
    | (intro sv; refine (fun (hv : State.Canon sv.2) => ?_) ?_)
    | (intro sv; refine (fun (hv : State.Canon sv.st) => ?_) ?_)
    | (intro sv; refine (fun (hv : State.Canon sv.2.2) => ?_) ?_)
    | (intro sv)
    | lift_lets
    | split
    | (dsimp -zeta only))
  | succ n ih =>
    unfold State.regWriteGo
    repeat' (first
    | (with_reducible apply ih)
    | (with_reducible assumption)
    | (with_reducible apply State.isoAccess_canon)
    | (with_reducible apply State.hostWrite_canon)
    | (with_reducible refine ite_canon ?_ ?_)
    | (with_reducible apply mk_canon; first | (with_reducible assumption) | (with_reducible apply State.isoAccess_canon) | (with_reducible apply State.hostWrite_canon) | (with_reducible refine ite_canon ?_ ?_))
    | (with_reducible show State.Canon sv; unfold sv)
    | (with_reducible show State.Canon sv.2; unfold sv)
    | (with_reducible show State.Canon sv.st; unfold sv)
    | (with_reducible show State.Canon sv.2.2; unfold sv)
    | (intro sv; refine (fun (hv : State.Canon sv) => ?_) ?_)
    | (intro sv; refine (fun (hv : State.Canon sv.2) => ?_) ?_)
    | (intro sv; refine (fun (hv : State.Canon sv.st) => ?_) ?_)
    | (intro sv; refine (fun (hv : State.Canon sv.2.2) => ?_) ?_)
    | (intro sv)
    | lift_lets
    | split
    | (dsimp -zeta only))

theorem State.regWriteRun_canon (s : State) (n : Nat) (d : Desc) (h_s : s.Canon) :
    (State.regWriteRun s n d).Canon := by
  unfold State.regWriteRun
  with_reducible repeat'
    (first | assumption | apply State.descEnd_canon | apply State.regWriteGo_canon | refine ite_canon ?_ ?_
           | (show State.Canon sv; unfold sv) | (intro sv; refine (fun (hv : State.Canon sv) => ?_) ?_) | (intro sv)
           | (lift_lets))

theorem State.regReadGo_canon (s : State) (y0 : Nat) (y1 : Nat) (y2 : Nat) (y3 : List Byte) (h_s : s.Canon) :
    (State.regReadGo s y0 y1 y2 y3).2.2.Canon := by
  induction y0 generalizing s y1 y2 y3 with
  | zero => 
    unfold State.regReadGo
    repeat' (first
    | (with_reducible apply ih)
    | (with_reducible assumption)
    | (with_reducible apply State.isoAccess_canon)
    | (with_reducible apply State.regTake_canon)
    | (with_reducible apply State.read32_canon)
    | (with_reducible apply State.read64_canon)
    | (with_reducible refine ite_canon ?_ ?_)
    | (with_reducible apply mk_canon; first | (with_reducible assumption) | (with_reducible apply State.isoAccess_canon) | (with_reducible apply State.regTake_canon) | (with_reducible apply State.read32_canon) | (with_reducible apply State.read64_canon) | (with_reducible refine ite_canon ?_ ?_))
    | (with_reducible show State.Canon sv; unfold sv)
    | (with_reducible show State.Canon sv.2; unfold sv)
    | (with_reducible show State.Canon sv.st; unfold sv)
    | (with_reducible show State.Canon sv.2.2; unfold sv)
    | (intro sv; refine (fun (hv : State.Canon sv) => ?_) ?_)
    | (intro sv; refine (fun (hv : State.Canon sv.2) => ?_) ?_)
    | (intro sv; refine (fun (hv : State.Canon sv.st) => ?_) ?_)
    | (intro sv; refine (fun (hv : State.Canon sv.2.2) => ?_) ?_)
    | (intro sv)
    | lift_lets
    | split
    | (dsimp -zeta only))
  | succ n ih =>
    unfold State.regReadGo
    repeat' (first
    | (with_reducible apply ih)
    | (with_reducible assumption)
    | (with_reducible apply State.isoAccess_canon)
    | (with_reducible apply State.regTake_canon)
    | (with_reducible apply State.read32_canon)
    | (with_reducible apply State.read64_canon)
    | (with_reducible refine ite_canon ?_ ?_)
    | (with_reducible apply mk_canon; first | (with_reducible assumption) | (with_reducible apply State.isoAccess_canon) | (with_reducible apply State.regTake_canon) | (with_reducible apply State.read32_canon) | (with_reducible apply State.read64_canon) | (with_reducible refine ite_canon ?_ ?_))
    | (with_reducible show State.Canon sv; unfold sv)
    | (with_reducible show State.Canon sv.2; unfold sv)
    | (with_reducible show State.Canon sv.st; unfold sv)
    | (with_reducible show State.Canon sv.2.2; unfold sv)
    | (intro sv; refine (fun (hv : State.Canon sv) => ?_) ?_)
    | (intro sv; refine (fun (hv : State.Canon sv.2) => ?_) ?_)
    | (intro sv; refine (fun (hv : State.Canon sv.st) => ?_) ?_)
    | (intro sv; refine (fun (hv : State.Canon sv.2.2) => ?_) ?_)
    | (intro sv)
    | lift_lets
    | split
    | (dsimp -zeta only))

theorem State.regReadRun_canon (s : State) (n : Nat) (stop : Option DescStop) (d : Desc) (h_s : s.Canon) :
    (State.regReadRun s n stop d).Canon := by
  unfold State.regReadRun
  with_reducible repeat'
    (first | assumption | apply State.descEnd_canon | apply State.timeoutAt_canon | apply State.regReadGo_canon
           | refine ite_canon ?_ ?_ | (apply mk_canon; assumption)
           | (refine mk_mem_canon ?_ ?_ ?_ ?_ ?_ ?_ ?_; first | assumption) | (exact (rfl : Memory.wf [] = true))
           | refine memStore_wf ?_ | refine filter_wf ?_ | refine State.Canon.fireTab ?_ | refine State.Canon.ztStage ?_
           | refine State.Canon.devMem ?_ | refine State.Canon.hostMem ?_ | refine State.Canon.nor ?_
           | refine State.Canon.calStage ?_ | (show State.Canon sv; unfold sv)
           | (intro sv; refine (fun (hv : State.Canon sv) => ?_) ?_) | (intro sv) | (lift_lets))

theorem State.waitRun_canon (s : State) (n : Nat) (d : Desc) (h_s : s.Canon) :
    (State.waitRun s n d).Canon := by
  unfold State.waitRun
  with_reducible repeat'
    (first | assumption | apply State.descEnd_canon | apply State.descSt_canon | refine ite_canon ?_ ?_
           | (show State.Canon sv; unfold sv) | (intro sv; refine (fun (hv : State.Canon sv) => ?_) ?_) | (intro sv)
           | (lift_lets))

theorem State.waitReached_canon (s : State) (n : Nat) (h_s : s.Canon) :
    (State.waitReached s n).Canon := by
  unfold State.waitReached
  with_reducible repeat'
    (first | assumption | apply State.descEnd_canon | (apply mk_canon; assumption) | (split))

theorem State.modeReqRun_canon (s : State) (n : Nat) (d : Desc) (h_s : s.Canon) :
    (State.modeReqRun s n d).Canon := by
  unfold State.modeReqRun
  with_reducible repeat'
    (first | assumption | apply State.put_canon | apply State.setFlag_canon | apply State.descEnd_canon
           | apply State.requestMode_canon | apply State.descSt_canon | refine ite_canon ?_ ?_ | (apply mk_canon; assumption)
           | (show State.Canon sv; unfold sv) | (intro sv; refine (fun (hv : State.Canon sv) => ?_) ?_) | (intro sv)
           | (lift_lets) | (split))

theorem State.badOpcode_canon (s : State) (n : Nat) (h_s : s.Canon) :
    (State.badOpcode s n).Canon := by
  unfold State.badOpcode
  with_reducible repeat'
    (first | assumption | apply State.descEnd_canon | refine State.descRead_canon _ _ _ _ ?_ (fun s h => ?_)
           | (apply mk_canon; assumption) | (split))

end Sys2Proof.Machine
end

