-- ==== Sys2Proof/Laws/Canon/Jex.lean ====
section
/-! SUPPORT. Every operation of Machine/Jex.lean keeps the canonical form of the tables and memories. -/

namespace Sys2Proof.Machine

theorem State.linkSent_canon (s : State) (l : Nat) (fs : List Flit) (h_s : s.Canon) :
    (State.linkSent s l fs).Canon := by
  unfold State.linkSent
  with_reducible repeat'
    (first | assumption | apply State.setLink_canon | (apply mk_canon; assumption) | (show State.Canon sv; unfold sv)
           | (intro sv; refine (fun (hv : State.Canon sv) => ?_) ?_) | (intro sv) | (lift_lets))

theorem State.jexAnswer_canon (s : State) (l msgType : Nat) (h : JexHdr) (data : List Byte) (h_s : s.Canon) :
    (State.jexAnswer s l msgType h data).Canon := by
  unfold State.jexAnswer
  with_reducible repeat'
    (first | assumption | apply State.emit_canon | apply State.creditTake_canon | apply State.linkSent_canon
           | (apply mk_canon; assumption) | (show State.Canon sv; unfold sv)
           | (intro sv; refine (fun (hv : State.Canon sv) => ?_) ?_) | (intro sv) | (lift_lets) | (split))

theorem State.freeWord_canon (s : State) (h_s : s.Canon) :
    (State.freeWord s).2.Canon := by
  unfold State.freeWord
  with_reducible repeat'
    (first | assumption | apply State.fresh_canon | (show State.Canon sv; unfold sv)
           | (intro sv; refine (fun (hv : State.Canon sv) => ?_) ?_) | (intro sv) | (lift_lets))

theorem State.tileWord_canon (s : State) (t a : Nat) (h_s : s.Canon) :
    (State.tileWord s t a).2.Canon := by
  unfold State.tileWord
  dsimp only
  repeat' (first
    | (with_reducible assumption)
    | (with_reducible apply State.freeWord_canon)
    | (with_reducible refine ite_canon ?_ ?_)
    | (with_reducible apply mk_canon; first | (with_reducible assumption) | (with_reducible apply State.freeWord_canon) | (with_reducible refine ite_canon ?_ ?_))
    | (with_reducible show State.Canon sv; unfold sv)
    | (with_reducible show State.Canon sv.2; unfold sv)
    | (with_reducible show State.Canon sv.st; unfold sv)
    | (with_reducible show State.Canon sv.2.2; unfold sv)
    | (intro sv; refine (fun (hv : State.Canon sv) => ?_) ?_)
    | (intro sv; refine (fun (hv : State.Canon sv.2) => ?_) ?_)
    | (intro sv; refine (fun (hv : State.Canon sv.st) => ?_) ?_)
    | (intro sv; refine (fun (hv : State.Canon sv.2.2) => ?_) ?_)
    | (intro sv)
    | lift_lets
    | split
    | (dsimp -zeta only))

theorem State.setTileWord_canon (s : State) (t a : Nat) (l : List Byte) (h_s : s.Canon) :
    (State.setTileWord s t a l).Canon := by
  unfold State.setTileWord
  with_reducible repeat'
    (first | assumption | apply State.w256Write_canon | apply State.setTile_canon | apply State.setChan_canon
           | refine ite_canon ?_ ?_ | (apply mk_canon; assumption) | (show State.Canon sv; unfold sv)
           | (intro sv; refine (fun (hv : State.Canon sv) => ?_) ?_) | (intro sv) | (lift_lets))

theorem State.sramWords_canon (s : State) (l t a tag : Nat) (y0 : Nat) (h_s : s.Canon) :
    (State.sramWords s l t a tag y0).2.2.Canon := by
  induction y0 generalizing s l t a tag with
  | zero => 
    unfold State.sramWords
    repeat' (first
    | (with_reducible apply ih)
    | (with_reducible assumption)
    | (with_reducible apply State.sramRead_canon)
    | (with_reducible apply State.dropBuf_canon)
    | (with_reducible apply State.bufCorrected_canon)
    | (with_reducible apply State.tileWord_canon)
    | (with_reducible refine ite_canon ?_ ?_)
    | (with_reducible apply mk_canon; first | (with_reducible assumption) | (with_reducible apply State.sramRead_canon) | (with_reducible apply State.dropBuf_canon) | (with_reducible apply State.bufCorrected_canon) | (with_reducible apply State.tileWord_canon) | (with_reducible refine ite_canon ?_ ?_))
    | (with_reducible show State.Canon sv; unfold sv)
    | (with_reducible show State.Canon sv.2; unfold sv)
    | (with_reducible show State.Canon sv.st; unfold sv)
    | (with_reducible show State.Canon sv.2.2; unfold sv)
    | (intro sv; refine (fun (hv : State.Canon sv) => ?_) ?_)
    | (intro sv; refine (fun (hv : State.Canon sv.2) => ?_) ?_)
    | (intro sv; refine (fun (hv : State.Canon sv.st) => ?_) ?_)
    | (intro sv; refine (fun (hv : State.Canon sv.2.2) => ?_) ?_)
    | (intro sv)
    | lift_lets
    | split
    | (dsimp -zeta only))
  | succ n ih =>
    unfold State.sramWords
    repeat' (first
    | (with_reducible apply ih)
    | (with_reducible assumption)
    | (with_reducible apply State.sramRead_canon)
    | (with_reducible apply State.dropBuf_canon)
    | (with_reducible apply State.bufCorrected_canon)
    | (with_reducible apply State.tileWord_canon)
    | (with_reducible refine ite_canon ?_ ?_)
    | (with_reducible apply mk_canon; first | (with_reducible assumption) | (with_reducible apply State.sramRead_canon) | (with_reducible apply State.dropBuf_canon) | (with_reducible apply State.bufCorrected_canon) | (with_reducible apply State.tileWord_canon) | (with_reducible refine ite_canon ?_ ?_))
    | (with_reducible show State.Canon sv; unfold sv)
    | (with_reducible show State.Canon sv.2; unfold sv)
    | (with_reducible show State.Canon sv.st; unfold sv)
    | (with_reducible show State.Canon sv.2.2; unfold sv)
    | (intro sv; refine (fun (hv : State.Canon sv) => ?_) ?_)
    | (intro sv; refine (fun (hv : State.Canon sv.2) => ?_) ?_)
    | (intro sv; refine (fun (hv : State.Canon sv.st) => ?_) ?_)
    | (intro sv; refine (fun (hv : State.Canon sv.2.2) => ?_) ?_)
    | (intro sv)
    | lift_lets
    | split
    | (dsimp -zeta only))

theorem State.jexRead_canon (s : State) (l : Nat) (m : JexMsg) (h_s : s.Canon) :
    (State.jexRead s l m).Canon := by
  unfold State.jexRead
  dsimp only
  repeat' (first
    | (with_reducible assumption)
    | (with_reducible apply State.devRead_canon)
    | (with_reducible apply State.regTake_canon)
    | (with_reducible apply State.read32_canon)
    | (with_reducible apply State.read64_canon)
    | (with_reducible apply State.jexAnswer_canon)
    | (with_reducible apply State.sramWords_canon)
    | (with_reducible refine ite_canon ?_ ?_)
    | (with_reducible apply mk_canon; first | (with_reducible assumption) | (with_reducible apply State.devRead_canon) | (with_reducible apply State.regTake_canon) | (with_reducible apply State.read32_canon) | (with_reducible apply State.read64_canon) | (with_reducible apply State.jexAnswer_canon) | (with_reducible apply State.sramWords_canon) | (with_reducible refine ite_canon ?_ ?_))
    | (with_reducible show State.Canon sv; unfold sv)
    | (with_reducible show State.Canon sv.2; unfold sv)
    | (with_reducible show State.Canon sv.st; unfold sv)
    | (with_reducible show State.Canon sv.2.2; unfold sv)
    | (intro sv; refine (fun (hv : State.Canon sv) => ?_) ?_)
    | (intro sv; refine (fun (hv : State.Canon sv.2) => ?_) ?_)
    | (intro sv; refine (fun (hv : State.Canon sv.st) => ?_) ?_)
    | (intro sv; refine (fun (hv : State.Canon sv.2.2) => ?_) ?_)
    | (intro sv)
    | lift_lets
    | split
    | (dsimp -zeta only))

theorem State.jexWrite_canon (s : State) (l : Nat) (m : JexMsg) (h_s : s.Canon) :
    (State.jexWrite s l m).Canon := by
  unfold State.jexWrite
  with_reducible repeat'
    (first | assumption | apply State.devWrite_canon | apply State.wrReg_canon | apply State.write32_canon
           | apply State.write64_canon | apply State.jexAnswer_canon | apply State.setTileWord_canon
           | refine foldl_canon (fun s a h => ?_) ?_ | refine ite_canon ?_ ?_ | (apply mk_canon; assumption)
           | (show State.Canon sv; unfold sv) | (intro sv; refine (fun (hv : State.Canon sv) => ?_) ?_) | (intro sv)
           | (lift_lets) | (split))

theorem State.jexServeOne_canon (s : State) (l : Nat) (m : JexMsg) (h_s : s.Canon) :
    (State.jexServeOne s l m).2.Canon := by
  unfold State.jexServeOne
  with_reducible repeat'
    (first | assumption | apply State.jexAnswer_canon | apply State.jexRead_canon | apply State.jexWrite_canon
           | refine ite_canon ?_ ?_ | (split) | (dsimp -zeta only))

theorem State.jexServeGo_canon (s : State) (l : Nat) (held : List Nat) (y0 : List JexMsg) (h_s : s.Canon) :
    (State.jexServeGo s l held y0).2.Canon := by
  induction y0 generalizing s l held with
  | nil => 
    unfold State.jexServeGo
    repeat' (first
    | (with_reducible apply ih)
    | (with_reducible assumption)
    | (with_reducible apply State.jexServeOne_canon)
    | (with_reducible refine ite_canon ?_ ?_)
    | (with_reducible apply mk_canon; first | (with_reducible assumption) | (with_reducible apply State.jexServeOne_canon) | (with_reducible refine ite_canon ?_ ?_))
    | (with_reducible show State.Canon sv; unfold sv)
    | (with_reducible show State.Canon sv.2; unfold sv)
    | (with_reducible show State.Canon sv.st; unfold sv)
    | (with_reducible show State.Canon sv.2.2; unfold sv)
    | (intro sv; refine (fun (hv : State.Canon sv) => ?_) ?_)
    | (intro sv; refine (fun (hv : State.Canon sv.2) => ?_) ?_)
    | (intro sv; refine (fun (hv : State.Canon sv.st) => ?_) ?_)
    | (intro sv; refine (fun (hv : State.Canon sv.2.2) => ?_) ?_)
    | (intro sv)
    | lift_lets
    | split
    | (dsimp -zeta only))
  | cons p l ih =>
    unfold State.jexServeGo
    repeat' (first
    | (with_reducible apply ih)
    | (with_reducible assumption)
    | (with_reducible apply State.jexServeOne_canon)
    | (with_reducible refine ite_canon ?_ ?_)
    | (with_reducible apply mk_canon; first | (with_reducible assumption) | (with_reducible apply State.jexServeOne_canon) | (with_reducible refine ite_canon ?_ ?_))
    | (with_reducible show State.Canon sv; unfold sv)
    | (with_reducible show State.Canon sv.2; unfold sv)
    | (with_reducible show State.Canon sv.st; unfold sv)
    | (with_reducible show State.Canon sv.2.2; unfold sv)
    | (intro sv; refine (fun (hv : State.Canon sv) => ?_) ?_)
    | (intro sv; refine (fun (hv : State.Canon sv.2) => ?_) ?_)
    | (intro sv; refine (fun (hv : State.Canon sv.st) => ?_) ?_)
    | (intro sv; refine (fun (hv : State.Canon sv.2.2) => ?_) ?_)
    | (intro sv)
    | lift_lets
    | split
    | (dsimp -zeta only))

theorem State.jexServe_canon (s : State) (l : Nat) (h_s : s.Canon) :
    (State.jexServe s l).Canon := by
  unfold State.jexServe
  repeat' (first
    | (with_reducible assumption)
    | (with_reducible apply State.setLink_canon)
    | (with_reducible apply State.jexServeGo_canon)
    | (with_reducible refine ite_canon ?_ ?_)
    | (with_reducible apply mk_canon; first | (with_reducible assumption) | (with_reducible apply State.setLink_canon) | (with_reducible apply State.jexServeGo_canon) | (with_reducible refine ite_canon ?_ ?_))
    | (with_reducible show State.Canon sv; unfold sv)
    | (with_reducible show State.Canon sv.2; unfold sv)
    | (with_reducible show State.Canon sv.st; unfold sv)
    | (with_reducible show State.Canon sv.2.2; unfold sv)
    | (intro sv; refine (fun (hv : State.Canon sv) => ?_) ?_)
    | (intro sv; refine (fun (hv : State.Canon sv.2) => ?_) ?_)
    | (intro sv; refine (fun (hv : State.Canon sv.st) => ?_) ?_)
    | (intro sv; refine (fun (hv : State.Canon sv.2.2) => ?_) ?_)
    | (intro sv)
    | lift_lets
    | split
    | (dsimp -zeta only))

theorem State.jexArrive_canon (s : State) (l : Nat) (m : JexMsg) (g : State → State) (h_s : s.Canon) (h_g : ∀ s : State, s.Canon → (g s).Canon) :
    (State.jexArrive s l m g).Canon := by
  unfold State.jexArrive
  with_reducible repeat'
    (first | assumption | apply h_g | apply State.setLink_canon | apply State.creditTake_canon | apply State.linkSent_canon
           | apply State.jexServe_canon | refine ite_canon ?_ ?_ | (apply mk_canon; assumption)
           | (show State.Canon sv; unfold sv) | (intro sv; refine (fun (hv : State.Canon sv) => ?_) ?_) | (intro sv)
           | (lift_lets))

theorem State.opEnd_canon (s : State) (tag inst : Nat) (ok : Bool) (h_s : s.Canon) :
    (State.opEnd s tag inst ok).Canon := by
  unfold State.opEnd
  with_reducible repeat'
    (first | assumption | apply State.emit_canon | apply State.tagRelease_canon | (apply mk_canon; assumption) | (split))

theorem State.commandError_canon (s : State) (l : Nat) (hdr : Option Flit) (h_s : s.Canon) :
    (State.commandError s l hdr).Canon := by
  unfold State.commandError
  with_reducible repeat'
    (first | assumption | apply State.setLink_canon | apply State.jexServe_canon | refine ite_canon ?_ ?_
           | (apply mk_canon; assumption) | (show State.Canon sv; unfold sv)
           | (intro sv; refine (fun (hv : State.Canon sv) => ?_) ?_) | (intro sv) | (lift_lets) | (split))

theorem State.flitReceive_canon (s : State) (l : Nat) (e : Ecc) (hdr : Option (Option Flit)) (h_s : s.Canon) :
    (State.flitReceive s l e hdr).Canon := by
  unfold State.flitReceive
  with_reducible repeat'
    (first | assumption | apply State.w256_canon | apply State.setLink_canon | apply State.commandError_canon
           | refine ite_canon ?_ ?_ | (apply mk_canon; assumption) | (show State.Canon sv; unfold sv)
           | (intro sv; refine (fun (hv : State.Canon sv) => ?_) ?_) | (intro sv) | (lift_lets) | (split))

theorem State.linkFail_canon (s : State) (l : Nat) (h_s : s.Canon) :
    (State.linkFail s l).Canon := by
  unfold State.linkFail
  with_reducible repeat'
    (first | assumption | apply State.raiseInst_canon | apply State.failOps_canon | apply State.descFail_canon
           | apply State.safetyFault_canon | apply State.setLink_canon | apply State.jexServe_canon
           | refine foldl_canon (fun s a h => ?_) ?_ | refine ite_canon ?_ ?_ | (apply mk_canon; assumption)
           | (show State.Canon sv; unfold sv) | (intro sv; refine (fun (hv : State.Canon sv) => ?_) ?_) | (intro sv)
           | (lift_lets) | (split))

theorem State.creditReturn_canon (s : State) (l vc n : Nat) (h_s : s.Canon) :
    (State.creditReturn s l vc n).Canon := by
  unfold State.creditReturn
  with_reducible repeat'
    (first | assumption | apply State.setLink_canon | apply State.creditGive_canon | apply State.jexServe_canon
           | refine foldl_canon (fun s a h => ?_) ?_ | (apply mk_canon; assumption) | (show State.Canon sv; unfold sv)
           | (intro sv; refine (fun (hv : State.Canon sv) => ?_) ?_) | (intro sv) | (lift_lets))

end Sys2Proof.Machine
end

