-- ==== Sys2Proof/Laws/Canon/Pilot.lean ====
section
/-! SUPPORT. Every operation of Machine/Pilot.lean keeps the canonical form of the tables and memories. -/

namespace Sys2Proof.Machine

theorem State.pilotCluster_canon (s : State) (h_s : s.Canon) :
    (State.pilotCluster s).Canon := by
  unfold State.pilotCluster
  with_reducible repeat'
    (first | assumption | apply State.enterPilot_canon | refine ite_canon ?_ ?_)

theorem State.pilotSummary_canon (s : State) (h_s : s.Canon) :
    (State.pilotSummary s).Canon := by
  unfold State.pilotSummary
  with_reducible repeat'
    (first | assumption | apply State.grantsDrop_canon | apply State.enterPilot_canon | refine ite_canon ?_ ?_)

theorem State.pilotStrobe_canon (s : State) (h_s : s.Canon) :
    (State.pilotStrobe s).Canon := by
  unfold State.pilotStrobe
  with_reducible repeat'
    (first | assumption | apply State.enterPilot_canon | refine ite_canon ?_ ?_)

theorem State.pilotMissing_canon (s : State) (h_s : s.Canon) :
    (State.pilotMissing s).Canon := by
  unfold State.pilotMissing
  with_reducible repeat'
    (first | assumption | refine ite_canon ?_ ?_ | (apply mk_canon; assumption) | (show State.Canon sv; unfold sv)
           | (intro sv; refine (fun (hv : State.Canon sv) => ?_) ?_) | (intro sv) | (lift_lets))

theorem State.pilotShot_canon (s0 : State) (h_s0 : s0.Canon) :
    (State.pilotShot s0).Canon := by
  unfold State.pilotShot
  with_reducible repeat'
    (first | assumption | apply State.emit_canon | apply State.strobe_canon | apply State.pilotMissing_canon
           | refine ite_canon ?_ ?_ | (apply mk_canon; assumption) | (show State.Canon sv; unfold sv)
           | (intro sv; refine (fun (hv : State.Canon sv) => ?_) ?_) | (intro sv) | (lift_lets) | (split))

theorem State.pilotSeal_canon (s : State) (t : Nat) (h_s : s.Canon) :
    (State.pilotSeal s t).Canon := by
  unfold State.pilotSeal
  with_reducible repeat'
    (first | assumption | apply State.setTile_canon | refine ite_canon ?_ ?_
           | (apply mk_canon; first | assumption | apply State.setTile_canon) | (show State.Canon sv; unfold sv)
           | (show State.Canon sv.2; unfold sv) | (show State.Canon sv.st; unfold sv) | (show State.Canon sv.2.2; unfold sv)
           | (intro sv; refine (fun (hv : State.Canon sv) => ?_) ?_)
           | (intro sv; refine (fun (hv : State.Canon sv.2) => ?_) ?_)
           | (intro sv; refine (fun (hv : State.Canon sv.st) => ?_) ?_)
           | (intro sv; refine (fun (hv : State.Canon sv.2.2) => ?_) ?_) | (intro sv) | (lift_lets) | (split)
           | (dsimp -zeta only))

theorem State.pilotWindow_canon (s0 : State) (t lead tot : Nat) (h_s0 : s0.Canon) :
    (State.pilotWindow s0 t lead tot).Canon := by
  unfold State.pilotWindow
  with_reducible repeat'
    (first | assumption | apply State.setTile_canon | apply State.pilotSeal_canon | refine ite_canon ?_ ?_
           | (apply mk_canon; assumption) | (show State.Canon sv; unfold sv)
           | (intro sv; refine (fun (hv : State.Canon sv) => ?_) ?_) | (intro sv) | (lift_lets))

theorem State.pilotPower_canon (s : State) (t : Nat) (h_s : s.Canon) :
    (State.pilotPower s t).Canon := by
  unfold State.pilotPower
  with_reducible repeat'
    (first | assumption | apply State.setTile_canon | (apply mk_canon; assumption) | (show State.Canon sv; unfold sv)
           | (intro sv; refine (fun (hv : State.Canon sv) => ?_) ?_) | (intro sv) | (lift_lets))

theorem State.pilotEvaluate_canon (s : State) (h_s : s.Canon) :
    (State.pilotEvaluate s).Canon := by
  unfold State.pilotEvaluate
  with_reducible repeat'
    (first | assumption | apply State.grantsCheck_canon | refine ite_canon ?_ ?_ | (apply mk_canon; assumption)
           | (show State.Canon sv; unfold sv) | (intro sv; refine (fun (hv : State.Canon sv) => ?_) ?_) | (intro sv)
           | (lift_lets))

theorem State.pilotBlind_canon (s : State) (h_s : s.Canon) :
    (State.pilotBlind s).Canon := by
  unfold State.pilotBlind
  with_reducible repeat'
    (first | assumption | apply State.grantsCheck_canon | (apply mk_canon; assumption))

theorem State.pilotGrant_canon (s : State) (h_s : s.Canon) :
    (State.pilotGrant s).Canon := by
  unfold State.pilotGrant
  with_reducible repeat'
    (first | assumption | apply State.grantsCheck_canon | (apply mk_canon; assumption))

end Sys2Proof.Machine
end

