-- ==== Sys2Proof/Laws/Canon/PinReset.lean ====
section
/-! SUPPORT. Every operation of Machine/PinReset.lean keeps the canonical form of the tables and memories. -/

namespace Sys2Proof.Machine

theorem State.pinReset_canon (s : State) (keep : Nat → Bool) (h_s : s.Canon) :
    (State.pinReset s keep).Canon := ⟨tabWf_filter _ _ _ _ h_s.regs, rfl, h_s.ztStage, h_s.devMem, h_s.hostMem, h_s.nor, h_s.calStage⟩

theorem State.holdShow_canon (s old : State) (h_s : s.Canon) (h_old : old.Canon) :
    (State.holdShow s old).Canon := by
  unfold State.holdShow
  with_reducible repeat'
    (first | assumption | apply State.setReg_canon | apply State.put_canon | (show State.Canon sv; unfold sv)
           | (intro sv; refine (fun (hv : State.Canon sv) => ?_) ?_) | (intro sv) | (lift_lets))

theorem State.capIsolate_canon (s : State) (h_s : s.Canon) :
    (State.capIsolate s).Canon := by
  unfold State.capIsolate
  with_reducible repeat'
    (first | assumption | (apply mk_canon; assumption) | (show State.Canon sv; unfold sv)
           | (intro sv; refine (fun (hv : State.Canon sv) => ?_) ?_) | (intro sv) | (lift_lets))

theorem State.porst_canon (s : State) (tiles : Nat) (h_s : s.Canon) :
    (State.porst s tiles).Canon := by
  unfold State.porst
  with_reducible repeat'
    (first | assumption | apply State.put_canon | apply State.pinReset_canon | apply State.holdShow_canon
           | apply State.capIsolate_canon
           | (apply mk_canon; first | assumption | apply State.put_canon | apply State.pinReset_canon | apply State.holdShow_canon | apply State.capIsolate_canon)
           | (show State.Canon sv; unfold sv) | (show State.Canon sv.2; unfold sv) | (show State.Canon sv.st; unfold sv)
           | (show State.Canon sv.2.2; unfold sv) | (intro sv; refine (fun (hv : State.Canon sv) => ?_) ?_)
           | (intro sv; refine (fun (hv : State.Canon sv.2) => ?_) ?_)
           | (intro sv; refine (fun (hv : State.Canon sv.st) => ?_) ?_)
           | (intro sv; refine (fun (hv : State.Canon sv.2.2) => ?_) ?_) | (intro sv) | (lift_lets) | (split)
           | (dsimp -zeta only))

theorem State.claimsWarm_canon (s : State) (h_s : s.Canon) :
    (State.claimsWarm s).Canon := by
  unfold State.claimsWarm
  with_reducible repeat'
    (first | assumption | apply State.put_canon | refine foldl_canon (fun s a h => ?_) ?_ | refine ite_canon ?_ ?_)

theorem State.aonIdle_canon (s : State) (h_s : s.Canon) :
    (State.aonIdle s).Canon := by
  unfold State.aonIdle
  with_reducible repeat'
    (first | assumption | apply State.put_canon | apply State.clearFlag_canon | refine foldl_canon (fun s a h => ?_) ?_
           | (show State.Canon sv; unfold sv) | (intro sv; refine (fun (hv : State.Canon sv) => ?_) ?_) | (intro sv)
           | (lift_lets))

theorem State.warmRst_canon (s : State) (h_s : s.Canon) :
    (State.warmRst s).Canon := by
  unfold State.warmRst
  with_reducible repeat'
    (first | assumption | apply State.put_canon | apply State.setFlag_canon | refine State.when_canon _ _ _ ?_ (fun s h => ?_)
           | apply State.pinReset_canon | apply State.holdShow_canon | apply State.capIsolate_canon
           | apply State.claimsWarm_canon | apply State.aonIdle_canon
           | (apply mk_canon; first | assumption | apply State.put_canon | apply State.setFlag_canon | refine State.when_canon _ _ _ ?_ (fun s h => ?_) | apply State.pinReset_canon | apply State.holdShow_canon | apply State.capIsolate_canon | apply State.claimsWarm_canon | apply State.aonIdle_canon)
           | (show State.Canon sv; unfold sv) | (show State.Canon sv.2; unfold sv) | (show State.Canon sv.st; unfold sv)
           | (show State.Canon sv.2.2; unfold sv) | (intro sv; refine (fun (hv : State.Canon sv) => ?_) ?_)
           | (intro sv; refine (fun (hv : State.Canon sv.2) => ?_) ?_)
           | (intro sv; refine (fun (hv : State.Canon sv.st) => ?_) ?_)
           | (intro sv; refine (fun (hv : State.Canon sv.2.2) => ?_) ?_) | (intro sv) | (lift_lets) | (split)
           | (dsimp -zeta only))

theorem State.resetRelease_canon (s : State) (twinId : Bool) (h_s : s.Canon) :
    (State.resetRelease s twinId).Canon := by
  unfold State.resetRelease
  with_reducible repeat'
    (first | assumption | apply State.put_canon | apply State.resetReg_canon | apply State.enterMode_canon
           | refine ite_canon ?_ ?_ | (apply mk_canon; assumption) | (show State.Canon sv; unfold sv)
           | (intro sv; refine (fun (hv : State.Canon sv) => ?_) ?_) | (intro sv) | (lift_lets))

end Sys2Proof.Machine
end

