-- ==== Sys2Proof/Laws/Events.lean ====
section
/-! SUPPORT. Everything that raising an event can move (R401 to R403), said once. -/

namespace Sys2Proof.Machine

theorem State.OnlyRegsEv.refl (s : State) (l : List Nat) : s.OnlyRegsEv s l := ⟨rfl, fun _ _ _ => rfl⟩

theorem State.OnlyRegsEv.trans {s t u : State} {l : List Nat} (h : s.OnlyRegsEv t l) (k : t.OnlyRegsEv u l) : s.OnlyRegsEv u l := by
  refine ⟨?_, fun a ha he => (k.2 a ha he).trans (h.2 a ha he)⟩
  rw [k.1, h.1]

theorem State.OnlyRegsEv.mono {s t : State} {l m : List Nat} (h : s.OnlyRegsEv t l) (hs : ∀ a ∈ l, a ∈ m) : s.OnlyRegsEv t m :=
  ⟨h.1, fun a ha he => h.2 a (fun hl => ha (hs a hl)) he⟩

/-- A write of a field whose register is in `l`, or is one of the event system's. -/
theorem State.OnlyRegsEv.put {s t : State} {l : List Nat} (h : s.OnlyRegsEv t l) (f : FRef) (x : Nat)
    (hf : f.addr ∈ l ∨ evReg f.addr = true) : s.OnlyRegsEv (t.put f x) l := by
  refine ⟨?_, fun a ha he => ?_⟩
  · rw [h.1]; rfl
  · rw [State.reg_put_ne _ _ _ ?_]
    · exact h.2 a ha he
    · rintro rfl; cases hf with
      | inl hf => exact ha hf
      | inr hf => rw [hf] at he; cases he

theorem State.OnlyRegsEv.setReg {s t : State} {l : List Nat} (h : s.OnlyRegsEv t l) (b : Nat) (v : BitVec 64)
    (hf : b ∈ l ∨ evReg b = true) : s.OnlyRegsEv (t.setReg b v) l := by
  refine ⟨?_, fun a ha he => ?_⟩
  · rw [h.1]; rfl
  · rw [State.reg_setReg_ne _ _ ?_]
    · exact h.2 a ha he
    · rintro rfl; cases hf with
      | inl hf => exact ha hf
      | inr hf => rw [hf] at he; cases he

theorem State.OnlyRegsEv.ev {s t : State} {l : List Nat} (h : s.OnlyRegsEv t l) (e : EvSt) : s.OnlyRegsEv { t with ev := e } l := by
  refine ⟨?_, fun a ha he => h.2 a ha he⟩
  rw [h.1]

theorem State.OnlyRegsEv.emit {s t : State} {l : List Nat} (h : s.OnlyRegsEv t l) (m : Out) : s.OnlyRegsEv (t.emit m) l := by
  refine ⟨?_, fun a ha he => h.2 a ha he⟩
  rw [h.1]; rfl

theorem State.OnlyRegsEv.ite {s a b : State} {l : List Nat} {c : Prop} [Decidable c] (ha : s.OnlyRegsEv a l) (hb : s.OnlyRegsEv b l) :
    s.OnlyRegsEv (if c then a else b) l := by split <;> assumption

theorem evReg_pend (w : Nat) (h : w < 8) : evReg (EVT_PEND.addr w) = true := by
  have : w = 0 ∨ w = 1 ∨ w = 2 ∨ w = 3 ∨ w = 4 ∨ w = 5 ∨ w = 6 ∨ w = 7 := by omega
  rcases this with h | h | h | h | h | h | h | h <;> subst h <;> rfl

theorem State.OnlyRegsEv.evLevel {s t : State} {l : List Nat} (h : s.OnlyRegsEv t l) (e : EvSt) : s.OnlyRegsEv (t.evLevel e) l := by
  unfold State.evLevel
  exact ite (put (ite (put (put (ev h _) _ _ (.inr rfl)) _ _ (.inr rfl)) (put (ev h _) _ _ (.inr rfl))) _ _ (.inr rfl))
    (ite (put (put (ev h _) _ _ (.inr rfl)) _ _ (.inr rfl)) (put (ev h _) _ _ (.inr rfl)))

theorem State.OnlyRegsEv.evLost {s t : State} {l : List Nat} (h : s.OnlyRegsEv t l) : s.OnlyRegsEv t.evLost l :=
  put (put h _ _ (.inr rfl)) _ _ (.inr rfl)

theorem State.OnlyRegsEv.evInsert {s t : State} {l : List Nat} (h : s.OnlyRegsEv t l) (r : EvRec) (v : Nat) (o : Bool) :
    s.OnlyRegsEv (t.evInsert r v o) l := by
  unfold State.evInsert
  refine ite (emit (evLevel h _) _) ?_
  split
  · exact ite (emit (evLost (evLevel h _)) _) (ite (ev h _) (evLost (ev h _)))
  · exact h

theorem State.OnlyRegsEv.raiseOne {s t : State} {l : List Nat} (h : s.OnlyRegsEv t l) {src : Nat} (i0 i1 : Nat) (o : Bool)
    (hs : src < 250) : s.OnlyRegsEv (t.raiseOne src i0 i1 o) l := by
  unfold State.raiseOne
  have h1 := setReg h (EVT_PEND.addr (src / 32)) (t.reg (EVT_PEND.addr (src / 32)) ||| BitVec.ofNat 64 (2 ^ (src % 32)))
    (.inr (evReg_pend _ (by omega)))
  exact ite h1 (ite (ev h1 _) (evInsert (put h1 _ _ (.inr rfl)) _ _ _))

/-- A raise moves the event system and puts out messages: nothing else (R401 to R403). -/
theorem State.OnlyRegsEv.raise {s t : State} {l : List Nat} (h : s.OnlyRegsEv t l) {src : Nat} (i0 i1 : Nat) (hs : src < 250) :
    s.OnlyRegsEv (t.raise src i0 i1) l := by
  have ovf : ∀ {u : State}, s.OnlyRegsEv u l → s.OnlyRegsEv u.raiseOverflow l := fun {u} k => by
    unfold State.raiseOverflow; exact ite (raiseOne (ev k _) _ _ _ (by decide)) k
  have wm : ∀ {u : State}, s.OnlyRegsEv u l → s.OnlyRegsEv u.raiseWatermark l := fun {u} k => by
    unfold State.raiseWatermark; exact ite (raiseOne (ev k _) _ _ _ (by decide)) k
  exact ovf (wm (ovf (raiseOne h _ _ _ hs)))

theorem State.OnlyRegsEv.raiseInst {s t : State} {l : List Nat} (h : s.OnlyRegsEv t l) {src : Nat} (i : Nat) (hs : src < 250) :
    s.OnlyRegsEv (t.raiseInst src i) l := raise h _ _ hs

theorem State.OnlyRegsEv.raiseIf {s t : State} {l : List Nat} (h : s.OnlyRegsEv t l) (c : Bool) {src : Nat} (i : Nat)
    (hs : src < 250) : s.OnlyRegsEv (t.raiseIf c src i) l := by
  unfold State.raiseIf; exact ite (raise h _ _ hs) h

/-- A raise leaves every register outside the event system alone. -/
theorem State.raise_reg (s : State) {src : Nat} (i0 i1 : Nat) (hs : src < 250) {a : Nat} (ha : evReg a = false) :
    (s.raise src i0 i1).reg a = s.reg a :=
  (State.OnlyRegsEv.raise (State.OnlyRegsEv.refl s []) i0 i1 hs).2 a (by simp) ha

theorem State.raise_get (s : State) {src : Nat} (i0 i1 : Nat) (hs : src < 250) {f : FRef} (ha : evReg f.addr = false) :
    (s.raise src i0 i1).get f = s.get f := by
  unfold State.get; rw [State.raise_reg s i0 i1 hs ha]

/-- `t` is `s` but for registers, the event system and messages. -/
def State.EvLike (s t : State) : Prop := t = { s with regs := t.regs, ev := t.ev, out := t.out }

theorem State.EvLike.refl (s : State) : s.EvLike s := rfl
theorem State.EvLike.setReg {s t : State} (h : s.EvLike t) (a : Nat) (v : BitVec 64) : s.EvLike (t.setReg a v) := by
  unfold State.EvLike at *; rw [h]; rfl
theorem State.EvLike.put {s t : State} (h : s.EvLike t) (f : FRef) (x : Nat) : s.EvLike (t.put f x) := h.setReg _ _
theorem State.EvLike.ev {s t : State} (h : s.EvLike t) (e : EvSt) : s.EvLike { t with ev := e } := by
  unfold State.EvLike at *; rw [h]
theorem State.EvLike.emit {s t : State} (h : s.EvLike t) (m : Out) : s.EvLike (t.emit m) := by
  unfold State.EvLike at *; rw [h]; rfl
theorem State.EvLike.ite {s a b : State} {c : Prop} [Decidable c] (ha : s.EvLike a) (hb : s.EvLike b) :
    s.EvLike (if c then a else b) := by split <;> assumption

theorem State.EvLike.raiseOne {s t : State} (h : s.EvLike t) (src i0 i1 : Nat) (o : Bool) : s.EvLike (t.raiseOne src i0 i1 o) := by
  have lev : ∀ {u : State} (e : EvSt), s.EvLike u → s.EvLike (u.evLevel e) := fun {u} e k => by
    unfold State.evLevel
    exact ite (put (ite (put (put (ev k _) _ _) _ _) (put (ev k _) _ _)) _ _) (ite (put (put (ev k _) _ _) _ _) (put (ev k _) _ _))
  have ins : ∀ {u : State} (r : EvRec) (v : Nat) (o : Bool), s.EvLike u → s.EvLike (u.evInsert r v o) := fun {u} r v o k => by
    unfold State.evInsert
    refine ite (emit (lev _ k) _) ?_
    split
    · exact ite (emit (put (put (lev _ k) _ _) _ _) _) (ite (ev k _) (put (put (ev k _) _ _) _ _))
    · exact k
  unfold State.raiseOne
  have h1 := setReg h (EVT_PEND.addr (src / 32)) (t.reg (EVT_PEND.addr (src / 32)) ||| BitVec.ofNat 64 (2 ^ (src % 32)))
  exact ite h1 (ite (ev h1 _) (ins _ _ _ (put h1 _ _)))

/-- A raise changes registers, the event system and messages, and no other part of the state. -/
theorem State.raise_evLike (s : State) (src i0 i1 : Nat) : s.EvLike (s.raise src i0 i1) := by
  have ovf : ∀ {u : State}, s.EvLike u → s.EvLike u.raiseOverflow := fun {u} k => by
    unfold State.raiseOverflow; exact .ite (.raiseOne (.ev k _) _ _ _ _) k
  have wm : ∀ {u : State}, s.EvLike u → s.EvLike u.raiseWatermark := fun {u} k => by
    unfold State.raiseWatermark; exact .ite (.raiseOne (.ev k _) _ _ _ _) k
  exact ovf (wm (ovf (.raiseOne (.refl s) _ _ _ _)))

theorem State.raiseIf_evLike (s : State) (c : Bool) (src i0 : Nat) : s.EvLike (s.raiseIf c src i0) := by
  unfold State.raiseIf; exact .ite (s.raise_evLike _ _ _) (.refl s)

@[simp] theorem State.raise_pending (s : State) (src i0 i1 : Nat) : (s.raise src i0 i1).pending = s.pending := by rw [s.raise_evLike src i0 i1]
@[simp] theorem State.raise_hub (s : State) (src i0 i1 : Nat) : (s.raise src i0 i1).hub = s.hub := by rw [s.raise_evLike src i0 i1]
@[simp] theorem State.raise_ports (s : State) (src i0 i1 : Nat) : (s.raise src i0 i1).ports = s.ports := by rw [s.raise_evLike src i0 i1]
@[simp] theorem State.raise_host (s : State) (src i0 i1 : Nat) : (s.raise src i0 i1).host = s.host := by rw [s.raise_evLike src i0 i1]
@[simp] theorem State.raise_time (s : State) (src i0 i1 : Nat) : (s.raise src i0 i1).time = s.time := by rw [s.raise_evLike src i0 i1]
@[simp] theorem State.raise_fire (s : State) (src i0 i1 : Nat) : (s.raise src i0 i1).fire = s.fire := by rw [s.raise_evLike src i0 i1]
@[simp] theorem State.raise_tiles (s : State) (src i0 i1 : Nat) : (s.raise src i0 i1).tiles = s.tiles := by rw [s.raise_evLike src i0 i1]
@[simp] theorem State.raise_hist (s : State) (src i0 i1 : Nat) : (s.raise src i0 i1).hist = s.hist := by rw [s.raise_evLike src i0 i1]
@[simp] theorem State.raise_echo (s : State) (src i0 i1 : Nat) : (s.raise src i0 i1).echo = s.echo := by rw [s.raise_evLike src i0 i1]
@[simp] theorem State.raise_saf (s : State) (src i0 i1 : Nat) : (s.raise src i0 i1).saf = s.saf := by rw [s.raise_evLike src i0 i1]
@[simp] theorem State.raise_snf (s : State) (src i0 i1 : Nat) : (s.raise src i0 i1).snf = s.snf := by rw [s.raise_evLike src i0 i1]
@[simp] theorem State.raise_boot (s : State) (src i0 i1 : Nat) : (s.raise src i0 i1).boot = s.boot := by rw [s.raise_evLike src i0 i1]
@[simp] theorem State.raise_twn (s : State) (src i0 i1 : Nat) : (s.raise src i0 i1).twn = s.twn := by rw [s.raise_evLike src i0 i1]
@[simp] theorem State.raise_fireTab (s : State) (src i0 i1 : Nat) : (s.raise src i0 i1).fireTab = s.fireTab := by rw [s.raise_evLike src i0 i1]
@[simp] theorem State.raise_ztStage (s : State) (src i0 i1 : Nat) : (s.raise src i0 i1).ztStage = s.ztStage := by rw [s.raise_evLike src i0 i1]
@[simp] theorem State.raise_devMem (s : State) (src i0 i1 : Nat) : (s.raise src i0 i1).devMem = s.devMem := by rw [s.raise_evLike src i0 i1]
@[simp] theorem State.raise_hostMem (s : State) (src i0 i1 : Nat) : (s.raise src i0 i1).hostMem = s.hostMem := by rw [s.raise_evLike src i0 i1]
@[simp] theorem State.raise_mem (s : State) (src i0 i1 : Nat) : (s.raise src i0 i1).mem = s.mem := by rw [s.raise_evLike src i0 i1]
@[simp] theorem State.raise_eth (s : State) (src i0 i1 : Nat) : (s.raise src i0 i1).eth = s.eth := by rw [s.raise_evLike src i0 i1]
@[simp] theorem State.raise_ind (s : State) (src i0 i1 : Nat) : (s.raise src i0 i1).ind = s.ind := by rw [s.raise_evLike src i0 i1]
@[simp] theorem State.raise_hk (s : State) (src i0 i1 : Nat) : (s.raise src i0 i1).hk = s.hk := by rw [s.raise_evLike src i0 i1]
@[simp] theorem State.raise_chm (s : State) (src i0 i1 : Nat) : (s.raise src i0 i1).chm = s.chm := by rw [s.raise_evLike src i0 i1]
@[simp] theorem State.raise_thm (s : State) (src i0 i1 : Nat) : (s.raise src i0 i1).thm = s.thm := by rw [s.raise_evLike src i0 i1]
@[simp] theorem State.raise_loops (s : State) (src i0 i1 : Nat) : (s.raise src i0 i1).loops = s.loops := by rw [s.raise_evLike src i0 i1]
@[simp] theorem State.raise_cal (s : State) (src i0 i1 : Nat) : (s.raise src i0 i1).cal = s.cal := by rw [s.raise_evLike src i0 i1]
@[simp] theorem State.raise_nor (s : State) (src i0 i1 : Nat) : (s.raise src i0 i1).nor = s.nor := by rw [s.raise_evLike src i0 i1]
@[simp] theorem State.raise_calStage (s : State) (src i0 i1 : Nat) : (s.raise src i0 i1).calStage = s.calStage := by rw [s.raise_evLike src i0 i1]
@[simp] theorem State.raise_freeCtr (s : State) (src i0 i1 : Nat) : (s.raise src i0 i1).freeCtr = s.freeCtr := by rw [s.raise_evLike src i0 i1]
@[simp] theorem State.raiseInst_pending (s : State) (src i : Nat) : (s.raiseInst src i).pending = s.pending := s.raise_pending _ _ _
@[simp] theorem State.raiseInst_hub (s : State) (src i : Nat) : (s.raiseInst src i).hub = s.hub := s.raise_hub _ _ _
@[simp] theorem State.raiseInst_ports (s : State) (src i : Nat) : (s.raiseInst src i).ports = s.ports := s.raise_ports _ _ _
@[simp] theorem State.raiseInst_host (s : State) (src i : Nat) : (s.raiseInst src i).host = s.host := s.raise_host _ _ _
@[simp] theorem State.raiseInst_time (s : State) (src i : Nat) : (s.raiseInst src i).time = s.time := s.raise_time _ _ _
@[simp] theorem State.raiseInst_fire (s : State) (src i : Nat) : (s.raiseInst src i).fire = s.fire := s.raise_fire _ _ _
@[simp] theorem State.raiseInst_tiles (s : State) (src i : Nat) : (s.raiseInst src i).tiles = s.tiles := s.raise_tiles _ _ _
@[simp] theorem State.raiseInst_hist (s : State) (src i : Nat) : (s.raiseInst src i).hist = s.hist := s.raise_hist _ _ _
@[simp] theorem State.raiseInst_echo (s : State) (src i : Nat) : (s.raiseInst src i).echo = s.echo := s.raise_echo _ _ _
@[simp] theorem State.raiseInst_saf (s : State) (src i : Nat) : (s.raiseInst src i).saf = s.saf := s.raise_saf _ _ _
@[simp] theorem State.raiseInst_snf (s : State) (src i : Nat) : (s.raiseInst src i).snf = s.snf := s.raise_snf _ _ _
@[simp] theorem State.raiseInst_boot (s : State) (src i : Nat) : (s.raiseInst src i).boot = s.boot := s.raise_boot _ _ _
@[simp] theorem State.raiseInst_twn (s : State) (src i : Nat) : (s.raiseInst src i).twn = s.twn := s.raise_twn _ _ _
@[simp] theorem State.raiseInst_fireTab (s : State) (src i : Nat) : (s.raiseInst src i).fireTab = s.fireTab := s.raise_fireTab _ _ _
@[simp] theorem State.raiseInst_ztStage (s : State) (src i : Nat) : (s.raiseInst src i).ztStage = s.ztStage := s.raise_ztStage _ _ _
@[simp] theorem State.raiseInst_devMem (s : State) (src i : Nat) : (s.raiseInst src i).devMem = s.devMem := s.raise_devMem _ _ _
@[simp] theorem State.raiseInst_hostMem (s : State) (src i : Nat) : (s.raiseInst src i).hostMem = s.hostMem := s.raise_hostMem _ _ _
@[simp] theorem State.raiseInst_mem (s : State) (src i : Nat) : (s.raiseInst src i).mem = s.mem := s.raise_mem _ _ _
@[simp] theorem State.raiseInst_eth (s : State) (src i : Nat) : (s.raiseInst src i).eth = s.eth := s.raise_eth _ _ _
@[simp] theorem State.raiseInst_ind (s : State) (src i : Nat) : (s.raiseInst src i).ind = s.ind := s.raise_ind _ _ _
@[simp] theorem State.raiseInst_hk (s : State) (src i : Nat) : (s.raiseInst src i).hk = s.hk := s.raise_hk _ _ _
@[simp] theorem State.raiseInst_chm (s : State) (src i : Nat) : (s.raiseInst src i).chm = s.chm := s.raise_chm _ _ _
@[simp] theorem State.raiseInst_thm (s : State) (src i : Nat) : (s.raiseInst src i).thm = s.thm := s.raise_thm _ _ _
@[simp] theorem State.raiseInst_loops (s : State) (src i : Nat) : (s.raiseInst src i).loops = s.loops := s.raise_loops _ _ _
@[simp] theorem State.raiseInst_cal (s : State) (src i : Nat) : (s.raiseInst src i).cal = s.cal := s.raise_cal _ _ _
@[simp] theorem State.raiseInst_nor (s : State) (src i : Nat) : (s.raiseInst src i).nor = s.nor := s.raise_nor _ _ _
@[simp] theorem State.raiseInst_calStage (s : State) (src i : Nat) : (s.raiseInst src i).calStage = s.calStage := s.raise_calStage _ _ _
@[simp] theorem State.raiseInst_freeCtr (s : State) (src i : Nat) : (s.raiseInst src i).freeCtr = s.freeCtr := s.raise_freeCtr _ _ _
@[simp] theorem State.raiseIf_pending (s : State) (c : Bool) (src i : Nat) : (s.raiseIf c src i).pending = s.pending := by rw [s.raiseIf_evLike c src i]
@[simp] theorem State.raiseIf_hub (s : State) (c : Bool) (src i : Nat) : (s.raiseIf c src i).hub = s.hub := by rw [s.raiseIf_evLike c src i]
@[simp] theorem State.raiseIf_ports (s : State) (c : Bool) (src i : Nat) : (s.raiseIf c src i).ports = s.ports := by rw [s.raiseIf_evLike c src i]
@[simp] theorem State.raiseIf_host (s : State) (c : Bool) (src i : Nat) : (s.raiseIf c src i).host = s.host := by rw [s.raiseIf_evLike c src i]
@[simp] theorem State.raiseIf_time (s : State) (c : Bool) (src i : Nat) : (s.raiseIf c src i).time = s.time := by rw [s.raiseIf_evLike c src i]
@[simp] theorem State.raiseIf_fire (s : State) (c : Bool) (src i : Nat) : (s.raiseIf c src i).fire = s.fire := by rw [s.raiseIf_evLike c src i]
@[simp] theorem State.raiseIf_tiles (s : State) (c : Bool) (src i : Nat) : (s.raiseIf c src i).tiles = s.tiles := by rw [s.raiseIf_evLike c src i]
@[simp] theorem State.raiseIf_hist (s : State) (c : Bool) (src i : Nat) : (s.raiseIf c src i).hist = s.hist := by rw [s.raiseIf_evLike c src i]
@[simp] theorem State.raiseIf_echo (s : State) (c : Bool) (src i : Nat) : (s.raiseIf c src i).echo = s.echo := by rw [s.raiseIf_evLike c src i]
@[simp] theorem State.raiseIf_saf (s : State) (c : Bool) (src i : Nat) : (s.raiseIf c src i).saf = s.saf := by rw [s.raiseIf_evLike c src i]
@[simp] theorem State.raiseIf_snf (s : State) (c : Bool) (src i : Nat) : (s.raiseIf c src i).snf = s.snf := by rw [s.raiseIf_evLike c src i]
@[simp] theorem State.raiseIf_boot (s : State) (c : Bool) (src i : Nat) : (s.raiseIf c src i).boot = s.boot := by rw [s.raiseIf_evLike c src i]
@[simp] theorem State.raiseIf_twn (s : State) (c : Bool) (src i : Nat) : (s.raiseIf c src i).twn = s.twn := by rw [s.raiseIf_evLike c src i]
@[simp] theorem State.raiseIf_fireTab (s : State) (c : Bool) (src i : Nat) : (s.raiseIf c src i).fireTab = s.fireTab := by rw [s.raiseIf_evLike c src i]
@[simp] theorem State.raiseIf_ztStage (s : State) (c : Bool) (src i : Nat) : (s.raiseIf c src i).ztStage = s.ztStage := by rw [s.raiseIf_evLike c src i]
@[simp] theorem State.raiseIf_devMem (s : State) (c : Bool) (src i : Nat) : (s.raiseIf c src i).devMem = s.devMem := by rw [s.raiseIf_evLike c src i]
@[simp] theorem State.raiseIf_hostMem (s : State) (c : Bool) (src i : Nat) : (s.raiseIf c src i).hostMem = s.hostMem := by rw [s.raiseIf_evLike c src i]
@[simp] theorem State.raiseIf_mem (s : State) (c : Bool) (src i : Nat) : (s.raiseIf c src i).mem = s.mem := by rw [s.raiseIf_evLike c src i]
@[simp] theorem State.raiseIf_eth (s : State) (c : Bool) (src i : Nat) : (s.raiseIf c src i).eth = s.eth := by rw [s.raiseIf_evLike c src i]
@[simp] theorem State.raiseIf_ind (s : State) (c : Bool) (src i : Nat) : (s.raiseIf c src i).ind = s.ind := by rw [s.raiseIf_evLike c src i]
@[simp] theorem State.raiseIf_hk (s : State) (c : Bool) (src i : Nat) : (s.raiseIf c src i).hk = s.hk := by rw [s.raiseIf_evLike c src i]
@[simp] theorem State.raiseIf_chm (s : State) (c : Bool) (src i : Nat) : (s.raiseIf c src i).chm = s.chm := by rw [s.raiseIf_evLike c src i]
@[simp] theorem State.raiseIf_thm (s : State) (c : Bool) (src i : Nat) : (s.raiseIf c src i).thm = s.thm := by rw [s.raiseIf_evLike c src i]
@[simp] theorem State.raiseIf_loops (s : State) (c : Bool) (src i : Nat) : (s.raiseIf c src i).loops = s.loops := by rw [s.raiseIf_evLike c src i]
@[simp] theorem State.raiseIf_cal (s : State) (c : Bool) (src i : Nat) : (s.raiseIf c src i).cal = s.cal := by rw [s.raiseIf_evLike c src i]
@[simp] theorem State.raiseIf_nor (s : State) (c : Bool) (src i : Nat) : (s.raiseIf c src i).nor = s.nor := by rw [s.raiseIf_evLike c src i]
@[simp] theorem State.raiseIf_calStage (s : State) (c : Bool) (src i : Nat) : (s.raiseIf c src i).calStage = s.calStage := by rw [s.raiseIf_evLike c src i]
@[simp] theorem State.raiseIf_freeCtr (s : State) (c : Bool) (src i : Nat) : (s.raiseIf c src i).freeCtr = s.freeCtr := by rw [s.raiseIf_evLike c src i]

/-- A pending bit, once set, stays set while events are raised. -/
theorem State.Pends.put {s : State} {k : Nat} (h : s.Pends k) (f : FRef) (x : Nat) (hf : f.addr ≠ EVT_PEND.addr (k / 32)) :
    (s.put f x).Pends k := by
  unfold State.Pends at *; rw [State.reg_put_ne _ _ _ (Ne.symm hf)]; exact h

theorem pend_ne_stat {k : Nat} (hk : k < 250) : EVT_STAT.addr ≠ EVT_PEND.addr (k / 32) := by
  simp only [EVT_STAT.addr, EVT_PEND.addr]; omega

theorem pend_ne_ring {k : Nat} : RING_EV_STAT.addr ≠ EVT_PEND.addr (k / 32) := by
  simp only [RING_EV_STAT.addr, EVT_PEND.addr]; omega

theorem State.Pends.regs {s t : State} {k : Nat} (h : s.Pends k) (e : t.regs = s.regs) : t.Pends k := by
  unfold State.Pends at *; rw [State.reg_congr e]; exact h

theorem State.Pends.ite {a b : State} {c : Prop} [Decidable c] {k : Nat} (ha : a.Pends k) (hb : b.Pends k) :
    (if c then a else b).Pends k := by split <;> assumption

theorem State.Pends.ev {s : State} {k : Nat} (h : s.Pends k) (e : EvSt) : State.Pends { s with ev := e } k := h

theorem State.Pends.emit {s : State} {k : Nat} (h : s.Pends k) (m : Out) : (s.emit m).Pends k := h

theorem State.Pends.evLevel {s : State} {k : Nat} (h : s.Pends k) (e : EvSt) : (s.evLevel e).Pends k := by
  unfold State.evLevel
  have r := @pend_ne_ring k
  exact ite (put (ite (put (put (ev h _) _ _ r) _ _ r) (put (ev h _) _ _ r)) _ _ r)
    (ite (put (put (ev h _) _ _ r) _ _ r) (put (ev h _) _ _ r))

theorem State.Pends.evInsert {s : State} {k : Nat} (hk : k < 250) (h : s.Pends k) (r : EvRec) (v : Nat) (o : Bool) :
    (s.evInsert r v o).Pends k := by
  have st := pend_ne_stat hk
  have lost : ∀ {u : State}, u.Pends k → u.evLost.Pends k := fun {u} h => (h.put _ _ st).put _ _ st
  unfold State.evInsert
  refine ite (emit (evLevel h _) _) ?_
  split
  · exact ite (emit (lost (evLevel h _)) _) (ite (ev h _) (lost (ev h _)))
  · exact h

theorem State.Pends.set {s : State} {k src : Nat} (h : s.Pends k ∨ k = src) :
    (s.setReg (EVT_PEND.addr (src / 32)) (s.reg (EVT_PEND.addr (src / 32)) ||| BitVec.ofNat 64 (2 ^ (src % 32)))).Pends k := by
  unfold State.Pends at *
  by_cases e : k / 32 = src / 32
  · rw [e, State.reg_setReg_self, BitVec.toNat_or, Nat.testBit_or]
    cases h with
    | inl h => rw [e] at h; simp [h]
    | inr h =>
      subst h
      have : (BitVec.ofNat 64 (2 ^ (k % 32))).toNat = 2 ^ (k % 32) := by
        rw [BitVec.toNat_ofNat]; exact Nat.mod_eq_of_lt (Nat.pow_lt_pow_right (by omega) (by omega))
      rw [this, Nat.testBit_two_pow_self]; simp
  · rw [State.reg_setReg_ne]
    · cases h with
      | inl h => exact h
      | inr h => exact absurd (by rw [h]) e
    · simp only [EVT_PEND.addr]; omega

theorem State.Pends.raiseOne {s : State} {k src : Nat} (hk : k < 250) (h : s.Pends k ∨ k = src) (i0 i1 : Nat) (o : Bool) :
    (s.raiseOne src i0 i1 o).Pends k := by
  have h1 := State.Pends.set h
  unfold State.raiseOne
  generalize s.setReg (EVT_PEND.addr (src / 32)) (s.reg (EVT_PEND.addr (src / 32)) ||| BitVec.ofNat 64 (2 ^ (src % 32))) = u at h1 ⊢
  clear h
  dsimp only
  refine ite h1 (ite ?_ ?_)
  · exact ev h1 _
  · exact evInsert hk (put h1 RING_EV_STAT.next_seq _ pend_ne_ring) _ _ _

/-- A raise sets the source's bit of EVT_PEND and clears none (R401). -/
theorem State.Pends.raise {s : State} {k src : Nat} (hk : k < 250) (h : s.Pends k ∨ k = src) (i0 i1 : Nat) :
    (s.raise src i0 i1).Pends k := by
  have ovf : ∀ {u : State}, u.Pends k → u.raiseOverflow.Pends k := fun {u} h => by
    unfold State.raiseOverflow
    refine ite ?_ h
    exact State.Pends.raiseOne hk (.inl (ev h _)) _ _ _
  have wm : ∀ {u : State}, u.Pends k → u.raiseWatermark.Pends k := fun {u} h => by
    unfold State.raiseWatermark
    refine ite ?_ h
    exact State.Pends.raiseOne hk (.inl (ev h _)) _ _ _
  exact ovf (wm (ovf (State.Pends.raiseOne hk h _ _ _)))

theorem State.raise_pends (s : State) {src : Nat} (hk : src < 250) (i0 i1 : Nat) : (s.raise src i0 i1).Pends src :=
  State.Pends.raise hk (.inr rfl) _ _

end Sys2Proof.Machine
end

