-- ==== Sys2Proof/Laws/Frames.lean ====
section
/-! SUPPORT. What the shared operations leave alone, and how a field reads after them. -/

namespace Sys2Proof.Machine

/-- Two states with equal parts are equal. -/
theorem State.ext_of {s t : State} (h_pending : s.pending = t.pending) (h_regs : s.regs = t.regs) (h_hub : s.hub = t.hub)
    (h_ev : s.ev = t.ev) (h_ports : s.ports = t.ports) (h_host : s.host = t.host) (h_time : s.time = t.time) (h_fire : s.fire =
    t.fire) (h_tiles : s.tiles = t.tiles) (h_hist : s.hist = t.hist) (h_echo : s.echo = t.echo) (h_saf : s.saf = t.saf) (h_snf :
    s.snf = t.snf) (h_boot : s.boot = t.boot) (h_twn : s.twn = t.twn) (h_fireTab : s.fireTab = t.fireTab) (h_ztStage : s.ztStage
    = t.ztStage) (h_devMem : s.devMem = t.devMem) (h_hostMem : s.hostMem = t.hostMem) (h_mem : s.mem = t.mem) (h_eth : s.eth =
    t.eth) (h_ind : s.ind = t.ind) (h_hk : s.hk = t.hk) (h_chm : s.chm = t.chm) (h_thm : s.thm = t.thm) (h_loops : s.loops =
    t.loops) (h_cal : s.cal = t.cal) (h_nor : s.nor = t.nor) (h_calStage : s.calStage = t.calStage) (h_out : s.out = t.out)
    (h_freeCtr : s.freeCtr = t.freeCtr) : s = t := by
  cases s; cases t; simp_all only

theorem State.get_with_pending (s : State) (x : List Instr) (f : FRef) : State.get { s with pending := x } f = s.get f := rfl
theorem State.get_with_hub (s : State) (x : HubSt) (f : FRef) : State.get { s with hub := x } f = s.get f := rfl
theorem State.get_with_ev (s : State) (x : EvSt) (f : FRef) : State.get { s with ev := x } f = s.get f := rfl
theorem State.get_with_ports (s : State) (x : List PortSt) (f : FRef) : State.get { s with ports := x } f = s.get f := rfl
theorem State.get_with_host (s : State) (x : HostSt) (f : FRef) : State.get { s with host := x } f = s.get f := rfl
theorem State.get_with_time (s : State) (x : TimeSt) (f : FRef) : State.get { s with time := x } f = s.get f := rfl
theorem State.get_with_fire (s : State) (x : FireSt) (f : FRef) : State.get { s with fire := x } f = s.get f := rfl
theorem State.get_with_tiles (s : State) (x : List TileSt) (f : FRef) : State.get { s with tiles := x } f = s.get f := rfl
theorem State.get_with_hist (s : State) (x : HistSt) (f : FRef) : State.get { s with hist := x } f = s.get f := rfl
theorem State.get_with_echo (s : State) (x : EchoSt) (f : FRef) : State.get { s with echo := x } f = s.get f := rfl
theorem State.get_with_saf (s : State) (x : SafSt) (f : FRef) : State.get { s with saf := x } f = s.get f := rfl
theorem State.get_with_snf (s : State) (x : SnfSt) (f : FRef) : State.get { s with snf := x } f = s.get f := rfl
theorem State.get_with_boot (s : State) (x : BootSt) (f : FRef) : State.get { s with boot := x } f = s.get f := rfl
theorem State.get_with_twn (s : State) (x : TwnSt) (f : FRef) : State.get { s with twn := x } f = s.get f := rfl
theorem State.get_with_fireTab (s : State) (x : List Host.Cell) (f : FRef) : State.get { s with fireTab := x } f = s.get f := rfl
theorem State.get_with_ztStage (s : State) (x : List Host.Cell) (f : FRef) : State.get { s with ztStage := x } f = s.get f := rfl
theorem State.get_with_devMem (s : State) (x : List Host.Cell) (f : FRef) : State.get { s with devMem := x } f = s.get f := rfl
theorem State.get_with_hostMem (s : State) (x : List Host.Cell) (f : FRef) : State.get { s with hostMem := x } f = s.get f := rfl
theorem State.get_with_mem (s : State) (x : MemSt) (f : FRef) : State.get { s with mem := x } f = s.get f := rfl
theorem State.get_with_eth (s : State) (x : EthSt) (f : FRef) : State.get { s with eth := x } f = s.get f := rfl
theorem State.get_with_ind (s : State) (x : IndSt) (f : FRef) : State.get { s with ind := x } f = s.get f := rfl
theorem State.get_with_hk (s : State) (x : HkSt) (f : FRef) : State.get { s with hk := x } f = s.get f := rfl
theorem State.get_with_chm (s : State) (x : ChmSt) (f : FRef) : State.get { s with chm := x } f = s.get f := rfl
theorem State.get_with_thm (s : State) (x : ThmSt) (f : FRef) : State.get { s with thm := x } f = s.get f := rfl
theorem State.get_with_loops (s : State) (x : List LoopSt) (f : FRef) : State.get { s with loops := x } f = s.get f := rfl
theorem State.get_with_cal (s : State) (x : CalSt) (f : FRef) : State.get { s with cal := x } f = s.get f := rfl
theorem State.get_with_nor (s : State) (x : List Host.Cell) (f : FRef) : State.get { s with nor := x } f = s.get f := rfl
theorem State.get_with_calStage (s : State) (x : List Host.Cell) (f : FRef) : State.get { s with calStage := x } f = s.get f := rfl
theorem State.get_with_out (s : State) (x : List Out) (f : FRef) : State.get { s with out := x } f = s.get f := rfl
theorem State.get_with_freeCtr (s : State) (x : Nat) (f : FRef) : State.get { s with freeCtr := x } f = s.get f := rfl
theorem State.reg_with_pending (s : State) (x : List Instr) (a : Nat) : State.reg { s with pending := x } a = s.reg a := rfl
theorem State.reg_with_hub (s : State) (x : HubSt) (a : Nat) : State.reg { s with hub := x } a = s.reg a := rfl
theorem State.reg_with_ev (s : State) (x : EvSt) (a : Nat) : State.reg { s with ev := x } a = s.reg a := rfl
theorem State.reg_with_ports (s : State) (x : List PortSt) (a : Nat) : State.reg { s with ports := x } a = s.reg a := rfl
theorem State.reg_with_host (s : State) (x : HostSt) (a : Nat) : State.reg { s with host := x } a = s.reg a := rfl
theorem State.reg_with_time (s : State) (x : TimeSt) (a : Nat) : State.reg { s with time := x } a = s.reg a := rfl
theorem State.reg_with_fire (s : State) (x : FireSt) (a : Nat) : State.reg { s with fire := x } a = s.reg a := rfl
theorem State.reg_with_tiles (s : State) (x : List TileSt) (a : Nat) : State.reg { s with tiles := x } a = s.reg a := rfl
theorem State.reg_with_hist (s : State) (x : HistSt) (a : Nat) : State.reg { s with hist := x } a = s.reg a := rfl
theorem State.reg_with_echo (s : State) (x : EchoSt) (a : Nat) : State.reg { s with echo := x } a = s.reg a := rfl
theorem State.reg_with_saf (s : State) (x : SafSt) (a : Nat) : State.reg { s with saf := x } a = s.reg a := rfl
theorem State.reg_with_snf (s : State) (x : SnfSt) (a : Nat) : State.reg { s with snf := x } a = s.reg a := rfl
theorem State.reg_with_boot (s : State) (x : BootSt) (a : Nat) : State.reg { s with boot := x } a = s.reg a := rfl
theorem State.reg_with_twn (s : State) (x : TwnSt) (a : Nat) : State.reg { s with twn := x } a = s.reg a := rfl
theorem State.reg_with_fireTab (s : State) (x : List Host.Cell) (a : Nat) : State.reg { s with fireTab := x } a = s.reg a := rfl
theorem State.reg_with_ztStage (s : State) (x : List Host.Cell) (a : Nat) : State.reg { s with ztStage := x } a = s.reg a := rfl
theorem State.reg_with_devMem (s : State) (x : List Host.Cell) (a : Nat) : State.reg { s with devMem := x } a = s.reg a := rfl
theorem State.reg_with_hostMem (s : State) (x : List Host.Cell) (a : Nat) : State.reg { s with hostMem := x } a = s.reg a := rfl
theorem State.reg_with_mem (s : State) (x : MemSt) (a : Nat) : State.reg { s with mem := x } a = s.reg a := rfl
theorem State.reg_with_eth (s : State) (x : EthSt) (a : Nat) : State.reg { s with eth := x } a = s.reg a := rfl
theorem State.reg_with_ind (s : State) (x : IndSt) (a : Nat) : State.reg { s with ind := x } a = s.reg a := rfl
theorem State.reg_with_hk (s : State) (x : HkSt) (a : Nat) : State.reg { s with hk := x } a = s.reg a := rfl
theorem State.reg_with_chm (s : State) (x : ChmSt) (a : Nat) : State.reg { s with chm := x } a = s.reg a := rfl
theorem State.reg_with_thm (s : State) (x : ThmSt) (a : Nat) : State.reg { s with thm := x } a = s.reg a := rfl
theorem State.reg_with_loops (s : State) (x : List LoopSt) (a : Nat) : State.reg { s with loops := x } a = s.reg a := rfl
theorem State.reg_with_cal (s : State) (x : CalSt) (a : Nat) : State.reg { s with cal := x } a = s.reg a := rfl
theorem State.reg_with_nor (s : State) (x : List Host.Cell) (a : Nat) : State.reg { s with nor := x } a = s.reg a := rfl
theorem State.reg_with_calStage (s : State) (x : List Host.Cell) (a : Nat) : State.reg { s with calStage := x } a = s.reg a := rfl
theorem State.reg_with_out (s : State) (x : List Out) (a : Nat) : State.reg { s with out := x } a = s.reg a := rfl
theorem State.reg_with_freeCtr (s : State) (x : Nat) (a : Nat) : State.reg { s with freeCtr := x } a = s.reg a := rfl

/-- Filtering a table by its keys: a key that stays reads as before, one that goes reads as its default. -/
theorem tabGet_filter {α : Type} (d : Nat → α) (p : Nat → Bool) (m : List (Nat × α)) (k : Nat) :
    tabGet d (m.filter (fun q => p q.1)) k = if p k then tabGet d m k else d k := by
  induction m with
  | nil => simp [tabGet]
  | cons q t ih =>
    obtain ⟨i, v⟩ := q
    by_cases hp : p i = true
    · rw [List.filter_cons_of_pos (by simpa using hp)]
      simp only [tabGet, ih]
      by_cases hk : i = k
      · subst hk; simp [hp]
      · simp [hk]
    · rw [List.filter_cons_of_neg (by simpa using hp), ih]
      by_cases hk : i = k
      · subst hk; simp [hp]
      · simp [tabGet, hk]

/-- A reset of an address range: registers inside read as their reset values, others as before. -/
theorem State.reg_resetRange (s : State) (lo hi a : Nat) :
    (s.resetRange lo hi).reg a = if lo ≤ a ∧ a < hi then resetOf a else s.reg a := by
  have := tabGet_filter resetOf (fun k => !(Nat.ble lo k && Nat.blt k hi)) s.regs a
  unfold State.reg State.resetRange
  rw [this]
  by_cases h : lo ≤ a ∧ a < hi
  · have h1 : Nat.ble lo a = true := by rw [Nat.ble_eq]; exact h.1
    have h2 : Nat.blt a hi = true := by rw [Nat.blt_eq]; exact h.2
    simp [h, h1, h2]
  · have : (Nat.ble lo a && Nat.blt a hi) = false := by
      rw [Bool.eq_false_iff]; intro hc
      rw [Bool.and_eq_true] at hc
      rw [Nat.ble_eq, Nat.blt_eq] at hc; exact h hc
    simp [h, this]

/-- A field after a write of another field. -/
theorem State.get_put (s : State) (f g : FRef) (x : Nat) (h : f.lo + f.len ≤ 64)
    (hd : g.addr ≠ f.addr ∨ g.lo + g.len ≤ f.lo ∨ f.lo + f.len ≤ g.lo) : (s.put f x).get g = s.get g := by
  rcases hd with hd | hd
  · exact State.get_put_addr _ _ _ _ hd
  · exact State.get_put_bits _ _ _ _ h hd

/-- A field after a write of another register, and of its own. -/
theorem State.get_setReg_ne (s : State) (a : Nat) (v : BitVec 64) (f : FRef) (h : f.addr ≠ a) : (s.setReg a v).get f = s.get f := by
  unfold State.get; rw [State.reg_setReg_ne _ _ h]

theorem State.get_setReg_self (s : State) (v : BitVec 64) (f : FRef) : (s.setReg f.addr v).get f = fieldOf v f.lo f.len := by
  unfold State.get; rw [State.reg_setReg_self]

/-- A field is less than 2 to its width. -/
theorem State.get_lt (s : State) (f : FRef) : s.get f < 2 ^ f.len := Nat.mod_lt _ (Nat.two_pow_pos _)

theorem State.OnlyRegs.refl (s : State) (l : List Nat) : s.OnlyRegs s l := ⟨rfl, fun _ _ => rfl⟩

theorem State.OnlyRegs.setReg {s t : State} {l : List Nat} (h : s.OnlyRegs t l) (b : Nat) (v : BitVec 64) (hf : b ∈ l) :
    s.OnlyRegs (t.setReg b v) l := by
  refine ⟨?_, fun a ha => ?_⟩
  · rw [h.1]; rfl
  · rw [State.reg_setReg_ne _ _ (by rintro rfl; exact ha hf)]; exact h.2 a ha

theorem State.OnlyRegs.put {s t : State} {l : List Nat} (h : s.OnlyRegs t l) (f : FRef) (x : Nat) (hf : f.addr ∈ l) :
    s.OnlyRegs (t.put f x) l := h.setReg _ _ hf

theorem State.OnlyRegs.ite {s a b : State} {l : List Nat} {c : Prop} [Decidable c] (ha : s.OnlyRegs a l) (hb : s.OnlyRegs b l) :
    s.OnlyRegs (if c then a else b) l := by split <;> assumption

theorem State.OnlyRegs.toEv {s t : State} {l : List Nat} (h : s.OnlyRegs t l) : s.OnlyRegsEv t l := by
  refine ⟨?_, fun a ha _ => h.2 a ha⟩
  rw [h.1]

/-- Registers outside `l` and outside the event system are unchanged. -/
theorem State.RegsBut.refl (s : State) (l : List Nat) : s.RegsBut s l := fun _ _ _ => rfl

theorem State.RegsBut.setReg {s t : State} {l : List Nat} (h : s.RegsBut t l) (b : Nat) (v : BitVec 64)
    (hf : b ∈ l ∨ evReg b = true) : s.RegsBut (t.setReg b v) l := by
  intro a ha he
  rw [State.reg_setReg_ne]
  · exact h a ha he
  · rintro rfl
    cases hf with
    | inl hf => exact ha hf
    | inr hf => rw [hf] at he; cases he

theorem State.RegsBut.put {s t : State} {l : List Nat} (h : s.RegsBut t l) (f : FRef) (x : Nat)
    (hf : f.addr ∈ l ∨ evReg f.addr = true) : s.RegsBut (t.put f x) l := h.setReg _ _ hf

theorem State.RegsBut.raise {s t : State} {l : List Nat} (h : s.RegsBut t l) {src : Nat} (i0 i1 : Nat) (hs : src < 250) :
    s.RegsBut (t.raise src i0 i1) l := fun a ha he => (State.raise_reg t i0 i1 hs he).trans (h a ha he)

theorem State.RegsBut.raiseIf {s t : State} {l : List Nat} (h : s.RegsBut t l) (c : Bool) {src : Nat} (i : Nat) (hs : src < 250) :
    s.RegsBut (t.raiseIf c src i) l := by
  unfold State.raiseIf; split
  · exact h.raise _ _ hs
  · exact h

theorem State.RegsBut.regs {s t u : State} {l : List Nat} (h : s.RegsBut t l) (e : u.regs = t.regs) : s.RegsBut u l :=
  fun a ha he => (State.reg_congr e a).trans (h a ha he)

theorem State.RegsBut.ite {s a b : State} {l : List Nat} {c : Prop} [Decidable c] (ha : s.RegsBut a l) (hb : s.RegsBut b l) :
    s.RegsBut (if c then a else b) l := by split <;> assumption

theorem State.raiseIf_reg (s : State) (c : Bool) {src : Nat} (i : Nat) (hs : src < 250) {a : Nat} (ha : evReg a = false) :
    (s.raiseIf c src i).reg a = s.reg a := by
  unfold State.raiseIf; split
  · exact State.raise_reg _ _ _ hs ha
  · rfl

theorem State.raiseIf_get (s : State) (c : Bool) {src : Nat} (i : Nat) (hs : src < 250) {f : FRef} (ha : evReg f.addr = false) :
    (s.raiseIf c src i).get f = s.get f := by
  unfold State.get; rw [State.raiseIf_reg s c i hs ha]

end Sys2Proof.Machine
end

