-- ==== Sys2Proof/Laws/Kill.lean ====
section
/-! SUPPORT. What the end of firing (R50) can move: the FIRE, tile and histogram state, counters and events; the registers of the other
blocks stay. -/

namespace Sys2Proof.Machine

/-- `t` is `s` but for what stopping the generator can move. -/
structure State.KillFrame (s t : State) : Prop where
  regs : ∀ a, killReg a = false → evReg a = false → t.reg a = s.reg a
  rest : t = { s with regs := t.regs, hub := t.hub, ev := t.ev, fire := t.fire, tiles := t.tiles, hist := t.hist, echo := t.echo,
                      out := t.out, freeCtr := t.freeCtr }
  ops : t.hub.ops = s.hub.ops
  isolated : t.hub.isolated = s.hub.isolated

variable {z : State}

theorem State.KillFrame.refl (s : State) : s.KillFrame s := ⟨fun _ _ _ => rfl, rfl, rfl, rfl⟩

theorem mk_kf {s : State} (h : z.KillFrame s) {ev fire tiles hist echo out k} :
    z.KillFrame ⟨s.pending, s.regs, s.hub, ev, s.ports, s.host, s.time, fire, tiles, hist, echo, s.saf, s.snf, s.boot, s.twn,
      s.fireTab, s.ztStage, s.devMem, s.hostMem, s.mem, s.eth, s.ind, s.hk, s.chm, s.thm, s.loops, s.cal, s.nor, s.calStage, out, k⟩ := by
  refine ⟨h.regs, ?_, h.ops, h.isolated⟩
  have := h.rest
  generalize s.regs = r at this ⊢
  rw [this]

theorem mk_hub_kf {s : State} (h : z.KillFrame s) {lk w n lt lf inj cu cl} :
    z.KillFrame ⟨s.pending, s.regs, ⟨lk, s.hub.ops, w, n, lt, s.hub.isolated, lf, inj, cu, cl⟩, s.ev, s.ports, s.host, s.time, s.fire, s.tiles,
      s.hist, s.echo, s.saf, s.snf, s.boot, s.twn, s.fireTab, s.ztStage, s.devMem, s.hostMem, s.mem, s.eth, s.ind, s.hk, s.chm, s.thm,
      s.loops, s.cal, s.nor, s.calStage, s.out, s.freeCtr⟩ := by
  refine ⟨h.regs, ?_, h.ops, h.isolated⟩
  have := h.rest
  rw [this]

theorem ite_kf {c : Prop} [Decidable c] {a b : State} (ha : z.KillFrame a) (hb : z.KillFrame b) : z.KillFrame (if c then a else b) := by
  split <;> assumption

theorem foldl_kf {α : Type} {g : State → α → State} {l : List α} {s : State} (hg : ∀ s a, z.KillFrame s → z.KillFrame (g s a))
    (h : z.KillFrame s) : z.KillFrame (l.foldl g s) := by
  induction l generalizing s with
  | nil => exact h
  | cons a l ih => exact ih (hg s a h)

theorem killReg_of {a : Nat} (h : (0x300 ≤ a ∧ a < 0x310) ∨ a = 0x804 ∨ (0x1000 ≤ a ∧ a < 0x1800) ∨ (0x200000 ≤ a ∧ a < 0xA00000)) :
    killReg a = true := by
  unfold killReg w256Reg
  simp only [Bool.or_eq_true, Bool.and_eq_true, Nat.ble_eq, Nat.blt_eq, beq_iff_eq]
  omega

theorem State.setReg_kf {s : State} (h : z.KillFrame s) {a : Nat} {v : BitVec 64} (hf : killReg a = true ∨ evReg a = true) :
    z.KillFrame (s.setReg a v) := by
  refine ⟨fun b h1 h2 => ?_, ?_, h.ops, h.isolated⟩
  · rw [State.reg_setReg_ne]
    · exact h.regs b h1 h2
    · rintro rfl; rcases hf with hf | hf
      · rw [hf] at h1; cases h1
      · rw [hf] at h2; cases h2
  · rw [h.rest]; rfl

theorem State.put_kf {s : State} (h : z.KillFrame s) {f : FRef} {x : Nat} (hf : killReg f.addr = true ∨ evReg f.addr = true) :
    z.KillFrame (s.put f x) := State.setReg_kf h hf

theorem State.emit_kf {s : State} (h : z.KillFrame s) {m : Out} : z.KillFrame (s.emit m) := mk_kf h

theorem State.fresh_kf {s : State} (h : z.KillFrame s) : z.KillFrame s.fresh.2 := mk_kf h

theorem State.when_kf {s : State} (h : z.KillFrame s) {c : Bool} {g : State → State} (hg : ∀ s, z.KillFrame s → z.KillFrame (g s)) :
    z.KillFrame (s.when c g) := by
  unfold State.when; split
  · exact hg s h
  · exact h

theorem State.raise_kf {s : State} (h : z.KillFrame s) {src i0 i1 : Nat} (hs : src < 250) : z.KillFrame (s.raise src i0 i1) := by
  refine ⟨fun a h1 h2 => (State.raise_reg s i0 i1 hs h2).trans (h.regs a h1 h2), ?_, ?_, ?_⟩
  · have e := s.raise_evLike src i0 i1
    unfold State.EvLike at e
    generalize hr : s.raise src i0 i1 = r at e
    have h2 := h.rest
    rw [e, h2]
  · rw [State.raise_hub]; exact h.ops
  · rw [State.raise_hub]; exact h.isolated

theorem State.raiseInst_kf {s : State} (h : z.KillFrame s) {src i : Nat} (hs : src < 250) : z.KillFrame (s.raiseInst src i) :=
  State.raise_kf h hs

theorem State.raiseIf_kf {s : State} (h : z.KillFrame s) {c : Bool} {src i : Nat} (hs : src < 250) :
    z.KillFrame (s.raiseIf c src i) := by
  unfold State.raiseIf; exact ite_kf (State.raise_kf h hs) h

theorem State.setFlag_kf {s : State} (h : z.KillFrame s) {f : FRef} (hf : killReg f.addr = true ∨ evReg f.addr = true) :
    z.KillFrame (s.setFlag f) := State.put_kf h hf

theorem State.clearFlag_kf {s : State} (h : z.KillFrame s) {f : FRef} (hf : killReg f.addr = true ∨ evReg f.addr = true) :
    z.KillFrame (s.clearFlag f) := State.put_kf h hf

theorem State.bump_kf {s : State} (h : z.KillFrame s) {f : FRef} (hf : killReg f.addr = true ∨ evReg f.addr = true) :
    z.KillFrame (s.bump f) := State.put_kf h hf

theorem State.w256Log_kf {s : State} (h : z.KillFrame s) {r : W256Report} {syn : BitVec 16} {f : Nat} : z.KillFrame (s.w256Log r syn f) := by
  have hh : ∀ j, j < 4 → killReg (HUB_ERRLOG.addr (s.get HUB_W256_STAT.log_head) j) = true := fun j hj => by
    have := State.get_lt s HUB_W256_STAT.log_head
    refine killReg_of ?_
    simp only [HUB_ERRLOG.addr, HUB_W256_STAT.log_head] at *; omega
  unfold State.w256Log
  refine mk_hub_kf (s := State.put (State.when _ _ _) HUB_W256_STAT.log_head _) (State.put_kf (State.when_kf (State.put_kf (State.put_kf
    (State.put_kf (State.put_kf h (.inl (hh 0 (by omega)))) (.inl (hh 1 (by omega)))) (.inl (hh 2 (by omega)))) (.inl (hh 3 (by omega))))
    (fun s k => State.setFlag_kf k (.inl rfl))) (.inl rfl))

/-- Which events a report can raise: its instance is a tile, lane or channel. -/
theorem State.w256Event_kf {s : State} (h : z.KillFrame s) {r : W256Report} {c : Bool} (hr : ∀ t, r.inst = some t → t < 6) :
    z.KillFrame (s.w256Event r c) := by
  unfold State.w256Event
  have tile : ∀ t, r.inst = some t →
      z.KillFrame (if c then s.raiseInst (Ev.tileW256Corrected t) t else s.raiseInst (Ev.sramUncorrectable t) t) := fun t ht => by
    have := hr t ht
    exact ite_kf (State.raiseInst_kf h (by simp only [Ev.tileW256Corrected]; omega)) (State.raiseInst_kf h (by simp only [Ev.sramUncorrectable]; omega))
  split
  · exact tile _ (by assumption)
  · exact tile _ (by assumption)
  · exact h
  · exact h
  · exact ite_kf (State.raise_kf h (by decide)) (State.raise_kf h (by decide))

theorem State.w256_kf {s : State} (h : z.KillFrame s) {r : W256Report} {e : Ecc} (hr : ∀ t, r.inst = some t → t < 6) :
    z.KillFrame (s.w256 r e) := by
  unfold State.w256
  cases e with
  | good => exact h
  | corrected syn =>
    dsimp only
    refine State.w256Event_kf (ite_kf (State.w256Log_kf ?_) ?_) hr <;> exact State.bump_kf h (.inl rfl)
  | bad syn => exact State.w256Event_kf (State.w256Log_kf (State.bump_kf h (.inl rfl))) hr

theorem State.w256Write_kf {s : State} (h : z.KillFrame s) {loc : W256Loc} {a : Nat} : z.KillFrame (s.w256Write loc a) := by
  unfold State.w256Write
  exact ite_kf (State.clearFlag_kf (mk_hub_kf h) (.inl rfl)) (mk_hub_kf h)

theorem State.w256Writeback_kf {s : State} (h : z.KillFrame s) {loc : W256Loc} {a : Nat} {e : Ecc} :
    z.KillFrame (s.w256Writeback loc a e) := by
  unfold State.w256Writeback
  cases e with
  | corrected syn => exact ite_kf (mk_hub_kf h) h
  | good => exact h
  | bad syn => exact h

theorem State.w256Read_kf {s : State} (h : z.KillFrame s) {r : W256Report} {e : Ecc} (hr : ∀ t, r.inst = some t → t < 6) :
    z.KillFrame (s.w256Read r e).2 := State.w256Writeback_kf (State.w256_kf h hr)

theorem State.setTile_kf {s : State} (h : z.KillFrame s) {t : Nat} {x : TileSt} : z.KillFrame (s.setTile t x) := mk_kf h

theorem State.setChan_kf {s : State} (h : z.KillFrame s) {t c : Nat} {y : ChanSt} : z.KillFrame (s.setChan t c y) := mk_kf h

theorem State.repairExhausted_kf {s : State} (h : z.KillFrame s) {t : Nat} (ht : t < 6) : z.KillFrame (s.repairExhausted t) := by
  unfold State.repairExhausted
  refine ite_kf h (State.raiseInst_kf (State.setFlag_kf h (.inl (killReg_of ?_))) ?_)
  · simp only [TILE_SRAM_REPAIR.exhausted, TILE_SRAM_REPAIR.addr]; omega
  · simp only [Ev.sramRepairExhausted]; omega

theorem State.markRow_kf {s : State} (h : z.KillFrame s) {t row : Nat} (ht : t < 6) : z.KillFrame (s.markRow t row) :=
  ite_kf h (State.when_kf (State.setTile_kf h) (fun _ k => State.repairExhausted_kf k ht))

theorem State.sramRead_kf {s : State} (h : z.KillFrame s) {t w port tag : Nat} {e : Ecc} (ht : t < 6) :
    z.KillFrame (s.sramRead t w port tag e).2 := by
  have k : z.KillFrame (s.w256Read ⟨.tileSram, w, (Config.portId port).toNat, tag, some t, false⟩ e).2 :=
    State.w256Read_kf h (fun u hu => by cases hu; exact ht)
  unfold State.sramRead
  dsimp only
  split
  · exact k
  · exact State.when_kf (State.setTile_kf k) (fun _ k => State.markRow_kf k ht)
  · refine State.setFlag_kf (State.markRow_kf k ht) (.inl (killReg_of ?_))
    simp only [TILE_HIST_STAT.sram_ue_seen, TILE_HIST_STAT.addr]; omega

theorem State.dropChan_kf {s : State} (h : z.KillFrame s) {t c id reason : Nat} (ht : t < 6) : z.KillFrame (s.dropChan t c id reason) := by
  unfold State.dropChan
  dsimp only
  split
  · exact h
  · refine ite_kf h (State.raiseIf_kf (State.bump_kf (State.setTile_kf h) (.inl (killReg_of ?_))) ?_)
    · simp only [TILE_HIST_CNT.dropped, TILE_HIST_CNT.addr]; omega
    · simp only [Ev.cellDropped]; omega

theorem State.onRecord_kf {s : State} (h : z.KillFrame s) {t c id : Nat} {g : ChanRec → ChanRec} : z.KillFrame (s.onRecord t c id g) :=
  State.setTile_kf h

theorem State.dropSealed_kf {s : State} (h : z.KillFrame s) {t c id reason : Nat} (ht : t < 6) :
    z.KillFrame (s.dropSealed t c id reason) := by
  unfold State.dropSealed
  split
  · exact h
  · refine State.raiseIf_kf (State.bump_kf (State.setTile_kf (State.onRecord_kf h)) (.inl (killReg_of ?_))) ?_
    · simp only [TILE_HIST_CNT.dropped, TILE_HIST_CNT.addr]; omega
    · simp only [Ev.cellDropped]; omega

theorem State.dropBuf_kf {s : State} (h : z.KillFrame s) {t c i : Nat} (ht : t < 6) : z.KillFrame (s.dropBuf t c i) := by
  unfold State.dropBuf
  dsimp only
  split
  · exact ite_kf (State.dropSealed_kf h ht) (State.dropChan_kf h ht)
  · exact h

theorem State.bufCorrected_kf {s : State} (h : z.KillFrame s) {t c i : Nat} : z.KillFrame (s.bufCorrected t c i) := by
  unfold State.bufCorrected
  dsimp only
  split
  · exact ite_kf (State.onRecord_kf (State.setChan_kf h)) (State.setChan_kf h)
  · exact State.setChan_kf h

theorem State.scanWord_kf {s : State} (h : z.KillFrame s) {t c i w port tag : Nat} {e : Ecc} (ht : t < 6) :
    z.KillFrame (s.scanWord t c i w port tag e) := by
  have k : z.KillFrame (s.sramRead t w port tag e).2 := State.sramRead_kf h ht
  unfold State.scanWord
  dsimp only
  split
  · exact k
  · exact State.bufCorrected_kf k
  · exact State.dropBuf_kf k ht

theorem State.eventReads_kf {s : State} (h : z.KillFrame s) {t c : Nat} {x : WordEcc} {n : Nat} {l : List (Nat × Nat × Nat)} (ht : t < 6) :
    z.KillFrame (s.eventReads t c x n l) := by
  induction l generalizing s n with
  | nil => exact h
  | cons p l ih => exact ih (State.scanWord_kf h ht)

theorem State.accumulate_kf {s : State} (h : z.KillFrame s) {t c : Nat} {e : WordEcc} (ht : t < 6) : z.KillFrame (s.accumulate t c e) := by
  have hb : ∀ f : FRef, f.addr = TILE_BANK_LOAD.addr t (c % 16) → killReg f.addr = true := fun f hf => by
    refine killReg_of ?_
    rw [hf]; simp only [TILE_BANK_LOAD.addr]; omega
  unfold State.accumulate
  split
  · exact h
  · dsimp only
    refine State.put_kf (State.put_kf (foldl_kf (fun s a k => State.w256Write_kf k) (State.setTile_kf (State.eventReads_kf h ht))) ?_) ?_
    · exact .inl (hb _ rfl)
    · exact .inl (hb _ rfl)

theorem State.drain_kf {s : State} (h : z.KillFrame s) {t c n : Nat} (ht : t < 6) : z.KillFrame (s.drain t c n) := by
  induction n generalizing s with
  | zero => exact h
  | succ n ih => unfold State.drain; exact ite_kf h (ih (State.accumulate_kf h ht))

theorem State.drainTile_kf {s : State} (h : z.KillFrame s) {t : Nat} (ht : t < 6) : z.KillFrame (s.drainTile t) :=
  foldl_kf (fun _ _ k => State.drain_kf k ht) h

theorem State.dropChanAll_kf {s : State} (h : z.KillFrame s) {t c reason : Nat} (ht : t < 6) : z.KillFrame (s.dropChanAll t c reason) :=
  foldl_kf (fun _ _ k => State.dropChan_kf k ht) h

theorem State.dropTile_kf {s : State} (h : z.KillFrame s) {t reason : Nat} (ht : t < 6) : z.KillFrame (s.dropTile t reason) :=
  State.setTile_kf (foldl_kf (fun _ _ k => State.dropChanAll_kf k ht) h)

theorem State.cellAzimuth_kf {s : State} (h : z.KillFrame s) {l : List Nat} : z.KillFrame (s.cellAzimuth l).2.2 := by
  unfold State.cellAzimuth
  split
  · split
    · exact h
    · exact State.fresh_kf h
  · exact h

theorem State.sealTile_kf {s : State} (h : z.KillFrame s) {t : Nat} {ci : CellInfo} {m : CellMeta} (ht : t < 6) :
    z.KillFrame (s.sealTile t ci m) := by
  have hs : ∀ f : FRef, f.addr = TILE_HIST_STAT.addr t ∨ f.addr = TILE_HIST_CNT.addr t → killReg f.addr = true := fun f hf => by
    refine killReg_of ?_
    rcases hf with hf | hf <;> rw [hf] <;> simp only [TILE_HIST_STAT.addr, TILE_HIST_CNT.addr] <;> omega
  have hd : z.KillFrame (s.drainTile t) := State.drainTile_kf h ht
  unfold State.sealTile
  dsimp only
  refine State.raiseIf_kf (State.raiseIf_kf (State.when_kf (State.put_kf (State.raiseIf_kf (State.when_kf (State.raiseIf_kf (State.when_kf
    (State.put_kf (State.when_kf (State.setTile_kf hd) ?_) ?_) ?_) ?_) ?_) ?_) ?_) ?_) ?_) ?_
  · exact fun _ k => State.put_kf k (.inl (hs _ (.inl rfl)))
  · exact .inl (hs _ (.inr rfl))
  · exact fun _ k => State.setFlag_kf k (.inl (hs _ (.inl rfl)))
  · simp only [Ev.zoomMissed]; omega
  · exact fun _ k => State.setFlag_kf k (.inl (hs _ (.inl rfl)))
  · simp only [Ev.queueLoss]; omega
  · exact .inl (hs _ (.inr rfl))
  · exact fun _ k => State.setFlag_kf k (.inl (hs _ (.inl rfl)))
  · simp only [Ev.lateJoin]; omega
  · simp only [Ev.cellDropped]; omega

theorem State.cellMeta_kf {s : State} (h : z.KillFrame s) {ci : CellInfo} : z.KillFrame (s.cellMeta ci).2 := by
  have k : ∀ {c : Bool} {s : State}, z.KillFrame s →
      z.KillFrame ((s.when c (fun s => s.setFlag FIRE_MIRROR_STAT.model_used)).raiseIf c Ev.mirrorModelAzimuth 0) :=
    fun h => State.raiseIf_kf (State.when_kf h (fun _ k => State.setFlag_kf k (.inl rfl))) (by decide)
  unfold State.cellMeta
  dsimp only
  split <;> split <;> first
    | exact k (State.fresh_kf (State.cellAzimuth_kf h)) | exact k (State.cellAzimuth_kf h) | exact k (State.fresh_kf h) | exact k h

theorem State.noteSealed_kf {s : State} (h : z.KillFrame s) {t id : Nat} {m : CellMeta} : z.KillFrame (s.noteSealed t id m) := mk_kf h

theorem State.noteClose_kf {s : State} (h : z.KillFrame s) {t : Nat} {m : CellMeta} {b : Bool} : z.KillFrame (s.noteClose t m b) := mk_kf h

theorem State.missingCell_kf {s : State} (h : z.KillFrame s) {t d : Nat} {ci : CellInfo} {m : CellMeta} :
    z.KillFrame (s.missingCell t d ci m) := State.noteClose_kf (mk_kf (State.fresh_kf h))

theorem State.cellGone_kf {s : State} (h : z.KillFrame s) {t id : Nat} : z.KillFrame (s.cellGone t id) := State.setTile_kf h

theorem State.sealCell_kf {s : State} (h : z.KillFrame s) {t : Nat} {ci : CellInfo} (ht : t < 6) : z.KillFrame (s.sealCell t ci) := by
  unfold State.sealCell
  dsimp only
  exact State.noteSealed_kf (ite_kf (State.missingCell_kf (State.cellMeta_kf h)) (ite_kf
    (State.cellGone_kf (State.missingCell_kf (State.cellMeta_kf h))) (State.noteClose_kf (State.sealTile_kf (State.cellMeta_kf h) ht))))

theorem State.killCells_kf {s : State} (h : z.KillFrame s) {t reason : Nat} (ht : t < 6) : z.KillFrame (s.killCells t reason) :=
  foldl_kf (fun _ _ k => State.sealCell_kf k ht) (State.dropTile_kf (State.setTile_kf h) ht)

theorem State.unclaim_kf {s : State} (h : z.KillFrame s) {who : Nat} : z.KillFrame (s.unclaim 1 who) :=
  ite_kf (State.put_kf h (.inl rfl)) h

theorem State.syncFlush_kf {s : State} (h : z.KillFrame s) : z.KillFrame s.syncFlush :=
  foldl_kf (fun _ _ k => ite_kf (State.emit_kf k) k) (mk_kf h)

theorem State.fireOff_kf {s : State} (h : z.KillFrame s) : z.KillFrame s.fireOff := by
  unfold State.fireOff
  exact State.unclaim_kf (State.clearFlag_kf (State.clearFlag_kf (State.clearFlag_kf (mk_kf (State.syncFlush_kf h)) (.inl rfl)) (.inl rfl)) (.inl rfl))

/-- What the end of firing moves (R50, R126). -/
theorem State.fireKill_kf {s : State} (h : z.KillFrame s) : z.KillFrame s.fireKill := by
  have k : ∀ (l : List Nat), (∀ t ∈ l, t < 6) → ∀ {u : State}, z.KillFrame u → z.KillFrame (l.foldl (fun s t => s.killCells t 5) u) := by
    intro l
    induction l with
    | nil => exact fun _ _ hu => hu
    | cons t l ih => exact fun hl _ hu => ih (fun t ht => hl t (List.mem_cons_of_mem _ ht)) (State.killCells_kf hu (hl t (List.mem_cons_self ..)))
  unfold State.fireKill
  exact mk_kf (k (List.range 6) (fun t ht => List.mem_range.1 ht) (mk_kf (State.fireOff_kf h)))

theorem State.fireHalt_kf {s : State} (h : z.KillFrame s) : z.KillFrame s.fireHalt :=
  ite_kf (State.fireKill_kf h) (State.clearFlag_kf h (.inl rfl))

end Sys2Proof.Machine
end

