-- ==== Sys2Proof/Laws/Modes.lean ====
section
/-! SUPPORT. What a change of mode, a withdrawal of grants and a safety fault do and leave alone (R285, R293, R302). -/

namespace Sys2Proof.Machine

/-- The registers a change of mode writes, beside those that the end of firing moves. -/
def modeRegs : List Nat := [HUB_MODE_STAT.addr, HUB_HO_STAT.addr, HUB_HO_CTL.addr, HUB_SLICE_STAT.addr, HUB_SLICE_CTL.addr, TWN_STAT.addr,
  SAF_STAT.addr]

/-- Grants move SAF_STAT, the test-pulse phase and events. -/
structure State.GrantFrame (s t : State) : Prop where
  regs : s.RegsBut t [SAF_STAT.addr]
  rest : t = { s with regs := t.regs, saf := t.saf, ev := t.ev, out := t.out }
  saf : t.saf = { s.saf with pulse := t.saf.pulse }

theorem State.GrantFrame.refl (s : State) : s.GrantFrame s := ⟨State.RegsBut.refl _ _, rfl, rfl⟩

theorem State.GrantFrame.trans {s t u : State} (h : s.GrantFrame t) (k : t.GrantFrame u) : s.GrantFrame u := by
  refine ⟨fun a ha he => (k.regs a ha he).trans (h.regs a ha he), ?_, ?_⟩
  · rw [k.rest, h.rest]
  · rw [k.saf, h.saf]

theorem State.GrantFrame.put {s : State} {f : FRef} {x : Nat} (hf : f.addr = SAF_STAT.addr) : s.GrantFrame (s.put f x) :=
  ⟨(State.RegsBut.refl _ _).put _ _ (.inl (by rw [hf]; exact List.mem_cons_self ..)), rfl, rfl⟩

theorem State.GrantFrame.raiseIf {s : State} {c : Bool} {src i : Nat} (hs : src < 250) : s.GrantFrame (s.raiseIf c src i) := by
  refine ⟨(State.RegsBut.refl _ _).raiseIf c i hs, ?_, ?_⟩
  · have e := s.raiseIf_evLike c src i
    unfold State.EvLike at e
    generalize s.raiseIf c src i = r at e
    rw [e]
  · rw [State.raiseIf_saf]

theorem grantBit_addr (c : SafSel) (p : Pair) : (grantBit c p).addr = SAF_STAT.addr := by cases c <;> cases p <;> rfl
theorem permBit_addr (p : Pair) : (permBit p).addr = SAF_STAT.addr := by cases p <;> rfl
theorem offEvent_lt (p : Pair) : offEvent p < 250 := by cases p <;> decide

theorem State.permUpdate_frame (s : State) (p : Pair) : s.GrantFrame (s.permUpdate p) := by
  unfold State.permUpdate
  dsimp only
  refine State.GrantFrame.trans ?_ (State.GrantFrame.raiseIf (offEvent_lt p))
  refine State.GrantFrame.trans (t := s.put (permBit p) (bit (s.permOn p))) (State.GrantFrame.put (permBit_addr p)) ?_
  unfold State.when
  split
  · exact ⟨State.RegsBut.refl _ _, rfl, rfl⟩
  · exact State.GrantFrame.refl _

theorem State.grantRecheck_frame (s : State) (c : SafSel) (p : Pair) : s.GrantFrame (s.grantRecheck c p) := by
  unfold State.grantRecheck
  split
  · exact State.GrantFrame.refl s
  · exact State.GrantFrame.put (grantBit_addr c p)

theorem State.grantsCheck_frame (s : State) : s.GrantFrame s.grantsCheck :=
  (((((State.grantRecheck_frame _ _ _).trans (State.grantRecheck_frame _ _ _)).trans (State.grantRecheck_frame _ _ _)).trans
    (State.grantRecheck_frame _ _ _)).trans (State.permUpdate_frame _ _)).trans (State.permUpdate_frame _ _)

theorem State.grantsDrop_frame (s : State) : s.GrantFrame s.grantsDrop :=
  ((((((State.GrantFrame.put rfl).trans (State.GrantFrame.put rfl)).trans (State.GrantFrame.put rfl)).trans (State.GrantFrame.put rfl)).trans
    (State.permUpdate_frame _ _)).trans (State.permUpdate_frame _ _))

/-- Nothing but what a change of mode moves. -/
structure State.ModeFrame (s t : State) : Prop where
  regs : ∀ a, a ∉ modeRegs → killReg a = false → evReg a = false → t.reg a = s.reg a
  rest : t = { s with regs := t.regs, hub := t.hub, ev := t.ev, fire := t.fire, tiles := t.tiles, hist := t.hist, echo := t.echo,
                      saf := t.saf, snf := t.snf, boot := t.boot, twn := t.twn, out := t.out, freeCtr := t.freeCtr }
  ops : t.hub.ops = s.hub.ops
  isolated : t.hub.isolated = s.hub.isolated
  saf : t.saf = { s.saf with pulse := t.saf.pulse }
  boot : t.boot = { s.boot with hoStep := t.boot.hoStep, sliceTile := t.boot.sliceTile, sliceStep := t.boot.sliceStep }
  twn : t.twn = { s.twn with scanHbs := t.twn.scanHbs, lead := t.twn.lead }

theorem State.ModeFrame.refl (s : State) : s.ModeFrame s := ⟨fun _ _ _ _ => rfl, rfl, rfl, rfl, rfl, rfl, rfl⟩

theorem State.ModeFrame.trans {s t u : State} (h : s.ModeFrame t) (k : t.ModeFrame u) : s.ModeFrame u := by
  refine ⟨fun a h1 h2 h3 => (k.regs a h1 h2 h3).trans (h.regs a h1 h2 h3), ?_, k.ops.trans h.ops, k.isolated.trans h.isolated, ?_, ?_, ?_⟩
  · rw [k.rest, h.rest]
  · rw [k.saf, h.saf]
  · rw [k.boot, h.boot]
  · rw [k.twn, h.twn]

theorem State.ModeFrame.put {s : State} {f : FRef} {x : Nat} (hf : f.addr ∈ modeRegs ∨ killReg f.addr = true) : s.ModeFrame (s.put f x) := by
  refine ⟨fun a h1 h2 _ => State.reg_put_ne _ _ _ ?_, rfl, rfl, rfl, rfl, rfl, rfl⟩
  rintro rfl
  rcases hf with hf | hf
  · exact h1 hf
  · rw [hf] at h2; cases h2

theorem State.ModeFrame.ite {s a b : State} {c : Prop} [Decidable c] (ha : s.ModeFrame a) (hb : s.ModeFrame b) :
    s.ModeFrame (if c then a else b) := by split <;> assumption

theorem State.GrantFrame.mode {s t : State} (h : s.GrantFrame t) : s.ModeFrame t := by
  refine ⟨fun a h1 _ h3 => h.regs a (fun hm => h1 ?_) h3, ?_, ?_, ?_, h.saf, ?_, ?_⟩
  · rw [List.mem_singleton] at hm; rw [hm]; decide
  · rw [h.rest]
  · rw [h.rest]
  · rw [h.rest]
  · rw [h.rest]
  · rw [h.rest]

theorem State.KillFrame.mode {s t : State} (h : s.KillFrame t) : s.ModeFrame t := by
  refine ⟨fun a _ h2 h3 => h.regs a h2 h3, ?_, h.ops, h.isolated, ?_, ?_, ?_⟩
  · rw [h.rest]
  · rw [h.rest]
  · rw [h.rest]
  · rw [h.rest]

theorem State.handoverLeave_frame (s : State) : s.ModeFrame s.handoverLeave := by
  unfold State.handoverLeave
  refine State.ModeFrame.trans ?_ (State.ModeFrame.put (f := HUB_HO_CTL.start) (.inl (by decide)))
  refine State.ModeFrame.trans ?_ (State.ModeFrame.put (f := HUB_HO_STAT.busy) (.inl (by decide)))
  refine State.ModeFrame.trans ?_ (State.ModeFrame.put (f := HUB_HO_STAT.active) (.inl (by decide)))
  exact ⟨fun _ _ _ _ => rfl, rfl, rfl, rfl, rfl, rfl, rfl⟩

theorem State.sliceLeave_frame (s : State) : s.ModeFrame s.sliceLeave := by
  unfold State.sliceLeave
  refine State.ModeFrame.trans ?_ (State.ModeFrame.put (f := HUB_SLICE_CTL.start) (.inl (by decide)))
  refine State.ModeFrame.trans ?_ (State.ModeFrame.put (f := HUB_SLICE_STAT.busy) (.inl (by decide)))
  exact ⟨fun _ _ _ _ => rfl, rfl, rfl, rfl, rfl, rfl, rfl⟩

theorem State.leaveService_frame (s : State) (old : Nat) : s.ModeFrame (s.leaveService old) :=
  State.ModeFrame.ite (State.handoverLeave_frame s) (State.ModeFrame.ite (State.sliceLeave_frame s) (State.ModeFrame.refl s))

/-- A write elsewhere leaves a field of HUB_MODE_STAT alone. -/
theorem State.modeStat_put (s : State) {f g : FRef} (x : Nat) (hf : f.addr = HUB_MODE_STAT.addr) (hg : g.addr ≠ HUB_MODE_STAT.addr) :
    (s.put g x).get f = s.get f := State.get_put_addr _ _ _ _ (by rw [hf]; exact Ne.symm hg)

theorem State.leaveService_get (s : State) (old : Nat) {f : FRef} (hf : f.addr = HUB_MODE_STAT.addr) :
    (s.leaveService old).get f = s.get f := by
  unfold State.leaveService
  split
  · exact (State.modeStat_put _ _ hf (by decide)).trans ((State.modeStat_put _ _ hf (by decide)).trans (State.modeStat_put _ _ hf (by decide)))
  · split
    · exact (State.modeStat_put _ _ hf (by decide)).trans (State.modeStat_put _ _ hf (by decide))
    · rfl

theorem State.GrantFrame.get {s t : State} (h : s.GrantFrame t) {f : FRef} (hf : f.addr ≠ SAF_STAT.addr) (he : evReg f.addr = false) :
    t.get f = s.get f := by
  unfold State.get; rw [h.regs _ (by simpa using hf) he]

theorem State.KillFrame.get {s t : State} (h : s.KillFrame t) {f : FRef} (hk : killReg f.addr = false) (he : evReg f.addr = false) :
    t.get f = s.get f := by
  unfold State.get; rw [h.regs _ hk he]

theorem State.modeFire_frame (s : State) (m : Nat) : s.ModeFrame (s.modeFire m) :=
  State.ModeFrame.ite (State.ModeFrame.refl s) (State.fireHalt_kf (State.KillFrame.refl s)).mode

theorem State.modeFire_get (s : State) (m : Nat) {f : FRef} (hf : f.addr = HUB_MODE_STAT.addr) : (s.modeFire m).get f = s.get f := by
  unfold State.modeFire
  split
  · rfl
  · exact (State.fireHalt_kf (State.KillFrame.refl s)).get (by rw [hf]; rfl) (by rw [hf]; rfl)

theorem State.modeLead_get (s : State) (old m : Nat) {f : FRef} (hf : f.addr = HUB_MODE_STAT.addr) :
    (s.modeLead old m).get f = s.get f := by
  unfold State.modeLead
  dsimp only
  split
  · refine (State.modeStat_put _ _ hf (by decide)).trans ?_
    split <;> rfl
  · split <;> rfl

theorem State.modePilot_get (s : State) (old : Nat) {f : FRef} (hf : f.lo + f.len ≤ 10 ∨ 14 ≤ f.lo) :
    (s.modePilot old).get f = s.get f := by
  unfold State.modePilot
  split
  · refine (State.get_put_bits _ _ _ _ (by decide) ?_).trans (State.get_put_bits _ _ _ _ (by decide) ?_) <;>
      simp only [HUB_MODE_STAT.pilot_cause, HUB_MODE_STAT.pilot_by_req] <;> omega
  · rfl

theorem State.enterMode_eq (s : State) (m : Nat) : s.enterMode m = ((((((s.modeWrite m).leaveService (if m = s.mode then 0 else s.mode)).modeLead
    s.mode m).modePilot s.mode).modeSnuffer m).modeFire m).grantsCheck := rfl

/-- The mode register after a change of mode, apart from the causes of PILOT-LIGHT. -/
theorem State.enterMode_get (s : State) (m : Nat) {f : FRef} (hf : f.addr = HUB_MODE_STAT.addr) (hl : f.lo + f.len ≤ 10 ∨ 14 ≤ f.lo) :
    (s.enterMode m).get f = (s.modeWrite m).get f := by
  rw [State.enterMode_eq]
  refine ((State.grantsCheck_frame _).get (by rw [hf]; decide) (by rw [hf]; rfl)).trans ?_
  refine (State.modeFire_get _ _ hf).trans ?_
  exact (State.modePilot_get _ _ hl).trans ((State.modeLead_get _ _ _ hf).trans (State.leaveService_get _ _ hf))

theorem State.enterMode_mode (s : State) {m : Nat} (h : m < 16) : (s.enterMode m).mode = m := by
  refine (State.enterMode_get s m rfl (by decide)).trans ?_
  unfold State.modeWrite
  rw [State.get_put_bits _ _ _ _ (by decide) (by decide), State.get_put_self _ _ _ (by decide)]
  exact Nat.mod_eq_of_lt h

theorem State.enterMode_last (s : State) (m : Nat) : (s.enterMode m).get HUB_MODE_STAT.last_mode = s.mode := by
  refine (State.enterMode_get s m rfl (by decide)).trans ?_
  unfold State.modeWrite
  rw [State.get_put_bits _ _ _ _ (by decide) (by decide), State.get_put_bits _ _ _ _ (by decide) (by decide),
    State.get_put_self _ _ _ (by decide)]
  exact Nat.mod_eq_of_lt (Nat.mod_lt _ (by decide))

theorem State.enterMode_base (s : State) (m : Nat) : (s.enterMode m).get HUB_MODE_STAT.base_mode =
    if m = 7 ∨ m = 8 then (if s.mode = 5 ∨ s.mode = 6 then s.mode else s.get HUB_MODE_STAT.base_mode) else 0 := by
  refine (State.enterMode_get s m rfl (by decide)).trans ?_
  unfold State.modeWrite
  rw [State.get_put_self _ _ _ (by decide)]
  refine Nat.mod_eq_of_lt ?_
  split
  · split
    · exact Nat.mod_lt _ (by decide)
    · exact Nat.mod_lt _ (by decide)
  · decide

theorem State.modeWrite_frame (s : State) (m : Nat) : s.ModeFrame (s.modeWrite m) := by
  unfold State.modeWrite
  dsimp only
  refine State.ModeFrame.trans ?_ (State.ModeFrame.put (f := HUB_MODE_STAT.base_mode) (.inl (by decide)))
  refine State.ModeFrame.trans ?_ (State.ModeFrame.put (f := HUB_MODE_STAT.mode) (.inl (by decide)))
  exact State.ModeFrame.put (f := HUB_MODE_STAT.last_mode) (.inl (by decide))

/-- What a change of mode moves (R302). -/
theorem State.enterMode_frame (s : State) (m : Nat) : s.ModeFrame (s.enterMode m) := by
  have lead : ∀ (u : State) (o : Nat), u.ModeFrame (u.modeLead o m) := fun u o => by
    unfold State.modeLead
    dsimp only
    have seen (c : Prop) [Decidable c] : u.ModeFrame (if c then { u with twn := { u.twn with scanHbs := 0, lead := u.leads } } else u) :=
      State.ModeFrame.ite ⟨fun _ _ _ _ => rfl, rfl, rfl, rfl, rfl, rfl, rfl⟩ (State.ModeFrame.refl u)
    exact State.ModeFrame.ite ((seen _).trans (State.ModeFrame.put (f := TWN_STAT.leader) (.inl (by decide)))) (seen _)
  have pil : ∀ (u : State) (o : Nat), u.ModeFrame (u.modePilot o) := fun u o => by
    unfold State.modePilot
    refine State.ModeFrame.ite ?_ (State.ModeFrame.refl u)
    exact (State.ModeFrame.put (f := HUB_MODE_STAT.pilot_by_req) (.inl (by decide))).trans
      (State.ModeFrame.put (f := HUB_MODE_STAT.pilot_cause) (.inl (by decide)))
  have sel : ∀ u : State, u.ModeFrame (u.modeSnuffer m) := fun u => ⟨fun _ _ _ _ => rfl, rfl, rfl, rfl, rfl, rfl, rfl⟩
  rw [State.enterMode_eq]
  refine State.ModeFrame.trans ?_ (State.grantsCheck_frame _).mode
  refine State.ModeFrame.trans ?_ (State.modeFire_frame _ _)
  refine State.ModeFrame.trans ?_ (sel _)
  refine State.ModeFrame.trans ?_ (pil _ _)
  refine State.ModeFrame.trans ?_ (lead _ _)
  exact (State.modeWrite_frame s m).trans (State.leaveService_frame _ _)

theorem State.GrantFrame.snf {s t : State} (h : s.GrantFrame t) : t.snf = s.snf := by
  have := congrArg State.snf h.rest
  exact this

theorem State.KillFrame.snf {s t : State} (h : s.KillFrame t) : t.snf = s.snf := by
  have := congrArg State.snf h.rest
  exact this

end Sys2Proof.Machine
end

