-- ==== Sys2Proof/Machine/PcieCfg.lean ====
section
/-! DEFINITION. What the function shows in PCIe and CXL configuration space (R1, R184, R249, R408): read-only views of state that has
its home elsewhere. -/

namespace Sys2Proof.Machine

/-- A base address register (R186): its number (with its successor it holds a 64-bit base), the size it asks for, and its type bits. -/
structure Bar where
  number : Nat
  size : Nat
  memory64 : Bool
  prefetchable : Bool
  deriving DecidableEq, Repr

/-- The three BARs (R186); the base that the host gives each is not used by the model, which takes offsets. -/
def bars : List Bar := [⟨0, 16 * 2 ^ 20, true, false⟩, ⟨2, 64 * 2 ^ 10, true, false⟩, ⟨4, 2 * 2 ^ 20, true, false⟩]

/-- Configuration space as far as the spec describes it: identification (R1, R184, R408), the protocol bits and the memory status of
the CXL DVSEC (R184, R249), the HDM decoder's interleave ways and size (R249), and the BARs (R186). -/
structure PcieCfg where
  vendor : Nat
  device : Nat
  revision : Nat
  classCode : Nat
  serial : Nat
  cacheCapable : Bool
  ioCapable : Bool
  memCapable : Bool
  memoryActive : Bool
  mediaReady : Bool
  hdmWays : Nat
  hdmSize : Nat
  bars : List Bar
  deriving DecidableEq, Repr

/-- The Revision ID equals hub_step and the Device Serial Number equals uid (R408); Memory_Active and the media status report ready
when mem_active sets; a retirement leaves the decoder's size (R249). -/
def State.pcieCfg (s : State) : PcieCfg where
  vendor := 0x1F9A
  device := 0x1536
  revision := s.get HUB_REV.hub_step
  classCode := 0x118000
  serial := s.get HUB_UID.uid
  cacheCapable := false
  ioCapable := true
  memCapable := true
  memoryActive := s.flag MEM_STAT.mem_active
  mediaReady := s.flag MEM_STAT.mem_active
  hdmWays := 1
  hdmSize := s.mem.hdmSize
  bars := bars

end Sys2Proof.Machine
end

