-- ==== Sys2Proof/WellFormed.lean ====
section
/-! DEFINITION. What a sender may put into a command beyond the types of its operands: the bounds of the lists that messages,
frames and transfers carry. -/

namespace Sys2Proof

/-- Does the command respect the bounds the spec gives its operands? -/
def Instr.wellFormed : Instr → Bool
  -- a register access is 1 to 8 bytes (R10)
  | .registerWrite _ _ bytes _ _ | .readClear _ _ bytes _ => decide (0 < bytes.val)
  -- a message has 0 to 15 data flits (R17), and asks for at most as many
  | .jexWriteRequest _ _ _ data => decide (data.length ≤ 15)
  | .jexReadResponse _ _ _ data => decide (data.length ≤ 15)
  | .jexStreamMessage _ _ data => decide (data.length ≤ 15)
  | .jexSafetyMessage _ data => decide (data.length ≤ 15)
  -- a pop reads inside the 32-byte window (R212)
  | .eventPop _ off len => decide (0 < len.val) && decide (off.val + len.val ≤ 32)
  -- an access lies inside the 4 KB aperture (R218)
  | .dportApertureWrite o data => decide (0 < data.length) && decide (o.off.val + data.length ≤ 4096)
  | .dportApertureRead o len _ _ => decide (0 < len.val) && decide (o.val + len.val ≤ 4096)
  -- widths x1, x4 and x8, and the six rates (R184)
  | .linkUp _ width speed _ => (width.val == 1 || width.val == 4 || width.val == 8) && decide (1 ≤ speed.val) && decide (speed.val ≤ 6)
  -- at most one line of 64 bytes (log entry 54)
  | .cxlMemWrite d data => decide (0 < data.length) && decide (d.toNat % 64 + data.length ≤ 64)
  -- the uncorrectable words of one stripe of 256 bytes, each named once (R246)
  | .migrateStripe bad => bad.Nodup
  -- two addresses, VLAN tag or length, and data (R257)
  | .ethFrameReceive _ frame _ _ => decide (14 ≤ frame.length)
  -- the readings of the 34 dies' sensors (R366)
  | .thermalRound die => decide (die.length = 34)
  -- one result per channel at most (R387)
  | .calDone results => (results.map (fun r => (r.tile, r.chan))).Nodup
  | .startTestEnd _ _ _ rows => rows.Nodup
  -- what the remaining commands carry is bounded by its types
  | .porstNAssert .. | .warmRstNAssert .. | .resetRelease .. | .thmLock .. | .jexFlitReceive .. | .jexReadRequest .. | .jexLinkDown ..
  | .jexWriteAck .. | .jexErrorResponse .. | .jexCreditReturn .. | .injectArm .. | .w256ClearCounts .. | .tagGrant ..
  | .tagPoolWrite .. | .tagPeakClear .. | .tagTimeout .. | .powerDomainOff .. | .powerDomainOn .. | .rpllLock ..
  | .rpllLossOfLock .. | .runSet .. | .runClear .. | .swapReq .. | .syncPinSelect .. | .taperEnumDone ..
  | .frameValidationDone .. | .decisionPoint .. | .frameStart .. | .frameEnd .. | .syncInEdge .. | .mirrorIndex ..
  | .mirrorIndexMissing .. | .positionSample .. | .entryPrefetch .. | .shadeCheck .. | .shadeBucketAdvance ..
  | .shotNotice .. | .shotCommandSend .. | .strobe .. | .taperStatusReceive .. | .statusEvaluate .. | .taperDriverFault ..
  | .drvFaultClear .. | .shotWindowClose .. | .rekey .. | .shadeLock .. | .shadeBudgetWrite .. | .shadeTempInhibit ..
  | .shadeTempStale .. | .diagClear .. | .referenceReturn .. | .refWindowClose .. | .segmentOpen .. | .diagPeriodEnd ..
  | .comparatorEvent .. | .totTimeout .. | .gainSwitchPoint .. | .gainBlankEnd .. | .chEnableWrite .. | .eventAccumulate ..
  | .cdtRecompute .. | .cdtStale .. | .tdcHealthCheck .. | .tdcStampSilence .. | .tdcFailWrite .. | .spareMapWrite ..
  | .gangPhaseMeasure .. | .gangLock .. | .gangUnlock .. | .refClear .. | .walkWrite .. | .zoomSnapshot .. | .summarySend ..
  | .zoomAnswer .. | .zoomWindowInstall .. | .cellSeal .. | .cellPacketSend .. | .handoffComplete .. | .cellRecordReceive ..
  | .tapSelect .. | .tapEnable .. | .tapFlush .. | .tapTailWrite .. | .tapSlotCommit .. | .echoExtract ..
  | .pointPacketWrite .. | .ifFrameEvaluate .. | .deviceTimeWrap .. | .servoOffset .. | .trimUpdate .. | .holdoverEntry ..
  | .timeStepWrite .. | .warmReached .. | .ocxoWarmChange .. | .ppsEdge .. | .ppsMissing .. | .timeinEdge ..
  | .timeinStampRead .. | .statsStart .. | .statsAbort .. | .statsSample .. | .statsDone .. | .lowHalfRead ..
  | .highHalfWrite .. | .lowHalfWrite .. | .linkDown .. | .flr .. | .ringCfgWrite .. | .sqDoorbell ..
  | .descriptorFetch .. | .nop .. | .copy .. | .fill .. | .regWrite .. | .regRead .. | .waitTime .. | .waitTimeReached ..
  | .modeReq .. | .invalidOpcode .. | .descriptorComplete .. | .cqDoorbell .. | .cqNoticeTimer .. | .sqFlush ..
  | .sqFlushDone .. | .prDoorbell .. | .prQuotaWrite .. | .headWordWrite .. | .prNoticeTimer .. | .prFlush ..
  | .dportAddrWrite .. | .dportDataRead .. | .dportDataWrite .. | .sidebandEntdaa ..
  | .sidebandWrite .. | .sidebandRead .. | .sidebandTimeout .. | .cxlMemRead .. | .memInit .. | .memInitDone ..
  | .memLock .. | .memRequest .. | .memCommandSlot .. | .memCompletion .. | .refreshDue .. | .refreshPreempt ..
  | .mr4RateChange .. | .retrainStep .. | .freqChangeReq .. | .freqChangeApply .. | .memQuotaWrite .. | .memPortCfgWrite ..
  | .memPortPeakClr .. | .scrubPassEnd .. | .ceRateCheck .. | .memErrClear .. | .retireStart .. | .retireDone ..
  | .ethModeWrite .. | .ethLinkUp .. | .ethLinkDown .. | .eqAdaptStep .. | .ethRetrain .. | .frerReset .. | .txSelect ..
  | .gateChange .. | .gateListSwitch .. | .gclEntryAdvance .. | .ptpMessageReceive .. | .ptpSyncSend .. | .exportEnable ..
  | .exportFrameSend .. | .qslTxEnable .. | .qslCommit .. | .qslTxPeriod .. | .qslRxEnable .. | .qslRestart ..
  | .qslFrameReceive .. | .qslWatchdog .. | .safetySummary .. | .cellCloseMarker .. | .zoneEvaluate .. | .verdictExchange ..
  | .verdictTimeout .. | .permissionClockStop .. | .restartDelay .. | .ztPrepare .. | .ztChannelCheckDone .. | .ztCommit ..
  | .ztAbort .. | .tableRecheck .. | .zoneSetAgree .. | .zoneSwitchEnd .. | .dciSample .. | .dciDiscrepancyTimeout ..
  | .testPulse .. | .outputReadback .. | .shadeDigest .. | .shadeDigestTimeout .. | .pilotLinkSilence .. | .lorReqRise ..
  | .lorReqFall .. | .lorReqLong .. | .lorReqRearm .. | .lockoutClear .. | .vsnfRise .. | .vsnfOutOfRange ..
  | .vsafOutOfRange .. | .vsnfBrownout .. | .modeRequest .. | .standbyEntry .. | .bootConfigRead .. | .imageCheck ..
  | .bootRetry .. | .svnCommit .. | .calStoreLoad .. | .bootComplete .. | .pilotClusterSilence .. | .pilotSummarySilence ..
  | .pilotStrobeSilence .. | .pilotShot .. | .pilotWindow .. | .pilotBufferSeal .. | .pilotPowerAll .. | .pilotEvaluate ..
  | .pilotBlind .. | .pilotGrantMessage .. | .indApply .. | .indApplyTakeEffect .. | .lampDiag .. | .indFaultClear ..
  | .heartbeatSend .. | .heartbeatReceive .. | .heartbeatTimeout .. | .twinTimeMessage .. | .mirrorStateMessage ..
  | .overlapMessage .. | .bulkMessage .. | .epochMismatch .. | .twinLaneRetrain .. | .twinLaneUp .. | .mirrorHandoff ..
  | .mirrorHandoffExecute .. | .mirrorRelease .. | .mirrorTakeoverWait .. | .mirrorTakeover .. | .handoverStart ..
  | .handoverReady .. | .handoverSwitch .. | .handoverEnd .. | .handoverAbort .. | .clusterWatchdog .. | .sliceStart ..
  | .sliceIsolate .. | .sliceActionDone .. | .sliceRejoin .. | .hkEnable .. | .hkDisable .. | .hkSwTrigger ..
  | .hkTimerTrigger .. | .hkPhaseDone .. | .hkWireBreak .. | .syncHkEdge .. | .hkCalStart .. | .hkCalDone ..
  | .chimneyMeasure .. | .chimneyRefCapture .. | .thermalClassStale .. | .snufferTempSample .. | .loopEnable ..
  | .loopSample .. | .loopAutoSwitch .. | .loopCommit .. | .loopSaturated .. | .loopDeviation .. | .nvmWriteSet ..
  | .nvmWriteDone .. | .nvmReadRecord .. | .calGo .. | .bistSliceDue .. | .bistSliceDone .. | .overflowRecordEnter ..
  | .claimReserve .. | .claimRelease .. | .bankLoadPeakClr .. | .echoLoadPeakClr .. | .safetyLockstepMismatch ..
  | .twinLaneLoss .. | .pcieAdvancedError .. | .fecUncorrectableCodeword .. | .twinTimeSend .. | .mirrorStateSend ..
  | .trainingStepEnd .. => true

end Sys2Proof
end

