-- ==== Sys2Proof/Tests/Slice0.lean ====
section
/-! SUPPORT. Tests: ill-formed commands that WellFormed refuses, worked examples of the spec as single steps, and for every statement
with hypotheses a state and operands that meet them together. -/

open Sys2Proof Sys2Proof.Machine


namespace Sys2Proof.Tests

set_option Elab.async false

def wCommitted : Committed := ⟨0, 0, 0, 0, 0, 0, 0, 0, 0, 0, false, false, false, false, false⟩
def wShot : Shot := ⟨wCommitted, 0, 0, 0, .fetched, 0, none, none, false⟩
def wCellInfo : CellInfo := ⟨0, 0, 0, [], 0, 0, 0, 0, 0, [], 0, false, [], 0, 0, 0, 0, 0, none, [], 0, 0, none⟩
def wTileCell : TileCell := ⟨0, 0, 0, false, 0, false, false, false, false, false, 0⟩
def wCellMeta : CellMeta := ⟨0, 0, 0, 0, 0, 0, 0, 0, 0, false, false, 0, false, 0, 0, 0, 0, 0⟩
def wChanRec : ChanRec := ⟨0, 0, 0, 0, wCellMeta, 0, false, RepCnt.init, [], [], [], [], false, false, false, false, false⟩
def wSummary : Summary := ⟨0, 0, 0, 0, 0, 0, [], false, 0, none⟩
def wShadeCopy : ShadeCopy := ⟨[], [], 0, 0, [], 0, 0, 0⟩
def wHeartbeat : Heartbeat := ⟨0, 0, 0, 0, 0, 0, 0, false, false, false, 0, 0, false, 0, 0⟩
def wStatsRun : StatsRun := ⟨0, 0, 0, 0, 0, 0, 0, 0, 0, 0, 0, 0⟩
def stP (s : State) (l : List (FRef × Nat)) : State := l.foldl (fun s p => s.put p.1 p.2) s
abbrev rs : State := State.reset
/-- zone bytes: kind, triangle -/
def wZone (kind : Nat) : List Byte :=
  let v (az r : Nat) := toLE 8 (r + az * 2 ^ 24)
  let vs := v 100 1000 ++ v 300 1000 ++ v 200 5000
  (toLE 1 kind ++ [1, 1, 3] ++ toLE 8 (2^64 - 1) ++ toLE 2 100 ++ [0, 0] ++ vs ++ List.replicate (128 - 24) 0)
def wSetB (zones : List (List Byte)) : List Byte :=
  toLE 1 zones.length ++ List.replicate 31 0 ++ zones.flatten ++ List.replicate (4608 - 144 * zones.length) 0
/-- a table: src, arg, switch, dci modes, sets -/
def wTable (id src arg sw : Nat) (dci : List Nat) (qa qb : Nat) (sets : List (List Byte)) : List Byte :=
  let h (crc : Nat) : List Byte := [1] ++ toLE 1 sets.length ++ [0, 0] ++ toLE 4 id ++ toLE 4 (64 + 4640 * sets.length) ++ toLE 1 src ++ toLE 1 arg ++ toLE 2 sw ++
    (dci.map (fun m => toLE 1 m)).flatten ++ (dci.map (fun m => toLE 1 (if m % 2 = 1 then 10 else 0))).flatten ++ toLE 2 200 ++ toLE 2 100 ++ toLE 2 20 ++ toLE 1 qa ++ toLE 1 qb ++ [0, 0] ++
    List.replicate 26 0 ++ toLE 4 crc
  h (crc32 (h 0 ++ sets.flatten)) ++ sets.flatten
def wT1 : List Byte := wTable 77 0 1 5 [1, 3, 0, 0] 0 0 [wSetB [wZone 7, wZone 0], wSetB []]
def wT0 : List Byte := wTable 78 1 0 0 [1, 1, 0, 0] 0 0 [wSetB []]
def wChan (t n : List Byte) : SafChan := { SafChan.init with table := t, next := n }
theorem all_some {α : Type} {o : Option α} {p : α → Prop} [DecidablePred p] (h : o.all (fun x => decide (p x)) = true) :
    ∀ x, o = some x → p x := by
  intro x e; subst e; simpa using h
theorem ok_of {α : Type} [DecidableEq α] {o : Except Nat α} {x : α} (h : (match o with | .ok y => decide (y = x) | .error _ => false) = true) :
    o = .ok x := by cases o <;> simp_all
theorem err_of {α : Type} {o : Except Nat α} {x : Nat} (h : (match o with | .error y => decide (y = x) | .ok _ => false) = true) :
    o = .error x := by cases o <;> simp_all
theorem pair_of {α β : Type} {p : α × β} {x : α} (h : p.1 = x) : p = (x, p.2) := by cases h; rfl

namespace Forms

/-- A channel's measurements: offsets that grow with the combination's number, no residuals, and the sum of the first run. -/
def calMeas (c : Fin 260) (a : Int) : CalResult :=
  ⟨0, c, Vector.replicate 4 (Vector.ofFn (fun i => BitVec.ofNat 16 i)), Vector.replicate 4 0, BitVec.ofInt 64 a, BitVec.ofInt 64 a⟩

/-! Ill-formed commands, one for each bound of `Instr.wellFormed`, each refused. -/

theorem test_wf_write_of_no_bytes : (Instr.registerWrite .pcie 0 0 0 0).wellFormed = false := by decide
theorem test_wf_read_of_no_bytes : (Instr.readClear .pcie 0 0 0).wellFormed = false := by decide
theorem test_wf_jex_write_empty : (Instr.jexWriteRequest 0 .register ⟨0, 0, 0⟩ []).wellFormed = true := by decide
theorem test_wf_jex_write_long : (Instr.jexWriteRequest 0 .register ⟨0, 0, 0⟩ (List.replicate 16 0)).wellFormed = false := by decide
theorem test_wf_jex_response_empty : (Instr.jexReadResponse 0 0 0 []).wellFormed = true := by decide
theorem test_wf_jex_response_long : (Instr.jexReadResponse 0 0 0 (List.replicate 16 0)).wellFormed = false := by decide
theorem test_wf_jex_stream_long : (Instr.jexStreamMessage 0 .cellPacket (List.replicate 16 0)).wellFormed = false := by decide
theorem test_wf_jex_safety_long : (Instr.jexSafetyMessage 0 (List.replicate 16 0)).wellFormed = false := by decide
theorem test_wf_jex_read_of_none : (Instr.jexReadRequest 0 .register ⟨0, 0, 0⟩ 0).wellFormed = true := by decide
theorem test_wf_pop_of_no_bytes : (Instr.eventPop .pcie 0 0).wellFormed = false := by decide
theorem test_wf_pop_past_the_window : (Instr.eventPop .pcie 31 2).wellFormed = false := by decide
theorem test_wf_aperture_empty : (Instr.dportApertureWrite ⟨0, false⟩ []).wellFormed = false := by decide
theorem test_wf_aperture_past_the_end : (Instr.dportApertureWrite ⟨4095, false⟩ [1, 2]).wellFormed = false := by decide
theorem test_wf_aperture_read_empty : (Instr.dportApertureRead 0 0 .good false).wellFormed = false := by decide
theorem test_wf_aperture_read_past_the_end : (Instr.dportApertureRead 4095 2 .good false).wellFormed = false := by decide
theorem test_wf_link_of_two_lanes : (Instr.linkUp true 2 6 true).wellFormed = false := by decide
theorem test_wf_link_without_rate : (Instr.linkUp true 8 0 true).wellFormed = false := by decide
theorem test_wf_link_of_an_unknown_rate : (Instr.linkUp true 8 7 true).wellFormed = false := by decide
theorem test_wf_cxl_write_empty : (Instr.cxlMemWrite 0 []).wellFormed = false := by decide
theorem test_wf_cxl_write_past_the_line : (Instr.cxlMemWrite 63 [1, 2]).wellFormed = false := by decide
theorem test_wf_stripe_word_twice : (Instr.migrateStripe [3, 3]).wellFormed = false := by decide
theorem test_wf_frame_without_header : (Instr.ethFrameReceive 0 (List.replicate 13 0) ⟨0, 0, 0⟩ false).wellFormed = false := by decide
theorem test_wf_thermal_round_short : (Instr.thermalRound (List.replicate 33 0)).wellFormed = false := by decide
theorem test_wf_cal_channel_twice : (Instr.calDone [calMeas 0 0, calMeas 0 1]).wellFormed = false := by decide
/-- The worked example of R386: a channel at tap 16 that measures the target + 37.2 ps gets tap 14 and keeps +6.0 ps; one 290.0 ps late
needs tap -3. -/
theorem test_skew_worked_example : State.reset.calTap 0 (calMeas 37 39007) = 14 ∧ State.reset.calSkewRes 0 (calMeas 37 6239) = 12 ∧
    State.reset.calTap 0 (calMeas 66 304087) = -3 := by decide +kernel
theorem test_wf_start_test_row_twice : (Instr.startTestEnd (Vector.replicate 6 0) ⟨Vector.replicate 14 0, 0⟩ false [(0, 5), (0, 5)]).wellFormed = false := by decide
theorem test_wf_write_of_four_bytes : (Instr.registerWrite .pcie 0 4 0 0).wellFormed = true := by decide

end Forms

namespace Step1

/-- The state that a command leaves, if it leaves one. -/
def after (o : Res) : State := match o with | .next t => t | .fault _ => rs | .refused _ => rs
/-- A field after a command. -/
def got (o : Res) (f : FRef) : Option Nat := match o with | .next t => some (t.get f) | .fault _ => none | .refused _ => none
/-- The (source, count) pairs of the event ring. -/
def ringOf (o : Res) : List (Nat × Nat) := (after o).ev.ring.map (fun r => (r.src, r.count))

/-- The register map's worked address: TILE_3_THR_CH_37 at 0x0070_1128 (17_register_map.md). -/
theorem test_address_of_thr_ch : TILE_THR_CH.addr 3 37 = 0x00701128 := by decide
/-- The catalogue's worked indices: mem-uncorrectable 164, qsl-conn-fail 192, claim-denied of TILE_0 15 (16_events_catalogue.md). -/
theorem test_event_indices : Ev.memUncorrectable = 164 ∧ Ev.qslConnFail = 192 ∧ Ev.claimDenied 0 = 15 := by decide
/-- The check value that IEEE 802.3's CRC-32 gives for the digits 1 to 9. -/
theorem test_crc32_check_value : crc32 [0x31, 0x32, 0x33, 0x34, 0x35, 0x36, 0x37, 0x38, 0x39] = 0xCBF43926 := by decide +kernel
/-- The check value of CRC-16 with generator 0x1021 and start 0xFFFF for the digits 1 to 9. -/
theorem test_crc16_check_value : crcUp 16 0x1021 0xFFFF [0x31, 0x32, 0x33, 0x34, 0x35, 0x36, 0x37, 0x38, 0x39] = 0x29B1 := by decide +kernel

/-- Both pins high leave HOLD for BOOT (R302). -/
theorem test_release_boots : got (exec (.resetRelease true) (stP rs [(HUB_MODE_STAT.mode, 0)])) HUB_MODE_STAT.mode = some 1 := by decide +kernel
/-- PORST_N reads the six tiles' straps and enters HOLD (R303). -/
theorem test_porst_tiles : got (exec (.porstNAssert 0x2F) (stP rs [(HUB_MODE_STAT.mode, 4)])) HUB_CAP.tiles = some 0x2F := by decide +kernel

/-- The host reserves PWM_1 (17_register_map.md). -/
theorem test_claim_reserve : got (exec (.claimReserve 11) rs) (HUB_CLAIM.owner 11) = some 1 := by decide +kernel
def pwm : State := stP rs [(HUB_MODE_STAT.mode, 4), (HUB_CLAIM.owner 11, 1), (CTL_LOOP_CFG.out 3, 1)]
/-- Loop 3's enable is refused and HUB_CLAIM_11 reads 0x0113_0001 (17_register_map.md). -/
theorem test_claim_denied_register : (after (exec (.loopEnable 3 true) pwm)).reg (HUB_CLAIM.addr 11) = 0x01130001 := by decide +kernel
/-- The refusal raises claim-denied of TILE_0 and leaves the loop off (17_register_map.md). -/
theorem test_claim_denied_event : ringOf (exec (.loopEnable 3 true) pwm) = [(15, 1)] ∧
    got (exec (.loopEnable 3 true) pwm) (CTL_LOOP_CFG.enable 3) = some 0 := by decide +kernel

/-- The walk table of the worked wall: e[10] = -205, e[11] = -190, e[44] = -38 (03_front_end_and_timing.md). -/
def wall (i : Nat) : Int := if i = 10 then -205 else if i = 11 then -190 else if i = 44 then -38 else 0
/-- The strong echo: ToT 5.500 ns is 1,408 LSB, correction -38 LSB (03_front_end_and_timing.md). -/
theorem test_walk_strong : walkCorr wall 8 1408 1 = -38 := by decide +kernel
/-- The weak echo: ToT 1.296875 ns is 332 LSB, correction -199 LSB (03_front_end_and_timing.md). -/
theorem test_walk_weak : walkCorr wall 8 332 1 = -199 := by decide +kernel
/-- The 32 bytes of the 600 m echo's record (05_echo_extraction_and_records.md). -/
theorem test_point_record :
    pointRecord ⟨0xB2E4C703A00, 0xF71C7, 303, 21, 5, 0, 0x1A2B, 0x63, 64⟩ 0 0 2400000 115 0x400 0x80 0 3 (2 ^ 17) 0 7 =
      toLE 4 0x4C703A00 ++ toLE 4 0xB2E ++ toLE 4 0x73249F00 ++ toLE 4 0xC0800400 ++ toLE 4 0x12FF71C7 ++ toLE 4 0x00020515 ++
        toLE 4 0x00631A2B ++ toLE 4 0x00070040 := by decide +kernel
/-- bg_rate of the 600 m echo: B_g of 1.265 in 128ths over 64 shots is 99 (05_echo_extraction_and_records.md). -/
theorem test_bg_rate : bgRate 162 64 = 99 := by decide +kernel

/-- Sensor 9 of the hovering example, two samples at or above throttle so far (14_thermal_and_control_loops.md). -/
def hover : State := let s := stP rs [(HUB_MODE_STAT.mode, 4)]
  { s with thm := { s.thm with sens := s.thm.sens.set 9 { ThmSens.init with runs := [3, 2, 0], held := 1 } } }
def die (i t : Nat) : List (BitVec 16) := (List.replicate 34 (600 : BitVec 16)).set i (BitVec.ofNat 16 t)
/-- Round 8: a third sample at or above 110.0 °C holds throttle (14_thermal_and_control_loops.md). -/
theorem test_throttle_third_sample : ((after (exec (.thermalRound (die 9 1104)) hover)).sens 9).held = 3 := by decide +kernel
/-- Round 4: 109.9 °C starts the run again (14_thermal_and_control_loops.md). -/
theorem test_throttle_run_restarts : (((after (exec (.thermalRound (die 9 1099)) hover)).sens 9).runs.getD 1 9,
    ((after (exec (.thermalRound (die 9 1099)) hover)).sens 9).held) = (0, 1) := by decide +kernel

/-- Receive connection 0 of the brake controller, open with last_seq 0xFFFE (09_ethernet_and_qsl.md); `us` is the full time in µs. -/
def brake (us last : Nat) : State := stP rs [(HUB_MODE_STAT.mode, 4), (TIME_STAT.src_locked, 1), (TIME_NOW.time, us * 65536000), (QSL_RX_CFG.enable 0, 1),
  (QSL_RX_CFG.ports 0, 1), (QSL_RX_CFG.len 0, 4), (QSL_RX_ID.identity 0, 77), (QSL_RX_STAT.state 0, 2), (QSL_RX_STAT.last_seq 0, last)]
def pdu (seq t : Nat) : List Byte := qslPdu 77 seq t 200 [1, 2, 3, 4]
/-- Frame A is accepted: 1,345 µs old, seq 0xFFFF after 0xFFFE (09_ethernet_and_qsl.md). -/
theorem test_qsl_accepted : got (exec (.qslFrameReceive 0 (pdu 0xFFFF 4294952040) false) (brake 4294953385 0xFFFE)) (QSL_RX_STAT.last_seq 0) = some 0xFFFF := by decide +kernel
/-- Frame B is rejected as late: 2,130 µs is beyond 2,000 µs (09_ethernet_and_qsl.md). -/
theorem test_qsl_late : got (exec (.qslFrameReceive 0 (pdu 0x0000 4294957040) false) (brake 4294959170 0xFFFF)) (QSL_RX_CNT.rejected 0) = some 1 := by decide +kernel
/-- Frame C is accepted across the wrap of the µs time and counts two lost frames (09_ethernet_and_qsl.md). -/
theorem test_qsl_wrap : got (exec (.qslFrameReceive 0 (pdu 0x0002 4294967040) false) (brake 4294968064 0xFFFF)) (QSL_RX_CNT.lost 0) = some 2 := by decide +kernel
/-- Frame D jumps by 7 and fails the connection with cause 4 (09_ethernet_and_qsl.md). -/
theorem test_qsl_jump : got (exec (.qslFrameReceive 0 (pdu 0x0009 4744) false) (brake 4294973240 0x0002)) (QSL_RX_STAT.cause 0) = some 4 := by decide +kernel

/-- The ring of the corrected-errors example after its third step (16_events_catalogue.md). -/
def burst : State := { stP rs [(RING_EV_STAT.next_seq, 0x0103)] with
  ev := { rs.ev with ring := [⟨9, 163, 1, false, 3, 0x101, 0x402, 0⟩, ⟨12, 198, 6, false, 1, 0x102, 0, 0⟩] } }
/-- A fourth correction joins record A, and no record enters (16_events_catalogue.md). -/
theorem test_event_coalesces : ((burst.raise Ev.memCorrectable 0x402 0).ev.ring.map (fun r => (r.seq, r.count))) = [(0x101, 4), (0x102, 1)] := by decide +kernel
/-- The first pop takes B, since priority 6 outranks priority 1 (16_events_catalogue.md). -/
theorem test_event_pop_priority : (after (exec (.eventPop .pcie 0 32) burst)).ev.ring.map (fun r => r.seq) = [0x101] := by decide +kernel

/-- The reset floors of the tag classes sum to 3,520 (R35). -/
theorem test_tag_floors : ((List.range 8).map (fun n => rs.get (HUB_TAG_POOL.floor n))).sum = 3520 := by decide +kernel
/-- HUB_TAG_POOL_6 resets to 0x0600_0200 (R35). -/
theorem test_tag_pool_reset : rs.reg (HUB_TAG_POOL.addr 6) = 0x06000200 := by decide +kernel
/-- A floor of 1,100 for class 0 would sum to 4,108, above 4,096, and is not taken (R36). -/
theorem test_tag_pool_rejected : got (exec (.tagPoolWrite 0 1100 2048) rs) (HUB_TAG_POOL.floor 0) = some 512 := by decide +kernel
/-- A floor of 1,088 for class 0 sums to 4,096 and is taken (R36). -/
theorem test_tag_pool_taken : got (exec (.tagPoolWrite 0 1088 2048) rs) (HUB_TAG_POOL.floor 0) = some 1088 := by decide +kernel

/-- Four channels of 16 GB in order 0b00 (08_memory.md). -/
def head64 : State := let s := stP rs [(HUB_MODE_STAT.mode, 4), (MEM_STAT.mem_active, 1), (MEM_STAT.ch_active, 15), (MEM_EXTENT.extent, 64424509440)]
  { s with mem := { s.mem with chs := [0, 1, 2, 3], stripes := 62914560 } }
/-- Retiring MEM_2 leaves an extent of 48,318,382,080 bytes (08_memory.md). -/
theorem test_retire_extent : got (exec (.retireStart 2) head64) MEM_EXTENT.extent = some 48318382080 := by decide +kernel
/-- The first stripe to move is the first of MEM_2, stripe 2 (08_memory.md, R246). -/
theorem test_retire_pointer : got (exec (.retireStart 2) head64) MEM_RETIRE_PTR.ptr = some 512 := by decide +kernel
/-- A pop of the emptied ring gives the idle item, whose seq is 0x0103 (16_events_catalogue.md). -/
theorem test_event_idle_item : (after (exec (.eventPop .pcie 0 32) { burst with ev := { burst.ev with ring := [] } })).ev.hold.getD 0 [] =
    evIdle 0 0x103 := by decide +kernel

/-- One cycle of a running time base is 2 ns of 2^-16 ns each (R165). -/
theorem test_idle_cycle : got (step { rs with time := { rs.time with everLocked := true } }) TIME_NOW.time = some 131072 := by decide +kernel
/-- A write to THM_CTL.lock sets it (R12). -/
theorem test_thm_lock : got (exec .thmLock rs) THM_CTL.lock = some 1 := by decide +kernel
/-- A 4-byte write to FIRE_BANK_CFG_0 sets its driver field, bits [3:0] (R10). -/
theorem test_register_write : got (exec (.registerWrite .pcie 0x200200 4 0x51 0) (stP rs [(HUB_MODE_STAT.mode, 4)])) (FIRE_BANK_CFG.driver 0) = some 1 := by decide +kernel

end Step1

namespace Whole

/-- A state that meets the hypotheses of `Obligations.StepKeepsCanonicalForm`: reset, from which an idle cycle answers a next state. -/
theorem witness_StepKeepsCanonicalForm : ∃ s t : State, s.Canon ∧ step s = .next t := ⟨rs, rs.tick, ⟨by decide, by decide, by decide, by decide, by decide, by decide, by decide⟩, rfl⟩
/-- A state that meets the hypotheses of `Obligations.StepKeepsShape`: reset with a release of the reset pins waiting. -/
theorem witness_StepKeepsShape : ∃ s t : State, s.Shape ∧ step s = .next t :=
  ⟨{ rs with pending := [.resetRelease false] }, _, ⟨by decide, by decide, by decide +kernel, by decide, by decide, by decide, by decide, by decide, by decide +kernel, by decide, by decide, by decide, by decide, by decide, by decide, by decide⟩, rfl⟩
/-- A state that meets the hypothesis of the idle clause of `Obligations.StepRunsTheFront`. -/
theorem witness_StepRunsTheFront : ∃ s : State, s.pending = [] := ⟨rs, rfl⟩
/-- A port and ring that meet the hypothesis of `Obligations.HostLink`: the point ring lies in host memory. -/
theorem witness_HostLink : (∃ (s : State) (n : Fin 32), s.get (RING_PR_CFG.loc n) = 0) ∧ (∃ w v : Fin 16, (w.val == 8 && v.val == 6) = false) :=
  ⟨⟨rs, 0, by decide +kernel⟩, ⟨0, 0, by decide⟩⟩

end Whole

namespace W00

abbrev P := stP
def s1 : State := P rs [(HUB_MODE_STAT.mode, 0), (HUB_BOOT_CTL.retry, 1)]

/-- Every form of `Obligations.ResetPins` has a state and operands that meet its hypotheses together. -/
theorem witness_ResetPins :
    (∃ (s : State), s.mode = 0 ∧ s.fire.engaged = false) :=
  ⟨s1, by decide +kernel⟩

end W00

namespace W01

abbrev P := stP
def sqd (s : State) (n : Nat) (l : List Desc) : State := { s with host := { s.host with sq := tabSet (fun _ => SqSt.init) s.host.sq n { SqSt.init with descs := l } } }
def H (s : State) (f : HubSt → HubSt) : State := { s with hub := f s.hub }
def ops (s : State) (l : List Nat) : State := H s (fun h => { h with ops := l.map (fun i => ⟨i, i, Fin.ofNat 8 i, .tile (Fin.ofNat 6 i), i⟩), nextInst := 100 })
def dop (st : DescSt) (op : Nat) : State := { sqd (H rs (fun h => { h with ops := [⟨7, 100, 0, .tile 3, 0⟩, ⟨8, 7, 0, .host, 0⟩] })) 0 [⟨op, 100, st, true⟩, ⟨0, 7, .running, true⟩] with }
def s0 : State := rs
def s1 : State := dop (.moving 5) 1
def s2 : State := dop (.done 0 5) 1
def s5 : State := ops (P rs [(HUB_TAG_STAT.in_use 1, 5), (HUB_TAG_STAT.in_use 3, 4095), (HUB_TAG_POOL.ceiling 3, 4095), (HUB_CLAIM.owner 3, 4), (HUB_CLAIM.owner 4, 1), (HUB_CLAIM.owner 15, 5), (HUB_CLAIM.owner 14, 1), (HUB_CLAIM.last_denied 3, 9), (HUB_W256_STAT.ce_count, 77), (HUB_W256_STAT.log_head, 9), (HUB_W256_STAT.ue_count, 3)]) [0, 1, 2, 7, 4095]

/-- Every form of `Obligations.HubControls` has a state and operands that meet its hypotheses together. -/
theorem witness_HubControls :
    (∃ (s : State) (i : Fin 32), i.val ≤ 15 ∧ (s.get (HUB_CLAIM.owner i) = 0 ∨ s.get (HUB_CLAIM.owner i) = 1)) ∧
    (∃ (s : State) (i : Fin 32), i.val ≤ 15 ∧ 1 < s.get (HUB_CLAIM.owner i)) ∧
    (∃ (i : Fin 32), 15 < i.val) ∧
    (∃ (s : State) (i : Fin 32), s.get (HUB_CLAIM.owner i) = 1) ∧
    (∃ (s : State) (i : Fin 32), s.get (HUB_CLAIM.owner i) ≠ 1) :=
  ⟨⟨s0, 0, by decide +kernel⟩,
    ⟨s5, 3, by decide +kernel⟩,
    ⟨16, by decide +kernel⟩,
    ⟨s5, 4, by decide +kernel⟩,
    ⟨s0, 0, by decide +kernel⟩⟩

/-- Every form of `Obligations.TagPools` has a state and operands that meet its hypotheses together. -/
theorem witness_TagPools :
    (∃ (s : State) (c : Fin 8), s.tagFree c = true ∧ s.hub.waiters.all (fun w => w.cls != c.val) = true) ∧
    (∃ (s : State) (c : Fin 8) (f : BitVec 12), s.floorsWith c f.toNat ≤ 4096) ∧
    (∃ (s : State) (c : Fin 8) (f : BitVec 12), 4096 < s.floorsWith c f.toNat) ∧
    (∃ (s : State) (k : Nat) (o : _), s.hub.ops.find? (fun x => x.inst == k) = some o ∧ s.opWaits o = true) ∧
    (∃ (s : State) (k : Nat) (o : _) (d : _), s.hub.ops.find? (fun x => x.inst == k) = some o ∧ o.cls = 0 ∧ s.descOf o.port k = some d ∧
      d.result? = none ∧ d.outstanding = true) ∧
    (∃ (s : State) (k : Nat) (o : _), s.hub.ops.find? (fun x => x.inst == k) = some o ∧ s.opWaits o = false) ∧
    (∃ (s : State) (k : Nat), s.hub.ops.find? (fun x => x.inst == k) = none) :=
  ⟨⟨s0, 0, by decide +kernel⟩,
    ⟨s0, 0, 0x0#12, by decide +kernel⟩,
    ⟨s0, 0, 0xfff#12, by decide +kernel⟩,
    ⟨s1, 7, { tag := 8, inst := 7, cls := 0, target := Target.host, port := 0 }, by decide +kernel⟩,
    ⟨s1, 7, { tag := 8, inst := 7, cls := 0, target := Target.host, port := 0 },
      { words := 0, inst := 7, st := DescSt.running, started := true }, by decide +kernel⟩,
    ⟨s2, 100, { tag := 7, inst := 100, cls := 0, target := Target.tile 3, port := 0 }, by decide +kernel⟩,
    ⟨s0, 0, by decide +kernel⟩⟩

/-- Every form of `Obligations.GrantedTagIsFree` has a state and operands that meet its hypotheses together. -/
theorem witness_GrantedTagIsFree :
    (∃ (s : State) (c : Fin 8) (k : Nat), k < 4096 ∧ s.hub.ops.all (fun o => o.tag != k) = true ∧ s.tagFree c = true ∧ s.hub.waiters.all
      (fun w => w.cls != c.val) = true) :=
  ⟨s0, 0, 0, by decide +kernel⟩

end W01

namespace W02

abbrev P := stP
def H (s : State) (f : HubSt → HubSt) : State := { s with hub := f s.hub }
def s0 : State := rs
def s1 : State := H rs (fun h => { h with isolated := [.clb] })
def s2 : State := P rs [(THM_CTL.lock, 1), (HUB_RESET_CAUSE.por, 1), (HUB_RESET_CAUSE.warm, 1), (HIST_DROP_CNT.hub_ue, 77), (HUB_MODE_STAT.mode, 6)]
def s3 : State := H (P rs [(HUB_MODE_STAT.mode, 6), (MEM_STAT.retired, 1), (MEM_STAT.retired_ch, 2), (TWN_STAT.unit, 1), (TILE_CH_EN.en 3 2, 77), (ETH_P_CFG.mode 3, 2), (HUB_TAG_TIMEOUT.timeout_us, 888)]) (fun h => { h with isolated := [.tile 0, .eth 3, .twn, .ddr 2], ops := [⟨1, 1, 1, .tile 0, 3⟩, ⟨2, 2, 1, .eth 3, 3⟩, ⟨3,3,1, .clb, 3⟩] })
def s4 : State := { P rs [(HUB_MODE_STAT.mode, 7), (MEM_STAT.retired, 1), (MEM_STAT.retired_ch, 2), (TIME_NOW.time, 2^45 + 5), (DPORT_DATA.data, 99)] with boot := { BootSt.init with sliceTile := some 5, sliceStep := 3 }, ports := (List.replicate 5 { PortSt.init with stageAddr := some 0xF00010, stage := 0x12345678, holdAddr := some 0xF00010, hold := 7 }) }

/-- Every form of `Obligations.PowerDomains` has a state and operands that meet its hypotheses together. -/
theorem witness_PowerDomains :
    (∃ (s : State) (d : Domain), s.mayOff d = true) ∧
    (∃ (s : State) (d : Domain), s.mayOff d = false) ∧
    (∃ (s : State) (d : Domain), s.isOff d = true ∧ s.domainHere d = true) ∧
    (∃ (s : State) (d : Domain), (s.isOff d = false ∨ s.domainHere d = false)) :=
  ⟨⟨s0, Domain.clb, by decide +kernel⟩,
    ⟨s0, Domain.twn, by decide +kernel⟩,
    ⟨s1, Domain.clb, by decide +kernel⟩,
    ⟨s0, Domain.clb, by decide +kernel⟩⟩

/-- Every form of `Obligations.RegisterWrites` has a state and operands that meet its hypotheses together. -/
theorem witness_RegisterWrites :
    (∃ (a : Nat) (r : RegFam) (f : Fld) (j : Nat), regAt a = some r ∧ f ∈ r.flds ∧ f.lo ≤ j ∧ j < f.lo + f.len ∧ f.acc = .wo) ∧
    (∃ (a : Nat) (r : RegFam) (f : Fld) (j : Nat), regAt a = some r ∧ f ∈ r.flds ∧ f.lo ≤ j ∧ j < f.lo + f.len) ∧
    (∃ (s : State) (p : Port), s.portLive p = false) ∧
    (∃ (s : State) (p : Port), s.portLive p = true ∧ s.get THM_CTL.lock = 1) ∧
    (∃ (s : State) (p : Port), s.portLive p = true ∧ s.get THM_CTL.lock = 0) ∧
    (∃ (s : State) (p : Port) (a : BitVec 26) (n : Fin 9), s.portLive p = true ∧ ((n.val ≠ 4 ∧ n.val ≠ 8) ∨ (n.val = 4 ∧ a.toNat % 4 ≠ 0)
      ∨ (n.val = 8 ∧ a.toNat % 8 ≠ 0)) ∧ (a.toNat < 0x2000000 ∨ n.val < 4)) ∧
    (∃ (s : State) (p : Port) (a : BitVec 26) (u : Fin 6), s.portLive p = true ∧ 0x400000 + 0x100000 * u.val ≤ a.toNat ∧ a.toNat <
      0x500000 + 0x100000 * u.val ∧ a.toNat % 4 = 0 ∧ s.isOff (.tile u) = true) ∧
    (∃ (s : State) (p : Port) (v : Word64), s.portLive p = true ∧ v.toNat / 8 % 2 = 1) ∧
    (∃ (s : State) (p : Port) (a : BitVec 25), s.portLive p = true ∧ a.toNat % 4 = 0 ∧ a.toNat + 4 < 0x2000000 ∧ isReg64 a.toNat = true ∧
      isReg64 (a.toNat + 4) = false ∧ s.isoAt (a.toNat + 4) = false) ∧
    (∃ (s : State) (p : Port), s.portLive p = true ∧ s.get THM_CTL.lock = 0 ∧ (s.port p).stageAddr = some 0xF00010) ∧
    (∃ (s : State) (p : Port), s.portLive p = true ∧ s.get THM_CTL.lock = 0 ∧ (s.port p).stageAddr ≠ some 0xF00010) :=
  ⟨⟨0x204, ⟨0x204, 32, [], 0x0, [⟨0, 4, .wo⟩, ⟨4, 1, .wo⟩, ⟨8, 4, .ro⟩, ⟨12, 1, .w1c⟩]⟩, ⟨0, 4, .wo⟩, 3, by decide +kernel⟩,
    ⟨0x204, ⟨0x204, 32, [], 0x0, [⟨0, 4, .wo⟩, ⟨4, 1, .wo⟩, ⟨8, 4, .ro⟩, ⟨12, 1, .w1c⟩]⟩, ⟨12, 1, .w1c⟩, 12, by decide +kernel⟩,
    ⟨s1, Port.clusterB, by decide +kernel⟩,
    ⟨s2, Port.pcie, by decide +kernel⟩,
    ⟨s0, Port.pcie, by decide +kernel⟩,
    ⟨s0, Port.pcie, 0x0#26, 0, by decide +kernel⟩,
    ⟨s3, Port.pcie, 0x400000#26, 0, by decide +kernel⟩,
    ⟨s0, Port.pcie, 0xffffffffffffffff#64, by decide +kernel⟩,
    ⟨s0, Port.pcie, 0x8#25, by decide +kernel⟩,
    ⟨s4, Port.pcie, by decide +kernel⟩,
    ⟨s0, Port.pcie, by decide +kernel⟩⟩

/-- Every form of `Obligations.RegisterReads` has a state and operands that meet its hypotheses together. -/
theorem witness_RegisterReads :
    (∃ (s : State) (p : Port) (a : BitVec 26) (n : Fin 9), s.portLive p = true ∧ ((n.val ≠ 4 ∧ n.val ≠ 8) ∨ (n.val = 4 ∧ a.toNat % 4 ≠ 0)
      ∨ (n.val = 8 ∧ a.toNat % 8 ≠ 0))) ∧
    (∃ (s : State) (p : Port) (a : BitVec 25), s.portLive p = true ∧ a.toNat % 4 = 0 ∧ a.toNat ≠ DPORT_DATA.addr ∧ isReg64 a.toNat = true
      ∧ s.isoAt a.toNat = false ∧ ixOf (TIME_TIN_STAMP.addr 0) 8 4 a.toNat = none ∧ rcBits a.toNat = 0) ∧
    (∃ (s : State) (p : Port) (a : BitVec 26), s.portLive p = true ∧ 4 ≤ a.toNat ∧ a.toNat < 0x2000000 ∧ a.toNat % 4 = 0 ∧ isReg64
      a.toNat = false ∧ isReg64 (a.toNat - 4) = true ∧ s.isoAt a.toNat = false ∧ (s.port p).holdAddr = some (a.toNat - 4)) :=
  ⟨⟨s0, Port.pcie, 0x0#26, 0, by decide +kernel⟩,
    ⟨s0, Port.pcie, 0x8#25, by decide +kernel⟩,
    ⟨s4, Port.pcie, 0xf00014#26, by decide +kernel⟩⟩

end W02

namespace W03

abbrev P := stP
def zt : List Host.Cell := memStore [] 0 ((List.range 300).map (fun i => BitVec.ofNat 8 (i + 1)))
def base : State := { P rs [(HUB_MODE_STAT.mode, 6), (RING_LINK_STAT.cxl_mem_en, 1), (DPORT_ADDR.address, 0x300000000 / 8)] with ztStage := zt }
def mact (s : State) : State := P s [(MEM_STAT.mem_active, 1), (MEM_EXTENT.extent, 0x10000)]
def s0 : State := rs
def s1 : State := base
def s2 : State := P base [(HUB_TAG_POOL.ceiling 7, 0), (HUB_TAG_POOL.floor 7, 0)]
def s4 : State := P base [(DPORT_ADDR.address, 0x2FFFFFFF8 / 8)]
def s5 : State := { mact base with devMem := zt, boot := { base.boot with porstLow := true } }

/-- Every form of `Obligations.DataPort` has a state and operands that meet its hypotheses together. -/
theorem witness_DataPort :
    (∃ (s : State) (p : Port), s.portLive p = true ∧ s.mode ≠ 0 ∧ s.tagFree 7 = false) ∧
    (∃ (s : State) (p : Port) (o : Nat), s.portLive p = true ∧ s.mode ≠ 0 ∧ s.dportAddr = 0x300000000 + o ∧ o < 0x100000 ∧ s.hub.injected
      = [] ∧ s.tagFree 7 = true) ∧
    (∃ (s : State) (p : Port) (o : Nat), s.portLive p = true ∧ s.mode ≠ 0 ∧ s.dportAddr = 0x300000000 + o ∧ o < 0x100000 ∧ s.tagFree 7 =
      true) ∧
    (∃ (s : State) (p : Port), s.portLive p = true ∧ s.mode ≠ 0 ∧ s.regionAt s.dportAddr = none) ∧
    (∃ (s : State) (k : Fin 512) (data : List Byte) (o : Nat), data.length = 8 ∧ s.mode ≠ 0 ∧ s.dportAddr = 0x300000000 + o ∧ o + 8 *
      k.val < 0x100000 ∧ s.tagFree 7 = true ∧ wholeWords (markBytes s.host.aperture (8 * k.val) 8) ≠ 1024) ∧
    (∃ (s : State) (k : Fin 4096) (n : Fin 4097) (o : Nat), s.mode ≠ 0 ∧ s.dportAddr = 0x300000000 + o ∧ k.val + n.val ≤ 4096 ∧ o + 4096
      ≤ 0x100000 ∧ s.hub.injected = [] ∧ s.tagFree 7 = true) :=
  ⟨⟨s2, Port.pcie, by decide +kernel⟩,
    ⟨s1, Port.pcie, 0, by decide +kernel⟩,
    ⟨s1, Port.pcie, 0, by decide +kernel⟩,
    ⟨s4, Port.pcie, by decide +kernel⟩,
    ⟨s1, 0, List.replicate 8 0x5#8, 0, by decide +kernel⟩,
    ⟨s1, 0, 0, 0, by decide +kernel⟩⟩

/-- Every form of `Obligations.SidebandAndCxlMem` has a state and operands that meet its hypotheses together. -/
theorem witness_SidebandAndCxlMem :
    (∃ (s : State), s.boot.porstLow = false) ∧
    (∃ (s : State) (x : SbXfer), s.boot.porstLow = false ∧ s.sbCalled x = true ∧ x.ok = true) ∧
    (∃ (s : State) (x : SbXfer), s.boot.porstLow = false ∧ s.sbCalled x = false) ∧
    (∃ (s : State) (a : Word32) (x : SbXfer), s.boot.porstLow = false ∧ s.sbCalled x = true ∧ (x.ok && sbValid a.toNat) = false) ∧
    (∃ (s : State) (d : Word64), s.get RING_LINK_STAT.cxl_mem_en = 1 ∧ s.memHas (d.toNat / 64 * 64) 64 = true ∧ s.hub.injected = []) ∧
    (∃ (s : State), s.get RING_LINK_STAT.cxl_mem_en = 1 ∧ s.get MEM_STAT.mem_active = 0) ∧
    (∃ (s : State) (d : Word64) (data : List Byte), data.length = 64 ∧ d.toNat % 64 = 0 ∧ s.get RING_LINK_STAT.cxl_mem_en = 1 ∧ s.memHas
      d.toNat 64 = true) ∧
    (∃ (w : Fin 16) (v : Fin 16), linkShape w v = true) :=
  ⟨⟨s0, by decide +kernel⟩,
    ⟨{ s0 with host := { s0.host with sbAddr := some 8 } }, { i3c := true, target := 0x8#7, ok := true }, by decide +kernel⟩,
    ⟨s0, { i3c := true, target := 0x8#7, ok := true }, by decide +kernel⟩,
    ⟨{ s0 with host := { s0.host with sbAddr := some 8 } }, 0x123#32, { i3c := true, target := 0x8#7, ok := true }, by decide +kernel⟩,
    ⟨s5, 0x0#64, by decide +kernel⟩,
    ⟨s1, by decide +kernel⟩,
    ⟨s5, 0x0#64, List.replicate 64 0x9#8, by decide +kernel⟩,
    ⟨1, 1, by decide +kernel⟩⟩

end W03

namespace W04

abbrev P := stP
def mkD (op len src dst x : Nat) (inst : Nat := 5) (st : DescSt := .fetched) : Desc := ⟨op + len * 2 ^ 32 + src * 2 ^ 64 + dst * 2 ^ 128 + x * 2 ^ 192, inst, st, false⟩
def sqd (s : State) (n : Nat) (l : List Desc) : State := { s with host := { s.host with sq := tabSet (fun _ => SqSt.init) s.host.sq n { SqSt.init with descs := l } } }
def H (s : State) (f : HubSt → HubSt) : State := { s with hub := f s.hub }
def base : State := P rs [(HUB_MODE_STAT.mode, 6), (TIME_NOW.time, 2 ^ 40), (RING_SQ_CFG.enable 0, 1), (HUB_TAG_TIMEOUT.timeout_us, 888)]
def hm (s : State) : State := { s with hostMem := memStore [] 0x1000 ((List.range 300).map (fun i => BitVec.ofNat 8 (i + 1))) }
def s0 : State := rs
def s1 : State := hm (sqd base 0 [mkD 1 100 0x1000 0x2000 0 9 (.moving 40)])
def s2 : State := hm (sqd base 0 [mkD 1 100 0x1000 0x2000 0, mkD 1 100 0x1000 0x2000 0 9 (.moving 40)])
def s3 : State := sqd base 0 [{ mkD 5 0 0 0 (2 ^ 40) with st := .waiting (2 ^ 40) }, { mkD 5 0 0 0 0 5 with st := .waiting (2 ^ 40 - 1), inst := 6 }]
def s4 : State := hm (sqd base 0 [mkD 0 0 0 0 0])
def s6 : State := hm (sqd base 0 [mkD (0 + 2 ^ 11) 0 0 0 0])
def s7 : State := hm (sqd base 0 [mkD 5 0 0 0 (2 ^ 40)])
def s9 : State := hm (sqd base 0 [mkD 6 0 0 0 6])
def s11 : State := hm (sqd base 0 [mkD 6 0 0 0 0])
def s14 : State := hm (sqd base 0 [mkD 7 0 0 0 0])
def s19 : State := hm (sqd base 0 [mkD 2 64 0 0x3000 0x1122334455667788])
def s21 : State := hm (sqd base 0 [mkD 3 1 (0x460 + 77 * 2 ^ 32) 0 0])
def s23 : State := hm (sqd base 0 [mkD 4 4 0x460 0x1002 0])
def s28 : State := H (sqd base 0 [mkD 0 0 0 0 0]) (fun h => { h with injected := [(1, descBuf 5, 3)] })
def s29 : State := P (sqd base 0 [mkD 0 0 0 0 0]) [(RING_SQ_STAT.in_flight 0, 100)]
def s30 : State := P (sqd base 0 [mkD 0 0 0 0 0]) [(HUB_TAG_POOL.ceiling 0, 0), (HUB_TAG_POOL.floor 0, 0)]

/-- Every form of `Obligations.PlainDescriptors` has a state and operands that meet its hypotheses together. -/
theorem witness_PlainDescriptors :
    (∃ (s : State) (n : Nat) (inst : Nat) (status : Nat) (result : Nat) (t : State) (d : _) (m : _), s.descEnd n inst status result = t ∧
      s.descOf n inst = some d ∧ d.result? = none ∧ m ≠ n) ∧
    (∃ (s : State) (n : Nat) (inst : Nat) (status : Nat) (result : Nat) (t : State), s.descEnd n inst status result = t ∧ (∀ d, s.descOf
      n inst = some d → d.result?.isSome = true)) ∧
    (∃ (s : State) (n : Fin 128) (d : Desc), s.startable n (fun x => x == d.opcode) = some d ∧ s.hub.injected = []) ∧
    (∃ (s : State) (n : Fin 128) (d : Desc), s.Starts n 0 d) ∧
    (∃ (s : State) (n : Fin 128) (d : Desc), s.Meets n 0 d ∧ s.hubBad (descBuf d.inst) 64 = true) ∧
    (∃ (s : State) (n : Fin 128) (d : Desc), s.Meets n 0 d ∧ s.hub.injected = [] ∧ d.plain = false) ∧
    (∃ (s : State) (n : Fin 128) (d : Desc), s.Meets n 0 d ∧ s.hub.injected = [] ∧ d.plain = true ∧ s.sqBelow n = false) ∧
    (∃ (s : State) (n : Fin 128) (d : Desc), s.Meets n 0 d ∧ s.hub.injected = [] ∧ d.plain = true ∧ s.sqBelow n = true ∧ s.tagFree 0 =
      false) ∧
    (∃ (s : State) (n : Fin 128) (d : Desc), s.Starts n 5 d ∧ d.len = 0 ∧ d.src = 0 ∧ d.dst = 0) ∧
    (∃ (s : State) (n : Fin 128) (w : _), (s.sq n).descs.find? (fun d => match d.st with | .waiting t => modGe 64 s.now t | _ => false) =
      some w) ∧
    (∃ (s : State) (n : Fin 128) (d : Desc), s.Starts n 6 d ∧ d.len = 0 ∧ d.src = 0 ∧ d.dst = 0 ∧ d.byte 24 1 = s.mode ∧ s.get
      HUB_MODE_STAT.req_busy = 0 ∧ modeBarred s.mode = false) ∧
    (∃ (s : State) (n : Fin 128) (d : Desc), s.Starts n 6 d ∧ d.len = 0 ∧ d.src = 0 ∧ d.dst = 0 ∧ d.byte 24 1 ≤ 11 ∧ modeBarred (d.byte
      24 1) = true) ∧
    (∃ (s : State) (n : Fin 128) (d : Desc), s.startable n (fun x => decide (7 ≤ x)) = some d ∧ s.hub.injected = []) ∧
    (∃ (s : State) (n : Fin 128) (d : Desc), s.moverFree = true ∧ s.Starts n 1 d ∧ d.len ≠ 0 ∧ d.len ≤ 16777216 ∧ d.byte 24 1 = 0 ∧
      d.byte 25 1 = 0 ∧ d.byte 26 30 = 0 ∧ (d.src + d.len ≤ d.dst ∨ d.dst + d.len ≤ d.src)) ∧
    (∃ (s : State) (n : Fin 128) (d : Desc), s.moverFree = true ∧ s.Starts n 2 d ∧ d.len ≠ 0 ∧ d.len ≤ 16777216 ∧ d.byte 32 1 = 0 ∧
      d.byte 33 23 = 0 ∧ d.src = 0 ∧ d.len % 8 = 0 ∧ d.dst % 8 = 0) ∧
    (∃ (s : State) (n : Fin 128) (d : Desc), s.Starts n 3 d ∧ d.len = 1 ∧ d.byte 8 4 = 0x460) ∧
    (∃ (s : State) (n : Fin 128) (d : Desc), s.Starts n 4 d ∧ d.len = 4 ∧ d.src = 0x460 ∧ d.byte 24 32 = 0) :=
  ⟨⟨s2, 0, 5, 0, 0, _, { words := 2787593149816327892767522647807389008396289, inst := 5, st := DescSt.fetched, started := false }, 5,
      rfl, by decide +kernel⟩,
    ⟨s0, 0, 0, 0, 0, _, rfl, by decide +kernel⟩,
    ⟨s2, 0, { words := 2787593149816327892767522647807389008396289, inst := 5, st := DescSt.fetched, started := false },
      by decide +kernel⟩,
    ⟨s4, 0, { words := 0, inst := 5, st := DescSt.fetched, started := false }, by unfold State.Starts State.Meets; decide +kernel⟩,
    ⟨s28, 0, { words := 0, inst := 5, st := DescSt.fetched, started := false }, by unfold State.Meets; decide +kernel⟩,
    ⟨s6, 0, { words := 2048, inst := 5, st := DescSt.fetched, started := false }, by unfold State.Meets; decide +kernel⟩,
    ⟨s29, 0, { words := 0, inst := 5, st := DescSt.fetched, started := false }, by unfold State.Meets; decide +kernel⟩,
    ⟨s30, 0, { words := 0, inst := 5, st := DescSt.fetched, started := false }, by unfold State.Meets; decide +kernel⟩,
    ⟨s7, 0,
      { words := 6901746346790563787434755862277025452451108972170386555162524223799301, inst := 5, st := DescSt.fetched, started := false },
      by unfold State.Starts State.Meets; decide +kernel⟩,
    ⟨s3, 0,
      { words := 6901746346790563787434755862277025452451108972170386555162524223799301, inst := 5, st := DescSt.waiting 1099511627776, started := false },
      by decide +kernel⟩,
    ⟨s9, 0, { words := 37662610412320084583014736539245998496614132666784207077382, inst := 5, st := DescSt.fetched, started := false },
      by unfold State.Starts State.Meets; decide +kernel⟩,
    ⟨s11, 0, { words := 6, inst := 5, st := DescSt.fetched, started := false }, by unfold State.Starts State.Meets; decide +kernel⟩,
    ⟨s14, 0, { words := 7, inst := 5, st := DescSt.fetched, started := false }, by decide +kernel⟩,
    ⟨s2, 0, { words := 2787593149816327892767522647807389008396289, inst := 5, st := DescSt.fetched, started := false },
      by unfold State.Starts State.Meets; decide +kernel⟩,
    ⟨s19, 0,
      { words := 7749745057451750591901162503993804279865579249647180816438714267080918564866, inst := 5, st := DescSt.fetched, started := false },
      by unfold State.Starts State.Meets; decide +kernel⟩,
    ⟨s21, 0, { words := 6100568534258707357261876953091, inst := 5, st := DescSt.fetched, started := false },
      by unfold State.Starts State.Meets; decide +kernel⟩,
    ⟨s23, 0, { words := 1394477139642005823293569494617958008225796, inst := 5, st := DescSt.fetched, started := false },
      by unfold State.Starts State.Meets; decide +kernel⟩⟩

/-- Every form of `Obligations.CopyFill` has a state and operands that meet its hypotheses together. -/
theorem witness_CopyFill :
    (∃ (s : State) (n : Fin 128) (d : Desc), d.len ≠ 0 ∧ d.len ≤ 16777216 ∧ s.moverFree = true ∧ s.Starts n 1 d ∧ d.byte 24 1 = 0 ∧
      d.byte 25 1 = 0 ∧ d.byte 26 30 = 0 ∧ (d.src + d.len ≤ d.dst ∨ d.dst + d.len ≤ d.src)) ∧
    (∃ (s : State) (n : Fin 128) (d : Desc), d.len ≠ 0 ∧ d.len ≤ 16777216 ∧ s.moverFree = true ∧ s.Starts n 2 d ∧ d.byte 32 1 = 0 ∧
      d.byte 33 23 = 0 ∧ d.src = 0 ∧ d.len % 8 = 0 ∧ d.dst % 8 = 0) ∧
    (∃ (s : State) (n : Fin 128) (d : Desc) (k : Nat), d.len ≠ 0 ∧ d.len ≤ 16777216 ∧ s.movingDesc n 1 k = some d ∧ s.get
      (RING_SQ_STAT.flushing n) = 0 ∧ d.byte 24 1 = 0 ∧ d.byte 25 1 = 0 ∧ d.byte 26 30 = 0 ∧ (d.src + d.len ≤ d.dst ∨ d.dst + d.len ≤
      d.src) ∧ d.moved < d.len) :=
  ⟨⟨s2, 0, { words := 2787593149816327892767522647807389008396289, inst := 5, st := DescSt.fetched, started := false },
      by unfold State.Starts State.Meets; decide +kernel⟩,
    ⟨s19, 0,
      { words := 7749745057451750591901162503993804279865579249647180816438714267080918564866, inst := 5, st := DescSt.fetched, started := false },
      by unfold State.Starts State.Meets; decide +kernel⟩,
    ⟨s1, 0, { words := 2787593149816327892767522647807389008396289, inst := 9, st := DescSt.moving 40, started := false }, 0,
      by decide +kernel⟩⟩

/-- Every form of `Obligations.RegisterDescriptors` has a state and operands that meet its hypotheses together. -/
theorem witness_RegisterDescriptors :
    (∃ (s : State) (n : Fin 128) (d : Desc), s.Starts n 3 d ∧ d.len = 1 ∧ d.byte 8 4 = 0x460) ∧
    (∃ (s : State) (n : Fin 128) (d : Desc), s.Starts n 4 d ∧ d.len = 4 ∧ d.src = 0x460 ∧ d.byte 24 32 = 0) :=
  ⟨⟨s21, 0, { words := 6100568534258707357261876953091, inst := 5, st := DescSt.fetched, started := false },
      by unfold State.Starts State.Meets; decide +kernel⟩,
    ⟨s23, 0, { words := 1394477139642005823293569494617958008225796, inst := 5, st := DescSt.fetched, started := false },
      by unfold State.Starts State.Meets; decide +kernel⟩⟩

end W04

namespace W05

abbrev P := stP
def H (s : State) (f : HubSt → HubSt) : State := { s with hub := f s.hub }
def lks (s : State) (f : JexLink → JexLink) : State := H s (fun h => { h with links := h.links.map f })
def base : State := P rs [(MEM_STAT.mem_active, 1), (MEM_EXTENT.extent, 0x10000), (HUB_TAG_STAT.in_use 1, 3)]
def s0 : State := rs
def s1 : State := lks base (fun x => { x with failed := 4, rx := [⟨0, 1, 0, .devMem, 2, ⟨3, 0x100, 7⟩, [], false, false⟩] })
def s2 : State := H (lks base (fun x => { x with failed := 4 })) (fun h => { h with isolated := [.tile 0] })
def s3 : State := lks base (fun x => { x with failed := 4 })

/-- Every form of `Obligations.JexRequestsAndResponses` has a state and operands that meet its hypotheses together. -/
theorem witness_JexRequestsAndResponses :
    (∃ (s : State) (l : Fin 22) (b : Nat) (x : JexLink) (y : JexLink) (c : Nat) (d : Nat) (hdr : JexHdr) (w : Fin 16),
      s.hub.links[l.val]? = some x ∧ s.linkOpen l.val = true ∧ x.next = .asUsual ∧ x.rx.all (fun m => m.served) = true ∧ x.credits[0]? =
      some c ∧ backLink l.val = some b ∧ s.hub.links[b]? = some y ∧ y.down = false ∧ y.credits[1]? = some d ∧ 1 ≤ c ∧ 1 + w.val ≤ d ∧
      s.hub.injected = [] ∧ s.memHas hdr.addr.toNat (32 * w.val) = true) ∧
    (∃ (s : State) (l : Fin 22) (b : Nat) (x : JexLink) (y : JexLink) (c : Nat) (d : Nat) (hdr : JexHdr) (data : List Flit),
      s.hub.links[l.val]? = some x ∧ s.linkOpen l.val = true ∧ x.next = .asUsual ∧ x.rx.all (fun m => m.served) = true ∧ x.credits[0]? =
      some c ∧ backLink l.val = some b ∧ s.hub.links[b]? = some y ∧ y.down = false ∧ y.credits[1]? = some d ∧ data ≠ [] ∧ 1 + data.length
      ≤ c ∧ 1 ≤ d ∧ hdr.addr.toNat % 32 = 0 ∧ s.memHas hdr.addr.toNat (32 * data.length) = true) ∧
    (∃ (s : State) (l : Fin 22) (x : JexLink) (c : Nat) (data : List Flit), s.hub.links[l.val]? = some x ∧ s.linkOpen l.val = true ∧
      x.next ≠ .anyOff ∧ x.rx.all (fun m => m.served) = true ∧ x.credits[1]? = some c ∧ 1 + data.length ≤ c) ∧
    (∃ (s : State) (l : Fin 22) (x : JexLink) (c : Nat), s.hub.links[l.val]? = some x ∧ s.linkOpen l.val = true ∧ x.next ≠ .anyOff ∧
      x.rx.all (fun m => m.served) = true ∧ x.credits[1]? = some c ∧ 1 ≤ c) :=
  ⟨⟨s3, 0, 12,
      { down := false, failed := 4, replay := false, accepted := 0, credits := [16, 16, 64, 8], rx := [], next := Replayed.asUsual, sent := [] },
      { down := false, failed := 4, replay := false, accepted := 0, credits := [16, 16, 64, 8], rx := [], next := Replayed.asUsual, sent := [] },
      16, 16, { tag := 0x3#12, addr := 0x100#64, port := 0x7#16 }, 0, by decide +kernel⟩,
    ⟨s3, 0, 12,
      { down := false, failed := 4, replay := false, accepted := 0, credits := [16, 16, 64, 8], rx := [], next := Replayed.asUsual, sent := [] },
      { down := false, failed := 4, replay := false, accepted := 0, credits := [16, 16, 64, 8], rx := [], next := Replayed.asUsual, sent := [] },
      16, 16, { tag := 0x3#12, addr := 0x100#64, port := 0x7#16 }, [0x5#256], by decide +kernel⟩,
    ⟨s0, 0,
      { down := false, failed := 0, replay := false, accepted := 0, credits := [16, 16, 64, 8], rx := [], next := Replayed.asUsual, sent := [] },
      16, [], by decide +kernel⟩,
    ⟨s0, 0,
      { down := false, failed := 0, replay := false, accepted := 0, credits := [16, 16, 64, 8], rx := [], next := Replayed.asUsual, sent := [] },
      16, by decide +kernel⟩⟩

/-- Every form of `Obligations.JexMessagesAndFlits` has a state and operands that meet its hypotheses together. -/
theorem witness_JexMessagesAndFlits :
    (∃ (s : State) (l : Fin 22) (x : JexLink), s.hub.links[l.val]? = some x ∧ s.linkOpen l.val = false) ∧
    (∃ (s : State) (l : Fin 22) (x : JexLink) (data : List Flit) (c : Nat), s.hub.links[l.val]? = some x ∧ s.linkOpen l.val = true ∧
      x.next ≠ .anyOff ∧ x.rx.all (fun m => m.served) = true ∧ x.credits[2]? = some c ∧ 1 + data.length ≤ c) ∧
    (∃ (s : State) (l : Fin 22) (x : JexLink) (data : List Flit) (c : Nat), s.hub.links[l.val]? = some x ∧ s.linkOpen l.val = true ∧
      x.next ≠ .anyOff ∧ x.rx.all (fun m => m.served) = true ∧ x.credits[3]? = some c ∧ 1 + data.length ≤ c) ∧
    (∃ (s : State) (l : Fin 22) (x : JexLink) (vc : Fin 4) (c : Nat), s.hub.links[l.val]? = some x ∧ x.credits[vc.val]? = some c ∧ (∀ k,
      k < 22 → backLink k = some l.val → (s.link k).rx.all (fun m => m.served) = true)) ∧
    (∃ (s : State) (l : Fin 22) (x : JexLink) (h : Option (Option Flit)), s.hub.links[l.val]? = some x ∧ x.down = false ∧ s.linkOff l.val
      = false ∧ (h = none ∨ h = some none)) ∧
    (∃ (s : State) (l : Fin 22) (x : JexLink) (f : Flit) (b : Nat), s.hub.links[l.val]? = some x ∧ x.down = false ∧ s.linkOff l.val =
      false ∧ hdrType f ≤ 1 ∧ x.failed = 0 ∧ x.rx.all (fun m => m.served) = true ∧ backLink l.val = some b ∧ s.jexRoom l 0 = true) ∧
    (∃ (s : State) (l : Fin 22) (x : JexLink), s.hub.links[l.val]? = some x ∧ x.down = false ∧ s.linkOff l.val = false ∧ x.failed < 4) ∧
    (∃ (s : State) (l : Fin 22) (x : JexLink) (u : Fin 6) (m : JexMsg) (b : Nat), s.hub.links[l.val]? = some x ∧ x.down = false ∧
      s.linkOff l.val = false ∧ linkTile l.val = some u ∧ 4 ≤ x.failed ∧ x.rx = [m] ∧ m.served = false ∧ m.msgType ≤ 1 ∧ s.hub.ops = [] ∧
      backLink l.val = some b ∧ s.jexRoom l 0 = true) ∧
    (∃ (s : State) (l : Fin 22) (x : JexLink) (u : Fin 6), s.hub.links[l.val]? = some x ∧ x.down = false ∧ s.linkOff l.val = false ∧
      linkTile l.val = some u ∧ 4 ≤ x.failed ∧ x.rx.all (fun m => m.served) = true) :=
  ⟨⟨s2, 0,
      { down := false, failed := 4, replay := false, accepted := 0, credits := [16, 16, 64, 8], rx := [], next := Replayed.asUsual, sent := [] },
      by decide +kernel⟩,
    ⟨s0, 0,
      { down := false, failed := 0, replay := false, accepted := 0, credits := [16, 16, 64, 8], rx := [], next := Replayed.asUsual, sent := [] },
      [], 64, by decide +kernel⟩,
    ⟨s0, 0,
      { down := false, failed := 0, replay := false, accepted := 0, credits := [16, 16, 64, 8], rx := [], next := Replayed.asUsual, sent := [] },
      [], 8, by decide +kernel⟩,
    ⟨s0, 0,
      { down := false, failed := 0, replay := false, accepted := 0, credits := [16, 16, 64, 8], rx := [], next := Replayed.asUsual, sent := [] },
      0, 16, by decide +kernel⟩,
    ⟨s0, 0,
      { down := false, failed := 0, replay := false, accepted := 0, credits := [16, 16, 64, 8], rx := [], next := Replayed.asUsual, sent := [] },
      none, by decide +kernel⟩,
    ⟨s0, 0,
      { down := false, failed := 0, replay := false, accepted := 0, credits := [16, 16, 64, 8], rx := [], next := Replayed.asUsual, sent := [] },
      0x0#256, 12, by decide +kernel⟩,
    ⟨s0, 0,
      { down := false, failed := 0, replay := false, accepted := 0, credits := [16, 16, 64, 8], rx := [], next := Replayed.asUsual, sent := [] },
      by decide +kernel⟩,
    ⟨s1, 0,
      { down := false, failed := 4, replay := false, accepted := 0, credits := [16, 16, 64, 8], rx := [{ vc := 0, flits := 1, msgType := 0, space := JexSpace.devMem, words := 2, hdr := { tag := 0x3#12, addr := 0x100#64, port := 0x7#16 }, data := [], served := false, refused := false }], next := Replayed.asUsual, sent := [] },
      0,
      { vc := 0, flits := 1, msgType := 0, space := JexSpace.devMem, words := 2, hdr := { tag := 0x3#12, addr := 0x100#64, port := 0x7#16 }, data := [], served := false, refused := false },
      12, by decide +kernel⟩,
    ⟨s3, 0,
      { down := false, failed := 4, replay := false, accepted := 0, credits := [16, 16, 64, 8], rx := [], next := Replayed.asUsual, sent := [] },
      0, by decide +kernel⟩⟩

end W05

namespace W06

abbrev P := stP
def mkD (op len src dst x : Nat) (inst : Nat := 5) (st : DescSt := .fetched) : Desc := ⟨op + len * 2 ^ 32 + src * 2 ^ 64 + dst * 2 ^ 128 + x * 2 ^ 192, inst, st, false⟩
def H (s : State) (f : HubSt → HubSt) : State := { s with hub := f s.hub }
def fl1 (s : State) (f : HostSt → HostSt) : State := { s with host := f s.host }
def dn (i : Nat) (x st r : Nat) : Desc := mkD x 0 0 0 0 i (.done st r)
def base : State := P { rs with hostMem := memStore [] 0 ((List.range 500).map (fun i => BitVec.ofNat 8 i)) } [(RING_CQ_MOD.tmo_us 3, 5), (RING_CQ_CFG.irq_en 3, 1), (RING_SQ_CFG.enable 3,1), (RING_CQ_CFG.enable 0,1), (RING_CQ_CFG.size_log2 0, 5),(RING_SQ_CFG.size_log2 3, 5), (RING_PR_CFG.enable 3, 1), (RING_PR_CFG.size_log2 3, 10), (RING_PR_CFG.irq_en 3, 1), (RING_PR_MOD.tmo_us 3, 4), (RING_PR_STAT.level 3, 77), (RING_PR_HEAD.index 3, 177), (RING_PR_TAIL.index 3, 100), (RING_PR_WB.address 3, 50), (RING_SQ_CFG.weight 3, 2), (RING_SQ_CFG.credit_m1 3, 9), (HUB_TAG_STAT.in_use 0, 2), (RING_SQ_STAT.in_flight 3, 2), (RING_CQ_STAT.phase 0, 1)]
def nq (s : State) : State := fl1 s (fun h => { h with cq := [(0, { CqSt.init with unnoticed := 2 }), (3, { CqSt.init with unnoticed := 2 })], pr := [(3, { PrSt.init with unnoticed := 4, headMoved := true, truncNext := true, flushGen := 65535 })] })
def sq3 (s : State) (q : SqSt) : State := fl1 s (fun h => { h with sq := [(3, q)], ends := (q.descs.filter (fun d => d.result?.isSome)).map (·.inst) })
def evs (s : State) (f : EvSt → EvSt) : State := { s with ev := f s.ev }
def er (i p : Nat) : EvRec := ⟨1000 + i, i, p, false, 1, i, 0, 0⟩
def s0 : State := rs
def s1 : State := nq base
def s2 : State := P (sq3 base { SqSt.init with tail := 3 }) [(RING_SQ_CFG.prio 3, 1)]
def s3 : State := P (sq3 base { SqSt.init with discarded := 3, tail := 7 }) [(RING_SQ_STAT.flushing 3, 1), (RING_SQ_CTL.flush 3, 1)]
def s4 : State := sq3 base { SqSt.init with descs := [mkD 0 0 0 0 0 4, dn 5 0 0 9, dn 6 0 2 0] }
def s5 : State := sq3 base { SqSt.init with descs := [dn 6 0 2 0] }
def s6 : State := sq3 base { SqSt.init with descs := [dn 6 512 0 7] }
def s14 : State := H (P (sq3 base { SqSt.init with descs := [dn 6 0 2 0] }) [(HUB_TAG_STAT.in_use 0, 2)]) (fun h => { h with ops := [⟨4, 6, 0, .host, 0⟩, ⟨9, 9, 0, .host, 0⟩] })
def s15 : State := P (sq3 base { SqSt.init with descs := [dn 6 512 0 7] }) [(RING_CQ_CFG.enable 0, 0)]
def s16 : State := evs base (fun e => { e with ring := [er 3 1, er 4 2, er 5 2] })
def s17 : State := evs base (fun e => { e with ring := (List.range 1022).map (fun i => er i 1), waiting := some (er 9 3) })

/-- Every form of `Obligations.HostLink` has a state and operands that meet its hypotheses together. -/
theorem witness_HostLink :
    (∃ (w : Fin 16) (v : Fin 16), linkShape w v = false) ∧
    (∃ (w : Fin 16) (v : Fin 16), linkShape w v = true) ∧
    (∃ (s : State) (p : Port) (h : List Byte) (len : Fin 33) (r : EvRec), s.portLive p = true ∧ s.ev.hold[portIx p]? = some h ∧ len ≠ 0 ∧
      evBest s.ev.ring = some r) ∧
    (∃ (s : State) (r : EvRec), s.ev.waiting = some r ∧ s.ev.ring.length < evCapacity { s.ev with waiting := none }) :=
  ⟨⟨0, 0, by decide +kernel⟩,
    ⟨1, 1, by decide +kernel⟩,
    ⟨s16, Port.pcie, List.replicate 32 0x0#8, 1,
      { time := 1004, src := 4, pri := 2, loss := false, count := 1, seq := 4, info0 := 0, info1 := 0 }, by decide +kernel⟩,
    ⟨s17, { time := 1009, src := 9, pri := 3, loss := false, count := 1, seq := 9, info0 := 0, info1 := 0 }, by decide +kernel⟩⟩

/-- Every form of `Obligations.RingDoorbells` has a state and operands that meet its hypotheses together. -/
theorem witness_RingDoorbells :
    (∃ (s : State) (n : Fin 128) (v : Word32), s.get (RING_CQ_CFG.enable n) = 0 ∧ v.toNat / 32 % 2 = 1 ∧ 4 ≤ v.toNat % 32 ∧ v.toNat % 32
      ≤ 16) ∧
    (∃ (s : State) (n : Fin 128) (v : Word32), s.get (RING_CQ_CFG.enable n) = 0 ∧ v.toNat / 32 % 2 = 1 ∧ (v.toNat % 32 < 4 ∨ 16 < v.toNat
      % 32)) ∧
    (∃ (s : State) (n : Fin 128) (v : Word32), s.get (RING_CQ_CFG.enable n) = 1 ∧ v.toNat / 32 % 2 = 0) ∧
    (∃ (s : State) (n : Fin 128) (v : Word32), s.get (RING_SQ_CFG.enable n) = 1 ∧ ringDist (s.sqSize n) v.toNat (s.sq n).tail ≤ s.sqSize
      n - 1 - s.sqLevel n) ∧
    (∃ (s : State) (n : Fin 128), s.get (RING_SQ_CFG.enable n) = 0) ∧
    (∃ (s : State) (n : Fin 128) (v : Word32), s.get (RING_CQ_CFG.enable n) = 1 ∧ ringDist (s.cqSize n) v.toNat (s.cq n).head ≤ s.cqLevel
      n) ∧
    (∃ (s : State) (n : Fin 128) (v : Word32), s.get (RING_SQ_CFG.enable n) = 1 ∧ s.sqSize n - 1 - s.sqLevel n < ringDist (s.sqSize n)
      v.toNat (s.sq n).tail) ∧
    (∃ (s : State) (n : Fin 128) (v : Word32), (s.get (RING_CQ_CFG.enable n) = 0 ∨ s.cqLevel n < ringDist (s.cqSize n) v.toNat (s.cq
      n).head)) ∧
    (∃ (s : State) (v : Word32) (k : Fin 32), (s.get (RING_PR_CFG.enable k) = 0 ∨ s.exportOf k ≠ none ∨ s.get (RING_PR_STAT.level k) <
      ringDist (s.prSize k) v.toNat (s.get (RING_PR_TAIL.index k)))) ∧
    (∃ (s : State) (v : Word32) (k : Fin 32), s.get (RING_PR_CFG.enable k) = 1 ∧ s.exportOf k = none ∧ ringDist (s.prSize k) v.toNat
      (s.get (RING_PR_TAIL.index k)) ≤ s.get (RING_PR_STAT.level k)) :=
  ⟨⟨s0, 0, 0x24#32, by decide +kernel⟩,
    ⟨s0, 0, 0x31#32, by decide +kernel⟩,
    ⟨s1, 0, 0x0#32, by decide +kernel⟩,
    ⟨s1, 3, 0x0#32, by decide +kernel⟩,
    ⟨s0, 0, by decide +kernel⟩,
    ⟨s1, 0, 0x0#32, by decide +kernel⟩,
    ⟨s2, 3, 0x0#32, by decide +kernel⟩,
    ⟨s0, 0, 0x0#32, by decide +kernel⟩,
    ⟨s0, 0x0#32, 0, by decide +kernel⟩,
    ⟨s1, 0x6e#32, 3, by decide +kernel⟩⟩

/-- Every form of `Obligations.DescriptorRings` has a state and operands that meet its hypotheses together. -/
theorem witness_DescriptorRings :
    (∃ (s : State), s.sqPick.1 = none) ∧
    (∃ (s : State) (n : Nat) (u : State), s.sqPick = (some n, u)) ∧
    (∃ (s : State) (n : Fin 128) (d : Desc) (status : Nat) (result : Nat) (o : _), s.nextComplete n = some d ∧ d.result? = some (status,
      result) ∧ s.hub.ops.find? (fun o => o.inst == d.inst) = some o ∧ o.cls = 0) ∧
    (∃ (s : State) (n : Fin 128) (d : Desc) (status : Nat) (result : Nat), s.nextComplete n = some d ∧ d.result? = some (status, result)
      ∧ d.silent = false) ∧
    (∃ (s : State) (n : Fin 128) (d : Desc) (status : Nat) (result : Nat), s.nextComplete n = some d ∧ d.result? = some (status, result)
      ∧ d.silent = true) ∧
    (∃ (s : State) (n : Fin 128) (d : Desc) (status : Nat) (result : Nat), s.nextComplete n = some d ∧ d.result? = some (status, result)
      ∧ status ≠ 0) ∧
    (∃ (s : State) (n : Fin 128), s.nextComplete n = none) ∧
    (∃ (s : State) (n : Fin 128) (d : Desc), s.cqRoom (s.sqCq n) = false ∧ s.nextComplete n = some d) :=
  ⟨⟨s0, by decide +kernel⟩,
    ⟨s2, 3, _, pair_of (by decide +kernel)⟩,
    ⟨s14, 3, { words := 0, inst := 6, st := DescSt.done 2 0, started := false }, 2, 0,
      { tag := 4, inst := 6, cls := 0, target := Target.host, port := 0 }, by decide +kernel⟩,
    ⟨s4, 3, { words := 0, inst := 5, st := DescSt.done 0 9, started := false }, 0, 9, by decide +kernel⟩,
    ⟨s6, 3, { words := 512, inst := 6, st := DescSt.done 0 7, started := false }, 0, 7, by decide +kernel⟩,
    ⟨s5, 3, { words := 0, inst := 6, st := DescSt.done 2 0, started := false }, 2, 0, by decide +kernel⟩,
    ⟨s0, 0, by decide +kernel⟩,
    ⟨s15, 3, { words := 512, inst := 6, st := DescSt.done 0 7, started := false }, by decide +kernel⟩⟩

/-- Every form of `Obligations.RingService` has a state and operands that meet its hypotheses together. -/
theorem witness_RingService :
    (∃ (s : State) (n : Fin 128), s.get (RING_CQ_MOD.tmo_us n) ≠ 0 ∧ (s.cq n).unnoticed ≠ 0 ∧ s.get (RING_CQ_CFG.irq_en n) = 1) ∧
    (∃ (s : State) (n : Fin 128), s.get (RING_SQ_CFG.enable n) = 1 ∧ s.get (RING_SQ_STAT.flushing n) = 0) ∧
    (∃ (s : State) (n : Fin 128), s.get (RING_SQ_STAT.flushing n) = 1 ∧ (s.sq n).descs = [] ∧ s.cqRoom (s.sqCq n) = true) ∧
    (∃ (s : State) (n : Fin 32), (s.pr n).headMoved = true ∧ s.get (RING_PR_WB.address n) ≠ 0) ∧
    (∃ (s : State) (n : Fin 32), s.get (RING_PR_CFG.irq_en n) = 1 ∧ s.get (RING_PR_MOD.tmo_us n) ≠ 0 ∧ (s.pr n).unnoticed ≠ 0) ∧
    (∃ (s : State) (n : Fin 32) (partly : Bool) (gone : Bool), s.get (RING_PR_CFG.enable n) = 1 ∧ (partly && s.echo.out.head?.any (fun p
      => p.1 == n.val)) = gone) ∧
    (∃ (s : State) (n : Fin 128) (v : Word32), s.get (RING_CQ_CFG.enable n) = 0 ∧ v.toNat / 32 % 2 = 1 ∧ 4 ≤ v.toNat % 32 ∧ v.toNat % 32
      ≤ 16) ∧
    (∃ (s : State) (n : Fin 128) (v : Word32), s.get (RING_SQ_CFG.enable n) = 1 ∧ ringDist (s.sqSize n) v.toNat (s.sq n).tail ≤ s.sqSize
      n - 1 - s.sqLevel n) ∧
    (∃ (s : State) (n : Fin 128) (v : Word32), s.get (RING_CQ_CFG.enable n) = 1 ∧ ringDist (s.cqSize n) v.toNat (s.cq n).head ≤ s.cqLevel
      n) ∧
    (∃ (s : State) (k : Fin 32) (v : Word32), s.get (RING_PR_CFG.enable k) = 1 ∧ s.exportOf k = none ∧ ringDist (s.prSize k) v.toNat
      (s.get (RING_PR_TAIL.index k)) ≤ s.get (RING_PR_STAT.level k)) ∧
    (∃ (s : State) (n : Nat) (u : State), s.sqPick = (some n, u)) ∧
    (∃ (s : State) (n : Fin 128) (d : Desc) (status : Nat) (result : Nat), s.nextComplete n = some d ∧ d.result? = some (status, result)) :=
  ⟨⟨s1, 3, by decide +kernel⟩,
    ⟨s1, 3, by decide +kernel⟩,
    ⟨s3, 3, by decide +kernel⟩,
    ⟨s1, 3, by decide +kernel⟩,
    ⟨s1, 3, by decide +kernel⟩,
    ⟨s1, 3, true, false, by decide +kernel⟩,
    ⟨s0, 0, 0x24#32, by decide +kernel⟩,
    ⟨s1, 3, 0x0#32, by decide +kernel⟩,
    ⟨s1, 0, 0x0#32, by decide +kernel⟩,
    ⟨s1, 3, 0x6e#32, by decide +kernel⟩,
    ⟨s2, 3, _, pair_of (by decide +kernel)⟩,
    ⟨s4, 3, { words := 0, inst := 5, st := DescSt.done 0 9, started := false }, 0, 9, by decide +kernel⟩⟩

/-- Every form of `Obligations.EventRing` has a state and operands that meet its hypotheses together. -/
theorem witness_EventRing :
    (∃ (s : State) (p : Port) (h : List Byte) (len : Fin 33) (r : EvRec), s.portLive p = true ∧ s.ev.hold[portIx p]? = some h ∧ len ≠ 0 ∧
      evBest s.ev.ring = some r) ∧
    (∃ (s : State) (p : Port) (h : List Byte) (len : Fin 33), s.portLive p = true ∧ s.ev.hold[portIx p]? = some h ∧ len ≠ 0 ∧ s.ev.ring =
      []) ∧
    (∃ (s : State) (p : Port) (h : List Byte) (off : Fin 32), s.portLive p = true ∧ s.ev.hold[portIx p]? = some h ∧ off ≠ 0) ∧
    (∃ (s : State) (p : Port) (h : List Byte) (r : EvRec), s.portLive p = true ∧ s.ev.hold[portIx p]? = some h ∧ s.ev.waiting = some r ∧
      s.ev.ring.length < evCapacity { s.ev with waiting := none }) ∧
    (∃ (s : State) (p : Port) (h : List Byte), s.portLive p = true ∧ s.ev.hold[portIx p]? = some h ∧ (s.ev.waiting = none ∨ evCapacity
      { s.ev with waiting := none } ≤ s.ev.ring.length)) :=
  ⟨⟨s16, Port.pcie, List.replicate 32 0x0#8, 1,
      { time := 1004, src := 4, pri := 2, loss := false, count := 1, seq := 4, info0 := 0, info1 := 0 }, by decide +kernel⟩,
    ⟨s0, Port.pcie, List.replicate 32 0x0#8, 1, by decide +kernel⟩,
    ⟨s0, Port.pcie, List.replicate 32 0x0#8, 3, by decide +kernel⟩,
    ⟨s17, Port.pcie, List.replicate 32 0x0#8,
      { time := 1009, src := 9, pri := 3, loss := false, count := 1, seq := 9, info0 := 0, info1 := 0 }, by decide +kernel⟩,
    ⟨s0, Port.pcie, List.replicate 32 0x0#8, by decide +kernel⟩⟩

end W06

namespace W07

abbrev P := stP
def md (m : Nat) : State := P rs [(HUB_MODE_STAT.mode, m), (TIME_STAT.rpll_locked, 1), (TWN_STAT.hb_valid, 1), (MEM_STAT.mem_active, 1)]
def bt : State := { md 1 with boot := { (md 1).boot with secVersion := some 0x123456789, calLoaded := true } }
def ho (st a : Nat) (nc : Bool := false) : State :=
  let s := P (md 8) [(HUB_HO_STAT.active, a), (HUB_HO_STAT.busy, 1), (HUB_HO_CTL.start, 1), (HUB_MODE_STAT.base_mode, 6)]
  { s with boot := { s.boot with hoStep := st, noCluster := nc, hoSec := some 77 } }
def sl (st k a : Nat) (bad : Bool := false) : State :=
  let s := P (md 7) [(HUB_SLICE_CTL.tile, k), (HUB_SLICE_CTL.action, a), (HUB_SLICE_STAT.busy, 1), (HUB_SLICE_CTL.start, 1), (HUB_MODE_STAT.base_mode, 5),
    (TILE_CH_EN.en k 3, 77)]
  { s with boot := { s.boot with sliceTile := some k, sliceAct := a, sliceStep := st, sliceSaved := if st = 3 then s.tileRegs k else [] }, cal := { s.cal with skewBad := if bad then [k] else [] },
           hub := { s.hub with isolated := if 2 ≤ st ∧ st ≤ 3 then [.tile (Fin.ofNat 6 k)] else [] } }
def fireSt : State := let s := md 6; { s with fire := { s.fire with engaged := true, cells := [{ wCellInfo with planned := 5 }] } }
def s0 : State := P (md 3) [(SAF_STAT.lockout, 0)]
def s1 : State := P (md 6) [(SAF_STAT.lockout, 0), (TWN_STAT.epoch_match, 1)]
def s2 : State := rs
def s3 : State := md 1
def rom0 (s : State) : State := { s with cal := { s.cal with rom := ⟨Vector.replicate 14 0, Vector.replicate 6 0, Vector.replicate 18 0⟩ } }
def s4 : State := rom0 (md 2)
def s10 : State := bt
def s11 : State := P bt [(TIME_STAT.rpll_locked, 0)]
def s13 : State := { md 3 with boot := bt.boot }
def s14 : State := P (md 1) [(HUB_BOOT_STAT.boot_err, 1)]
def s15 : State := { md 1 with boot := { (md 1).boot with tried := [0] } }
def s16 : State := P (md 6) [(HUB_MODE_STAT.req_busy, 1)]
def s17 : State := fireSt
def s18 : State := { md 6 with cal := { (md 6).cal with bistRun := some 15 } }
def s19 : State := ho 1 0
def s22 : State := ho 3 0
def s24 : State := ho 4 0
def s26 : State := sl 1 2 0
def s28 : State := rom0 (sl 2 0 0)
def s31 : State := sl 3 4 0
def s46 : State := P (ho 1 0) [(HUB_BOOT_IMG.address, 1), (MEM_STAT.mem_active, 1)]

/-- Every form of `Obligations.ModeRequests` has a state and operands that meet its hypotheses together. -/
theorem witness_ModeRequests :
    (∃ (s : State) (m : Fin 16), s.get HUB_MODE_STAT.req_busy = 0 ∧ s.boot.hoWait = false ∧ modeBarred m = false ∧ m.val ≠ s.mode ∧ m ≠ 3
      ∧ m ≠ 9 ∧ s.modeAllowed m = true) ∧
    (∃ (s : State), s.get HUB_MODE_STAT.req_busy = 0 ∧ s.boot.hoWait = false ∧ s.mode ≠ 9 ∧ s.modeAllowed 9 = true) ∧
    (∃ (s : State) (m : Fin 16), (s.get HUB_MODE_STAT.req_busy = 1 ∨ s.boot.hoWait = true ∨ modeBarred m = true ∨ (m.val ≠ s.mode ∧
      s.modeAllowed m = false))) ∧
    (∃ (s : State) (m : Fin 16), s.get HUB_MODE_STAT.req_busy = 0 ∧ s.boot.hoWait = false ∧ modeBarred m = false ∧ m.val = s.mode) ∧
    (∃ (s : State), s.get HUB_MODE_STAT.req_busy = 0 ∧ s.boot.hoWait = false ∧ s.mode ≠ 3 ∧ s.modeAllowed 3 = true ∧ ((s.fire.engaged =
      true ∧ s.cellOpen = true) ∨ s.fire.pending = true)) ∧
    (∃ (s : State), s.get HUB_MODE_STAT.req_busy = 0 ∧ s.boot.hoWait = false ∧ s.mode ≠ 3 ∧ s.modeAllowed 3 = true ∧ s.cellOpen = false ∧
      s.fire.pending = false) ∧
    (∃ (s : State), s.get HUB_MODE_STAT.req_busy = 1 ∧ (s.fire.phase = .off ∨ s.fire.phase = .stopping) ∧ s.fire.pending = false) :=
  ⟨⟨s0, 4, by decide +kernel⟩,
    ⟨s1, by decide +kernel⟩,
    ⟨s0, 0, by decide +kernel⟩,
    ⟨s0, 3, by decide +kernel⟩,
    ⟨s17, by decide +kernel⟩,
    ⟨s1, by decide +kernel⟩,
    ⟨s16, by decide +kernel⟩⟩

/-- Every form of `Obligations.BootSteps` has a state and operands that meet its hypotheses together. -/
theorem witness_BootSteps :
    (∃ (s : State) (a : BitVec 128), s.mode = 1 ∧ cfgValid (toLE 16 a.toNat) = true) ∧
    (∃ (s : State) (a : BitVec 128) (b : BitVec 128), s.mode = 1 ∧ cfgValid (toLE 16 a.toNat) = false ∧ cfgValid (toLE 16 b.toNat) =
      true) ∧
    (∃ (s : State) (a : BitVec 128) (b : BitVec 128), s.mode = 1 ∧ cfgValid (toLE 16 a.toNat) = false ∧ cfgValid (toLE 16 b.toNat) =
      false) ∧
    (∃ (s : State) (a : ImageFound) (b : ImageFound), s.mode = 1 ∧ s.get MEM_STAT.mem_active = 1 ∧ s.get HUB_BOOT_STAT.boot_err = 0 ∧
      s.boot.secVersion = none ∧ s.boot.tried = [] ∧ s.firstSlot a b = 0) ∧
    (∃ (s : State), s.mode = 1 ∧ s.get MEM_STAT.mem_active = 1 ∧ s.get HUB_BOOT_STAT.boot_err = 0 ∧ s.boot.secVersion = none ∧
      s.boot.tried = [0]) ∧
    (∃ (s : State), s.get HUB_BOOT_STAT.boot_err = 1) ∧
    (∃ (s : State) (v : Nat), s.mode = 3 ∧ s.boot.secVersion = some v) ∧
    (∃ (s : State), s.mode ≠ 3) ∧
    (∃ (s : State), s.mode = 1 ∧ s.boot.secVersion.isSome = true ∧ s.get MEM_STAT.mem_active = 1 ∧ s.boot.calLoaded = true ∧ s.get
      TIME_STAT.rpll_locked = 1) ∧
    (∃ (s : State) (v : Vector Word64 6) (b : HubBist), s.mode = 2 ∧ v = s.cal.rom.tile ∧ b.misr = s.cal.rom.hub ∧ b.keys = 0) :=
  ⟨⟨s2, 0x7baf2a4300000000000102074b424346#128, by decide +kernel⟩,
    ⟨s2, 0x0#128, 0x7baf2a4300000000000102074b424346#128, by decide +kernel⟩,
    ⟨s2, 0x0#128, 0x0#128, by decide +kernel⟩,
    ⟨s3,
      { headErr := false, dataErr := false, head := 0xac281dc9c379c2d00f89996595ee021ee31c22fcb4d7329da2eee691374b2c436b534a9b2baadf9b67223dd2d778e3df9e651a2cb5c0c3fc08487552dfdf621a1bf3aae781773cb94bb857268e8284f61acd442b8d6cc390382cfd12787c70ae8df4ef2542e795f881a5e928adc9009f7a648f9df8a5051f4a38e601e2c2d9051ada28c32a376b953f5fe03ec251b07ea48163af6cc3a69283065a2427d8921198a4cbaea5abf9a58232b51d5d905f9d8800722a89274344fb30f061cb09161274d7a82acfae1e4a35566fa1f709685864fc4eef4f7c735f51ff96429445c7abac2f4336fb2854c7b5d3fb3f3e9ae5c00000000000000000000000000000000000000000000000000000000000000000000000000000000000000000000000000000100000000003000000074c4d5047#4096, data := List.replicate 4096 0x0#8 },
      { headErr := false, dataErr := false, head := 0xac281dc9c379c2d00f89996595ee021ee31c22fcb4d7329da2eee691374b2c436b534a9b2baadf9b67223dd2d778e3df9e651a2cb5c0c3fc08487552dfdf621a1bf3aae781773cb94bb857268e8284f61acd442b8d6cc390382cfd12787c70ae8df4ef2542e795f881a5e928adc9009f7a648f9df8a5051f4a38e601e2c2d9051ada28c32a376b953f5fe03ec251b07ea48163af6cc3a69283065a2427d8921198a4cbaea5abf9a58232b51d5d905f9d8800722a89274344fb30f061cb09161274d7a82acfae1e4a35566fa1f709685864fc4eef4f7c735f51ff96429445c7abac2f4336fb2854c7b5d3fb3f3e9ae5c00000000000000000000000000000000000000000000000000000000000000000000000000000000000000000000000000000100000000003000000074c4d5047#4096, data := List.replicate 4096 0x0#8 },
      by decide +kernel⟩,
    ⟨s15, by decide +kernel⟩,
    ⟨s14, by decide +kernel⟩,
    ⟨s13, 4886718345, by decide +kernel⟩,
    ⟨s1, by decide +kernel⟩,
    ⟨s10, by decide +kernel⟩,
    ⟨s4, (Vector.replicate 6 0x0#64), { misr := (Vector.replicate 14 0x0#64), keys := 0x0#3 }, by decide +kernel⟩⟩

/-- Every form of `Obligations.BootEnds` has a state and operands that meet its hypotheses together. -/
theorem witness_BootEnds :
    (∃ (s : State), s.mode = 1 ∧ s.boot.secVersion.isSome = true ∧ s.get MEM_STAT.mem_active = 1 ∧ s.boot.calLoaded = true ∧ s.get
      TIME_STAT.rpll_locked = 1) ∧
    (∃ (s : State), s.mode = 1 ∧ s.boot.secVersion.isSome = true ∧ s.get MEM_STAT.mem_active = 1 ∧ s.boot.calLoaded = true ∧ s.get
      TIME_STAT.rpll_locked = 0) ∧
    (∃ (s : State) (v : Vector Word64 6) (b : HubBist), s.mode = 2 ∧ v = s.cal.rom.tile ∧ b.misr = s.cal.rom.hub ∧ b.keys = 0) ∧
    (∃ (s : State), s.mode = 2) ∧
    (∃ (s : State) (m : Fin 16), s.get HUB_MODE_STAT.req_busy = 0 ∧ s.boot.hoWait = false ∧ modeBarred m = false ∧ m.val ≠ s.mode ∧ m ≠ 3
      ∧ m ≠ 9 ∧ s.modeAllowed m = true) ∧
    (∃ (s : State), s.get HUB_MODE_STAT.req_busy = 1 ∧ (s.fire.phase = .off ∨ s.fire.phase = .stopping) ∧ s.fire.pending = false) ∧
    (∃ (s : State) (a : BitVec 128), s.mode = 1 ∧ cfgValid (toLE 16 a.toNat) = true) ∧
    (∃ (s : State) (a : ImageFound) (b : ImageFound), s.mode = 1 ∧ s.get MEM_STAT.mem_active = 1 ∧ s.get HUB_BOOT_STAT.boot_err = 0 ∧
      s.boot.secVersion = none ∧ s.boot.tried = [] ∧ s.firstSlot a b = 0) ∧
    (∃ (s : State), s.get HUB_BOOT_STAT.boot_err = 1) ∧
    (∃ (s : State) (v : Nat), s.mode = 3 ∧ s.boot.secVersion = some v) :=
  ⟨⟨s10, by decide +kernel⟩,
    ⟨s11, by decide +kernel⟩,
    ⟨s4, (Vector.replicate 6 0x0#64), { misr := (Vector.replicate 14 0x0#64), keys := 0x0#3 }, by decide +kernel⟩,
    ⟨s4, by decide +kernel⟩,
    ⟨s0, 4, by decide +kernel⟩,
    ⟨s16, by decide +kernel⟩,
    ⟨s2, 0x7baf2a4300000000000102074b424346#128, by decide +kernel⟩,
    ⟨s3,
      { headErr := false, dataErr := false, head := 0xac281dc9c379c2d00f89996595ee021ee31c22fcb4d7329da2eee691374b2c436b534a9b2baadf9b67223dd2d778e3df9e651a2cb5c0c3fc08487552dfdf621a1bf3aae781773cb94bb857268e8284f61acd442b8d6cc390382cfd12787c70ae8df4ef2542e795f881a5e928adc9009f7a648f9df8a5051f4a38e601e2c2d9051ada28c32a376b953f5fe03ec251b07ea48163af6cc3a69283065a2427d8921198a4cbaea5abf9a58232b51d5d905f9d8800722a89274344fb30f061cb09161274d7a82acfae1e4a35566fa1f709685864fc4eef4f7c735f51ff96429445c7abac2f4336fb2854c7b5d3fb3f3e9ae5c00000000000000000000000000000000000000000000000000000000000000000000000000000000000000000000000000000100000000003000000074c4d5047#4096, data := List.replicate 4096 0x0#8 },
      { headErr := false, dataErr := false, head := 0xac281dc9c379c2d00f89996595ee021ee31c22fcb4d7329da2eee691374b2c436b534a9b2baadf9b67223dd2d778e3df9e651a2cb5c0c3fc08487552dfdf621a1bf3aae781773cb94bb857268e8284f61acd442b8d6cc390382cfd12787c70ae8df4ef2542e795f881a5e928adc9009f7a648f9df8a5051f4a38e601e2c2d9051ada28c32a376b953f5fe03ec251b07ea48163af6cc3a69283065a2427d8921198a4cbaea5abf9a58232b51d5d905f9d8800722a89274344fb30f061cb09161274d7a82acfae1e4a35566fa1f709685864fc4eef4f7c735f51ff96429445c7abac2f4336fb2854c7b5d3fb3f3e9ae5c00000000000000000000000000000000000000000000000000000000000000000000000000000000000000000000000000000100000000003000000074c4d5047#4096, data := List.replicate 4096 0x0#8 },
      by decide +kernel⟩,
    ⟨s14, by decide +kernel⟩,
    ⟨s13, 4886718345, by decide +kernel⟩⟩

/-- Every form of `Obligations.Handover` has a state and operands that meet its hypotheses together. -/
theorem witness_Handover :
    (∃ (s : State), s.get HUB_HO_CTL.start = 0 ∧ s.clusterSlice = false ∧ s.mayService = true) ∧
    (∃ (s : State), s.get HUB_HO_CTL.start = 0 ∧ s.mayService = false ∧ s.boot.hoWait = false) ∧
    (∃ (s : State), s.get HUB_HO_CTL.start = 0 ∧ s.clusterSlice = true ∧ s.mayService = true) ∧
    (∃ (s : State), s.get HUB_HO_CTL.start = 1) ∧
    (∃ (s : State), s.boot.hoStep = 1 ∧ s.hoImageErr false = 0 ∧ (∀ k : Fin 4, s.get (BIST_SLICE_STAT.result (14 + k)) ≠ 2)) ∧
    (∃ (s : State), s.boot.hoStep = 1 ∧ s.hoImageErr false ≠ 0) ∧
    (∃ (s : State), s.boot.hoStep = 3) ∧
    (∃ (s : State), s.mode = 8 ∧ s.boot.hoStep = 4) ∧
    (∃ (s : State) (e : Bool) (r : Bool), s.mode = 8 ∧ s.boot.hoStep = 1 ∧ s.get HUB_MODE_STAT.base_mode ≠ 8 ∧ (e ∨ s.hoImageErr r ≠ 0)) ∧
    (∃ (s : State) (k : Fin 8), s.sliceErr k = 0) ∧
    (∃ (s : State) (k : Fin 6), s.boot.sliceTile = some k.val ∧ s.mode = 7 ∧ s.boot.sliceStep = 1) ∧
    (∃ (s : State) (k : Fin 6) (m : Word64), s.boot.sliceTile = some k.val ∧ s.mode = 7 ∧ s.boot.sliceStep = 2 ∧ s.sliceBarred k = false
      ∧ (s.boot.sliceAct = 0 ∨ s.boot.sliceAct = 3 → m = s.cal.rom.tile[k])) ∧
    (∃ (s : State) (k : Fin 6), s.boot.sliceTile = some k.val ∧ s.mode = 7 ∧ s.boot.sliceStep = 3 ∧ s.get HUB_MODE_STAT.base_mode ≠ 7) :=
  ⟨⟨s1, by decide +kernel⟩,
    ⟨s0, by decide +kernel⟩,
    ⟨s18, by decide +kernel⟩,
    ⟨s19, by decide +kernel⟩,
    ⟨s19, by decide +kernel⟩,
    ⟨s46, by decide +kernel⟩,
    ⟨s22, by decide +kernel⟩,
    ⟨s24, by decide +kernel⟩,
    ⟨s19, true, true, by decide +kernel⟩,
    ⟨s1, 0, by decide +kernel⟩,
    ⟨s26, 2, by decide +kernel⟩,
    ⟨s28, 0, 0x0#64, by decide +kernel⟩,
    ⟨s31, 4, by decide +kernel⟩⟩

/-- Every form of `Obligations.Slices` has a state and operands that meet its hypotheses together. -/
theorem witness_Slices :
    (∃ (s : State) (k : Fin 8), s.sliceErr k = 0) ∧
    (∃ (s : State) (k : Fin 8), s.sliceErr k ≠ 0) ∧
    (∃ (s : State) (k : Fin 6), s.boot.sliceTile = some k.val ∧ s.mode = 7 ∧ s.boot.sliceStep = 1) ∧
    (∃ (s : State) (k : Fin 6) (m : Word64), s.boot.sliceTile = some k.val ∧ s.mode = 7 ∧ s.boot.sliceStep = 2 ∧ (s.boot.sliceAct = 0 ∨
      s.boot.sliceAct = 3 → m = s.cal.rom.tile[k]) ∧ (s.boot.sliceAct = 1 → s.cal.skewBad.contains k.val = false) ∧ (s.boot.sliceAct = 2
      → s.imageErr (s.memImage false) = 0)) ∧
    (∃ (s : State) (k : Fin 6) (m : Word64) (p : Bool), s.boot.sliceTile = some k.val ∧ s.mode = 7 ∧ s.boot.sliceStep = 2 ∧ s.get
      HUB_MODE_STAT.base_mode ≠ 7 ∧ (p = false ∨ (s.boot.sliceAct = 1 ∧ s.cal.skewBad.contains k.val = true) ∨ (s.boot.sliceAct = 2 ∧
      s.imageErr (s.memImage false) ≠ 0) ∨ (s.boot.sliceAct ∈ [0, 3] ∧ m ≠ s.cal.rom.tile[k]))) ∧
    (∃ (s : State) (k : Fin 6), s.boot.sliceTile = some k.val ∧ s.mode = 7 ∧ s.boot.sliceStep = 3 ∧ s.get HUB_MODE_STAT.base_mode ≠ 7) :=
  ⟨⟨s1, 0, by decide +kernel⟩,
    ⟨s0, 0, by decide +kernel⟩,
    ⟨s26, 2, by decide +kernel⟩,
    ⟨s28, 0, 0x0#64, by decide +kernel⟩,
    ⟨s28, 0, 0x0#64, false, by decide +kernel⟩,
    ⟨s31, 4, by decide +kernel⟩⟩

end W07

namespace W08

abbrev P := stP
def base : State := P rs [(HUB_MODE_STAT.mode, 6), (HUB_MODE_STAT.last_mode, 3), (TIME_STAT.rpll_locked, 1), (TWN_STAT.hb_valid, 1), (TIME_NOW.time, 99999)]
def sf (s : State) (f : SafSt → SafSt) : State := { s with saf := f s.saf }
def gr (s : State) : State := P s [(SAF_STAT.sp_grant_a, 1), (SAF_STAT.snf_grant_a, 1), (SAF_STAT.perm_a, 1),(SAF_STAT.sp_grant_b, 1), (SAF_STAT.snf_grant_b, 1), (SAF_STAT.perm_b, 1)]
def tb (t n : List Byte) (s : State) : State := sf s (fun x => { x with sp := wChan t n, snf := wChan t n })
def summ (_az : Nat) : Nat := 5 + 3 * 2 ^ 16 + 1 * 2 ^ 24 + 2 ^ 28 + (2000 * 2 ^ 64)
def cellOf : ClosedCell := ⟨3, 200, 99000, [summ 200, 2 ^ 27]⟩
def ev1 : State := sf (gr (tb wT1 [] base)) (fun x => { x with sp := { x.sp with closed := [cellOf, cellOf], sums := [summ 3, summ 1 + 2^17] }, snf := { x.snf with closed := [cellOf] } })
def vd (p : Bool) : Verdict := ⟨3, 4, [⟨0, 1, true, true, true, p⟩, ⟨0, 2, true, true, false, p⟩, ⟨0, 3, true, true, true, !p⟩]⟩
def lor (s : State) : State := sf (P s [(SAF_STAT.lockout, 1)]) (fun x => { x with lorHigh := true })
def eng (s : State) : State := { s with fire := { s.fire with engaged := true, cells := [{ wCellInfo with id := 4, planned := 3 }], committed := [wCommitted] } }
def zt (p : Nat) (s : State) : State := P s [(SAF_ZT_STAT.phase, p)]
def olds1 (sp : List ZoneSpan) (s : State) : State := sf s (fun x => { x with gen := 1, spans := sp, sp := { x.sp with olds := [⟨0, wT1, []⟩] }, snf := { x.snf with olds := [⟨0, wT1, [(0, ZoneSt.init)]⟩] } })
def dt : List Byte := ((wT1.set 16 1).set 17 3).set 18 2
def dmg (a : Nat) (s : State) : State := { s with hub := { s.hub with injected := [(W256Loc.hubSram.code, a, 3)] } }

/-- A value computed before it is passed on, so that the kernel never holds a long chain of unfinished steps. -/
def force (n : Nat) (k : Nat → Nat) : Nat := Nat.rec (k 0) (fun m _ => k (m + 1)) n
theorem force_eq (n : Nat) (k : Nat → Nat) : force n k = k n := by cases n <;> rfl
def crcF (p : Nat) : List Byte → Nat → Nat
  | [], c => c
  | b :: l, c => force (crcByteDown p c b.toNat) (crcF p l)
theorem crcF_eq (p : Nat) : ∀ (l : List Byte) (c : Nat), crcF p l c = crcDown p c l := by
  intro l; induction l with
  | nil => intro c; rfl
  | cons b l ih => intro c; rw [crcF, force_eq, ih]; rfl
def wBody : List Byte := [1, 1, 0, 0, 78, 0, 0, 0, 96, 18, 0, 0, 1, 0, 0, 0, 1, 1, 0, 0, 10, 10, 0, 0, 200, 0, 100, 0, 20, 0, 0, 0, 0, 0] ++ List.replicate 26 0
def wT : List Byte := wBody ++ [0x95, 0xe6, 0xc6, 0x9b] ++ List.replicate 4640 0
set_option maxRecDepth 100000 in
theorem wT_crc : crc32 (wBody ++ [0, 0, 0, 0] ++ List.replicate 4640 0) = 0x9bc6e695 := by
  rw [crc32, ← crcF_eq]; decide +kernel
set_option maxRecDepth 100000 in
/-- The table of one set without zones passes every check of R289. -/
theorem wT_passes : tblCheck wT = 0 := by
  have h : crcOk wT = true := by
    have e : wT.take 60 ++ [0, 0, 0, 0] ++ wT.drop 64 = wBody ++ [0, 0, 0, 0] ++ List.replicate 4640 0 := by decide +kernel
    rw [crcOk, e, wT_crc]; decide +kernel
  rw [tblCheck, h]; decide +kernel

def s0 : State := rs
def s2 : State := gr (tb wT0 [] base)
def s3 : State := ev1
def s4 : State := eng (gr base)
def s9 : State := sf base (fun x => { x with sp := { x.sp with verdicts := [vd true, vd false] }, snf := { x.snf with verdicts := [vd true] } })
def s10 : State := sf (gr base) (fun x => { x with sp := { x.sp with verdicts := [vd true, vd false] }, snf := { x.snf with verdicts := [vd false] } })
def s11 : State := zt 1 (tb wT0 wT base)
def s12 : State := zt 1 (tb wT0 [] base)
def s13 : State := P (zt 1 (tb wT0 wT base)) [(SAF_ZT_STAT.sp_ok, 1)]
def s16 : State := zt 2 (gr (tb wT0 wT1 base))
def s17 : State := P (zt 2 (gr (tb wT0 wT1 base))) [(FIRE_FRAME_STAT.running, 1)]
def s18 : State := P (zt 2 (gr (tb wT0 wT1 base))) [(TWN_CTL.pair_commit, 1)]
def s20 : State := P (gr (tb wT1 [] base)) [(FIRE_FRAME_STAT.running, 1), (SAF_STAT.active_set, 0)]
def s24 : State := sf (lor base) (fun x => { x with latched := true })
def s28 : State := P (sf (lor base) (fun x => { x with lorAccepted := true, latched := true })) [(HUB_MODE_STAT.mode, 10)]
def s30 : State := { base with snf := { base.snf with powered := false } }
def s31 : State := P (tb wT0 [] base) [(SAF_STAT.lockout, 0)]
def s38 : State := P (gr (tb dt [] base)) [(SAF_DCI_STAT.pending, 0b1011)]
def s40 : State := dmg (zoneMem 0) ev1
def s43 : State := olds1 [⟨99500, 1, 1⟩, ⟨0, 0, 0⟩] ev1

/-- Every form of `Obligations.SafetyFaults` has a state and operands that meet its hypotheses together. -/
theorem witness_SafetyFaults :
    (∃ (s : State) (c : SafSel), (s.chanOf c).verdicts = []) ∧
    (∃ (s : State) (p : Pair), s.get (grantBit .sp p) = 1) ∧
    (∃ (s : State) (p : Pair), s.get (grantBit .sp p) = 0) ∧
    (∃ (s : State) (c : SafSel), (s.chanOf c).table.isEmpty = false) ∧
    (∃ (s : State) (n : Fin 4), tblDciMode s.saf.snf.table n % 2 = 0) ∧
    (∃ (s : State) (n : Fin 4), (s.get SAF_DCI_STAT.pending).testBit n = true ∧ tblDciMode s.saf.snf.table n % 2 = 1) ∧
    (∃ (s : State) (l : BitVec 4) (v : BitVec 4), (s.readbackBad l v 0 || s.readbackBad l v 1) = true ∧ (s.readbackBad l v 2 ||
      s.readbackBad l v 3) = false) ∧
    (∃ (s : State) (l : BitVec 4) (v : BitVec 4), (s.readbackBad l v 0 || s.readbackBad l v 1) = false ∧ (s.readbackBad l v 2 ||
      s.readbackBad l v 3) = true) ∧
    (∃ (s : State) (l : BitVec 4) (v : BitVec 4), (∀ k : Fin 4, s.readbackBad l v k = false)) ∧
    (∃ (s : State) (k : Fin 2), s.fire.engaged = true ∧ s.tileOff (2 + k) = false) ∧
    (∃ (s : State) (k : Fin 2), (s.fire.engaged = false ∨ s.tileOff (2 + k) = true)) :=
  ⟨⟨s0, SafSel.sp, by decide +kernel⟩,
    ⟨s2, Pair.a, by decide +kernel⟩,
    ⟨s0, Pair.a, by decide +kernel⟩,
    ⟨s2, SafSel.sp, by decide +kernel⟩,
    ⟨s0, 0, by decide +kernel⟩,
    ⟨s38, 0, by decide +kernel⟩,
    ⟨s0, 0x1#4, 0x1#4, by decide +kernel⟩,
    ⟨s2, 0x1#4, 0x5#4, by decide +kernel⟩,
    ⟨s0, 0x0#4, 0x0#4, by decide +kernel⟩,
    ⟨s4, 0, by decide +kernel⟩,
    ⟨s0, 0, by decide +kernel⟩⟩

/-- Every form of `Obligations.SafetyCells` has a state and operands that meet its hypotheses together. -/
theorem witness_SafetyCells :
    (∃ (s : State) (c : SafSel) (x : ClosedCell) (l : List ClosedCell) (u : State), (s.chanOf c).closed = x :: l ∧ s.cellOld (s.chanOf c)
      x = false ∧ (c = .sp → s.hubBad (zoneMem s.saf.gen) (s.chanOf c).table.length = false) ∧ (if c = .sp then s.hubScan 36 0 (zoneMem
      s.saf.gen) (s.chanOf c).table.length else s) = u) ∧
    (∃ (s : State) (c : SafSel) (x : ClosedCell) (l : List ClosedCell) (o : OldTable) (u : State), (s.chanOf c).closed = x :: l ∧
      s.cellOld (s.chanOf c) x = true ∧ (s.chanOf c).old (s.cellGen (s.chanOf c) x) = o ∧ (c = .sp → s.hubBad (zoneMem (s.cellGen
      (s.chanOf c) x)) o.table.length = false) ∧ (if c = .sp then s.hubScan 36 0 (zoneMem (s.cellGen (s.chanOf c) x)) o.table.length else
      s) = u) ∧
    (∃ (s : State) (x : ClosedCell) (l : List ClosedCell) (n : Nat), s.saf.sp.closed = x :: l ∧ (s.cellTable s.saf.sp x).1.length = n ∧
      s.hubBad (zoneMem (s.cellGen s.saf.sp x)) n = true) ∧
    (∃ (s : State) (c : SafSel), (s.chanOf c).closed = []) ∧
    (∃ (s : State) (a : Verdict) (l : List Verdict) (m : List Verdict), s.saf.sp.verdicts = a :: l ∧ s.saf.snf.verdicts = a :: m) ∧
    (∃ (s : State) (a : Verdict) (b : Verdict) (l : List Verdict) (m : List Verdict), s.saf.sp.verdicts = a :: l ∧ s.saf.snf.verdicts = b
      :: m ∧ a ≠ b) ∧
    (∃ (s : State) (c : SafSel) (p : Pair), s.grantCond c p = true ∧ s.chanAlive c = true) ∧
    (∃ (s : State) (c : SafSel) (p : Pair), s.grantCond c p = false) :=
  ⟨⟨s3, SafSel.sp, { bank := 3, azimuth := 200, firstShot := 99000, sums := [36893488147419388641285, 134217728] },
      [{ bank := 3, azimuth := 200, firstShot := 99000, sums := [36893488147419388641285, 134217728] }], _, by decide +kernel,
      by decide +kernel, by decide +kernel, rfl⟩,
    ⟨s43, SafSel.sp, { bank := 3, azimuth := 200, firstShot := 99000, sums := [36893488147419388641285, 134217728] },
      [{ bank := 3, azimuth := 200, firstShot := 99000, sums := [36893488147419388641285, 134217728] }], _, _, by decide +kernel,
      by decide +kernel, rfl, by decide +kernel, rfl⟩,
    ⟨s40, { bank := 3, azimuth := 200, firstShot := 99000, sums := [36893488147419388641285, 134217728] },
      [{ bank := 3, azimuth := 200, firstShot := 99000, sums := [36893488147419388641285, 134217728] }], 9344, by decide +kernel⟩,
    ⟨s0, SafSel.sp, by decide +kernel⟩,
    ⟨s9,
      { bank := 3, firstShot := 4, zones := [{ set := 0, zone := 1, occ := true, viol := true, rise := true, protective := true }, { set := 0, zone := 2, occ := true, viol := true, rise := false, protective := true }, { set := 0, zone := 3, occ := true, viol := true, rise := true, protective := false }] },
      [{ bank := 3, firstShot := 4, zones := [{ set := 0, zone := 1, occ := true, viol := true, rise := true, protective := false }, { set := 0, zone := 2, occ := true, viol := true, rise := false, protective := false }, { set := 0, zone := 3, occ := true, viol := true, rise := true, protective := true }] }],
      [], by decide +kernel⟩,
    ⟨s10,
      { bank := 3, firstShot := 4, zones := [{ set := 0, zone := 1, occ := true, viol := true, rise := true, protective := true }, { set := 0, zone := 2, occ := true, viol := true, rise := false, protective := true }, { set := 0, zone := 3, occ := true, viol := true, rise := true, protective := false }] },
      { bank := 3, firstShot := 4, zones := [{ set := 0, zone := 1, occ := true, viol := true, rise := true, protective := false }, { set := 0, zone := 2, occ := true, viol := true, rise := false, protective := false }, { set := 0, zone := 3, occ := true, viol := true, rise := true, protective := true }] },
      [{ bank := 3, firstShot := 4, zones := [{ set := 0, zone := 1, occ := true, viol := true, rise := true, protective := false }, { set := 0, zone := 2, occ := true, viol := true, rise := false, protective := false }, { set := 0, zone := 3, occ := true, viol := true, rise := true, protective := true }] }],
      [], by decide +kernel⟩,
    ⟨s31, SafSel.sp, Pair.a, by decide +kernel⟩,
    ⟨s0, SafSel.sp, Pair.a, by decide +kernel⟩⟩

/-- Every form of `Obligations.ZoneTables` has a state and operands that meet its hypotheses together. -/
theorem witness_ZoneTables :
    (∃ (s : State), s.get SAF_ZT_STAT.phase = 0) ∧
    (∃ (s : State), s.get SAF_ZT_STAT.phase ≠ 0) ∧
    (∃ (s : State) (c : SafSel) (u : State), s.get SAF_ZT_STAT.phase = 1 ∧ s.chanAlive c = true ∧ (if c = .sp then s.hubScan 36 0
      (zoneMem (s.saf.gen + 1)) s.saf.sp.next.length else s) = u ∧ ((c = .sp ∧ s.hubBad (zoneMem (s.saf.gen + 1)) s.saf.sp.next.length =
      true) ∨ tblCheck (s.chanOf c).next ≠ 0)) ∧
    (∃ (s : State) (c : SafSel) (d : SafSel) (u : State), s.get SAF_ZT_STAT.phase = 1 ∧ s.chanAlive c = true ∧ tblCheck (s.chanOf c).next
      = 0 ∧ (c = .sp → s.hubBad (zoneMem (s.saf.gen + 1)) s.saf.sp.next.length = false) ∧ (if c = .sp then s.hubScan 36 0 (zoneMem
      (s.saf.gen + 1)) s.saf.sp.next.length else s) = u ∧ d ≠ c ∧ s.get (okBit d) = 0) ∧
    (∃ (s : State) (c : SafSel) (d : SafSel) (u : State), s.get SAF_ZT_STAT.phase = 1 ∧ s.chanAlive c = true ∧ tblCheck (s.chanOf c).next
      = 0 ∧ (c = .sp → s.hubBad (zoneMem (s.saf.gen + 1)) s.saf.sp.next.length = false) ∧ (if c = .sp then s.hubScan 36 0 (zoneMem
      (s.saf.gen + 1)) s.saf.sp.next.length else s) = u ∧ d ≠ c ∧ s.get (okBit d) = 1) ∧
    (∃ (s : State), s.get SAF_ZT_STAT.phase = 2 ∧ s.ztMaySwap = true ∧ s.get FIRE_FRAME_STAT.running = 0) ∧
    (∃ (s : State), s.get SAF_ZT_STAT.phase = 2 ∧ s.ztMaySwap = true ∧ s.get FIRE_FRAME_STAT.running = 1) ∧
    (∃ (s : State), s.get SAF_ZT_STAT.phase = 2 ∧ s.ztMaySwap = false) ∧
    (∃ (s : State), s.saf.snf.table.isEmpty = false ∧ s.setIndex = s.get SAF_STAT.active_set) ∧
    (∃ (s : State), s.saf.snf.table.isEmpty = false ∧ s.setIndex ≠ s.get SAF_STAT.active_set ∧ s.get FIRE_FRAME_STAT.running = 1) ∧
    (∃ (s : State), s.saf.snf.table.isEmpty = false ∧ s.setIndex ≠ s.get SAF_STAT.active_set ∧ s.get FIRE_FRAME_STAT.running = 0) ∧
    (∃ (s : State) (x : ZoneSpan) (l : List ZoneSpan), s.saf.spans = x :: l ∧ laterThan s.now x.start < ((msUnits (tblSwitch
      s.saf.snf.table) : Nat) : Int)) ∧
    (∃ (s : State) (x : ZoneSpan) (l : List ZoneSpan), s.saf.spans = x :: l ∧ ((msUnits (tblSwitch s.saf.snf.table) : Nat) : Int) ≤
      laterThan s.now x.start) :=
  ⟨⟨s0, by decide +kernel⟩,
    ⟨s11, by decide +kernel⟩,
    ⟨s12, SafSel.sp, _, by decide +kernel, by decide +kernel, rfl, by decide +kernel⟩,
    ⟨s11, SafSel.sp, SafSel.snf, _, by decide +kernel, by decide +kernel, wT_passes, by decide +kernel, rfl, by decide +kernel⟩,
    ⟨s13, SafSel.snf, SafSel.sp, _, by decide +kernel, by decide +kernel, wT_passes, by decide +kernel, rfl, by decide +kernel⟩,
    ⟨s16, by decide +kernel⟩,
    ⟨s17, by decide +kernel⟩,
    ⟨s18, by decide +kernel⟩,
    ⟨s2, by decide +kernel⟩,
    ⟨s20, by decide +kernel⟩,
    ⟨s3, by decide +kernel⟩,
    ⟨s3, { start := 0, set := 0, gen := 0 }, [], by decide +kernel⟩,
    ⟨s0, { start := 0, set := 0, gen := 0 }, [], by decide +kernel⟩⟩

/-- Every form of `Obligations.SafetyInputs` has a state and operands that meet its hypotheses together. -/
theorem witness_SafetyInputs :
    (∃ (s : State), s.snf.powered = true) ∧
    (∃ (s : State), s.snf.powered = false) ∧
    (∃ (s : State) (k : Fin 4), s.get (permBit (outPair k)) = 1) ∧
    (∃ (s : State) (k : Fin 4), s.get (permBit (outPair k)) = 0) ∧
    (∃ (s : State) (a : Word16) (b : Word16), s.snf.powered = true ∧ s.saf.lorHigh = true ∧ s.saf.lorIgnored = false ∧ 300 ≤ a.toNat ∧
      a.toNat ≤ 5000 ∧ 300 ≤ b.toNat ∧ b.toNat ≤ 5000 ∧ s.faultPresent = false ∧ (s.saf.latched = false ∨ causeHard (s.get
      SAF_FAULT.cause) = false)) ∧
    (∃ (s : State) (a : Word16) (b : Word16) (x : Bool), s.snf.powered = true ∧ s.saf.lorHigh = true ∧ s.saf.lorIgnored = false ∧
      (a.toNat < 300 ∨ 5000 < a.toNat ∨ b.toNat < 300 ∨ 5000 < b.toNat ∨ x = true ∨ s.faultPresent = true ∨ (s.saf.latched = true ∧
      causeHard (s.get SAF_FAULT.cause) = true))) ∧
    (∃ (s : State), s.saf.lorAccepted = true ∧ s.snf.powered = true) ∧
    (∃ (s : State), (s.saf.lorAccepted = false ∨ s.snf.powered = false)) :=
  ⟨⟨s0, by decide +kernel⟩,
    ⟨s30, by decide +kernel⟩,
    ⟨s2, 0, by decide +kernel⟩,
    ⟨s0, 0, by decide +kernel⟩,
    ⟨s24, 0x12c#16, 0x12c#16, by decide +kernel⟩,
    ⟨s24, 0x0#16, 0x0#16, true, by decide +kernel⟩,
    ⟨s28, by decide +kernel⟩,
    ⟨s0, by decide +kernel⟩⟩

end W08

namespace W09

abbrev P := stP
def tb (t n : List Byte) (s : State) : State := { s with saf := { s.saf with sp := wChan t n, snf := wChan t n } }
def gr (s : State) : State := P s [(SAF_STAT.sp_grant_a, 1), (SAF_STAT.snf_grant_a, 1), (SAF_STAT.perm_a, 1),(SAF_STAT.sp_grant_b, 1), (SAF_STAT.snf_grant_b, 1), (SAF_STAT.perm_b, 1)]
def base : State := gr (tb wT1 [] (P rs [(HUB_MODE_STAT.mode, 6), (TIME_NOW.time, 99999), (FIRE_FRAME_CTL.run, 1), (HUB_MODE_STAT.req_busy, 1)]))
def pl : State := gr (tb wT1 [] (P rs [(HUB_MODE_STAT.mode, 9), (TIME_NOW.time, 99999)]))
def sn (s : State) (f : SnfSt → SnfSt) : State := { s with snf := f s.snf }
def shd : ShadeCopy := { wShadeCopy with lens := [10, 0, 20], budgets := [20000, 10000, 90000], energy := List.replicate 512 1, tMin := 0, tMax := 500 }
def pf : State := let s := sn pl (fun x => { x with shade := some shd, pilotOn := true, boardTemp := some 3, pilotFails := 2, pilotSeq := 255, pilotBank := 3 }); { s with cal := { s.cal with pilotOk := true, pilotCurrent := 2 } }
def tl (n : Nat) (s : State) : State := { s with tiles := s.tiles.map (fun x => { x with pilot := { x.pilot with count := n, bins := [(4, 500), (5,300)], windows := [3] } }) }
def s0 : State := rs
def s1 : State := base
def s2 : State := { base with boot := { base.boot with noCluster := true } }
def s4 : State := pf
def s5 : State := sn pf (fun x => { x with shade := some { shd with budgets := [1,1,1] } })
def s6 : State := sn pf (fun x => { x with pilotAwait := true })
def s8 : State := tl 64 pl

/-- Every form of `Obligations.PilotLight` has a state and operands that meet its hypotheses together. -/
theorem witness_PilotLight :
    (∃ (s : State), isScan s.mode = true ∧ s.boot.noCluster = true) ∧
    (∃ (s : State), isScan s.mode = true ∧ s.get FIRE_FRAME_CTL.run = 1) ∧
    (∃ (s : State) (c : ShadeCopy), s.snf.shade = some c ∧ s.snf.pilotAwait = false ∧ s.pilotMay c = true ∧ s.pilotBudget c
      s.snf.pilotBank = true) ∧
    (∃ (s : State) (c : ShadeCopy), s.snf.shade = some c ∧ s.snf.pilotAwait = false ∧ s.pilotMay c = true ∧ s.pilotBudget c
      s.snf.pilotBank = false) ∧
    (∃ (s : State), s.snf.pilotAwait = true ∧ s.snf.pilotFails = 2) ∧
    (∃ (s : State) (h : Bool) (b : BitVec 14), (s.tile (if h then 3 else 2)).pilot.count < 64 ∧ s.mode ≠ 0 ∧ s.tileOff (if h then 3 else
      2) = false ∧ s.inputsTied (if h then 3 else 2) = false ∧ 256 ≤ b.toNat) ∧
    (∃ (s : State) (h : Bool) (b : BitVec 14), (s.tile (if h then 3 else 2)).pilot.count < 64 ∧ (s.mode = 0 ∨ s.tileOff (if h then 3 else
      2) = true ∨ s.inputsTied (if h then 3 else 2) = true ∨ b.toNat < 256)) ∧
    (∃ (s : State) (h : Bool) (x : TileSt) (l : JexLink), s.tiles[if h then 3 else 2]? = some x ∧ s.hub.links[if h then 21 else 20]? =
      some l ∧ l.down = false ∧ 64 ≤ x.pilot.count) ∧
    (∃ (s : State), s.snf.shade.isSome = true ∧ s.cal.pilotOk = true ∧ s.snf.pilotOn = true ∧ s.snf.pilotNew.getD (if
      s.snf.pilotSilent.getD 0 false = true ∨ s.tileOff 2 = true then 1 else 0) false = false) ∧
    (∃ (s : State) (v : Nat), (if s.snf.pilotSilent.getD 0 false = true ∨ s.tileOff 2 = true then 1 else 0) = v ∧ (s.snf.shade = none ∨
      s.cal.pilotOk = false ∨ s.snf.pilotOn = false ∨ s.snf.pilotNew.getD v false = true)) :=
  ⟨⟨s2, by decide +kernel⟩,
    ⟨s1, by decide +kernel⟩,
    ⟨s4,
      { lens := [10, 0, 20], budgets := [20000, 10000, 90000], azMin := 0, azMax := 0, energy := List.replicate 512 0x1#8, tMin := 0, tMax := 500, hyst := 0 },
      by decide +kernel⟩,
    ⟨s5,
      { lens := [10, 0, 20], budgets := [1, 1, 1], azMin := 0, azMax := 0, energy := List.replicate 512 0x1#8, tMin := 0, tMax := 500, hyst := 0 },
      by decide +kernel⟩,
    ⟨s6, by decide +kernel⟩,
    ⟨s0, true, 0x2011#14, by decide +kernel⟩,
    ⟨s0, true, 0x0#14, by decide +kernel⟩,
    ⟨s8, true,
      { chans := [], cells := [], sums := [], outq := [], refWins := [], good := 0, bad := 0, phase := 0, coarseOff := 0, zoomHist := [], codes := [], pilot := { windows := [3], count := 64, bins := [(4, 500), (5, 300)], powerAll := none }, load := [], rowCe := [], marked := [], repaired := [], rest := [] },
      { down := false, failed := 0, replay := false, accepted := 0, credits := [16, 16, 64, 8], rx := [], next := Replayed.asUsual, sent := [] },
      by decide +kernel⟩,
    ⟨s4, by decide +kernel⟩,
    ⟨s0, 0, by decide +kernel⟩⟩

end W09

namespace W10

abbrev P := stP
def base : State := P rs [(HUB_MODE_STAT.mode, 6), (TIME_NOW.time, 99999), (SHADE_CTL.lock, 1), (FIRE_FRAME_LEN.entries 0, 8), (FIRE_FRAME_LEN.entries 1, 5),
  (FIRE_BANK_CFG.enable 0, 1), (FIRE_BANK_CFG.enable 1, 1), (FIRE_BANK_CFG.driver 1, 1), (FIRE_TAPER_STAT.drv_present, 3), (FIRE_TAPER_CFG.lane0_en, 1), (FIRE_FRAME_CTL.run, 1),
  (FIRE_TIMING_CFG.blind_len_us, 3), (FIRE_DIAG_CFG.proof_max, 2)]
def ent (bank segset curr iv : Nat) (e : Bool) : Nat := bank + segset * 64 + curr * 2 ^ 14 + 3 * 2 ^ 22 + 17 * 2 ^ 28 + iv * 2 ^ 40 + (if e then 2 ^ 56 else 0) + 2 ^ 57
def seg (mask map : Nat) : Nat := mask + map * 2 ^ 48 + 2 ^ 63
def prog (buf : Nat) : List (Nat × List Byte) := ((List.range 8).map (fun i => (bufBase buf + 8 * i, toLE 8 (ent (i % 2) (i % 2) 5 300 (6 ≤ i))))) ++
  [(bufBase buf + 0x20000, toLE 8 (seg 5 0)), (bufBase buf + 0x20008, toLE 8 (seg 6 1)), (bufBase buf + 0x20800, [1]), (bufBase buf + 0x20800 + 192, [2])]
def tab : List Host.Cell := (prog 0).foldl (fun m p => memStore m p.1 p.2) []
def b2 : State := { base with fireTab := tab }
def fi (s : State) (f : FireSt → FireSt) : State := { s with fire := f s.fire }
def fr : State := fi b2 (fun f => { f with engaged := true, phase := .frame, nominal := 1000, nextT0 := 900, t0 := 40, frameEnd := 5000, codes := List.range 64, nextCell := 7 })
def wt : State := fi fr (fun f => { f with phase := .waiting })
def sp : State := P wt [(FIRE_FRAME_STAT.swap_pending, 1), (FIRE_FRAME_CTL.swap_req, 1)]
def com : Committed := { wCommitted with mask := 5, nominal := 700, codeNs := 3, fine := 9, syncOut := true }
def s0 : State := rs
def s1 : State := base
def s2 : State := P base [(HUB_CLAIM.owner 1, 5), (HUB_CLAIM.owner 0, 5)]
def s6 : State := fi b2 (fun f => { f with engaged := true, validRun := true, enumerating := true })
def s7 : State := fi b2 (fun f => { f with engaged := true, validRun := true})
def s8 : State := P (fi b2 (fun f => { f with engaged := true, validRun := true})) [(FIRE_BANK_CFG.enable 1, 0), (HUB_CLAIM.owner 1, 2)]
def s9 : State := fi b2 (fun f => { f with validSwap := true, swapBuf := 1 })
def s10 : State := fi b2 (fun f => { f with validSwap := true, swapBuf := 0 })
def s11 : State := fr
def s14 : State := wt
def s15 : State := fi wt (fun f => { f with stopReq := true, committed := [com] })
def s16 : State := P wt [(FIRE_FRAME_STAT.running, 1)]
def s17 : State := P wt [(FIRE_FRAME_CTL.start_mode, 1)]
def s19 : State := sp
def s24 : State := fi fr (fun f => { f with startPending := true, firstFrame := true })
def s28 : State := P fr [(FIRE_FRAME_CTL.start_mode, 1), (FIRE_FRAME_CTL.run, 1)]
def s29 : State := P (fi fr (fun f => { f with latch := some 5 })) [(FIRE_FRAME_CTL.start_mode, 1), (FIRE_FRAME_CTL.run, 1)]
def s30 : State := P fr [(FIRE_FRAME_CTL.start_mode, 2), (FIRE_FRAME_CTL.run, 1), (FIRE_MIRROR_CFG.pos_src, 1)]
def s31 : State := P base [(FIRE_FRAME_CTL.swap_mode, 1), (FIRE_FRAME_CTL.swap_req, 1), (FIRE_MIRROR_CFG.pos_src, 2)]
def s34 : State := P (fi b2 (fun f => { f with committed := [com], cells := [wCellInfo] })) [(segState 0 0, 3), (segState 0 2, 3)]
def s38 : State := P b2 [(FIRE_FRAME_CTL.run, 0)]
def s41 : State := P (fi b2 (fun f => { f with engaged := true })) [(FIRE_FRAME_CTL.run, 0)]
def s43 : State := P (fi b2 (fun f => { f with engaged := true, phase := .stopping, committed := [com] })) [(FIRE_FRAME_STAT.running, 1), (HUB_CLAIM.owner 1, 2)]
def s44 : State := fi { b2 with hub := { b2.hub with injected := [(1, 0x200000000 + bufBase 0, 3), (1, 0x200000000 + bufBase 0 + 0x20000, 3)] } } (fun f => { f with engaged := true, phase := .frame, nominal := 1000, codes := List.range 64 })
def s46 : State := fi fr (fun f => { f with startPending := true, hadFrame := true, prevT0 := some 3, latchUsed := true, latch := some 9, indexTimes := [30, 20, 10] })

/-- Every form of `Obligations.FireRun` has a state and operands that meet its hypotheses together. -/
theorem witness_FireRun :
    (∃ (s : State), modeFires s.mode = true ∧ s.get FIRE_FRAME_CTL.run = 0 ∧ (s.fire.engaged = false ∨ s.fire.phase = .stopping)) ∧
    (∃ (s : State), modeFires s.mode = false) ∧
    (∃ (s : State), modeFires s.mode = true ∧ s.get FIRE_FRAME_CTL.run = 1) ∧
    (∃ (s : State), modeFires s.mode = true ∧ s.get FIRE_FRAME_CTL.run = 0 ∧ s.fire.engaged = true ∧ s.fire.phase ≠ .stopping) ∧
    (∃ (s : State), s.fire.engaged = true ∧ (s.fire.phase = .frame ∨ (s.fire.phase = .waiting ∧ s.get FIRE_FRAME_STAT.running = 1))) ∧
    (∃ (s : State), s.fire.engaged = true ∧ (s.fire.phase = .off ∨ (s.fire.phase = .waiting ∧ s.get FIRE_FRAME_STAT.running = 0))) ∧
    (∃ (s : State), s.get FIRE_FRAME_CTL.swap_req = 0) ∧
    (∃ (s : State), s.get FIRE_FRAME_CTL.swap_req = 1) ∧
    (∃ (a : Fin 4) (b : Fin 4), a ≠ 1 ∧ b ≠ 1) ∧
    (∃ (s : State) (a : Fin 4) (b : Fin 4), (a = 1 ∨ b = 1) ∧ (s.get (HUB_CLAIM.owner 0) = 0 ∨ s.get (HUB_CLAIM.owner 0) = 2)) ∧
    (∃ (s : State) (a : Fin 4) (b : Fin 4), (a = 1 ∨ b = 1) ∧ s.get (HUB_CLAIM.owner 0) ≠ 0 ∧ s.get (HUB_CLAIM.owner 0) ≠ 2) ∧
    (∃ (s : State), s.fire.enumerating = true) ∧
    (∃ (s : State) (r : State), s.fire.validRun = true ∧ s.fire.enumerating = false ∧ (s.frameJudge s.fire.runBuf).1.1 = 0 ∧
      (s.frameJudge s.fire.runBuf).2 = r) ∧
    (∃ (s : State), s.fire.validRun = true ∧ s.fire.enumerating = false ∧ (s.frameJudge s.fire.runBuf).1.1 ≠ 0) ∧
    (∃ (s : State) (r : State), s.fire.validRun = false ∧ s.fire.validSwap = true ∧ (s.frameJudge s.fire.swapBuf).1.1 = 0 ∧ s.get
      FIRE_FRAME_CTL.swap_mode ≠ 2 ∧ (s.frameJudge s.fire.swapBuf).2 = r) ∧
    (∃ (s : State) (r : State), s.fire.validRun = false ∧ s.fire.validSwap = true ∧ (s.frameJudge s.fire.swapBuf).1.1 ≠ 0 ∧ (s.frameJudge
      s.fire.swapBuf).2 = r) ∧
    (∃ (s : State), s.fire.engaged = false) :=
  ⟨⟨s38, by decide +kernel⟩,
    ⟨s0, by decide +kernel⟩,
    ⟨s1, by decide +kernel⟩,
    ⟨s41, by decide +kernel⟩,
    ⟨s11, by decide +kernel⟩,
    ⟨s6, by decide +kernel⟩,
    ⟨s0, by decide +kernel⟩,
    ⟨s19, by decide +kernel⟩,
    ⟨0, 0, by decide +kernel⟩,
    ⟨s0, 0, 1, by decide +kernel⟩,
    ⟨s2, 0, 1, by decide +kernel⟩,
    ⟨s6, by decide +kernel⟩,
    ⟨s7, _, by decide +kernel, by decide +kernel, by decide +kernel, rfl⟩,
    ⟨s8, by decide +kernel⟩,
    ⟨s10, _, by decide +kernel, by decide +kernel, by decide +kernel, by decide +kernel, rfl⟩,
    ⟨s9, _, by decide +kernel, by decide +kernel, by decide +kernel, rfl⟩,
    ⟨s0, by decide +kernel⟩⟩

/-- Every form of `Obligations.FireFrames` has a state and operands that meet its hypotheses together. -/
theorem witness_FireFrames :
    (∃ (s : State) (u : State), s.startsDue = u ∧ (u.fire.phase = .off ∨ u.fire.phase = .stopping)) ∧
    (∃ (s : State) (u : State), s.startsDue = u ∧ (u.fire.phase = .waiting ∨ (u.fire.phase = .frame ∧ 0 < u.fire.entry ∧
      u.fire.atBoundary = true)) ∧ u.fire.stopReq = true) ∧
    (∃ (s : State) (u : State), s.startsDue = u ∧ u.fire.phase = .waiting ∧ u.fire.stopReq = false ∧ u.phaseTake.nextStart = none) ∧
    (∃ (s : State) (u : State) (a : Nat) (e : Option Nat), s.startsDue = u ∧ u.phaseTake.nextStart = some (a, e) ∧ u.fire.phase =
      .waiting ∧ u.fire.stopReq = false) ∧
    (∃ (s : State) (u : State) (buf : Nat) (w : Nat), s.startsDue = u ∧ u.fire.phase = .frame ∧ (u.fire.entry = 0 ∨ u.fire.atBoundary =
      false) ∧ u.get FIRE_FRAME_STAT.active_buf = buf ∧ u.entryWord buf u.fire.entry = w ∧ u.fireBad (bufBase buf + 8 * u.fire.entry) 8 =
      false) ∧
    (∃ (s : State) (u : State) (buf : Nat), s.startsDue = u ∧ u.fire.phase = .frame ∧ (u.fire.entry = 0 ∨ u.fire.atBoundary = false) ∧
      u.get FIRE_FRAME_STAT.active_buf = buf ∧ u.fireBad (bufBase buf + 8 * u.fire.entry) 8 = true) ∧
    (∃ (s : State), s.fire.startPending = true ∧ s.fire.hadFrame = false) ∧
    (∃ (s : State), s.fire.startPending = true ∧ s.fire.hadFrame = true) ∧
    (∃ (s : State) (u : State), s.startsDue = u ∧ u.get FIRE_FRAME_STAT.running = 1 ∧ u.fire.phase = .stopping) ∧
    (∃ (s : State) (u : State), s.startsDue = u ∧ u.get FIRE_FRAME_STAT.running = 0) ∧
    (∃ (s : State) (u : State), s.startsDue = u ∧ u.get FIRE_FRAME_STAT.running = 1 ∧ u.fire.stopReq = false ∧ u.fire.phase ≠ .stopping) ∧
    (∃ (s : State), s.get FIRE_FRAME_CTL.start_mode = 1 ∧ s.get FIRE_FRAME_CTL.swap_mode ≠ 1 ∧ s.twn.following = false ∧ s.fire.engaged =
      true ∧ s.get FIRE_FRAME_CTL.run = 1 ∧ s.fire.phase = .frame ∧ s.fire.latch = none) ∧
    (∃ (s : State) (e : Nat), s.fire.latch = some e ∧ s.get FIRE_FRAME_CTL.start_mode = 1 ∧ s.get FIRE_FRAME_CTL.swap_mode ≠ 1 ∧
      s.twn.following = false ∧ s.fire.engaged = true ∧ s.get FIRE_FRAME_CTL.run = 1 ∧ s.fire.phase = .frame) ∧
    (∃ (s : State), s.get FIRE_FRAME_CTL.start_mode ≠ 1 ∧ s.get FIRE_FRAME_CTL.swap_mode = 1 ∧ s.get FIRE_FRAME_CTL.swap_req = 1 ∧
      s.fire.swapEdge = none) ∧
    (∃ (s : State), s.get FIRE_FRAME_CTL.start_mode ≠ 2) ∧
    (∃ (s : State), s.get FIRE_FRAME_CTL.start_mode = 2 ∧ s.twn.following = false ∧ s.fire.engaged = true ∧ s.get FIRE_FRAME_CTL.run = 1
      ∧ s.fire.phase = .frame ∧ s.fire.latch = none) ∧
    (∃ (s : State), (s.get FIRE_FRAME_CTL.start_mode ≠ 2 ∨ s.fire.engaged = false)) ∧
    (∃ (s : State), s.posSrc ≠ 0) ∧
    (∃ (s : State), s.posSrc = 0) ∧
    (∃ (s : State) (c : Committed) (l : List Committed), s.fire.committed = c :: l ∧ s.shortRemoved c.bank c.mask ≠ 0) ∧
    (∃ (s : State) (c : Committed) (l : List Committed), s.fire.committed = c :: l ∧ s.shortRemoved c.bank c.mask = 0) :=
  ⟨⟨s0, _, rfl, by decide +kernel⟩,
    ⟨s15, _, rfl, by decide +kernel⟩,
    ⟨s17, _, rfl, by decide +kernel⟩,
    ⟨s14, _, 5000, none, rfl, by decide +kernel⟩,
    ⟨s11, _, 0, 144445046140256256, rfl, by decide +kernel⟩,
    ⟨s44, _, 0, rfl, by decide +kernel⟩,
    ⟨s24, by decide +kernel⟩,
    ⟨s46, by decide +kernel⟩,
    ⟨s43, _, rfl, by decide +kernel⟩,
    ⟨s0, _, rfl, by decide +kernel⟩,
    ⟨s16, _, rfl, by decide +kernel⟩,
    ⟨s28, by decide +kernel⟩,
    ⟨s29, 5, by decide +kernel⟩,
    ⟨s31, by decide +kernel⟩,
    ⟨s0, by decide +kernel⟩,
    ⟨s30, by decide +kernel⟩,
    ⟨s0, by decide +kernel⟩,
    ⟨s30, by decide +kernel⟩,
    ⟨s0, by decide +kernel⟩,
    ⟨s15,
      { cell := 0, idx := 0, bank := 0, segset := 0, mask := 5, current := 0, codeNs := 3, fine := 9, nominal := 700, buf := 0, cellEnd := false, first := false, syncOut := true, noRx := false, proof := false },
      [], by decide +kernel⟩,
    ⟨s34,
      { cell := 0, idx := 0, bank := 0, segset := 0, mask := 5, current := 0, codeNs := 3, fine := 9, nominal := 700, buf := 0, cellEnd := false, first := false, syncOut := true, noRx := false, proof := false },
      [], by decide +kernel⟩⟩

end W10

namespace W11

abbrev P := stP
def shd : ShadeCopy := { wShadeCopy with lens := [10, 0, 20], budgets := [20000, 10000, 90000], energy := List.replicate 512 1, tMin := 0, tMax := 500 }
def tab : List Host.Cell := memStore (memStore [] 0x80000 (List.replicate 512 1)) 0x20000 (toLE 8 (0xff + 2 ^ 63))
def fi (s : State) (f : FireSt → FireSt) : State := { s with fire := f s.fire }
def base : State := { P rs [(HUB_MODE_STAT.mode, 6), (TIME_NOW.time, 99999), (FIRE_TAPER_CFG.lane0_en, 1), (SHADE_TEMP_WIN.t_max, 900), (SHADE_TEMP_WIN.t_min, 100), (SHADE_WIN_LEN.len_us 0, 5),
  (SHADE_WIN_BUDGET.budget 0, 2000), (FIRE_STROBE_CFG.enable 3, 1), (FIRE_STROBE_CFG.trim 3, 2047), (FIRE_BANK_CFG.enable 1, 1)] with fireTab := tab }
def sh (st : ShotStage) : Shot := { wShot with c := { wCommitted with mask := 5, current := 2, bank := 1, cell := 4 }, driver := 3, localBank := 2, time := 12345, stage := st, seq := 9 }
def ws (x : Shot) : State := fi base (fun f => { f with shots := [{ x with time := 4, stage := .admitted }, x], cells := [{ wCellInfo with id := 4 }], seqs := List.replicate 16 255, fails := List.replicate 16 1 })
def lk (s : State) : State := P s [(SHADE_CTL.lock, 1)]
def sd (c : ShadeCopy) (s : State) : State := { s with snf := { s.snf with shade := some c } }
def frm (drv seq flags : Nat) : List Byte := let l := [BitVec.ofNat 8 (128 + drv), BitVec.ofNat 8 seq, BitVec.ofNat 8 flags, 3, 0, 0, 0, 0, 0, 0]; l ++ toBE 2 (crcUp 16 0x1021 0xFFFF l)
def stt (l : List Byte) : Shot := { sh .struck with status := some l }
def s0 : State := rs
def s2 : State := ws (sh .fetched)
def s3 : State := P (ws (sh .fetched)) [(SHADE_STAT.temp_inhibit, 1)]
def s4 : State := P (ws (sh .fetched)) [(FIRE_TAPER_STAT.drv_fault, 8)]
def s5 : State := sd shd (ws (sh .fetched))
def s7 : State := sd { shd with energy := [] } (ws (sh .fetched))
def s8 : State := P (ws (sh .fetched)) [(SHADE_WIN_BUDGET.budget 0, 513)]
def s9 : State := lk base
def s11 : State := fi base (fun f => { f with tempRuns := [3, 0] })
def s14 : State := fi (lk (sd shd base)) (fun f => { f with ledger := [(3, [1])] })
def s15 : State := ws (sh .noticed)
def s16 : State := ws (sh .commanded)
def s17 : State := ws (sh .struck)
def s18 : State := ws (stt (frm 3 9 0))
def s19 : State := ws (stt (frm 3 9 2))
def s21 : State := ws (stt ((frm 3 9 0).set 4 1))
def s22 : State := P base [(HUB_MODE_STAT.mode, 9)]
def s23 : State := fi base (fun f => { f with fails := List.replicate 16 3 })
def s25 : State := fi base (fun f => { f with diag := [(0, ⟨1, 300, 300⟩), (1, ⟨2, 3, 300⟩), (48, ⟨2,3,4⟩), (96, ⟨400, 500, 1⟩), (3071, ⟨400, 500, 256⟩)] })
def s30 : State := P (ws (sh .noticed)) [(FIRE_TAPER_STAT.drv_fault, 8)]
def s37 : State := fi base (fun f => { f with clears := [(3, 5, none)] })

/-- Every form of `Obligations.Shade` has a state and operands that meet its hypotheses together. -/
theorem witness_Shade :
    (∃ (s : State) (x : Shot) (u : State), s.fire.shotAt .fetched = some x ∧ s.fireScan 35 (0x80000 + 2 * x.c.current) 2 = u ∧
      (s.tempBlocked = true ∨ s.drvFaulted x.driver = true ∨ s.fireBad (0x80000 + 2 * x.c.current) 2 = true)) ∧
    (∃ (s : State) (x : Shot) (u : State), s.fire.shotAt .fetched = some x ∧ s.fireScan 35 (0x80000 + 2 * x.c.current) 2 = u ∧ s.fireBad
      (0x80000 + 2 * x.c.current) 2 = false ∧ s.tempBlocked = false ∧ s.drvFaulted x.driver = false ∧ s.budgetOk x.c.bank (s.shotEnergy
      x) (s.shotBins x.time) = true ∧ s.snf.shade = none) ∧
    (∃ (s : State) (x : Shot) (c : ShadeCopy) (u : State) (l : List (Nat × List Nat)), s.fire.shotAt .fetched = some x ∧ s.snf.shade =
      some c ∧ s.fireScan 35 (0x80000 + 2 * x.c.current) 2 = u ∧ s.fireBad (0x80000 + 2 * x.c.current) 2 = false ∧ s.tempBlocked = false
      ∧ s.drvFaulted x.driver = false ∧ s.budgetOk x.c.bank (s.shotEnergy x) (s.shotBins x.time) = true ∧ (maskBits x.c.mask).length *
      c.energyOf x.c.current = s.shotEnergy x ∧ chargeAll s.snf.ledger c.windows (s.shotBins x.time) x.c.bank (s.shotEnergy x) = l ∧ (∀ w
      ∈ c.windows, ∀ b ∈ s.shotBins x.time, { s.snf with ledger := l }.sum (ledgerKey w x.c.bank b) ≤ c.budgets.getD w 0) ∧ (∀ v : Int,
      s.snf.boardTemp = some v → tempOutside c v = false)) ∧
    (∃ (s : State) (x : Shot) (c : ShadeCopy), s.fire.shotAt .fetched = some x ∧ s.snf.shade = some c ∧ s.fireBad (0x80000 + 2 *
      x.c.current) 2 = false ∧ s.tempBlocked = false ∧ s.drvFaulted x.driver = false ∧ s.budgetOk x.c.bank (s.shotEnergy x) (s.shotBins
      x.time) = true ∧ (maskBits x.c.mask).length * c.energyOf x.c.current ≠ s.shotEnergy x) ∧
    (∃ (s : State) (x : Shot) (u : State), s.fire.shotAt .fetched = some x ∧ s.fireScan 35 (0x80000 + 2 * x.c.current) 2 = u ∧ s.fireBad
      (0x80000 + 2 * x.c.current) 2 = false ∧ s.tempBlocked = false ∧ s.drvFaulted x.driver = false ∧ s.budgetOk x.c.bank (s.shotEnergy
      x) (s.shotBins x.time) = false) ∧
    (∃ (s : State), s.get SHADE_CTL.lock = 0 ∧ s.snf.powered = true ∧ s.fireBad 0x80000 512 = false) ∧
    (∃ (s : State) (b : Bool), s.get SHADE_CTL.lock = 0 ∧ s.snf.powered = true ∧ (b = false ∨ s.fireBad 0x80000 512 = true)) ∧
    (∃ (s : State), s.get SHADE_CTL.lock = 1) ∧
    (∃ (s : State), s.get SHADE_CTL.lock = 0) ∧
    (∃ (s : State) (w : Fin 3) (v : Word32), s.get SHADE_CTL.lock = 1 ∧ v.toNat ≤ s.get (SHADE_WIN_BUDGET.budget w)) ∧
    (∃ (s : State) (w : Fin 3) (v : Word32), s.get SHADE_CTL.lock = 1 ∧ s.get (SHADE_WIN_BUDGET.budget w) < v.toNat) ∧
    (∃ (s : State), 3 ≤ s.fire.tempRuns.getD 0 0) ∧
    (∃ (s : State), s.fire.tempStale.getD 0 false = false) ∧
    (∃ (s : State), s.get SHADE_TEMP_CFG.rtd_b_en = 0) ∧
    (∃ (s : State), s.snf.shade.isSome = true ∧ s.get SHADE_CTL.lock = 1 ∧ s.fire.ledger ≠ s.snf.ledger) ∧
    (∃ (s : State), s.fire.ledger = s.snf.ledger) :=
  ⟨⟨s3,
      { c := { cell := 4, idx := 0, bank := 1, segset := 0, mask := 5, current := 2, codeNs := 0, fine := 0, nominal := 0, buf := 0, cellEnd := false, first := false, syncOut := false, noRx := false, proof := false }, driver := 3, localBank := 2, time := 12345, stage := ShotStage.fetched, seq := 9, status := none, refSeen := none, counts := false },
      _, by decide +kernel, rfl, by decide +kernel⟩,
    ⟨s2,
      { c := { cell := 4, idx := 0, bank := 1, segset := 0, mask := 5, current := 2, codeNs := 0, fine := 0, nominal := 0, buf := 0, cellEnd := false, first := false, syncOut := false, noRx := false, proof := false }, driver := 3, localBank := 2, time := 12345, stage := ShotStage.fetched, seq := 9, status := none, refSeen := none, counts := false },
      _, by decide +kernel, rfl, by decide +kernel⟩,
    ⟨s5,
      { c := { cell := 4, idx := 0, bank := 1, segset := 0, mask := 5, current := 2, codeNs := 0, fine := 0, nominal := 0, buf := 0, cellEnd := false, first := false, syncOut := false, noRx := false, proof := false }, driver := 3, localBank := 2, time := 12345, stage := ShotStage.fetched, seq := 9, status := none, refSeen := none, counts := false },
      { lens := [10, 0, 20], budgets := [20000, 10000, 90000], azMin := 0, azMax := 0, energy := List.replicate 512 0x1#8, tMin := 0, tMax := 500, hyst := 0 },
      _, [(64, ([514] ++ List.replicate 16 0)), (127, ([514] ++ List.replicate 16 0)), (8256, ([514] ++ List.replicate 16 0)), (8319,
      ([514] ++ List.replicate 16 0))], by decide +kernel, by decide +kernel, rfl, by decide +kernel⟩,
    ⟨s7,
      { c := { cell := 4, idx := 0, bank := 1, segset := 0, mask := 5, current := 2, codeNs := 0, fine := 0, nominal := 0, buf := 0, cellEnd := false, first := false, syncOut := false, noRx := false, proof := false }, driver := 3, localBank := 2, time := 12345, stage := ShotStage.fetched, seq := 9, status := none, refSeen := none, counts := false },
      { lens := [10, 0, 20], budgets := [20000, 10000, 90000], azMin := 0, azMax := 0, energy := [], tMin := 0, tMax := 500, hyst := 0 },
      by decide +kernel⟩,
    ⟨s8,
      { c := { cell := 4, idx := 0, bank := 1, segset := 0, mask := 5, current := 2, codeNs := 0, fine := 0, nominal := 0, buf := 0, cellEnd := false, first := false, syncOut := false, noRx := false, proof := false }, driver := 3, localBank := 2, time := 12345, stage := ShotStage.fetched, seq := 9, status := none, refSeen := none, counts := false },
      _, by decide +kernel, rfl, by decide +kernel⟩,
    ⟨s0, by decide +kernel⟩,
    ⟨s0, false, by decide +kernel⟩,
    ⟨s9, by decide +kernel⟩,
    ⟨s0, by decide +kernel⟩,
    ⟨s9, 0, 0x0#32, by decide +kernel⟩,
    ⟨s9, 0, 0x80000011#32, by decide +kernel⟩,
    ⟨s11, by decide +kernel⟩,
    ⟨s0, by decide +kernel⟩,
    ⟨s0, by decide +kernel⟩,
    ⟨s14, by decide +kernel⟩,
    ⟨s0, by decide +kernel⟩⟩

/-- Every form of `Obligations.TaperBus` has a state and operands that meet its hypotheses together. -/
theorem witness_TaperBus :
    (∃ (s : State) (x : Shot), s.fire.shotAt .noticed = some x ∧ s.drvFaulted x.driver = true) ∧
    (∃ (s : State) (x : Shot), s.fire.shotAt .noticed = some x ∧ s.drvFaulted x.driver = false) ∧
    (∃ (s : State) (x : Shot) (u : State), s.fire.shotAt .commanded = some x ∧ s.syncFlush = u) ∧
    (∃ (s : State) (v : BitVec 96) (x : Shot), s.fire.shots.find? (fun x => decide (x.stage = .struck) && x.driver == v.toNat % 16 &&
      x.status.isNone) = some x ∧ s.mode ≠ 9 ∧ v.toNat % 256 / 16 = 8 ∧ v.toNat % 16 < 8 ∧ s.get FIRE_TAPER_CFG.lane0_en = 1) ∧
    (∃ (s : State) (v : BitVec 96), s.fire.shots.find? (fun x => decide (x.stage = .struck) && x.driver == v.toNat % 16 &&
      x.status.isNone) = none ∧ s.mode ≠ 9 ∧ v.toNat % 256 / 16 = 8 ∧ v.toNat % 16 < 8 ∧ s.get FIRE_TAPER_CFG.lane0_en = 1) ∧
    (∃ (s : State) (v : BitVec 96), s.mode = 9 ∧ v.toNat % 16 = 0 ∧ frameCrcOk (toLE 12 v.toNat) = true) ∧
    (∃ (s : State) (x : Shot), s.fire.shotAt .struck = some x ∧ s.fire.clears.head?.elim true (fun p => !modGe 64 x.time p.2.1) = true ∧
      x.status = none) ∧
    (∃ (s : State) (x : Shot) (l : List Byte), s.fire.shotAt .struck = some x ∧ x.status = some l ∧ s.fire.clears.head?.elim true (fun p
      => !modGe 64 x.time p.2.1) = true ∧ frameCrcOk l = false) ∧
    (∃ (s : State) (x : Shot) (l : List Byte), s.fire.shotAt .struck = some x ∧ x.status = some l ∧ s.fire.clears.head?.elim true (fun p
      => !modGe 64 x.time p.2.1) = true ∧ frameCrcOk l = true ∧ (tblByte l 1 ≠ x.seq ∨ (tblByte l 2).testBit 1 = true ∨ (tblByte l
      2).testBit 5 = true) ∧ (tblByte l 2).testBit 0 = false ∧ x.diagnostic = false) ∧
    (∃ (s : State) (x : Shot) (l : List Byte), s.fire.shotAt .struck = some x ∧ x.status = some l ∧ s.fire.clears.head?.elim true (fun p
      => !modGe 64 x.time p.2.1) = true ∧ frameCrcOk l = true ∧ tblByte l 1 = x.seq ∧ (tblByte l 2).testBit 1 = false ∧ (tblByte l
      2).testBit 5 = false ∧ (tblByte l 2).testBit 0 = false ∧ x.diagnostic = false) ∧
    (∃ (s : State) (q : Nat × Nat × Option (List Byte)) (r : List (Nat × Nat × Option (List Byte))), s.fire.clears = q :: r ∧
      (s.fire.shotAt .struck).elim true (fun x => modGe 64 x.time q.2.1) = true) ∧
    (∃ (s : State) (d : Fin 16), 3 ≤ s.fire.fails.getD d 0 ∧ (s.get FIRE_TAPER_STAT.drv_fault).testBit d = false) ∧
    (∃ (s : State) (d : Fin 16), s.fire.fails.getD d 0 < 3) ∧
    (∃ (s : State) (d : Fin 16), (s.get FIRE_TAPER_STAT.drv_fault).testBit d = true) ∧
    (∃ (s : State) (b : Fin 64) (i : Fin 48), s.diagM ≤ (s.fire.segCnt (b * 48 + i)).misses ∧ s.get (segState b i) < 2 ∧ s.get
      (FIRE_BANK_CFG.ref_tile b) < 6) ∧
    (∃ (s : State) (b : Fin 64) (i : Fin 48), ((s.fire.segCnt (b * 48 + i)).misses < s.diagM ∨ 6 ≤ s.get (FIRE_BANK_CFG.ref_tile b))) ∧
    (∃ (i : Fin 64), i.val < 48) :=
  ⟨⟨s30,
      { c := { cell := 4, idx := 0, bank := 1, segset := 0, mask := 5, current := 2, codeNs := 0, fine := 0, nominal := 0, buf := 0, cellEnd := false, first := false, syncOut := false, noRx := false, proof := false }, driver := 3, localBank := 2, time := 12345, stage := ShotStage.noticed, seq := 9, status := none, refSeen := none, counts := false },
      by decide +kernel⟩,
    ⟨s15,
      { c := { cell := 4, idx := 0, bank := 1, segset := 0, mask := 5, current := 2, codeNs := 0, fine := 0, nominal := 0, buf := 0, cellEnd := false, first := false, syncOut := false, noRx := false, proof := false }, driver := 3, localBank := 2, time := 12345, stage := ShotStage.noticed, seq := 9, status := none, refSeen := none, counts := false },
      by decide +kernel⟩,
    ⟨s16,
      { c := { cell := 4, idx := 0, bank := 1, segset := 0, mask := 5, current := 2, codeNs := 0, fine := 0, nominal := 0, buf := 0, cellEnd := false, first := false, syncOut := false, noRx := false, proof := false }, driver := 3, localBank := 2, time := 12345, stage := ShotStage.commanded, seq := 9, status := none, refSeen := none, counts := false },
      _, by decide +kernel, rfl⟩,
    ⟨s17, 0x9cae00000000000003000983#96,
      { c := { cell := 4, idx := 0, bank := 1, segset := 0, mask := 5, current := 2, codeNs := 0, fine := 0, nominal := 0, buf := 0, cellEnd := false, first := false, syncOut := false, noRx := false, proof := false }, driver := 3, localBank := 2, time := 12345, stage := ShotStage.struck, seq := 9, status := none, refSeen := none, counts := false },
      by decide +kernel⟩,
    ⟨s0, 0x9cae00000000000003000983#96, by decide +kernel⟩,
    ⟨s22, 0x531f00000000000003000980#96, by decide +kernel⟩,
    ⟨s17,
      { c := { cell := 4, idx := 0, bank := 1, segset := 0, mask := 5, current := 2, codeNs := 0, fine := 0, nominal := 0, buf := 0, cellEnd := false, first := false, syncOut := false, noRx := false, proof := false }, driver := 3, localBank := 2, time := 12345, stage := ShotStage.struck, seq := 9, status := none, refSeen := none, counts := false },
      by decide +kernel⟩,
    ⟨s21,
      { c := { cell := 4, idx := 0, bank := 1, segset := 0, mask := 5, current := 2, codeNs := 0, fine := 0, nominal := 0, buf := 0, cellEnd := false, first := false, syncOut := false, noRx := false, proof := false }, driver := 3, localBank := 2, time := 12345, stage := ShotStage.struck, seq := 9, status := some [0x83#8, 0x9#8, 0x0#8, 0x3#8, 0x1#8, 0x0#8, 0x0#8, 0x0#8, 0x0#8, 0x0#8, 0xae#8, 0x9c#8], refSeen := none, counts := false },
      [0x83#8, 0x9#8, 0x0#8, 0x3#8, 0x1#8, 0x0#8, 0x0#8, 0x0#8, 0x0#8, 0x0#8, 0xae#8, 0x9c#8], by decide +kernel⟩,
    ⟨s19,
      { c := { cell := 4, idx := 0, bank := 1, segset := 0, mask := 5, current := 2, codeNs := 0, fine := 0, nominal := 0, buf := 0, cellEnd := false, first := false, syncOut := false, noRx := false, proof := false }, driver := 3, localBank := 2, time := 12345, stage := ShotStage.struck, seq := 9, status := some [0x83#8, 0x9#8, 0x2#8, 0x3#8, 0x0#8, 0x0#8, 0x0#8, 0x0#8, 0x0#8, 0x0#8, 0x21#8, 0x3a#8], refSeen := none, counts := false },
      [0x83#8, 0x9#8, 0x2#8, 0x3#8, 0x0#8, 0x0#8, 0x0#8, 0x0#8, 0x0#8, 0x0#8, 0x21#8, 0x3a#8], by decide +kernel⟩,
    ⟨s18,
      { c := { cell := 4, idx := 0, bank := 1, segset := 0, mask := 5, current := 2, codeNs := 0, fine := 0, nominal := 0, buf := 0, cellEnd := false, first := false, syncOut := false, noRx := false, proof := false }, driver := 3, localBank := 2, time := 12345, stage := ShotStage.struck, seq := 9, status := some [0x83#8, 0x9#8, 0x0#8, 0x3#8, 0x0#8, 0x0#8, 0x0#8, 0x0#8, 0x0#8, 0x0#8, 0xae#8, 0x9c#8], refSeen := none, counts := false },
      [0x83#8, 0x9#8, 0x0#8, 0x3#8, 0x0#8, 0x0#8, 0x0#8, 0x0#8, 0x0#8, 0x0#8, 0xae#8, 0x9c#8], by decide +kernel⟩,
    ⟨s37, (3, 5, none), [], by decide +kernel⟩,
    ⟨s23, 0, by decide +kernel⟩,
    ⟨s0, 0, by decide +kernel⟩,
    ⟨s4, 3, by decide +kernel⟩,
    ⟨s25, 0, 0, by decide +kernel⟩,
    ⟨s0, 0, 0, by decide +kernel⟩,
    ⟨0, by decide +kernel⟩⟩

end W11

namespace W12

abbrev P := stP
def onT (s : State) (f : TileSt → TileSt) : State := { s with tiles := s.tiles.map f }
def onC (s : State) (c : Nat) (f : ChanSt → ChanSt) : State := onT s (fun x => x.setChan c (f (x.chan c)))
def fi (s : State) (f : FireSt → FireSt) : State := { s with fire := f s.fire }
def tab : List Host.Cell := memStore [] 0x20800 (List.replicate 192 33)
def allT (f : Nat → List (FRef × Nat)) : List (FRef × Nat) := (List.range 6).flatMap f
def base : State := { P rs ([(HUB_MODE_STAT.mode, 6), (TIME_NOW.time, 2 ^ 40), (FIRE_BANK_CFG.ref_tile 1, 3), (FIRE_BANK_CFG.ref_ch 1, 2), (FIRE_DIAG_REF.ref_window_ns, 20), (FIRE_DIAG_REF.tot_min, 3)] ++
  allT (fun t => [(TILE_GANG_STAT.locked t, 1), (TILE_GANG_CTL.gang_en t, 1), (TILE_CH_EN.en t 0, 0xffffffff), (TILE_CH_EN.en t 7, 0xffffffff), (TILE_TDC_CFG.health_en t, 1), (TILE_TDC_CFG.auto_sub t, 1), (TILE_THR_CH.lo_h t 5, 100), (TILE_THR_CH.hi_h t 5, 400), (TILE_THR_CH.lo_l t 5, 25), (TILE_THR_CH.hi_l t 5, 100), (TILE_GANG_STAT.locked t, 1)])) with fireTab := tab }
def sh (st : ShotStage) : Shot := { wShot with c := { wCommitted with mask := 5, current := 2, bank := 1, cell := 4, idx := 2 }, driver := 3, localBank := 2, time := 2^39 + 77, stage := st, seq := 9 }
def enOnC (s : State) : State := [0, 5, 255].foldl (fun s c => onC s c (fun x => { x with enHist := [(true, 2 ^ 39 - 2 ^ 37)] })) s
def adm : State := enOnC (fi base (fun f => { f with shots := [sh .admitted], cells := [{ wCellInfo with id := 4, planned := 9, map := List.replicate 192 33 }, { wCellInfo with id := 5 }] }))
def win : RxWin := ⟨1000, 4, 2, false, 0⟩
def evt : TdcEvent := ⟨3000, 400, false, false, []⟩
def busy (s : State) : State := onC s 5 (fun c => { c with wins := [win], buf0 := { HistBuf.init with cell := some 4, coarse := [(3, 7)] } })
def off (s : State) : State := { s with hub := { s.hub with isolated := [.tile 0, .tile 3] } }
def jd : State := busy (fi base (fun f => { f with shots := [{ sh .judged with time := 256000 }] }))
def flat : List (Nat × Nat) := (List.range 140).map (fun r => (r, (r + 1) * 65536 / 140 - r * 65536 / 140))
def flatRec : List Byte := (List.range 6).flatMap (fun _ => (List.range 160).flatMap (fun r => toLE 2 (if r < 140 then ((r + 1) * 65536 / 140 + r * 65536 / 140) / 2 else 0)))
def flatS : State := { onT base (fun x => { x with codes := (List.range 552).map (fun i => (i, flat)) }) with cal := { base.cal with loaded := ((List.range 6).flatMap (fun t => (List.range 552).map (fun i => 1024 * t + i))).map (fun i => { type := 1, index := i, bytes := List.replicate 16 0 ++ flatRec }) } }
def s0 : State := rs
def s1 : State := { base with cal := { base.cal with loaded := [⟨1, 10, []⟩, ⟨1, 11, []⟩] } }
def s2 : State := off base
def s3 : State := adm
def recs (s : State) : State := { s with cal := { s.cal with loaded := [⟨1, 0, []⟩, ⟨1, 1, []⟩, ⟨1, 10, []⟩, ⟨1, 11, []⟩] } }
def s6 : State := recs jd
def s10 : State := onC (busy base) 5 (fun c => { c with queue := [evt] })
def s12 : State := onT base (fun x => { x with refWins := [⟨2, 3, 1000, 4, false⟩] })
def s13 : State := onT (fi base (fun f => { f with shots := [{ sh .struck with time := 256000 }] })) (fun x => { x with refWins := [⟨2, 3, 1000, 4, true⟩] })
def s15 : State := onT base (fun x => { x with good := 64, bad := 3, cells := [wTileCell] })
def s18 : State := P (busy base) (allT (fun t => [(TILE_TDC_STAT.cdt_stale t, 1), (TILE_SPARE_MAP.valid t 0, 1), (TILE_SPARE_MAP.target t 0, 7)]))
def s20 : State := onC (busy (recs base)) 5 (fun c => { c with lastLead := some 1200 })
def s23 : State := onC (P base [(TIME_NOW.time, 200 * 256)]) 5 (fun c => { c with wins := [win], gainCells := [(3, true)], lowGain := true })
def s26 : State := onT (recs base) (fun x => { x with codes := (List.range 552).map (fun i => (i, [(3, 40000), (9, 25536)])) })
def s36 : State := onT (P base (allT (fun t => [(TILE_GANG_STAT.locked t, 0)]))) (fun x => { x with good := 64, coarseOff := 7 })
def s39 : State := P base (allT (fun t => [(TILE_TDC_FAIL.failed t 8, 0xfffff), (TILE_TDC_CFG.health_en t, 0), (TILE_GANG_CTL.gang_en t, 0)]))
def s41 : State := flatS

/-- Every form of `Obligations.TileFront` has a state and operands that meet its hypotheses together. -/
theorem witness_TileFront :
    (∃ (s : State) (x : Shot), s.tiles.length = 6 ∧ s.fire.shotAt .admitted = some x) ∧
    (∃ (s : State) (x : Shot), s.tiles.length = 6 ∧ s.fire.shotAt .judged = some x) ∧
    (∃ (s : State) (v : Word32), s.tiles.length = 6 ∧ v.toNat < 250) ∧
    (∃ (s : State) (k : Fin 6) (c : Fin 256) (cl : BitVec 49) (rl : Fin 160) (h : Word32) (e : TdcEvent), s.tiles.length = 6 ∧ s.eventOf
      k c h.toNat (fun x => (s.edgeStamp k c 0 cl.toNat rl x, 16383)) = e ∧ s.chanPowered k c = true ∧ s.tdcWorks k c = true ∧ fires
      (s.thrAt k c e.lead) h.toNat e.low false = true ∧ (s.chan k c).deadAt e.lead = false ∧ (s.chan k c).inWindow e = true ∧ (s.chan k
      c).queue.length < 16) ∧
    (∃ (s : State) (k : Fin 6) (c : Fin 256) (cl : BitVec 49) (ct : BitVec 49) (rl : Fin 160) (rt : Fin 160) (v : Word32) (h : Word32) (e
      : TdcEvent), s.tiles.length = 6 ∧ 400 ≤ v.toNat ∧ s.eventOf k c h.toNat (fun x => (s.edgeStamp k c 0 cl.toNat rl x, stampDiff
      (s.edgeStamp k c 1 ct.toNat rt x) (s.edgeStamp k c 0 cl.toNat rl x))) = e ∧ s.chanPowered k c = true ∧ s.tdcWorks k c = true ∧
      fires (s.thrAt k c e.lead) h.toNat e.low false = true ∧ (s.chan k c).deadAt e.lead = false ∧ (s.chan k c).inWindow e = true ∧
      (s.chan k c).queue.length < 16) ∧
    (∃ (s : State) (k : Fin 6) (c : Fin 260) (cl : BitVec 49) (ct : BitVec 49) (rl : Fin 160) (rt : Fin 160) (v : Word32) (h : Word32) (e
      : TdcEvent), s.tiles.length = 6 ∧ 400 ≤ v.toNat ∧ s.eventOf k c h.toNat (fun x => (s.edgeStamp k c 0 cl.toNat rl x, stampDiff
      (s.edgeStamp k c 1 ct.toNat rt x) (s.edgeStamp k c 0 cl.toNat rl x))) = e ∧ fires (s.thrAt k c e.lead) h.toNat e.low false = false) ∧
    (∃ (s : State) (k : Fin 6) (c : Fin 256) (cl : BitVec 49) (ct : BitVec 49) (rl : Fin 160) (rt : Fin 160) (v : Word32) (h : Word32) (e
      : TdcEvent), s.tiles.length = 6 ∧ 400 ≤ v.toNat ∧ s.eventOf k c h.toNat (fun x => (s.edgeStamp k c 0 cl.toNat rl x, stampDiff
      (s.edgeStamp k c 1 ct.toNat rt x) (s.edgeStamp k c 0 cl.toNat rl x))) = e ∧ s.chanPowered k c = true ∧ s.tdcWorks k c = true ∧
      fires (s.thrAt k c e.lead) h.toNat e.low false = true ∧ (s.chan k c).deadAt e.lead = true) ∧
    (∃ (s : State) (k : Fin 6) (c : Fin 260) (p : Nat × Nat) (g : Option (Nat × Bool)), s.tiles.length = 6 ∧ s.nextShotOn k c = some p ∧
      (s.chan k c).gainCells.find? (fun q => q.1 == p.2) = g) ∧
    (∃ (s : State) (k : Fin 6) (c : Fin 260), s.tiles.length = 6 ∧ s.nextShotOn k c = none) ∧
    (∃ (s : State) (k : Fin 6), s.tiles.length = 6 ∧ s.isOff (.tile k) = false) ∧
    (∃ (s : State) (k : Fin 6), s.tiles.length = 6 ∧ s.isOff (.tile k) = true) ∧
    (∃ (s : State) (k : Fin 6) (c : Fin 256) (e : TdcEvent) (q : List TdcEvent) (w : RxWin) (n : Nat) (x : TdcEvent), s.tiles.length = 6
      ∧ (s.chan k c).queue = e :: q ∧ (s.chan k c).wins = [w] ∧ (s.chan k c).bufOf w.cell = some n ∧ (s.chan k c).eventFor e w.cell = x ∧
      inRx w.s x.lead = true ∧ ((s.chan k c).buf n).rep.drop = 0 ∧ w.zoom = false ∧ e.sat = false ∧ s.hub.injected.all (fun p => p.1 !=
      W256Loc.tileSram.code) = true) ∧
    (∃ (s : State) (k : Fin 6) (c : Fin 256), s.tiles.length = 6 ∧ (s.chan k c).queue = []) ∧
    (∃ (s : State) (k : Fin 6) (c : Fin 4) (v : BitVec 14), s.tiles.length = 6 ∧ 4 * s.get FIRE_DIAG_REF.tot_min ≤ v.toNat ∧ s.tdcWorks k
      (256 + c) = true ∧ s.chanPowered k (256 + c) = true) ∧
    (∃ (s : State) (k : Fin 6) (c : Fin 4) (v : BitVec 14), s.tiles.length = 6 ∧ (v.toNat < 4 * s.get FIRE_DIAG_REF.tot_min ∨ s.tdcWorks
      k (256 + c) = false)) ∧
    (∃ (s : State) (k : Fin 6) (w : RefWin) (l : List RefWin), s.tiles.length = 6 ∧ (s.tile k).refWins = w :: l ∧ s.fire.shots.find? (fun
      y => y.driver == w.driver && stampOf y.time == w.s) = none) ∧
    (∃ (s : State) (k : Fin 6) (w : RefWin) (l : List RefWin) (y : Shot), s.tiles.length = 6 ∧ (s.tile k).refWins = w :: l ∧
      s.fire.shots.find? (fun y => y.driver == w.driver && stampOf y.time == w.s) = some y ∧ y.stage ≠ .judged) :=
  ⟨⟨s3,
      { c := { cell := 4, idx := 2, bank := 1, segset := 0, mask := 5, current := 2, codeNs := 0, fine := 0, nominal := 0, buf := 0, cellEnd := false, first := false, syncOut := false, noRx := false, proof := false }, driver := 3, localBank := 2, time := 549755813965, stage := ShotStage.admitted, seq := 9, status := none, refSeen := none, counts := false },
      by decide +kernel⟩,
    ⟨s6,
      { c := { cell := 4, idx := 2, bank := 1, segset := 0, mask := 5, current := 2, codeNs := 0, fine := 0, nominal := 0, buf := 0, cellEnd := false, first := false, syncOut := false, noRx := false, proof := false }, driver := 3, localBank := 2, time := 256000, stage := ShotStage.judged, seq := 9, status := none, refSeen := none, counts := false },
      by decide +kernel⟩,
    ⟨s0, 0xf9#32, by decide +kernel⟩,
    ⟨s6, 0, 5, 0xa#49, 77, 0x7530#32, { lead := 1280, tot := 16383, low := false, sat := false, tables := [(0, 1280, 16383)] },
      by decide +kernel⟩,
    ⟨s6, 0, 5, 0xa#49, 0x3#49, 77, 77, 0x190#32, 0x7530#32,
      { lead := 1280, tot := 16383, low := false, sat := false, tables := [(0, 1280, 16383)] }, by decide +kernel⟩,
    ⟨recs s0, 0, 0, 0x3#49, 0x3#49, 77, 77, 0x190#32, 0xf9#32, { lead := 384, tot := 0, low := false, sat := false, tables := [] },
      by decide +kernel⟩,
    ⟨s20, 0, 5, 0xa#49, 0x3#49, 77, 77, 0x190#32, 0x7530#32,
      { lead := 1280, tot := 16383, low := false, sat := false, tables := [(0, 1280, 16383)] }, by decide +kernel⟩,
    ⟨s23, 0, 5, (1000, 4), none, by decide +kernel⟩,
    ⟨s0, 0, 0, by decide +kernel⟩,
    ⟨s0, 0, by decide +kernel⟩,
    ⟨s2, 0, by decide +kernel⟩,
    ⟨s10, 0, 5, { lead := 3000, tot := 400, low := false, sat := false, tables := [] }, [],
      { s := 1000, cell := 4, idx := 2, zoom := false, kept := 0 }, 0,
      { lead := 3000, tot := 400, low := false, sat := false, tables := [] }, by decide +kernel⟩,
    ⟨s0, 0, 5, by decide +kernel⟩,
    ⟨s0, 0, 0, 0x3ed#14, by decide +kernel⟩,
    ⟨s0, 0, 0, 0x3#14, by decide +kernel⟩,
    ⟨s12, 0, { k := 2, driver := 3, s := 1000, cell := 4, seen := false }, [], by decide +kernel⟩,
    ⟨s13, 0, { k := 2, driver := 3, s := 1000, cell := 4, seen := true }, [],
      { c := { cell := 4, idx := 2, bank := 1, segset := 0, mask := 5, current := 2, codeNs := 0, fine := 0, nominal := 0, buf := 0, cellEnd := false, first := false, syncOut := false, noRx := false, proof := false }, driver := 3, localBank := 2, time := 256000, stage := ShotStage.struck, seq := 9, status := none, refSeen := none, counts := false },
      by decide +kernel⟩⟩

/-- Every form of `Obligations.TileTiming` has a state and operands that meet its hypotheses together. -/
theorem witness_TileTiming :
    (∃ (s : State) (k : Fin 6) (v : List (BitVec 16)) (x : Int), s.tiles.length = 6 ∧ tabWf (fun _ => ChanSt.init) (s.tile k).chans =
      true ∧ s.tileTemp k v = some x ∧ Nat.max 2 (s.get (TILE_TDC_CFG.cdt_delta k)) ≤ (x - sx 16 (s.get (TILE_TDC_STAT.cdt_temp
      k))).natAbs) ∧
    (∃ (s : State) (k : Fin 6) (v : List (BitVec 16)) (x : Int), s.tiles.length = 6 ∧ tabWf (fun _ => ChanSt.init) (s.tile k).chans =
      true ∧ s.tileTemp k v = some x ∧ (x - sx 16 (s.get (TILE_TDC_STAT.cdt_temp k))).natAbs < Nat.max 2 (s.get (TILE_TDC_CFG.cdt_delta
      k))) ∧
    (∃ (s : State) (k : Fin 6) (v : List (BitVec 16)), s.tiles.length = 6 ∧ tabWf (fun _ => ChanSt.init) (s.tile k).chans = true ∧
      s.tileTemp k v = none) ∧
    (∃ (s : State) (k : Fin 6), s.tiles.length = 6 ∧ tabWf (fun _ => ChanSt.init) (s.tile k).chans = true ∧ s.get
      (TILE_TDC_STAT.cdt_stale k) = 0) ∧
    (∃ (s : State) (k : Fin 6), s.tiles.length = 6 ∧ tabWf (fun _ => ChanSt.init) (s.tile k).chans = true ∧ s.get
      (TILE_TDC_STAT.cdt_stale k) = 1) ∧
    (∃ (s : State) (k : Fin 6) (n : Fin 276) (d : Fin 2) (w : BitVec 8) (l : List (Nat × Nat)), s.tiles.length = 6 ∧ tabWf (fun _ =>
      ChanSt.init) (s.tile k).chans = true ∧ tabGet (fun _ => []) (s.tile k).codes (2 * n + d) = l ∧ s.get (TILE_TDC_CFG.health_en k) = 1
      ∧ 65536 ≤ (l.map (fun p => p.2)).sum ∧ (centresOff (fun r => s.cdtCentre (1024 * k + 2 * n + d) r (sx 16 (s.get
      (TILE_TDC_STAT.cdt_temp k)))) l = true ∨ codeSpan l < 120 ∨ 160 < w.toNat) ∧ (n.val < 256 ∨ 272 ≤ n.val) ∧ s.tdcFailed k n = false) ∧
    (∃ (s : State) (k : Fin 6) (n : Fin 276) (d : Fin 2) (w : BitVec 8) (l : List (Nat × Nat)), s.tiles.length = 6 ∧ tabWf (fun _ =>
      ChanSt.init) (s.tile k).chans = true ∧ tabGet (fun _ => []) (s.tile k).codes (2 * n + d) = l ∧ s.get (TILE_TDC_CFG.health_en k) = 1
      ∧ 65536 ≤ (l.map (fun p => p.2)).sum ∧ centresOff (fun r => s.cdtCentre (1024 * k + 2 * n + d) r (sx 16 (s.get
      (TILE_TDC_STAT.cdt_temp k)))) l = false ∧ 120 ≤ codeSpan l ∧ w.toNat ≤ 160) ∧
    (∃ (s : State) (k : Fin 6) (n : Fin 276) (d : Fin 2), s.tiles.length = 6 ∧ tabWf (fun _ => ChanSt.init) (s.tile k).chans = true ∧
      (s.get (TILE_TDC_CFG.health_en k) = 0 ∨ ((tabGet (fun _ => []) (s.tile k).codes (2 * n + d)).map (fun p => p.2)).sum < 65536)) ∧
    (∃ (s : State) (k : Fin 6), s.tiles.length = 6 ∧ tabWf (fun _ => ChanSt.init) (s.tile k).chans = true ∧ s.get (TILE_TDC_CFG.health_en
      k) = 0) ∧
    (∃ (s : State) (k : Fin 6), s.tiles.length = 6 ∧ tabWf (fun _ => ChanSt.init) (s.tile k).chans = true ∧ s.isOff (.tile k) = false) ∧
    (∃ (s : State) (k : Fin 6) (j : Fin 16) (g : BitVec 9), s.tiles.length = 6 ∧ tabWf (fun _ => ChanSt.init) (s.tile k).chans = true ∧
      s.isOff (.tile k) = false ∧ g.toNat ≤ 259 ∧ s.tdcFailed k (256 + j) = false ∧ (∀ n : Fin 16, n ≠ j → s.get (TILE_SPARE_MAP.valid k
      n) = 0 ∨ s.get (TILE_SPARE_MAP.target k n) ≠ g.toNat)) ∧
    (∃ (s : State) (k : Fin 6) (j : Fin 16) (g : BitVec 9), s.tiles.length = 6 ∧ tabWf (fun _ => ChanSt.init) (s.tile k).chans = true ∧
      s.isOff (.tile k) = false ∧ (259 < g.toNat ∨ s.tdcFailed k (256 + j) = true)) ∧
    (∃ (s : State) (k : Fin 6) (e : BitVec 9) (x : Int), s.tiles.length = 6 ∧ tabWf (fun _ => ChanSt.init) (s.tile k).chans = true ∧
      e.toInt + (s.tile k).phase = x ∧ s.get (TILE_GANG_CTL.gang_en k) = 1) ∧
    (∃ (s : State) (k : Fin 6), s.tiles.length = 6 ∧ tabWf (fun _ => ChanSt.init) (s.tile k).chans = true ∧ s.get (TILE_GANG_CTL.gang_en
      k) = 0) ∧
    (∃ (s : State) (k : Fin 6), s.tiles.length = 6 ∧ tabWf (fun _ => ChanSt.init) (s.tile k).chans = true ∧ 64 ≤ (s.tile k).good ∧ s.get
      (TILE_GANG_CTL.gang_en k) = 1 ∧ s.get (TILE_GANG_STAT.locked k) = 0) ∧
    (∃ (s : State) (k : Fin 6), s.tiles.length = 6 ∧ tabWf (fun _ => ChanSt.init) (s.tile k).chans = true ∧ ((s.tile k).good < 64 ∨ s.get
      (TILE_GANG_STAT.locked k) = 1)) ∧
    (∃ (s : State) (k : Fin 6), s.tiles.length = 6 ∧ tabWf (fun _ => ChanSt.init) (s.tile k).chans = true ∧ s.get (TILE_GANG_STAT.locked
      k) = 1 ∧ 3 ≤ (s.tile k).bad) ∧
    (∃ (s : State) (k : Fin 6), s.tiles.length = 6 ∧ tabWf (fun _ => ChanSt.init) (s.tile k).chans = true ∧ (s.tile k).bad < 3) :=
  ⟨⟨s0, 0, [0x12c#16, 0x136#16, 0x12c#16, 0x140#16], 305, by decide +kernel⟩,
    ⟨s0, 0, [0x5#16], 5, by decide +kernel⟩,
    ⟨s0, 0, [], by decide +kernel⟩,
    ⟨s0, 0, by decide +kernel⟩,
    ⟨s18, 0, by decide +kernel⟩,
    ⟨s26, 0, 0, 0, 0x64#8, [(3, 40000), (9, 25536)], by decide +kernel⟩,
    ⟨s41, 0, 0, 0, 0x64#8, [(0, 468), (1, 468), (2, 468), (3, 468), (4, 468), (5, 468), (6, 468), (7, 468), (8, 469), (9, 468), (10,
      468), (11, 468), (12, 468), (13, 468), (14, 468), (15, 468), (16, 468), (17, 469), (18, 468), (19, 468), (20, 468), (21, 468), (22,
      468), (23, 468), (24, 468), (25, 468), (26, 469), (27, 468), (28, 468), (29, 468), (30, 468), (31, 468), (32, 468), (33, 468), (34,
      469), (35, 468), (36, 468), (37, 468), (38, 468), (39, 468), (40, 468), (41, 468), (42, 468), (43, 469), (44, 468), (45, 468), (46,
      468), (47, 468), (48, 468), (49, 468), (50, 468), (51, 468), (52, 469), (53, 468), (54, 468), (55, 468), (56, 468), (57, 468), (58,
      468), (59, 468), (60, 468), (61, 469), (62, 468), (63, 468), (64, 468), (65, 468), (66, 468), (67, 468), (68, 468), (69, 469), (70,
      468), (71, 468), (72, 468), (73, 468), (74, 468), (75, 468), (76, 468), (77, 468), (78, 469), (79, 468), (80, 468), (81, 468), (82,
      468), (83, 468), (84, 468), (85, 468), (86, 468), (87, 469), (88, 468), (89, 468), (90, 468), (91, 468), (92, 468), (93, 468), (94,
      468), (95, 468), (96, 469), (97, 468), (98, 468), (99, 468), (100, 468), (101, 468), (102, 468), (103, 468), (104, 469), (105,
      468), (106, 468), (107, 468), (108, 468), (109, 468), (110, 468), (111, 468), (112, 468), (113, 469), (114, 468), (115, 468), (116,
      468), (117, 468), (118, 468), (119, 468), (120, 468), (121, 468), (122, 469), (123, 468), (124, 468), (125, 468), (126, 468), (127,
      468), (128, 468), (129, 468), (130, 468), (131, 469), (132, 468), (133, 468), (134, 468), (135, 468), (136, 468), (137, 468), (138,
      468), (139, 469)], by decide +kernel⟩,
    ⟨s0, 0, 0, 0, by decide +kernel⟩,
    ⟨s39, 0, by decide +kernel⟩,
    ⟨s0, 0, by decide +kernel⟩,
    ⟨s0, 0, 0, 0x0#9, by decide +kernel⟩,
    ⟨s0, 0, 0, 0x104#9, by decide +kernel⟩,
    ⟨s0, 0, 0x0#9, 0, by decide +kernel⟩,
    ⟨s39, 0, by decide +kernel⟩,
    ⟨s36, 0, by decide +kernel⟩,
    ⟨s0, 0, by decide +kernel⟩,
    ⟨s15, 0, by decide +kernel⟩,
    ⟨s0, 0, by decide +kernel⟩⟩

/-- Every form of `Obligations.EventOutsideWindowsCounted` has a state and operands that meet its hypotheses together. -/
theorem witness_EventOutsideWindowsCounted :
    (∃ (s : State) (k : Fin 6) (c : Fin 256) (cl : BitVec 49) (ct : BitVec 49) (rl : Fin 160) (rt : Fin 160) (v : Word32) (h : Word32) (e
      : TdcEvent), s.tiles.length = 6 ∧ 400 ≤ v.toNat ∧ s.eventOf k c h.toNat (fun x => (s.edgeStamp k c 0 cl.toNat rl x, stampDiff
      (s.edgeStamp k c 1 ct.toNat rt x) (s.edgeStamp k c 0 cl.toNat rl x))) = e ∧ s.chanPowered k c = true ∧ s.tdcWorks k c = true ∧
      fires (s.thrAt k c e.lead) h.toNat e.low false = true ∧ (s.chan k c).deadAt e.lead = false ∧ (s.chan k c).inWindow e = false) :=
  ⟨s1, 0, 5, 0x3#49, 0x3#49, 77, 77, 0x190#32, 0x7530#32, { lead := 384, tot := 0, low := false, sat := false, tables := [] },
    by decide +kernel⟩

end W12

namespace W13

abbrev P := stP
def onT (s : State) (f : TileSt → TileSt) : State := { s with tiles := s.tiles.map f }
def onC (s : State) (c : Nat) (f : ChanSt → ChanSt) : State := onT s (fun x => x.setChan c (f (x.chan c)))
def fi (s : State) (f : FireSt → FireSt) : State := { s with fire := f s.fire }
def hi (s : State) (f : HistSt → HistSt) : State := { s with hist := f s.hist }
def ec (s : State) (f : EchoSt → EchoSt) : State := { s with echo := f s.echo }
def tab : List Host.Cell := memStore [] 0x20800 (List.replicate 192 33)
def allT (f : Nat → List (FRef × Nat)) : List (FRef × Nat) := (List.range 6).flatMap f
def base : State := { P rs ([(HUB_MODE_STAT.mode, 6), (TIME_NOW.time, 2 ^ 40), (HIST_ZOOM_CFG.k, 3), (HIST_ZOOM_CFG.min_counts, 2), (HIST_ZOOM_CFG.max_win, 4), (ECHO_PRIO.prio, 1), (HIST_TAP_SLOTS.slots, 5), (HIST_TAP_BASE.base, 1)] ++
  allT (fun t => [(TILE_CH_EN.en t 0, 0xffffffff), (TILE_HIST_STAT.cell_seq t, 65535)])) with fireTab := tab }
def bf (sl : Bool) : HistBuf := { HistBuf.init with cell := some 4, isSealed := sl, coarse := [(3, 7), (4, 50), (100, 90)], rep := { RepCnt.init with used := 9 } }
def cl : CellInfo := { wCellInfo with id := 4, planned := 3, seen := 3, times := [5000, 7000], sealedBy := [], map := List.replicate 192 33, entryS := [5000, 7000], lastEntry := 5 }
def tc : TileCell := { wTileCell with id := 4, zoomOn := true, box := 4, planned := 3 }
def cellS : State := onC (onC (fi (onT base (fun x => { x with cells := [tc] })) (fun f => { f with cells := [cl, { cl with id := 5, bank := 63 }] })) 5 (fun c => { c with buf0 := bf false, wins := [⟨10, 4, 0, false, 0⟩], queue := [⟨3000, 5, false, true, []⟩] })) 255 (fun c => { c with buf1 := bf false })
def sm : Summary := { wSummary with chan := 5, cell := 4, box := 4, total := 200, cands := [(100, 50), (2000, 90)], sent := true, link := 2, shots := 4 }
def meta' : CellMeta := { wCellMeta with id := 4, planned := 9, fired := 9, tMean := 77, bank := 0 }
def rec (t drop seq : Nat) : ChanRec := { wChanRec with tile := t, chan := 5, seq := seq, cell := meta', rep := { RepCnt.init with drop := drop, used := 8, total := 147 }, coarse := if drop = 0 then [(3, 7), (4, 50), (100, 90)] else [], last := true }
def off (s : State) : State := { s with hub := { s.hub with isolated := [.tile 0, .tile 3] } }
def lk (n : Nat) (d : Bool) (s : State) : State := { s with hub := { s.hub with links := s.hub.links.map (fun l => { l with credits := [16, 16, n, 8], down := d }) } }
def outq (d : Nat) : State := onC (onT base (fun x => { x with outq := [rec 0 d 1, { rec 0 d 2 with chan := 7 }] })) 5 (fun c => { c with buf0 := bf true })
def noTag : List (FRef × Nat) := [(HUB_TAG_POOL.floor 1, 0), (HUB_TAG_POOL.ceiling 1, 0)]
def s0 : State := rs
def s1 : State := P (ec base (fun e => { e with out := [(3, [[1], [2]]), (4, [])] })) noTag
def s2 : State := hi (P base ([(HIST_TAP_CTL.enable, 1), (HIST_TAP_HEAD.index, 4), (HIST_TAP_STAT.level, 2)] ++ noTag)) (fun h => { h with store := [rec 0 0 1, { rec 1 0 2 with extracted := true }] })
def s5 : State := cellS
def s6 : State := off cellS
def s7 : State := onT base (fun x => { x with sums := [{ sm with sent := false }, sm] })
def s8 : State := lk 2 false (outq 0)
def s11 : State := onT cellS (fun x => { x with sums := [{ sm with answer := some [7] }, sm] })
def s12 : State := outq 0
def s13 : State := outq 5
def s14 : State := onC base 5 (fun c => { c with buf0 := bf true })
def s15 : State := onT (onC base 5 (fun c => { c with buf0 := bf true })) (fun x => { x with marked := [10368 * 3 + 190 + 3], repaired := [10368 * 3 + 190 + 2] })
def s16 : State := hi base (fun h => { h with transit := [(1, rec 3 0 7), (0, rec 0 0 8)], nextSeq := List.replicate 6 (some 7) })
def s18 : State := hi base (fun h => { h with transit := [(1, rec 3 0 7), (0, rec 0 0 8)], nextSeq := List.replicate 6 (some 3), store := List.replicate 1000 (rec 0 0 1) })
def s19 : State := P base [(HIST_TAP_CTL.enable, 1), (HIST_TAP_SEL.enable 1, 1), (HIST_TAP_SEL.channel 1, 7), (HIST_TAP_HEAD.index, 4), (HIST_TAP_TAIL.index, 2), (HIST_TAP_STAT.level, 2)]
def s21 : State := hi (P base [(HIST_TAP_CTL.enable, 1), (HIST_TAP_HEAD.index, 4), (HIST_TAP_STAT.level, 4)]) (fun h => { h with store := [{ rec 0 3 1 with tapped := true }, { rec 1 0 2 with extracted := true }] })
def s24 : State := ec base (fun e => { e with out := [(3, [[1], [2]]), (4, [])] })
def s25 : State := P (ec base (fun e => { e with out := [(3, [List.replicate 32 1, List.replicate 32 2]), (4, [])] })) [(RING_PR_CFG.enable 3, 1), (RING_PR_CFG.size_log2 3, 10), (RING_PR_QUOTA.quota 3, 900)]
def s26 : State := P (ec base (fun e => { e with foreign := [(1, 2, 3)], runOn := 4, hold := 1 })) [(ECHO_IF_CFG.if_cells, 1), (ECHO_IF_CFG.if_frames, 5), (ECHO_IF_CFG.auto_rekey, 1), (ECHO_IF_CFG2.rekey_hold, 9)]
def s27 : State := P (ec base (fun e => { e with foreign := [(1, 2, 3)], runOff := 4 })) [(ECHO_IF_CFG.if_cells, 5), (ECHO_IF_CFG2.clear_frames, 5), (ECHO_IF_STAT.active, 1), (ECHO_LOAD.util, 3)]
def s33 : State := hi (P base [(HIST_TAP_CTL.enable, 1), (HIST_TAP_HEAD.index, 4), (HIST_TAP_STAT.level, 2), (MEM_STAT.mem_active, 1), (MEM_EXTENT.extent, 2 ^ 20)]) (fun h => { h with store := [rec 0 0 1, { rec 1 0 2 with extracted := true }] })
def s35 : State := P cellS (allT (fun t => [(TILE_CH_EN.en t 0, 0)]))

/-- Every form of `Obligations.Histograms` has a state and operands that meet its hypotheses together. -/
theorem witness_Histograms :
    (∃ (s : State) (k : Fin 6) (v : ScanWord) (y : TileCell), s.tiles.length = 6 ∧ (s.tile k).cells.find? (fun y => y.zoomOn &&
      !y.snapped && s.fire.cells.any (fun c => c.id == y.id && c.bank == v.bank.val)) = some y) ∧
    (∃ (s : State) (k : Fin 6) (j : Fin 2) (x : JexLink) (y : Summary), s.tiles.length = 6 ∧ s.hub.links[2 * k.val + j.val]? = some x ∧
      (s.tile k).sums.find? (fun y => !y.sent) = some y ∧ 3 ≤ x.credits.getD 2 0 ∧ x.down = false) ∧
    (∃ (s : State) (k : Fin 6), s.tiles.length = 6 ∧ (s.tile k).sums.find? (fun y => !y.sent) = none) ∧
    (∃ (s : State) (k : Fin 6) (j : Fin 2) (x : JexLink), s.tiles.length = 6 ∧ s.hub.links[2 * k.val + j.val]? = some x ∧ (x.credits.getD
      2 0 < 3 ∨ x.down = true)) ∧
    (∃ (s : State) (k : Fin 6) (y : Summary), s.tiles.length = 6 ∧ (s.tile k).sums.find? (fun y => y.sent && y.answer.isNone) = some y) ∧
    (∃ (s : State) (k : Fin 6) (c : Fin 256) (y : Summary) (w : List Nat) (n : Nat), s.tiles.length = 6 ∧ (s.tile k).sums.find? (fun y =>
      y.chan == c.val && y.answer.isSome) = some y ∧ y.answer = some w ∧ (s.chan k c).bufOf y.cell = some n ∧ w ≠ []) ∧
    (∃ (s : State) (k : Fin 6) (b : Fin 64) (x : CellInfo), s.tiles.length = 6 ∧ s.fire.cells.find? (fun c => c.bank == b.val &&
      !c.sealedBy.contains k.val && decide (c.planned ≤ c.seen)) = some x ∧ s.tileOff k = false ∧ s.cellChans k x ≠ []) ∧
    (∃ (s : State) (k : Fin 6) (b : Fin 64) (x : CellInfo), s.tiles.length = 6 ∧ s.fire.cells.find? (fun c => c.bank == b.val &&
      !c.sealedBy.contains k.val && decide (c.planned ≤ c.seen)) = some x ∧ s.tileOff k = false ∧ s.cellChans k x = []) ∧
    (∃ (s : State) (k : Fin 6) (b : Fin 64) (x : CellInfo), s.tiles.length = 6 ∧ s.fire.cells.find? (fun c => c.bank == b.val &&
      !c.sealedBy.contains k.val && decide (c.planned ≤ c.seen)) = some x ∧ s.tileOff k = true) ∧
    (∃ (s : State) (k : Fin 6) (j : Fin 2) (x : JexLink) (r : ChanRec) (q : List ChanRec), s.tiles.length = 6 ∧ s.hub.links[2 * k.val +
      j.val]? = some x ∧ (s.tile k).outq = r :: q ∧ 9 ≤ x.credits.getD 2 0 ∧ x.down = false ∧ (s.tile k).sums.any (fun y => !y.sent) =
      false ∧ r.rep.drop ≠ 0) ∧
    (∃ (s : State) (k : Fin 6) (j : Fin 2) (x : JexLink) (r : ChanRec) (q : List ChanRec) (n : Nat), s.tiles.length = 6 ∧ s.hub.links[2 *
      k.val + j.val]? = some x ∧ (s.tile k).outq = r :: q ∧ 9 ≤ x.credits.getD 2 0 ∧ x.down = false ∧ (s.tile k).sums.any (fun y =>
      !y.sent) = false ∧ r.rep.drop = 0 ∧ s.hub.injected = [] ∧ q.all (fun v => v.chan != r.chan || v.cell.id != r.cell.id) = true ∧
      (s.chan k r.chan).sealedBuf r.cell.id = some n ∧ r.chan < 256) ∧
    (∃ (s : State) (k : Fin 6) (j : Fin 2) (x : JexLink) (r : ChanRec) (q : List ChanRec) (n : Nat) (d : ChanRec), s.tiles.length = 6 ∧
      s.hub.links[2 * k.val + j.val]? = some x ∧ (s.tile k).outq = r :: q ∧ 9 ≤ x.credits.getD 2 0 ∧ x.down = false ∧ (s.tile k).sums.any
      (fun y => !y.sent) = false ∧ r.rep.drop = 0 ∧ s.hub.injected = [] ∧ r.chan < 256 ∧ (s.chan k r.chan).sealedBuf r.cell.id = some n ∧
      r.fill ((s.chan k r.chan).buf n) = d) ∧
    (∃ (s : State) (k : Fin 6) (j : Fin 2) (x : JexLink), s.tiles.length = 6 ∧ s.hub.links[2 * k.val + j.val]? = some x ∧ (x.credits.getD
      2 0 < 9 ∨ x.down = true ∨ (s.tile k).sums.any (fun y => !y.sent) = true ∨ (s.tile k).outq = [])) ∧
    (∃ (s : State) (k : Fin 6) (c : Fin 256) (n : Fin 2), s.tiles.length = 6 ∧ ((s.chan k c).buf n).isSealed = true ∧ ((s.chan k
      c).nextBuf = n.val ∨ ((s.chan k c).nextBuf = 1 - n.val ∧ ((s.chan k c).buf (1 - n)).isSealed = false)) ∧ (s.tile k).outq = [] ∧
      (s.tile k).marked = []) ∧
    (∃ (s : State) (k : Fin 6) (c : Fin 256) (n : Fin 2) (r : Nat), s.tiles.length = 6 ∧ ((s.chan k c).buf n).isSealed = true ∧ ((s.chan
      k c).nextBuf = n.val ∨ ((s.chan k c).nextBuf = 1 - n.val ∧ ((s.chan k c).buf (1 - n)).isSealed = false)) ∧ (s.tile k).outq = [] ∧
      (s.tile k).marked = [r] ∧ 10368 * k.val + 19 * (2 * c.val + n.val) ≤ r ∧ r < 10368 * k.val + 19 * (2 * c.val + n.val) + 19 ∧
      (s.tile k).bankRepairs (rowBank r) < 8) ∧
    (∃ (s : State) (k : Fin 6) (x : Nat × ChanRec) (r : ChanRec), s.tiles.length = 6 ∧ s.hist.transit.find? (fun p => p.2.tile == k.val)
      = some x ∧ x.2 = r ∧ s.hist.used + r.size ≤ 8388608 ∧ s.hub.injected = [] ∧ s.get HUB_W256_CTL.inject_arm = 0 ∧ s.get
      HIST_TAP_CTL.enable = 0 ∧ s.hist.nextSeq.getD k none = some r.seq) ∧
    (∃ (s : State) (k : Fin 6) (x : Nat × ChanRec) (r : ChanRec) (q : Nat), s.tiles.length = 6 ∧ s.hist.transit.find? (fun p => p.2.tile
      == k.val) = some x ∧ x.2 = r ∧ s.hist.used + r.size ≤ 8388608 ∧ s.hist.nextSeq.getD k none = some q ∧ q ≠ r.seq) ∧
    (∃ (s : State) (k : Fin 6) (x : Nat × ChanRec), s.tiles.length = 6 ∧ s.hist.transit.find? (fun p => p.2.tile == k.val) = some x ∧
      8388608 < s.hist.used + x.2.size) ∧
    (∃ (s : State) (k : Fin 6), s.tiles.length = 6 ∧ s.isOff (.tile k) = false) :=
  ⟨⟨s5, 0, { bank := 0, chan := 0, word := 3, ecc := Ecc.bad 0x5#16 },
      { id := 4, planned := 3, nc := 0, zoomOn := true, box := 4, stampsEn := false, snapped := false, counted := false, lateRaised := false, barred := false, drop := 0 },
      by decide +kernel⟩,
    ⟨s7, 0, 0,
      { down := false, failed := 0, replay := false, accepted := 0, credits := [16, 16, 64, 8], rx := [], next := Replayed.asUsual, sent := [] },
      { chan := 5, cell := 4, seq := 0, shots := 4, box := 4, total := 200, cands := [(100, 50), (2000, 90)], sent := false, link := 2, answer := none },
      by decide +kernel⟩,
    ⟨s0, 0, by decide +kernel⟩,
    ⟨s8, 0, 0,
      { down := false, failed := 0, replay := false, accepted := 0, credits := [16, 16, 2, 8], rx := [], next := Replayed.asUsual, sent := [] },
      by decide +kernel⟩,
    ⟨s7, 0,
      { chan := 5, cell := 4, seq := 0, shots := 4, box := 4, total := 200, cands := [(100, 50), (2000, 90)], sent := true, link := 2, answer := none },
      by decide +kernel⟩,
    ⟨s11, 0, 5,
      { chan := 5, cell := 4, seq := 0, shots := 4, box := 4, total := 200, cands := [(100, 50), (2000, 90)], sent := true, link := 2, answer := some [7] },
      [7], 0, by decide +kernel⟩,
    ⟨s5, 0, 0,
      { id := 4, bank := 0, segset := 0, map := List.replicate 192 0x21#8, planned := 3, firstEntry := 0, epoch := 0, committed := 0, seen := 3, times := [5000, 7000], firstS := 0, suppressSeen := false, sealedBy := [], span := 0, nomLast := 0, dSum := 0, dMin := 0, dMax := 0, az := none, entryS := [5000, 7000], lastEntry := 5, frame := 0, cold := none },
      by decide +kernel⟩,
    ⟨s35, 0, 0,
      { id := 4, bank := 0, segset := 0, map := List.replicate 192 0x21#8, planned := 3, firstEntry := 0, epoch := 0, committed := 0, seen := 3, times := [5000, 7000], firstS := 0, suppressSeen := false, sealedBy := [], span := 0, nomLast := 0, dSum := 0, dMin := 0, dMax := 0, az := none, entryS := [5000, 7000], lastEntry := 5, frame := 0, cold := none },
      by decide +kernel⟩,
    ⟨s6, 0, 0,
      { id := 4, bank := 0, segset := 0, map := List.replicate 192 0x21#8, planned := 3, firstEntry := 0, epoch := 0, committed := 0, seen := 3, times := [5000, 7000], firstS := 0, suppressSeen := false, sealedBy := [], span := 0, nomLast := 0, dSum := 0, dMin := 0, dMax := 0, az := none, entryS := [5000, 7000], lastEntry := 5, frame := 0, cold := none },
      by decide +kernel⟩,
    ⟨s13, 0, 0,
      { down := false, failed := 0, replay := false, accepted := 0, credits := [16, 16, 64, 8], rx := [], next := Replayed.asUsual, sent := [] },
      { tile := 0, chan := 5, seq := 1, sealedAt := 0, cell := { id := 4, bank := 0, segset := 0, firstEntry := 0, epoch := 0, planned := 9, fired := 9, tFirst := 0, azimuth := 0, azModel := false, azFree := false, tMean := 77, notWarm := false, span := 0, dSum := 0, dMin := 0, dMax := 0, frame := 0 }, nc := 0, zoomOff := false, rep := { used := 8, skip := 0, excess := 0, stampLost := 0, low := 0, sat := 0, qLost := 0, deadLost := 0, satBins := 0, total := 147, zoomFirst := none, fineSat := false, stampFull := false, spare := false, stale := false, corrected := false, late := false, drop := 5, kept := 0 }, wins := [], coarse := [], fine := [], stamps := [], last := true, raised := false, tapped := false, extracted := false, made := false },
      [{ tile := 0, chan := 7, seq := 2, sealedAt := 0, cell := { id := 4, bank := 0, segset := 0, firstEntry := 0, epoch := 0, planned := 9, fired := 9, tFirst := 0, azimuth := 0, azModel := false, azFree := false, tMean := 77, notWarm := false, span := 0, dSum := 0, dMin := 0, dMax := 0, frame := 0 }, nc := 0, zoomOff := false, rep := { used := 8, skip := 0, excess := 0, stampLost := 0, low := 0, sat := 0, qLost := 0, deadLost := 0, satBins := 0, total := 147, zoomFirst := none, fineSat := false, stampFull := false, spare := false, stale := false, corrected := false, late := false, drop := 5, kept := 0 }, wins := [], coarse := [], fine := [], stamps := [], last := true, raised := false, tapped := false, extracted := false, made := false }],
      by decide +kernel⟩,
    ⟨s12, 0, 0,
      { down := false, failed := 0, replay := false, accepted := 0, credits := [16, 16, 64, 8], rx := [], next := Replayed.asUsual, sent := [] },
      { tile := 0, chan := 5, seq := 1, sealedAt := 0, cell := { id := 4, bank := 0, segset := 0, firstEntry := 0, epoch := 0, planned := 9, fired := 9, tFirst := 0, azimuth := 0, azModel := false, azFree := false, tMean := 77, notWarm := false, span := 0, dSum := 0, dMin := 0, dMax := 0, frame := 0 }, nc := 0, zoomOff := false, rep := { used := 8, skip := 0, excess := 0, stampLost := 0, low := 0, sat := 0, qLost := 0, deadLost := 0, satBins := 0, total := 147, zoomFirst := none, fineSat := false, stampFull := false, spare := false, stale := false, corrected := false, late := false, drop := 0, kept := 0 }, wins := [], coarse := [(3, 7), (4, 50), (100, 90)], fine := [], stamps := [], last := true, raised := false, tapped := false, extracted := false, made := false },
      [{ tile := 0, chan := 7, seq := 2, sealedAt := 0, cell := { id := 4, bank := 0, segset := 0, firstEntry := 0, epoch := 0, planned := 9, fired := 9, tFirst := 0, azimuth := 0, azModel := false, azFree := false, tMean := 77, notWarm := false, span := 0, dSum := 0, dMin := 0, dMax := 0, frame := 0 }, nc := 0, zoomOff := false, rep := { used := 8, skip := 0, excess := 0, stampLost := 0, low := 0, sat := 0, qLost := 0, deadLost := 0, satBins := 0, total := 147, zoomFirst := none, fineSat := false, stampFull := false, spare := false, stale := false, corrected := false, late := false, drop := 0, kept := 0 }, wins := [], coarse := [(3, 7), (4, 50), (100, 90)], fine := [], stamps := [], last := true, raised := false, tapped := false, extracted := false, made := false }],
      0, by decide +kernel⟩,
    ⟨s12, 0, 0,
      { down := false, failed := 0, replay := false, accepted := 0, credits := [16, 16, 64, 8], rx := [], next := Replayed.asUsual, sent := [] },
      { tile := 0, chan := 5, seq := 1, sealedAt := 0, cell := { id := 4, bank := 0, segset := 0, firstEntry := 0, epoch := 0, planned := 9, fired := 9, tFirst := 0, azimuth := 0, azModel := false, azFree := false, tMean := 77, notWarm := false, span := 0, dSum := 0, dMin := 0, dMax := 0, frame := 0 }, nc := 0, zoomOff := false, rep := { used := 8, skip := 0, excess := 0, stampLost := 0, low := 0, sat := 0, qLost := 0, deadLost := 0, satBins := 0, total := 147, zoomFirst := none, fineSat := false, stampFull := false, spare := false, stale := false, corrected := false, late := false, drop := 0, kept := 0 }, wins := [], coarse := [(3, 7), (4, 50), (100, 90)], fine := [], stamps := [], last := true, raised := false, tapped := false, extracted := false, made := false },
      [{ tile := 0, chan := 7, seq := 2, sealedAt := 0, cell := { id := 4, bank := 0, segset := 0, firstEntry := 0, epoch := 0, planned := 9, fired := 9, tFirst := 0, azimuth := 0, azModel := false, azFree := false, tMean := 77, notWarm := false, span := 0, dSum := 0, dMin := 0, dMax := 0, frame := 0 }, nc := 0, zoomOff := false, rep := { used := 8, skip := 0, excess := 0, stampLost := 0, low := 0, sat := 0, qLost := 0, deadLost := 0, satBins := 0, total := 147, zoomFirst := none, fineSat := false, stampFull := false, spare := false, stale := false, corrected := false, late := false, drop := 0, kept := 0 }, wins := [], coarse := [(3, 7), (4, 50), (100, 90)], fine := [], stamps := [], last := true, raised := false, tapped := false, extracted := false, made := false }],
      0,
      { tile := 0, chan := 5, seq := 1, sealedAt := 0, cell := { id := 4, bank := 0, segset := 0, firstEntry := 0, epoch := 0, planned := 9, fired := 9, tFirst := 0, azimuth := 0, azModel := false, azFree := false, tMean := 77, notWarm := false, span := 0, dSum := 0, dMin := 0, dMax := 0, frame := 0 }, nc := 0, zoomOff := false, rep := { used := 8, skip := 0, excess := 0, stampLost := 0, low := 0, sat := 0, qLost := 0, deadLost := 0, satBins := 0, total := 147, zoomFirst := none, fineSat := false, stampFull := false, spare := false, stale := false, corrected := false, late := false, drop := 0, kept := 0 }, wins := [], coarse := [(3, 7), (4, 50), (100, 90)], fine := [], stamps := [], last := true, raised := false, tapped := false, extracted := false, made := false },
      by decide +kernel⟩,
    ⟨s0, 0, 0,
      { down := false, failed := 0, replay := false, accepted := 0, credits := [16, 16, 64, 8], rx := [], next := Replayed.asUsual, sent := [] },
      by decide +kernel⟩,
    ⟨s14, 0, 5, 0, by decide +kernel⟩,
    ⟨s15, 3, 5, 0, 31297, by decide +kernel⟩,
    ⟨s16, 3, (1,
      { tile := 3, chan := 5, seq := 7, sealedAt := 0, cell := { id := 4, bank := 0, segset := 0, firstEntry := 0, epoch := 0, planned := 9, fired := 9, tFirst := 0, azimuth := 0, azModel := false, azFree := false, tMean := 77, notWarm := false, span := 0, dSum := 0, dMin := 0, dMax := 0, frame := 0 }, nc := 0, zoomOff := false, rep := { used := 8, skip := 0, excess := 0, stampLost := 0, low := 0, sat := 0, qLost := 0, deadLost := 0, satBins := 0, total := 147, zoomFirst := none, fineSat := false, stampFull := false, spare := false, stale := false, corrected := false, late := false, drop := 0, kept := 0 }, wins := [], coarse := [(3, 7), (4, 50), (100, 90)], fine := [], stamps := [], last := true, raised := false, tapped := false, extracted := false, made := false }),
      { tile := 3, chan := 5, seq := 7, sealedAt := 0, cell := { id := 4, bank := 0, segset := 0, firstEntry := 0, epoch := 0, planned := 9, fired := 9, tFirst := 0, azimuth := 0, azModel := false, azFree := false, tMean := 77, notWarm := false, span := 0, dSum := 0, dMin := 0, dMax := 0, frame := 0 }, nc := 0, zoomOff := false, rep := { used := 8, skip := 0, excess := 0, stampLost := 0, low := 0, sat := 0, qLost := 0, deadLost := 0, satBins := 0, total := 147, zoomFirst := none, fineSat := false, stampFull := false, spare := false, stale := false, corrected := false, late := false, drop := 0, kept := 0 }, wins := [], coarse := [(3, 7), (4, 50), (100, 90)], fine := [], stamps := [], last := true, raised := false, tapped := false, extracted := false, made := false },
      by decide +kernel⟩,
    ⟨s16, 0, (0,
      { tile := 0, chan := 5, seq := 8, sealedAt := 0, cell := { id := 4, bank := 0, segset := 0, firstEntry := 0, epoch := 0, planned := 9, fired := 9, tFirst := 0, azimuth := 0, azModel := false, azFree := false, tMean := 77, notWarm := false, span := 0, dSum := 0, dMin := 0, dMax := 0, frame := 0 }, nc := 0, zoomOff := false, rep := { used := 8, skip := 0, excess := 0, stampLost := 0, low := 0, sat := 0, qLost := 0, deadLost := 0, satBins := 0, total := 147, zoomFirst := none, fineSat := false, stampFull := false, spare := false, stale := false, corrected := false, late := false, drop := 0, kept := 0 }, wins := [], coarse := [(3, 7), (4, 50), (100, 90)], fine := [], stamps := [], last := true, raised := false, tapped := false, extracted := false, made := false }),
      { tile := 0, chan := 5, seq := 8, sealedAt := 0, cell := { id := 4, bank := 0, segset := 0, firstEntry := 0, epoch := 0, planned := 9, fired := 9, tFirst := 0, azimuth := 0, azModel := false, azFree := false, tMean := 77, notWarm := false, span := 0, dSum := 0, dMin := 0, dMax := 0, frame := 0 }, nc := 0, zoomOff := false, rep := { used := 8, skip := 0, excess := 0, stampLost := 0, low := 0, sat := 0, qLost := 0, deadLost := 0, satBins := 0, total := 147, zoomFirst := none, fineSat := false, stampFull := false, spare := false, stale := false, corrected := false, late := false, drop := 0, kept := 0 }, wins := [], coarse := [(3, 7), (4, 50), (100, 90)], fine := [], stamps := [], last := true, raised := false, tapped := false, extracted := false, made := false },
      7, by decide +kernel⟩,
    ⟨s18, 0, (0,
      { tile := 0, chan := 5, seq := 8, sealedAt := 0, cell := { id := 4, bank := 0, segset := 0, firstEntry := 0, epoch := 0, planned := 9, fired := 9, tFirst := 0, azimuth := 0, azModel := false, azFree := false, tMean := 77, notWarm := false, span := 0, dSum := 0, dMin := 0, dMax := 0, frame := 0 }, nc := 0, zoomOff := false, rep := { used := 8, skip := 0, excess := 0, stampLost := 0, low := 0, sat := 0, qLost := 0, deadLost := 0, satBins := 0, total := 147, zoomFirst := none, fineSat := false, stampFull := false, spare := false, stale := false, corrected := false, late := false, drop := 0, kept := 0 }, wins := [], coarse := [(3, 7), (4, 50), (100, 90)], fine := [], stamps := [], last := true, raised := false, tapped := false, extracted := false, made := false }),
      by decide +kernel⟩,
    ⟨s0, 0, by decide +kernel⟩⟩

/-- Every form of `Obligations.TapsAndEchoes` has a state and operands that meet its hypotheses together. -/
theorem witness_TapsAndEchoes :
    (∃ (s : State) (n : Fin 64) (c : BitVec 11) (e : Bool), (e = false ∨ (c.toNat < 1536 ∧ ∀ m : Fin 64, m ≠ n → s.get
      (HIST_TAP_SEL.enable m) = 0 ∨ s.get (HIST_TAP_SEL.channel m) ≠ c.toNat))) ∧
    (∃ (s : State) (n : Fin 64) (m : Fin 64) (c : BitVec 11), m ≠ n ∧ c.toNat < 1536 ∧ s.get (HIST_TAP_SEL.enable m) = 1 ∧ s.get
      (HIST_TAP_SEL.channel m) = c.toNat) ∧
    (∃ (s : State), s.get HIST_TAP_SLOTS.slots ≠ 0 ∧ s.get HIST_TAP_HEAD.index < s.get HIST_TAP_SLOTS.slots) ∧
    (∃ (s : State), s.hist.store.any (fun r => !r.tapped) = true) ∧
    (∃ (s : State) (v : Word16), v.toNat < s.get HIST_TAP_SLOTS.slots ∧ ringDist (s.get HIST_TAP_SLOTS.slots) v.toNat (s.get
      HIST_TAP_TAIL.index) ≤ s.get HIST_TAP_STAT.level) ∧
    (∃ (s : State) (v : Word16), v.toNat ≠ s.get HIST_TAP_TAIL.index ∧ s.get HIST_TAP_SLOTS.slots ≤ v.toNat) ∧
    (∃ (s : State) (r : ChanRec), s.hist.store.find? (fun r => !r.tapped) = some r ∧ s.get HIST_TAP_STAT.level + 1 < s.get
      HIST_TAP_SLOTS.slots ∧ s.tagFree 1 = true ∧ s.hub.injected = [] ∧ s.memHas (s.get HIST_TAP_BASE.base * 4096 + 10240 * s.get
      HIST_TAP_HEAD.index) 10240 = true) ∧
    (∃ (s : State) (r : ChanRec), s.hist.store.find? (fun r => !r.tapped) = some r ∧ (s.get HIST_TAP_STAT.level + 1 < s.get
      HIST_TAP_SLOTS.slots ∨ s.get HIST_TAP_CTL.overwrite = 1) ∧ s.tagFree 1 = false) ∧
    (∃ (s : State) (r : ChanRec), s.hist.store.find? (fun r => !r.tapped) = some r ∧ s.get HIST_TAP_SLOTS.slots ≤ s.get
      HIST_TAP_STAT.level + 1 ∧ s.get HIST_TAP_CTL.overwrite = 0) ∧
    (∃ (s : State) (r : ChanRec), s.nextRec = some r) ∧
    (∃ (s : State) (x : Nat × List (List Byte)) (l : List (Nat × List (List Byte))) (n : Nat) (p : List (List Byte)) (h : Bool),
      s.echo.out = x :: l ∧ x.1 = n ∧ x.2 = p ∧ n < 32 ∧ s.tagFree 1 = true ∧ s.hubBad (packetBuf p) (32 * p.length) = false ∧ s.get
      (RING_PR_CFG.enable n) = 1 ∧ s.get (RING_PR_STAT.level n) + p.length ≤ s.prLimit n ∧ (s.get (RING_PR_CFG.loc n) = 0 ∨ h = false)) ∧
    (∃ (s : State) (x : Nat × List (List Byte)) (l : List (Nat × List (List Byte))) (n : Nat) (p : List (List Byte)) (u : State),
      s.echo.out = x :: l ∧ x.1 = n ∧ x.2 = p ∧ n < 32 ∧ s.tagFree 1 = true ∧ (s.hubBad (packetBuf p) (32 * p.length) = true ∨ s.get
      (RING_PR_CFG.enable n) = 0) ∧ (s.tagPulse 1).hubScan 0 s.pulseTag (packetBuf p) (32 * p.length) = u) ∧
    (∃ (s : State) (x : Nat × List (List Byte)) (l : List (Nat × List (List Byte))), s.echo.out = x :: l ∧ s.tagFree 1 = false) ∧
    (∃ (s : State), s.get ECHO_IF_STAT.active = 0 ∧ (s.get ECHO_IF_CFG.coinc_req = 0 ∨ coincident s.echo.foreign = true) ∧ s.get
      ECHO_IF_CFG.if_cells ≤ Nat.min 65535 s.echo.foreign.length ∧ Nat.max 1 (s.get ECHO_IF_CFG.if_frames) ≤ s.echo.runOn + 1) ∧
    (∃ (s : State), s.get ECHO_IF_STAT.active = 1 ∧ 2 * s.echo.foreign.length < s.get ECHO_IF_CFG.if_cells ∧ Nat.max 1 (s.get
      ECHO_IF_CFG2.clear_frames) ≤ s.echo.runOff + 1) ∧
    (∃ (s : State) (k : Fin 6) (v : ScanWord) (y : TileCell), s.tiles.length = 6 ∧ (s.tile k).cells.find? (fun y => y.zoomOn &&
      !y.snapped && s.fire.cells.any (fun c => c.id == y.id && c.bank == v.bank.val)) = some y) ∧
    (∃ (s : State) (k : Fin 6) (j : Fin 2) (x : JexLink) (y : Summary), s.tiles.length = 6 ∧ s.hub.links[2 * k.val + j.val]? = some x ∧
      (s.tile k).sums.find? (fun y => !y.sent) = some y ∧ 3 ≤ x.credits.getD 2 0 ∧ x.down = false) ∧
    (∃ (s : State) (k : Fin 6) (y : Summary), s.tiles.length = 6 ∧ (s.tile k).sums.find? (fun y => y.sent && y.answer.isNone) = some y) ∧
    (∃ (s : State) (k : Fin 6) (c : Fin 256) (y : Summary) (w : List Nat) (n : Nat), s.tiles.length = 6 ∧ (s.tile k).sums.find? (fun y =>
      y.chan == c.val && y.answer.isSome) = some y ∧ y.answer = some w ∧ (s.chan k c).bufOf y.cell = some n ∧ w ≠ []) ∧
    (∃ (s : State) (k : Fin 6) (b : Fin 64) (x : CellInfo), s.tiles.length = 6 ∧ s.fire.cells.find? (fun c => c.bank == b.val &&
      !c.sealedBy.contains k.val && decide (c.planned ≤ c.seen)) = some x ∧ s.tileOff k = false ∧ s.cellChans k x ≠ []) ∧
    (∃ (s : State) (k : Fin 6) (j : Fin 2) (x : JexLink) (r : ChanRec) (q : List ChanRec), s.tiles.length = 6 ∧ s.hub.links[2 * k.val +
      j.val]? = some x ∧ (s.tile k).outq = r :: q ∧ 9 ≤ x.credits.getD 2 0 ∧ x.down = false ∧ (s.tile k).sums.any (fun y => !y.sent) =
      false ∧ r.rep.drop ≠ 0) ∧
    (∃ (s : State) (k : Fin 6) (c : Fin 256) (n : Fin 2), s.tiles.length = 6 ∧ ((s.chan k c).buf n).isSealed = true ∧ (s.chan k
      c).nextBuf = n.val ∧ (s.tile k).outq = [] ∧ (s.tile k).marked = []) ∧
    (∃ (s : State) (k : Fin 6) (x : Nat × ChanRec) (r : ChanRec), s.tiles.length = 6 ∧ s.hist.transit.find? (fun p => p.2.tile == k.val)
      = some x ∧ x.2 = r ∧ s.hist.used + r.size ≤ 8388608 ∧ s.hub.injected = [] ∧ s.get HUB_W256_CTL.inject_arm = 0 ∧ s.get
      HIST_TAP_CTL.enable = 0 ∧ s.hist.nextSeq.getD k none = some r.seq) ∧
    (∃ (s : State) (k : Fin 6), s.tiles.length = 6 ∧ s.isOff (.tile k) = false) :=
  ⟨⟨s0, 0, 0x0#11, true, by decide +kernel⟩,
    ⟨s19, 0, 1, 0x7#11, by decide +kernel⟩,
    ⟨s1, by decide +kernel⟩,
    ⟨s2, by decide +kernel⟩,
    ⟨s1, 0x0#16, by decide +kernel⟩,
    ⟨s0, 0x1#16, by decide +kernel⟩,
    ⟨s33,
      { tile := 0, chan := 5, seq := 1, sealedAt := 0, cell := { id := 4, bank := 0, segset := 0, firstEntry := 0, epoch := 0, planned := 9, fired := 9, tFirst := 0, azimuth := 0, azModel := false, azFree := false, tMean := 77, notWarm := false, span := 0, dSum := 0, dMin := 0, dMax := 0, frame := 0 }, nc := 0, zoomOff := false, rep := { used := 8, skip := 0, excess := 0, stampLost := 0, low := 0, sat := 0, qLost := 0, deadLost := 0, satBins := 0, total := 147, zoomFirst := none, fineSat := false, stampFull := false, spare := false, stale := false, corrected := false, late := false, drop := 0, kept := 0 }, wins := [], coarse := [(3, 7), (4, 50), (100, 90)], fine := [], stamps := [], last := true, raised := false, tapped := false, extracted := false, made := false },
      by decide +kernel⟩,
    ⟨s2,
      { tile := 0, chan := 5, seq := 1, sealedAt := 0, cell := { id := 4, bank := 0, segset := 0, firstEntry := 0, epoch := 0, planned := 9, fired := 9, tFirst := 0, azimuth := 0, azModel := false, azFree := false, tMean := 77, notWarm := false, span := 0, dSum := 0, dMin := 0, dMax := 0, frame := 0 }, nc := 0, zoomOff := false, rep := { used := 8, skip := 0, excess := 0, stampLost := 0, low := 0, sat := 0, qLost := 0, deadLost := 0, satBins := 0, total := 147, zoomFirst := none, fineSat := false, stampFull := false, spare := false, stale := false, corrected := false, late := false, drop := 0, kept := 0 }, wins := [], coarse := [(3, 7), (4, 50), (100, 90)], fine := [], stamps := [], last := true, raised := false, tapped := false, extracted := false, made := false },
      by decide +kernel⟩,
    ⟨s21,
      { tile := 1, chan := 5, seq := 2, sealedAt := 0, cell := { id := 4, bank := 0, segset := 0, firstEntry := 0, epoch := 0, planned := 9, fired := 9, tFirst := 0, azimuth := 0, azModel := false, azFree := false, tMean := 77, notWarm := false, span := 0, dSum := 0, dMin := 0, dMax := 0, frame := 0 }, nc := 0, zoomOff := false, rep := { used := 8, skip := 0, excess := 0, stampLost := 0, low := 0, sat := 0, qLost := 0, deadLost := 0, satBins := 0, total := 147, zoomFirst := none, fineSat := false, stampFull := false, spare := false, stale := false, corrected := false, late := false, drop := 0, kept := 0 }, wins := [], coarse := [(3, 7), (4, 50), (100, 90)], fine := [], stamps := [], last := true, raised := false, tapped := false, extracted := true, made := false },
      by decide +kernel⟩,
    ⟨s2,
      { tile := 0, chan := 5, seq := 1, sealedAt := 0, cell := { id := 4, bank := 0, segset := 0, firstEntry := 0, epoch := 0, planned := 9, fired := 9, tFirst := 0, azimuth := 0, azModel := false, azFree := false, tMean := 77, notWarm := false, span := 0, dSum := 0, dMin := 0, dMax := 0, frame := 0 }, nc := 0, zoomOff := false, rep := { used := 8, skip := 0, excess := 0, stampLost := 0, low := 0, sat := 0, qLost := 0, deadLost := 0, satBins := 0, total := 147, zoomFirst := none, fineSat := false, stampFull := false, spare := false, stale := false, corrected := false, late := false, drop := 0, kept := 0 }, wins := [], coarse := [(3, 7), (4, 50), (100, 90)], fine := [], stamps := [], last := true, raised := false, tapped := false, extracted := false, made := false },
      by decide +kernel⟩,
    ⟨s25, (3, [List.replicate 32 0x1#8, List.replicate 32 0x2#8]), [(4, [])], 3, [List.replicate 32 0x1#8, List.replicate 32 0x2#8],
      true, by decide +kernel⟩,
    ⟨s24, (3, [[0x1#8], [0x2#8]]), [(4, [])], 3, [[0x1#8], [0x2#8]], _, by decide +kernel, by decide +kernel, by decide +kernel,
      by decide +kernel, by decide +kernel, by decide +kernel, rfl⟩,
    ⟨s1, (3, [[0x1#8], [0x2#8]]), [(4, [])], by decide +kernel⟩,
    ⟨s26, by decide +kernel⟩,
    ⟨s27, by decide +kernel⟩,
    ⟨s5, 0, { bank := 0, chan := 0, word := 3, ecc := Ecc.bad 0x5#16 },
      { id := 4, planned := 3, nc := 0, zoomOn := true, box := 4, stampsEn := false, snapped := false, counted := false, lateRaised := false, barred := false, drop := 0 },
      by decide +kernel⟩,
    ⟨s7, 0, 0,
      { down := false, failed := 0, replay := false, accepted := 0, credits := [16, 16, 64, 8], rx := [], next := Replayed.asUsual, sent := [] },
      { chan := 5, cell := 4, seq := 0, shots := 4, box := 4, total := 200, cands := [(100, 50), (2000, 90)], sent := false, link := 2, answer := none },
      by decide +kernel⟩,
    ⟨s7, 0,
      { chan := 5, cell := 4, seq := 0, shots := 4, box := 4, total := 200, cands := [(100, 50), (2000, 90)], sent := true, link := 2, answer := none },
      by decide +kernel⟩,
    ⟨s11, 0, 5,
      { chan := 5, cell := 4, seq := 0, shots := 4, box := 4, total := 200, cands := [(100, 50), (2000, 90)], sent := true, link := 2, answer := some [7] },
      [7], 0, by decide +kernel⟩,
    ⟨s5, 0, 0,
      { id := 4, bank := 0, segset := 0, map := List.replicate 192 0x21#8, planned := 3, firstEntry := 0, epoch := 0, committed := 0, seen := 3, times := [5000, 7000], firstS := 0, suppressSeen := false, sealedBy := [], span := 0, nomLast := 0, dSum := 0, dMin := 0, dMax := 0, az := none, entryS := [5000, 7000], lastEntry := 5, frame := 0, cold := none },
      by decide +kernel⟩,
    ⟨s13, 0, 0,
      { down := false, failed := 0, replay := false, accepted := 0, credits := [16, 16, 64, 8], rx := [], next := Replayed.asUsual, sent := [] },
      { tile := 0, chan := 5, seq := 1, sealedAt := 0, cell := { id := 4, bank := 0, segset := 0, firstEntry := 0, epoch := 0, planned := 9, fired := 9, tFirst := 0, azimuth := 0, azModel := false, azFree := false, tMean := 77, notWarm := false, span := 0, dSum := 0, dMin := 0, dMax := 0, frame := 0 }, nc := 0, zoomOff := false, rep := { used := 8, skip := 0, excess := 0, stampLost := 0, low := 0, sat := 0, qLost := 0, deadLost := 0, satBins := 0, total := 147, zoomFirst := none, fineSat := false, stampFull := false, spare := false, stale := false, corrected := false, late := false, drop := 5, kept := 0 }, wins := [], coarse := [], fine := [], stamps := [], last := true, raised := false, tapped := false, extracted := false, made := false },
      [{ tile := 0, chan := 7, seq := 2, sealedAt := 0, cell := { id := 4, bank := 0, segset := 0, firstEntry := 0, epoch := 0, planned := 9, fired := 9, tFirst := 0, azimuth := 0, azModel := false, azFree := false, tMean := 77, notWarm := false, span := 0, dSum := 0, dMin := 0, dMax := 0, frame := 0 }, nc := 0, zoomOff := false, rep := { used := 8, skip := 0, excess := 0, stampLost := 0, low := 0, sat := 0, qLost := 0, deadLost := 0, satBins := 0, total := 147, zoomFirst := none, fineSat := false, stampFull := false, spare := false, stale := false, corrected := false, late := false, drop := 5, kept := 0 }, wins := [], coarse := [], fine := [], stamps := [], last := true, raised := false, tapped := false, extracted := false, made := false }],
      by decide +kernel⟩,
    ⟨s14, 0, 5, 0, by decide +kernel⟩,
    ⟨s16, 3, (1,
      { tile := 3, chan := 5, seq := 7, sealedAt := 0, cell := { id := 4, bank := 0, segset := 0, firstEntry := 0, epoch := 0, planned := 9, fired := 9, tFirst := 0, azimuth := 0, azModel := false, azFree := false, tMean := 77, notWarm := false, span := 0, dSum := 0, dMin := 0, dMax := 0, frame := 0 }, nc := 0, zoomOff := false, rep := { used := 8, skip := 0, excess := 0, stampLost := 0, low := 0, sat := 0, qLost := 0, deadLost := 0, satBins := 0, total := 147, zoomFirst := none, fineSat := false, stampFull := false, spare := false, stale := false, corrected := false, late := false, drop := 0, kept := 0 }, wins := [], coarse := [(3, 7), (4, 50), (100, 90)], fine := [], stamps := [], last := true, raised := false, tapped := false, extracted := false, made := false }),
      { tile := 3, chan := 5, seq := 7, sealedAt := 0, cell := { id := 4, bank := 0, segset := 0, firstEntry := 0, epoch := 0, planned := 9, fired := 9, tFirst := 0, azimuth := 0, azModel := false, azFree := false, tMean := 77, notWarm := false, span := 0, dSum := 0, dMin := 0, dMax := 0, frame := 0 }, nc := 0, zoomOff := false, rep := { used := 8, skip := 0, excess := 0, stampLost := 0, low := 0, sat := 0, qLost := 0, deadLost := 0, satBins := 0, total := 147, zoomFirst := none, fineSat := false, stampFull := false, spare := false, stale := false, corrected := false, late := false, drop := 0, kept := 0 }, wins := [], coarse := [(3, 7), (4, 50), (100, 90)], fine := [], stamps := [], last := true, raised := false, tapped := false, extracted := false, made := false },
      by decide +kernel⟩,
    ⟨s0, 0, by decide +kernel⟩⟩

end W13

namespace W14

abbrev P := stP
def M (s : State) (f : MemSt → MemSt) : State := { s with mem := f s.mem }
def H (s : State) (f : HubSt → HubSt) : State := { s with hub := f s.hub }
def base : State := M (P rs [(HUB_MODE_STAT.mode, 6), (TIME_NOW.time, 2 ^ 40), (MEM_STAT.ch_active, 15), (MEM_STAT.ch_present, 15), (MEM_STAT.mem_active, 1), (MEM_EXTENT.extent, 256 * 4 * 1000), (MEM_PORT_CFG.rt 1, 1), (MEM_CH_INFO.trfcpb_ns 1, 140), (MEM_PORT_QUOTA.quota 1, 3),
  (MEM_SCRUB_CFG.enable, 1), (MEM_TRAIN_CFG.periodic_en, 1)]) (fun m => { m with chs := [0, 1, 2, 3], stripes := 1000 })
def rq (p : Fin 8) (d : Nat) (w : Bool) (i : Nat) (dn : Bool := false) : MemReq := ⟨p, d, w, 2 ^ 40 - 65536 * 3 * i, some i, dn⟩
def inq (s : State) (l : List MemReq) : State := M s (fun m => { m with queues := (List.range 64).map (fun k => (k, l.filter (fun r => s.bankKey r.d == k))) })
def ops (s : State) (l : List Nat) : State := H s (fun h => { h with ops := l.map (fun i => ⟨i, i, 1, .ddr 1, 1⟩), nextInst := 10 })
def q1 : State := P (ops (inq base [rq 1 256 false 1, rq 1 256 true 2, rq 2 512 false 3, rq 0 256 true 4 true]) [1, 2, 3]) [(MEM_PORT_STAT.in_use 1, 2), (HUB_TAG_STAT.in_use 1, 2), (HUB_TAG_STAT.in_use 2, 1), (MEM_PORT_STAT.in_use 2, 1), (MEM_PORT_QUOTA.quota 2, 1)]
def s0 : State := rs
def s1 : State := base
def s2 : State := q1
def s6 : State := P base [(MEM_CTL.init, 1)]
def s8 : State := M (P q1 [(MEM_CE_THR.ce_thr, 4)]) (fun m => { m with owed := [(16 * 1 + 3, 8)], stepOn := [true, false, false, false], target := some 2, ceSec := [0, 5, 0, 0] })
def s9 : State := M q1 (fun m => { m with owed := [(16 * 1 + 3, 8), (16*1+4, 8), (16 * 3 + 4, 2)], limitAt := [none, some (2 ^ 40 - 5), none, none], target := some 1, stepOn := [false, false, false, false] })
def s10 : State := P base [(HUB_TAG_POOL.ceiling 1, 0), (HUB_TAG_POOL.floor 1, 0), (HUB_TAG_POOL.ceiling 2, 0), (HUB_TAG_POOL.floor 2, 0)]
def s12 : State := H base (fun h => { h with injected := [(4, 3200, 2)] })
def s14 : State := H base (fun h => { h with isolated := [.ddr 1] })
def s15 : State := M (P base [(MEM_RETIRE_CTL.ch, 1), (MEM_RETIRE_CTL.start, 1), (MEM_STAT.retiring, 1), (MEM_EXTENT.extent, 256 * 3000), (MEM_RETIRE_PTR.ptr, 256 * 5)]) (fun m => { m with retIx := some 1 })
def s17 : State := M (P base [(MEM_RETIRE_CTL.ch, 1), (MEM_RETIRE_CTL.start, 1), (MEM_STAT.retiring, 1), (MEM_EXTENT.extent, 256 * 3000), (MEM_RETIRE_PTR.ptr, 256 * 3000)]) (fun m => { m with retIx := some 1 })
def s22 : State := { base with boot := { base.boot with cfgRead := true, mapOrder := 1 } }
def s25 : State := M (ops base [5]) (fun m => { m with flight := [rq 6 256 false 5] })
def s26 : State := H base (fun h => { h with injected := [(4, 3200000, 2)] })

/-- Every form of `Obligations.MemoryRequests` has a state and operands that meet its hypotheses together. -/
theorem witness_MemoryRequests :
    (∃ (s : State) (p : Fin 8) (d : BitVec 64), s.memHas d.toNat 1 = true ∧ s.tagFree (portClass p) = true ∧ s.get (MEM_PORT_STAT.in_use
      p) < s.memQuota p ∧ (s.mem.queue (s.bankKey d.toNat)).length < 16 ∧ s.mem.waiting = []) ∧
    (∃ (s : State) (p : Fin 8) (d : BitVec 64), s.memHas d.toNat 1 = true ∧ s.tagFree (portClass p) = true ∧ (s.memQuota p ≤ s.get
      (MEM_PORT_STAT.in_use p) ∨ 16 ≤ (s.mem.queue (s.bankKey d.toNat)).length) ∧ s.mem.waiting = []) ∧
    (∃ (s : State) (p : Fin 8) (d : BitVec 64), s.memHas d.toNat 1 = true ∧ s.tagFree (portClass p) = false ∧ s.get (HUB_TAG_STAT.exhaust
      (portClass p)) = 0 ∧ s.mem.waiting = []) ∧
    (∃ (s : State) (p : Fin 8) (d : BitVec 64), s.memHas d.toNat 1 = false ∧ (p ≠ 2 ∨ s.get MEM_STAT.mem_active = 0)) ∧
    (∃ (s : State) (d : BitVec 64), s.memHas d.toNat 1 = false ∧ s.get MEM_STAT.mem_active = 1 ∧ s.mem.extentAt = none) ∧
    (∃ (s : State) (m : Fin 4) (k : Nat) (r : MemReq) (u : Nat), (s.bankRound m).all (fun k => s.owedOf k == 0 || (s.bankRt k &&
      !(s.owedOf k == 8))) = true ∧ s.bankPick (s.bankRound m) = some (k, r, u) ∧ s.mem.waiting = []) ∧
    (∃ (s : State) (m : Fin 4), (s.bankRound m).find? (fun k => s.owedOf k == 8 && s.bankFree k) = none ∧ (∀ b : Fin 16, s.mem.queue (16
      * m + b) = [])) ∧
    (∃ (s : State) (m : Fin 4) (b : Fin 16), (s.bankRound m).find? (fun k => s.owedOf k == 8 && s.bankFree k) = some (16 * m.val +
      b.val)) ∧
    (∃ (s : State) (p : Fin 8) (r : MemReq), oldestReq s.now (s.memReady p) = some r ∧ s.mem.waiting = []) ∧
    (∃ (s : State) (r : MemReq) (i : Nat), oldestReq s.now (s.memReady 6) = some r ∧ s.mem.waiting = [] ∧ s.mem.flight.contains r = true
      ∧ r.write = false ∧ r.inst = some i ∧ s.hub.injected = []) ∧
    (∃ (s : State) (p : Fin 8), s.memReady p = []) ∧
    (∃ (s : State) (p : Fin 8) (v : BitVec 11), clampN 1 1024 v.toNat < s.get (MEM_PORT_STAT.in_use p)) ∧
    (∃ (s : State) (p : Fin 8) (v : BitVec 11), s.get (MEM_PORT_STAT.in_use p) ≤ clampN 1 1024 v.toNat ∧ s.mem.waiting = []) ∧
    (∃ (s : State) (v : BitVec 16), Nat.max 1 v.toNat < s.trfcMax + 120) ∧
    (∃ (s : State) (v : BitVec 16) (rt : Bool), (rt = false ∨ s.trfcMax + 120 ≤ Nat.max 1 v.toNat)) :=
  ⟨⟨s1, 0, 0x0#64, by decide +kernel⟩,
    ⟨s2, 2, 0x0#64, by decide +kernel⟩,
    ⟨s10, 0, 0x0#64, by decide +kernel⟩,
    ⟨s0, 0, 0x0#64, by decide +kernel⟩,
    ⟨s1, 0xfa000#64, by decide +kernel⟩,
    ⟨s2, 1, 16, { port := 1, d := 256, write := false, entered := 1099511431168, inst := some 1, done := false }, 0, by decide +kernel⟩,
    ⟨s0, 0, by decide +kernel⟩,
    ⟨s8, 1, 3, by decide +kernel⟩,
    ⟨s2, 1, { port := 1, d := 256, write := true, entered := 1099511234560, inst := some 2, done := false }, by decide +kernel⟩,
    ⟨s25, { port := 6, d := 256, write := false, entered := 1099510644736, inst := some 5, done := false }, 5, by decide +kernel⟩,
    ⟨s0, 0, by decide +kernel⟩,
    ⟨s2, 1, 0x0#11, by decide +kernel⟩,
    ⟨s0, 0, 0x0#11, by decide +kernel⟩,
    ⟨s0, 0x0#16, by decide +kernel⟩,
    ⟨s0, 0x0#16, false, by decide +kernel⟩⟩

/-- Every form of `Obligations.MemoryUpkeep` has a state and operands that meet its hypotheses together. -/
theorem witness_MemoryUpkeep :
    (∃ (s : State) (o : Fin 4), (s.get MEM_CTL.lock = 1 ∨ s.boot.cfgRead = false ∨ o.val ≠ s.boot.mapOrder)) ∧
    (∃ (s : State) (o : Fin 4), s.get MEM_CTL.lock = 0 ∧ s.boot.cfgRead = true ∧ o.val = s.boot.mapOrder) ∧
    (∃ (s : State), s.get MEM_CTL.init = 1 ∧ s.mem.chs ≠ []) ∧
    (∃ (s : State), (s.get MEM_CTL.init = 0 ∨ s.mem.chs = [])) ∧
    (∃ (s : State) (m : Fin 4), (s.get MEM_STAT.ch_active).testBit m = false) ∧
    (∃ (s : State) (m : Fin 4) (b : Fin 16), s.owedOf (16 * m + b) = 8) ∧
    (∃ (s : State) (m : Fin 4) (b : Fin 16), s.owedOf (16 * m + b) ≠ 8) ∧
    (∃ (s : State) (m : Fin 4) (x : Fin 3), s.get (MEM_CH_INFO.ref_mult m) ≠ x.val) ∧
    (∃ (s : State) (m : Fin 4) (x : Fin 3), s.get (MEM_CH_INFO.ref_mult m) = x.val) ∧
    (∃ (s : State) (m : Fin 4), s.get MEM_TRAIN_CFG.periodic_en = 1 ∧ (s.get MEM_STAT.ch_active).testBit m = true) ∧
    (∃ (s : State) (sp : Fin 4), Nat.max (s.get THM_STAT.mem_throttle) (Nat.min 2 sp) ≠ s.get MEM_FREQ_CTL.cur_sp) ∧
    (∃ (s : State) (sp : Fin 4), Nat.max (s.get THM_STAT.mem_throttle) (Nat.min 2 sp) = s.get MEM_FREQ_CTL.cur_sp) ∧
    (∃ (s : State) (n : Nat), s.mem.target = some n ∧ n < 4 ∧ s.mem.stepOn.any id = false) ∧
    (∃ (s : State), (s.mem.target = none ∨ s.mem.stepOn.any id = true)) :=
  ⟨⟨s0, 0, by decide +kernel⟩,
    ⟨s22, 1, by decide +kernel⟩,
    ⟨s6, by decide +kernel⟩,
    ⟨s0, by decide +kernel⟩,
    ⟨s0, 0, by decide +kernel⟩,
    ⟨s8, 1, 3, by decide +kernel⟩,
    ⟨s0, 0, 0, by decide +kernel⟩,
    ⟨s0, 0, 1, by decide +kernel⟩,
    ⟨s0, 0, 0, by decide +kernel⟩,
    ⟨s1, 0, by decide +kernel⟩,
    ⟨s0, 1, by decide +kernel⟩,
    ⟨s0, 0, by decide +kernel⟩,
    ⟨s9, 1, by decide +kernel⟩,
    ⟨s0, by decide +kernel⟩⟩

/-- Every form of `Obligations.MemoryRetirement` has a state and operands that meet its hypotheses together. -/
theorem witness_MemoryRetirement :
    (∃ (s : State), s.get MEM_SCRUB_CFG.enable = 1 ∧ s.get MEM_STAT.mem_active = 1 ∧ s.hub.injected = []) ∧
    (∃ (s : State) (a : Nat) (n : Nat), s.get MEM_SCRUB_CFG.enable = 1 ∧ s.get MEM_STAT.mem_active = 1 ∧ s.hub.injected = [(4, a, n)] ∧
      s.memHas a 32 = true ∧ a % 32 = 0 ∧ 1 ≤ n ∧ n ≤ 2) ∧
    (∃ (s : State) (a : Nat) (n : Nat), s.get MEM_SCRUB_CFG.enable = 1 ∧ s.get MEM_STAT.mem_active = 1 ∧ s.hub.injected = [(4, a, n)] ∧
      s.memHas a 32 = false) ∧
    (∃ (s : State), (s.get MEM_SCRUB_CFG.enable = 0 ∨ s.get MEM_STAT.mem_active = 0)) ∧
    (∃ (s : State) (m : Fin 4), s.get MEM_CE_THR.ce_thr < s.mem.ceSec.getD m 0) ∧
    (∃ (s : State) (m : Fin 4), s.mem.ceSec.getD m 0 ≤ s.get MEM_CE_THR.ce_thr) ∧
    (∃ (s : State) (m : Fin 4), s.isOff (.ddr m) = false) ∧
    (∃ (s : State) (m : Fin 4), s.isOff (.ddr m) = true) ∧
    (∃ (s : State) (m : Fin 4), (s.get MEM_STAT.retired = 1 ∨ s.get MEM_STAT.boot_retired = 1 ∨ s.get MEM_STAT.retiring = 1 ∨ (s.get
      MEM_STAT.ch_active).testBit m = false ∨ s.mem.chs.length ≤ 1 ∨ s.get MEM_STAT.mem_active = 0)) ∧
    (∃ (s : State) (m : Fin 4), s.get MEM_STAT.retired = 0 ∧ s.get MEM_STAT.boot_retired = 0 ∧ s.get MEM_STAT.retiring = 0 ∧ (s.get
      MEM_STAT.ch_active).testBit m = true ∧ 2 ≤ s.mem.chs.length ∧ s.get MEM_STAT.mem_active = 1 ∧ 256 * (s.mem.chs.length *
      s.mem.stripes) < 2 ^ 64) ∧
    (∃ (s : State) (r : Nat), s.mem.retIx = some r ∧ s.get MEM_STAT.retiring = 1 ∧ s.get MEM_RETIRE_PTR.ptr < s.get MEM_EXTENT.extent ∧
      s.hub.injected = [] ∧ s.get MEM_RETIRE_PTR.ptr % 256 = 0) ∧
    (∃ (s : State), (s.mem.retIx = none ∨ s.get MEM_STAT.retiring = 0 ∨ s.get MEM_EXTENT.extent ≤ s.get MEM_RETIRE_PTR.ptr)) ∧
    (∃ (s : State) (m : Fin 4), s.get MEM_STAT.retiring = 1 ∧ s.get MEM_EXTENT.extent ≤ s.get MEM_RETIRE_PTR.ptr ∧ s.get
      MEM_RETIRE_CTL.ch = m.val ∧ s.hub.ops.all (fun o => !decide (o.target = .ddr m)) = true) ∧
    (∃ (s : State), (s.get MEM_STAT.retiring = 0 ∨ s.get MEM_RETIRE_PTR.ptr < s.get MEM_EXTENT.extent)) :=
  ⟨⟨s1, by decide +kernel⟩,
    ⟨s12, 3200, 2, by decide +kernel⟩,
    ⟨s26, 3200000, 2, by decide +kernel⟩,
    ⟨s0, by decide +kernel⟩,
    ⟨s8, 1, by decide +kernel⟩,
    ⟨s0, 0, by decide +kernel⟩,
    ⟨s0, 0, by decide +kernel⟩,
    ⟨s14, 1, by decide +kernel⟩,
    ⟨s0, 0, by decide +kernel⟩,
    ⟨s1, 0, by decide +kernel⟩,
    ⟨s15, 1, by decide +kernel⟩,
    ⟨s0, by decide +kernel⟩,
    ⟨s17, 1, by decide +kernel⟩,
    ⟨s0, by decide +kernel⟩⟩

end W14

namespace W15

abbrev P := stP
def E (s : State) (f : EthSt → EthSt) : State := { s with eth := f s.eth }
def onP (s : State) (p : Nat) (f : EthPort → EthPort) : State := s.setEthPort p (f (s.ethPort p))
def base : State := P rs ([(HUB_MODE_STAT.mode, 6), (TIME_NOW.time, 2 ^ 40), (RING_PR_CFG.enable 3, 1), (RING_PR_CFG.size_log2 3, 10)])
def up (p m : Nat) (s : State) : State := onP (P s [(ETH_P_STAT.link p, 1), (ETH_P_CFG.mode p, m)]) p (fun x => { x with live := m })
def eqs (s : State) : State := onP (onP s 1 (fun x => { x with eqStored := [0, 11, 12, 13, 14, 0, 0, 0] })) 2 (fun x => { x with eqStored := [0, 21, 22, 23, 24, 0, 0, 0] })
def b1 : State := eqs (up 1 1 (up 2 4 base))
def f1 : TxFrame := ⟨.qsl 2, 100, [1, 2], 0⟩
def f2 : TxFrame := ⟨.followUp, 1500, [3], 0⟩
def qs (s : State) (p q : Nat) (l : List TxFrame) : State := onP s p (fun x => { x with queues := x.queues.set q l })
def gated (s : State) (p g0 g1 : Nat) : State := P (onP s p (fun x => { x with operLen := 2, operCycle := 1000000, cycleAt := 2 ^ 40 - 500, entryAt := 2 ^ 40 - 500, change := some (2 ^ 40 + 65536000, 3, 500000) }))
  [(ETH_P_GATE_CTL.gate_en p, 1), (ETH_P_GCL.gates p 0 0, g0), (ETH_P_GCL.gates p 0 1, g1), (ETH_P_GCL.interval_ns p 0 0, 1000), (ETH_P_GCL.interval_ns p 0 1, 200)]
def adm (s : State) (p : Nat) (b : Nat) : State := P s [(ETH_P_GATE_CTL.admin_len_m1 p, 1), (ETH_P_GCL.interval_ns p 1 0, 100), (ETH_P_GCL.interval_ns p 1 1, 100), (ETH_P_GATE_CYCLE.cycle_ns p, 1000000), (ETH_P_GATE_BASE.base p, b)]
def ptp (s : State) : State := P s [(ETH_PTP_CFG.enable, 1), (ETH_PTP_CFG.ports, 6), (ETH_PTP_STAT.is_gm, 1), (ETH_P_CFG.one_step 1, 1)]
def exp1 (s : State) : State := P s [(ETH_EXP_CFG.ring 1, 3), (ETH_EXP_CFG.port 1, 2), (ETH_EXP_CFG.pcp 1, 5), (ETH_EXP_CFG.enable 1, 1), (ETH_EXP_DST.dst_mac 1, 0x112233445566), (RING_PR_STAT.level 3, 2), (RING_PR_HEAD.index 3, 1), (RING_PR_TAIL.index 3, 1023), (ETH_EXP_CFG.ring 2, 3), (RING_PR_BASE.base 3, 16)]
def s0 : State := rs
def s2 : State := b1
def s3 : State := P b1 [(ETH_P_STAT.training 1, 1), (ETH_P_STAT.training 3, 1)]
def s5 : State := { b1 with hub := { b1.hub with isolated := [.eth 1] } }
def s6 : State := onP b1 1 (fun x => { x with defMode := true, defRetrain := true, fecAt := some (2 ^ 40) })
def s8 : State := { (P b1 [(TWN_STAT.lanes_up, 8), (TWN_STAT.link_up, 1)]) with twn := { b1.twn with laneDef := [true, false, false, true] } }
def s10 : State := qs (qs b1 1 5 [f1, f2]) 1 2 [f2]
def s13 : State := gated (qs b1 1 5 [f1]) 1 0 255
def s15 : State := gated (qs b1 2 5 [f2]) 2 32 0
def s16 : State := adm b1 1 5
def s20 : State := E b1 (fun e => { e with frer := [⟨5, 1, 7, [true], false, 1, 2⟩, ⟨5, 2, 7, [true], false, 1, 2⟩] })
def s21 : State := ptp b1
def s22 : State := P (ptp b1) [(ETH_PTP_STAT.slave_valid, 1), (ETH_PTP_STAT.slave_port, 1), (TIME_CTL.time_src, 1), (ETH_PTP_CFG.gm_capable, 1), (ETH_PTP_STAT.is_gm, 0)]
def s39 : State := P (ptp b1) [(ETH_PTP_CFG.gm_capable, 1)]
def s43 : State := { exp1 b1 with hub := { b1.hub with isolated := [.eth 2] } }
def s48 : State := exp1 b1

/-- Every form of `Obligations.EthernetLinks` has a state and operands that meet its hypotheses together. -/
theorem witness_EthernetLinks :
    (∃ (s : State) (p : Fin 4) (h : Bool), s.eth.ports.length = 4 ∧ s.isOff (.eth p) = false ∧ (s.get (ETH_P_STAT.link p) = 0 ∨ (h =
      false ∧ s.get (ETH_P_STAT.deferred p) = 0))) ∧
    (∃ (s : State) (p : Fin 4) (h : Bool), s.eth.ports.length = 4 ∧ s.isOff (.eth p) = false ∧ s.get (ETH_P_STAT.link p) = 1 ∧ (h = true
      ∨ s.get (ETH_P_STAT.deferred p) = 1)) ∧
    (∃ (s : State) (p : Fin 4), s.eth.ports.length = 4 ∧ s.isOff (.eth p) = false ∧ (s.get (ETH_P_CFG.mode p) = 0 ∨ 4 < s.get
      (ETH_P_CFG.mode p))) ∧
    (∃ (s : State) (p : Fin 4) (h : Bool), s.eth.ports.length = 4 ∧ s.isOff (.eth p) = false ∧ 1 ≤ s.get (ETH_P_CFG.mode p) ∧ s.get
      (ETH_P_CFG.mode p) ≤ 4 ∧ (s.get (ETH_P_STAT.link p) = 0 ∨ (h = false ∧ s.get (ETH_P_STAT.deferred p) = 0))) ∧
    (∃ (s : State) (p : Fin 4) (h : Bool), s.eth.ports.length = 4 ∧ s.isOff (.eth p) = false ∧ 1 ≤ s.get (ETH_P_CFG.mode p) ∧ s.get
      (ETH_P_CFG.mode p) ≤ 4 ∧ s.get (ETH_P_STAT.link p) = 1 ∧ (h = true ∨ s.get (ETH_P_STAT.deferred p) = 1)) ∧
    (∃ (s : State) (p : Fin 4), s.eth.ports.length = 4 ∧ s.isOff (.eth p) = true) ∧
    (∃ (s : State) (p : Fin 4) (l : Fin 8), s.eth.ports.length = 4 ∧ s.isOff (.eth p) = true ∧ l.val = p.val) ∧
    (∃ (s : State) (p : Fin 4), s.eth.ports.length = 4 ∧ s.isOff (.eth p) = false ∧ s.get (ETH_P_STAT.training p) = 1) ∧
    (∃ (s : State) (p : Fin 4), s.eth.ports.length = 4 ∧ s.get (ETH_P_STAT.training p) = 0) ∧
    (∃ (s : State) (p : Fin 4), s.eth.ports.length = 4 ∧ s.get (ETH_P_STAT.link p) = 0) ∧
    (∃ (s : State) (l : Fin 8) (p : Fin 4), s.eth.ports.length = 4 ∧ l.val = p.val ∧ s.isOff (.eth p) = false ∧ (s.ethPort p).defMode =
      false ∧ (s.ethPort p).defRetrain = false) ∧
    (∃ (s : State) (l : Fin 8) (p : Fin 4), s.eth.ports.length = 4 ∧ l.val = p.val ∧ s.isOff (.eth p) = false ∧ ((s.ethPort p).defMode =
      true ∨ (s.ethPort p).defRetrain = true)) ∧
    (∃ (s : State) (l : Fin 8) (k : Fin 4), s.eth.ports.length = 4 ∧ l.val = 4 + k.val ∧ s.twn.laneDef.getD k false = false) ∧
    (∃ (s : State) (l : Fin 8) (k : Fin 4), s.eth.ports.length = 4 ∧ l.val = 4 + k.val ∧ s.twn.laneDef.getD k false = true) ∧
    (∃ (s : State) (p : Fin 4), s.eth.ports.length = 4 ∧ s.fecOn p = false) ∧
    (∃ (s : State) (p : Fin 4), s.eth.ports.length = 4 ∧ s.isOff (.eth p) = false ∧ s.fecOn p = true) :=
  ⟨⟨s0, 0, true, by decide +kernel⟩,
    ⟨s2, 1, true, by decide +kernel⟩,
    ⟨s0, 0, by decide +kernel⟩,
    ⟨s2, 1, false, by decide +kernel⟩,
    ⟨s2, 1, true, by decide +kernel⟩,
    ⟨s5, 1, by decide +kernel⟩,
    ⟨s5, 1, 1, by decide +kernel⟩,
    ⟨s3, 1, by decide +kernel⟩,
    ⟨s0, 0, by decide +kernel⟩,
    ⟨s0, 0, by decide +kernel⟩,
    ⟨s0, 0, 0, by decide +kernel⟩,
    ⟨s6, 1, 1, by decide +kernel⟩,
    ⟨s0, 4, 0, by decide +kernel⟩,
    ⟨s8, 4, 0, by decide +kernel⟩,
    ⟨s0, 0, by decide +kernel⟩,
    ⟨s2, 1, by decide +kernel⟩⟩

/-- Every form of `Obligations.EthernetTraffic` has a state and operands that meet its hypotheses together. -/
theorem witness_EthernetTraffic :
    (∃ (s : State) (p : Fin 4), s.eth.ports.length = 4 ∧ (∀ p : Fin 4, (s.ethPort p).queues.length = 8) ∧ (s.isOff (.eth p) = true ∨
      s.get (ETH_P_STAT.link p) = 0)) ∧
    (∃ (s : State) (p : Fin 4), s.eth.ports.length = 4 ∧ (∀ p : Fin 4, (s.ethPort p).queues.length = 8) ∧ s.isOff (.eth p) = true) ∧
    (∃ (s : State) (p : Fin 4) (q : Fin 8) (f : TxFrame) (l : List TxFrame), s.eth.ports.length = 4 ∧ (∀ p : Fin 4, (s.ethPort
      p).queues.length = 8) ∧ s.txQueue p q = f :: l ∧ s.isOff (.eth p) = false ∧ s.get (ETH_P_STAT.link p) = 1 ∧ s.get
      (ETH_P_GATE_CTL.gate_en p) = 0 ∧ s.get (ETH_P_CBS.shaper_en p q) = 0 ∧ (∀ r : Fin 8, q < r → s.txQueue p r = [])) ∧
    (∃ (s : State) (p : Fin 4), s.eth.ports.length = 4 ∧ (∀ p : Fin 4, (s.ethPort p).queues.length = 8) ∧ s.isOff (.eth p) = false ∧
      s.get (ETH_P_STAT.link p) = 1 ∧ s.get (ETH_P_GATE_CTL.gate_en p) = 0 ∧ (∀ q : Fin 8, s.txQueue p q = [] ∨ (s.get
      (ETH_P_CBS.shaper_en p q) = 1 ∧ (s.ethPort p).credit.getD q 0 < 0 ∧ (s.ethPort p).creditAt.getD q 0 = s.now))) ∧
    (∃ (s : State) (p : Fin 4), s.eth.ports.length = 4 ∧ (∀ p : Fin 4, (s.ethPort p).queues.length = 8) ∧ s.isOff (.eth p) = false ∧
      s.get (ETH_P_STAT.link p) = 1 ∧ s.get (ETH_P_GATE_CTL.gate_en p) = 1 ∧ (∀ q : Fin 8, (s.gatesNow p).testBit q = false) ∧ (∀ q : Fin
      8, ∀ f ∈ s.txQueue p q, wireUnits f.len ≤ 65536 * longestOpen q (s.gateSpans p ++ s.gateSpans p) * s.ethRate p)) ∧
    (∃ (s : State) (p : Fin 4) (q : Fin 8) (f : TxFrame), s.eth.ports.length = 4 ∧ (∀ p : Fin 4, (s.ethPort p).queues.length = 8) ∧
      s.txQueue p q = [f] ∧ s.isOff (.eth p) = false ∧ s.get (ETH_P_STAT.link p) = 1 ∧ s.alwaysOpen p q = false ∧ 65536 * longestOpen q
      (s.gateSpans p ++ s.gateSpans p) * s.ethRate p < wireUnits f.len ∧ (∀ r : Fin 8, r ≠ q → s.txQueue p r = [])) ∧
    (∃ (s : State) (p : Fin 4), s.eth.ports.length = 4 ∧ (∀ p : Fin 4, (s.ethPort p).queues.length = 8) ∧ s.isOff (.eth p) = false ∧
      (s.get (ETH_P_GATE_CYCLE.cycle_ns p) = 0 ∨ (List.range (s.get (ETH_P_GATE_CTL.admin_len_m1 p) + 1)).any (fun i => s.get
      (ETH_P_GCL.interval_ns p (1 - s.get (ETH_P_GATE_CTL.oper_list p)) i) == 0) = true)) ∧
    (∃ (s : State) (p : Fin 4), s.eth.ports.length = 4 ∧ (∀ p : Fin 4, (s.ethPort p).queues.length = 8) ∧ s.isOff (.eth p) = false ∧
      s.get (ETH_P_GATE_CYCLE.cycle_ns p) ≠ 0 ∧ (List.range (s.get (ETH_P_GATE_CTL.admin_len_m1 p) + 1)).any (fun i => s.get
      (ETH_P_GCL.interval_ns p (1 - s.get (ETH_P_GATE_CTL.oper_list p)) i) == 0) = false ∧ s.now < 2 ^ 62 ∧ s.get (ETH_P_GATE_BASE.base
      p) < 2 ^ 62) ∧
    (∃ (s : State) (p : Fin 4) (x : Nat × Nat × Nat), s.eth.ports.length = 4 ∧ (∀ p : Fin 4, (s.ethPort p).queues.length = 8) ∧ s.isOff
      (.eth p) = false ∧ (s.ethPort p).change = some x) ∧
    (∃ (s : State) (p : Fin 4), s.eth.ports.length = 4 ∧ (∀ p : Fin 4, (s.ethPort p).queues.length = 8) ∧ (s.ethPort p).change = none) ∧
    (∃ (s : State) (p : Fin 4), s.eth.ports.length = 4 ∧ (∀ p : Fin 4, (s.ethPort p).queues.length = 8) ∧ (s.ethPort p).operCycle = 0) ∧
    (∃ (s : State) (p : Fin 4), s.eth.ports.length = 4 ∧ (∀ p : Fin 4, (s.ethPort p).queues.length = 8) ∧ s.isOff (.eth p) = false ∧
      (s.ethPort p).operCycle ≠ 0) ∧
    (∃ (s : State) (d : BitVec 48) (v : BitVec 12), s.eth.ports.length = 4 ∧ (∀ p : Fin 4, (s.ethPort p).queues.length = 8) ∧
      s.eth.frer.any (fun x => decide (x.dst = d.toNat ∧ x.vid = v.toNat)) = true) ∧
    (∃ (s : State) (d : BitVec 48) (v : BitVec 12), s.eth.ports.length = 4 ∧ (∀ p : Fin 4, (s.ethPort p).queues.length = 8) ∧
      s.eth.frer.any (fun x => decide (x.dst = d.toNat ∧ x.vid = v.toNat)) = false) ∧
    (∃ (s : State) (p : Fin 4), s.eth.ports.length = 4 ∧ (∀ p : Fin 4, (s.ethPort p).queues.length = 8) ∧ (s.get ETH_PTP_CFG.enable = 0 ∨
      (s.get ETH_PTP_CFG.ports).testBit p = false)) ∧
    (∃ (s : State) (p : Fin 4), s.eth.ports.length = 4 ∧ (∀ p : Fin 4, (s.ethPort p).queues.length = 8) ∧ s.isOff (.eth p) = false ∧
      s.get ETH_PTP_CFG.enable = 1 ∧ (s.get ETH_PTP_CFG.ports).testBit p = true ∧ s.get ETH_PTP_STAT.slave_valid = 1 ∧ s.get
      ETH_PTP_STAT.slave_port = p.val) ∧
    (∃ (s : State) (p : Fin 4), s.eth.ports.length = 4 ∧ (∀ p : Fin 4, (s.ethPort p).queues.length = 8) ∧ s.isOff (.eth p) = false ∧
      s.get ETH_PTP_CFG.enable = 1 ∧ (s.get ETH_PTP_CFG.ports).testBit p = true ∧ (s.get ETH_PTP_STAT.slave_valid = 0 ∨ s.get
      ETH_PTP_STAT.slave_port ≠ p.val)) ∧
    (∃ (s : State) (p : Fin 4), s.eth.ports.length = 4 ∧ (∀ p : Fin 4, (s.ethPort p).queues.length = 8) ∧ s.isOff (.eth p) = false ∧
      s.get ETH_PTP_CFG.enable = 1 ∧ (s.get ETH_PTP_CFG.ports).testBit p = true ∧ ((s.txQueue p 7).map (fun f => f.len)).sum + 72 ≤
      32768) ∧
    (∃ (s : State) (p : Fin 4), s.eth.ports.length = 4 ∧ (∀ p : Fin 4, (s.ethPort p).queues.length = 8) ∧ s.isOff (.eth p) = false ∧
      s.get ETH_PTP_CFG.enable = 1 ∧ (s.get ETH_PTP_CFG.ports).testBit p = true) ∧
    (∃ (s : State), s.eth.ports.length = 4 ∧ (∀ p : Fin 4, (s.ethPort p).queues.length = 8) ∧ (s.get ETH_PTP_CFG.enable = 0 ∨ s.get
      ETH_PTP_CFG.gm_capable = 0 ∨ s.get ETH_PTP_STAT.is_gm = 0)) ∧
    (∃ (s : State), s.eth.ports.length = 4 ∧ (∀ p : Fin 4, (s.ethPort p).queues.length = 8) ∧ s.get ETH_PTP_CFG.enable = 1 ∧ s.get
      ETH_PTP_CFG.gm_capable = 1 ∧ s.get ETH_PTP_STAT.is_gm = 1 ∧ (∀ p : Fin 4, ((s.txQueue p 7).map (fun f => f.len)).sum + 94 ≤ 32768)) ∧
    (∃ (s : State) (x : Fin 4), s.eth.ports.length = 4 ∧ (∀ p : Fin 4, (s.ethPort p).queues.length = 8) ∧ (s.get (RING_PR_CFG.enable
      (s.get (ETH_EXP_CFG.ring x))) = 0 ∨ (∃ y : Fin 4, y ≠ x ∧ s.get (ETH_EXP_CFG.enable y) = 1 ∧ s.get (ETH_EXP_CFG.ring y) = s.get
      (ETH_EXP_CFG.ring x)))) ∧
    (∃ (s : State) (x : Fin 4), s.eth.ports.length = 4 ∧ (∀ p : Fin 4, (s.ethPort p).queues.length = 8) ∧ s.get (RING_PR_CFG.enable
      (s.get (ETH_EXP_CFG.ring x))) = 1 ∧ (∀ y : Fin 4, y ≠ x → s.get (ETH_EXP_CFG.enable y) = 0 ∨ s.get (ETH_EXP_CFG.ring y) ≠ s.get
      (ETH_EXP_CFG.ring x))) ∧
    (∃ (s : State) (x : Fin 4), s.eth.ports.length = 4 ∧ (∀ p : Fin 4, (s.ethPort p).queues.length = 8) ∧ (s.get (ETH_EXP_CFG.enable x) =
      0 ∨ s.get (RING_PR_STAT.level (s.get (ETH_EXP_CFG.ring x))) = 0)) ∧
    (∃ (s : State) (x : Fin 4) (n : Nat) (p : Nat) (q : Nat) (k : Nat), s.eth.ports.length = 4 ∧ (∀ p : Fin 4, (s.ethPort
      p).queues.length = 8) ∧ s.get (ETH_EXP_CFG.ring x) = n ∧ s.get (ETH_EXP_CFG.port x) = p ∧ s.get (ETH_EXP_CFG.pcp x) = q ∧
      s.wholePackets n (s.get (RING_PR_TAIL.index n)) (s.get (RING_PR_STAT.level n)) (Nat.min 45 (s.get (RING_PR_STAT.level n))) = k ∧ 0
      < k ∧ s.get (ETH_EXP_CFG.enable x) = 1 ∧ s.get (ETH_EXP_CFG.frer x) = 0 ∧ s.isOff (.eth (Fin.ofNat 4 p)) = false ∧ ((s.txQueue p
      q).map (fun f => f.len)).sum + 38 + 32 * k ≤ 32768) :=
  ⟨⟨s0, 0, by decide +kernel⟩,
    ⟨s5, 1, by decide +kernel⟩,
    ⟨s10, 1, 5, { kind := FrameKind.qsl 2, len := 100, bytes := [0x1#8, 0x2#8], time := 0 },
      [{ kind := FrameKind.followUp, len := 1500, bytes := [0x3#8], time := 0 }], by decide +kernel⟩,
    ⟨s2, 1, by decide +kernel⟩,
    ⟨s13, 1, by decide +kernel⟩,
    ⟨s15, 2, 5, { kind := FrameKind.followUp, len := 1500, bytes := [0x3#8], time := 0 }, by decide +kernel⟩,
    ⟨s0, 0, by decide +kernel⟩,
    ⟨s16, 1, by decide +kernel⟩,
    ⟨s13, 1, (1099577163776, 3, 500000), by decide +kernel⟩,
    ⟨s0, 0, by decide +kernel⟩,
    ⟨s0, 0, by decide +kernel⟩,
    ⟨s13, 1, by decide +kernel⟩,
    ⟨s20, 0x5#48, 0x1#12, by decide +kernel⟩,
    ⟨s0, 0x0#48, 0x0#12, by decide +kernel⟩,
    ⟨s0, 0, by decide +kernel⟩,
    ⟨s22, 1, by decide +kernel⟩,
    ⟨s21, 1, by decide +kernel⟩,
    ⟨s21, 1, by decide +kernel⟩,
    ⟨s21, 1, by decide +kernel⟩,
    ⟨s0, by decide +kernel⟩,
    ⟨s39, by decide +kernel⟩,
    ⟨s0, 0, by decide +kernel⟩,
    ⟨s43, 1, by decide +kernel⟩,
    ⟨s0, 0, by decide +kernel⟩,
    ⟨s48, 1, 3, 2, 5, 2, by decide +kernel⟩⟩

end W15

namespace W16

abbrev P := stP
def E (s : State) (f : EthSt → EthSt) : State := { s with eth := f s.eth }
def onP (s : State) (p : Nat) (f : EthPort → EthPort) : State := s.setEthPort p (f (s.ethPort p))
def tQ : List Byte := wTable 77 0 1 5 [1, 3, 0, 0] 2 3 [wSetB []]
def base : State := { P rs ([(HUB_MODE_STAT.mode, 6), (TIME_NOW.time, 2 ^ 40), (ETH_ETYPE.qsl_etype, 0x9999), (ETH_P_STAT.link 2, 1)] ++
  [0, 1, 2].flatMap (fun c => [(QSL_TX_ID.identity c, 7 + c), (QSL_RX_ID.identity c, 70 + c), (QSL_RX_CFG.ports c, 4), (QSL_TX_CFG.port c, c), (QSL_TX_CFG.pcp c, 5 + c), (QSL_TX_CFG.len c, 20 + c), (QSL_TX_CFG.enable c, 1),
   (QSL_RX_CFG.len c, 5), (QSL_RX_CFG.crc_limit c, 2), (QSL_RX_CFG.seq_tol c, 3), (QSL_RX_AGE.max_age c, 100)]) ++
  [(QSL_TX_PAYLOAD.data 0 0, 0x11223344), (SAF_STAT.sp_grant_a, 1), (SAF_STAT.snf_grant_a, 1), (SAF_STAT.perm_a, 1), (SAF_STAT.sp_grant_b, 1)]) with
  saf := { rs.saf with sp := wChan tQ [], snf := wChan tQ [] } }
def rx (s : State) (c st ls : Nat) (age : Nat := 0) : State := P s [(QSL_RX_CFG.enable c, 1), (QSL_RX_STAT.state c, st), (QSL_RX_STAT.last_seq c, ls), (QSL_RX_CFG.age_en c, age)]
def us : Nat := 2 ^ 40 / 65536000
def pdu (i seq w : Nat) (t : Nat := us) : List Byte := qslPdu i seq t w [1, 2, 3, 4, 5]
def frer (s : State) : State := E (P s [(ETH_FRER_CFG.enable, 1), (ETH_FRER_CFG.port_a, 2), (ETH_FRER_CFG.port_b, 1), (QSL_TX_CFG.frer 1, 1)]) (fun e => { e with frer := [⟨5, 1, 44, [true, false], false, 63, 0⟩] })
def psfp (s : State) (g m b c : Nat) : State := P s [(ETH_PSFP_CFG.enable 3, 1), (ETH_PSFP_ID.ports 3, 4), (ETH_PSFP_ID.dst_mac 3, 5), (ETH_PSFP_ID.vid 3, 1), (ETH_PSFP_CFG.gate_open 3, g), (ETH_PSFP_CFG.max_sdu 3, m), (ETH_PSFP_CFG.block_oversize 3, b), (ETH_PSFP_METER.cir_mbps 3, c), (ETH_PSFP_METER.cbs_kb 3, 1)]
def s0 : State := rs
def s1 : State := base
def s2 : State := rx (rx base 0 1 0) 1 2 10
def s3 : State := rx (rx base 0 3 0) 1 2 9
def s4 : State := rx (rx base 0 1 0 1) 1 2 9 1
def s8 : State := frer base
def s12 : State := psfp base 0 0 0 0
def s13 : State := psfp base 1 100 1 0
def s14 : State := psfp base 1 80 0 0
def s17 : State := E (psfp base 1 0 0 10) (fun e => { e with meters := [(3, some (0, 2 ^ 40))] })
def s21 : State := onP (rx base 1 1 5) 2 (fun x => { x with live := 1, rxOwn := 2 ^ 18 - 40, rxOther := 0 })
def s24 : State := P base [(QSL_TX_CFG.enable 1, 0)]

/-- Every form of `Obligations.QslConnections` has a state and operands that meet its hypotheses together. -/
theorem witness_QslConnections :
    (∃ (s : State) (c : Fin 8), s.eth.ports.length = 4 ∧ (∀ p : Fin 4, (s.ethPort p).queues.length = 8) ∧ s.eth.qtx.length = 8 ∧
      s.eth.qrx.length = 8 ∧ s.get (QSL_TX_CFG.enable c) = 0 ∧ qslReserved (s.get (QSL_TX_ID.identity c)) = true) ∧
    (∃ (s : State) (c : Fin 8), s.eth.ports.length = 4 ∧ (∀ p : Fin 4, (s.ethPort p).queues.length = 8) ∧ s.eth.qtx.length = 8 ∧
      s.eth.qrx.length = 8 ∧ s.get (QSL_TX_CFG.enable c) = 0 ∧ s.get (QSL_TX_ID.identity c) ≠ 0 ∧ s.get (QSL_TX_ID.identity c) ≠
      0xFFFFFFFF) ∧
    (∃ (s : State) (c : Fin 8) (p : Nat) (q : Nat) (b : List Byte), s.eth.ports.length = 4 ∧ (∀ p : Fin 4, (s.ethPort p).queues.length =
      8) ∧ s.eth.qtx.length = 8 ∧ s.eth.qrx.length = 8 ∧ s.get (QSL_TX_CFG.port c) = p ∧ s.get (QSL_TX_CFG.pcp c) = q ∧ qslPdu (s.get
      (QSL_TX_ID.identity c)) (((s.qtx c).seq + 1) % 65536) s.ptpUs (s.get (QSL_TX_TIMING.window c)) ((s.qtx c).payload.take (Nat.min 64
      (s.get (QSL_TX_CFG.len c)))) = b ∧ s.get (QSL_TX_CFG.enable c) = 1 ∧ s.get (QSL_TX_CFG.frer c) = 0) ∧
    (∃ (s : State) (c : Fin 8) (q : Nat), s.eth.ports.length = 4 ∧ (∀ p : Fin 4, (s.ethPort p).queues.length = 8) ∧ s.eth.qtx.length = 8
      ∧ s.eth.qrx.length = 8 ∧ s.get (QSL_TX_CFG.pcp c) = q ∧ s.get (QSL_TX_CFG.enable c) = 1 ∧ s.get (QSL_TX_CFG.frer c) = 1 ∧ s.get
      ETH_FRER_CFG.enable = 1 ∧ s.get ETH_FRER_CFG.port_a ≠ s.get ETH_FRER_CFG.port_b ∧ (∀ p : Fin 4, s.isOff (.eth p) = false ∧
      ((s.txQueue p q).map (fun f => f.len)).sum ≤ 32000)) ∧
    (∃ (s : State) (c : Fin 8), s.eth.ports.length = 4 ∧ (∀ p : Fin 4, (s.ethPort p).queues.length = 8) ∧ s.eth.qtx.length = 8 ∧
      s.eth.qrx.length = 8 ∧ s.get (QSL_RX_CFG.enable c) = 1) ∧
    (∃ (s : State) (c : Fin 8), s.eth.ports.length = 4 ∧ (∀ p : Fin 4, (s.ethPort p).queues.length = 8) ∧ s.eth.qtx.length = 8 ∧
      s.eth.qrx.length = 8 ∧ s.get (QSL_RX_CFG.enable c) = 0 ∧ qslReserved (s.get (QSL_RX_ID.identity c)) = true) ∧
    (∃ (s : State) (c : Fin 8), s.eth.ports.length = 4 ∧ (∀ p : Fin 4, (s.ethPort p).queues.length = 8) ∧ s.eth.qtx.length = 8 ∧
      s.eth.qrx.length = 8 ∧ s.get (QSL_RX_CFG.enable c) = 0 ∧ s.get (QSL_RX_ID.identity c) ≠ 0 ∧ s.get (QSL_RX_ID.identity c) ≠
      0xFFFFFFFF) ∧
    (∃ (s : State) (c : Fin 8), s.eth.ports.length = 4 ∧ (∀ p : Fin 4, (s.ethPort p).queues.length = 8) ∧ s.eth.qtx.length = 8 ∧
      s.eth.qrx.length = 8 ∧ (s.get (QSL_RX_STAT.state c) = 1 ∨ s.get (QSL_RX_STAT.state c) = 2)) ∧
    (∃ (s : State) (c : Fin 8) (h : Bool), s.eth.ports.length = 4 ∧ (∀ p : Fin 4, (s.ethPort p).queues.length = 8) ∧ s.eth.qtx.length = 8
      ∧ s.eth.qrx.length = 8 ∧ (h = true ∨ s.get (QSL_RX_STAT.state c) = 0 ∨ s.get (QSL_RX_STAT.state c) = 3)) ∧
    (∃ (s : State) (p : Fin 4) (c : Fin 8) (l : List Byte), s.eth.ports.length = 4 ∧ (∀ p : Fin 4, (s.ethPort p).queues.length = 8) ∧
      s.eth.qtx.length = 8 ∧ s.eth.qrx.length = 8 ∧ s.qslMeets p c l ∧ s.get (QSL_RX_STAT.state c) < 2 ∧ qslChecked l ∧ frameNat l 0 1 =
      0x11 ∧ frameNat l 1 1 = s.get (QSL_RX_CFG.len c) ∧ frameNat l 12 2 = s.get (QSL_RX_AGE.max_age c) ∧ s.get (QSL_RX_CFG.age_en c) =
      0) ∧
    (∃ (s : State) (p : Fin 4) (l : List Byte) (r : RxNote) (u : State), s.eth.ports.length = 4 ∧ (∀ p : Fin 4, (s.ethPort
      p).queues.length = 8) ∧ s.eth.qtx.length = 8 ∧ s.eth.qrx.length = 8 ∧ s.rxArrive p (l.length + 4) true r = (true, u) ∧ s.isOff
      (.eth p) = false ∧ s.get (ETH_P_STAT.link p) = 1 ∧ 60 ≤ l.length ∧ l.length ≤ 1518 ∧ isPtp l = true) :=
  ⟨⟨s0, 0, by decide +kernel⟩,
    ⟨s24, 1, by decide +kernel⟩,
    ⟨s1, 0, 0, 5, ([0x11#8, 0x14#8, 0x0#8, 0x0#8, 0x0#8, 0x7#8, 0x0#8, 0x1#8, 0x0#8, 0x0#8, 0x41#8, 0x89#8, 0x0#8, 0xc8#8] ++
      List.replicate 22 0x0#8 ++ [0x98#8, 0x80#8, 0x77#8, 0x8f#8]), by decide +kernel⟩,
    ⟨s8, 1, 6, by decide +kernel⟩,
    ⟨s2, 0, by decide +kernel⟩,
    ⟨s0, 0, by decide +kernel⟩,
    ⟨s1, 0, by decide +kernel⟩,
    ⟨s2, 0, by decide +kernel⟩,
    ⟨s0, 0, true, by decide +kernel⟩,
    ⟨s2, 2, 0, [0x11#8, 0x5#8, 0x0#8, 0x0#8, 0x0#8, 0x46#8, 0x0#8, 0xb#8, 0x0#8, 0x0#8, 0x41#8, 0x89#8, 0x0#8, 0x64#8, 0x0#8, 0x0#8,
      0x1#8, 0x2#8, 0x3#8, 0x4#8, 0x5#8, 0x2a#8, 0x8a#8, 0x27#8, 0xfc#8], by unfold State.qslMeets qslChecked; decide +kernel⟩,
    ⟨s1, 2, ([0x1#8, 0x80#8, 0xc2#8, 0x0#8, 0x0#8, 0xe#8, 0x0#8, 0x0#8, 0x0#8, 0x0#8, 0x0#8, 0x9#8, 0x88#8, 0xf7#8] ++ List.replicate 60
      0x0#8), { own := 0x0#19, other := 0x0#19, corrected := 0x0#8 }, _, by decide +kernel, by decide +kernel, by decide +kernel,
      by decide +kernel, pair_of (by decide +kernel), by decide +kernel⟩⟩

/-- Every form of `Obligations.QslReception` has a state and operands that meet its hypotheses together. -/
theorem witness_QslReception :
    (∃ (s : State) (p : Fin 4) (l : List Byte), s.eth.qrx.length = 8 ∧ (∀ c : Fin 8, s.qslTakes p c l = false)) ∧
    (∃ (s : State) (p : Fin 4) (c : Fin 8) (l : List Byte), s.eth.qrx.length = 8 ∧ s.qslMeets p c l ∧ s.get (QSL_RX_STAT.state c) = 3) ∧
    (∃ (s : State) (p : Fin 4) (c : Fin 8) (l : List Byte), s.eth.qrx.length = 8 ∧ s.qslMeets p c l ∧ s.get (QSL_RX_STAT.state c) ≠ 3 ∧
      ¬qslChecked l) ∧
    (∃ (s : State) (p : Fin 4) (c : Fin 8) (l : List Byte), s.eth.qrx.length = 8 ∧ s.qslMeets p c l ∧ s.get (QSL_RX_STAT.state c) ≠ 3 ∧
      qslChecked l ∧ (frameNat l 0 1 ≠ 0x11 ∨ frameNat l 1 1 ≠ s.get (QSL_RX_CFG.len c) ∨ frameNat l 12 2 ≠ s.get (QSL_RX_AGE.max_age
      c))) ∧
    (∃ (s : State) (p : Fin 4) (c : Fin 8) (l : List Byte), s.eth.qrx.length = 8 ∧ s.qslMeets p c l ∧ s.get (QSL_RX_STAT.state c) ≠ 3 ∧
      qslChecked l ∧ frameNat l 0 1 = 0x11 ∧ frameNat l 1 1 = s.get (QSL_RX_CFG.len c) ∧ frameNat l 12 2 = s.get (QSL_RX_AGE.max_age c) ∧
      s.get (QSL_RX_CFG.age_en c) = 1 ∧ ((s.get TIME_STAT.src_locked = 0 ∧ s.get TIME_STAT.holdover = 0) ∨ sx 32 (s.ptpUs + 2 ^ 32 -
      frameNat l 8 4) < -50 ∨ (s.get (QSL_RX_AGE.max_age c) * 10 : Nat) < sx 32 (s.ptpUs + 2 ^ 32 - frameNat l 8 4))) ∧
    (∃ (s : State) (p : Fin 4) (c : Fin 8) (l : List Byte) (d : Nat), s.eth.qrx.length = 8 ∧ (frameNat l 6 2 + 65536 - s.get
      (QSL_RX_STAT.last_seq c)) % 65536 = d ∧ s.qslMeets p c l ∧ s.get (QSL_RX_STAT.state c) = 2 ∧ qslChecked l ∧ frameNat l 0 1 = 0x11 ∧
      frameNat l 1 1 = s.get (QSL_RX_CFG.len c) ∧ frameNat l 12 2 = s.get (QSL_RX_AGE.max_age c) ∧ s.get (QSL_RX_CFG.age_en c) = 0 ∧ (d =
      0 ∨ 32768 ≤ d)) ∧
    (∃ (s : State) (p : Fin 4) (c : Fin 8) (l : List Byte) (d : Nat), s.eth.qrx.length = 8 ∧ (frameNat l 6 2 + 65536 - s.get
      (QSL_RX_STAT.last_seq c)) % 65536 = d ∧ s.qslMeets p c l ∧ s.get (QSL_RX_STAT.state c) = 2 ∧ qslChecked l ∧ frameNat l 0 1 = 0x11 ∧
      frameNat l 1 1 = s.get (QSL_RX_CFG.len c) ∧ frameNat l 12 2 = s.get (QSL_RX_AGE.max_age c) ∧ s.get (QSL_RX_CFG.age_en c) = 0 ∧
      Nat.max 1 (s.get (QSL_RX_CFG.seq_tol c)) < d ∧ d < 32768) ∧
    (∃ (s : State) (p : Fin 4) (c : Fin 8) (l : List Byte) (d : Nat), s.eth.qrx.length = 8 ∧ (frameNat l 6 2 + 65536 - s.get
      (QSL_RX_STAT.last_seq c)) % 65536 = d ∧ s.qslMeets p c l ∧ s.get (QSL_RX_STAT.state c) = 2 ∧ qslChecked l ∧ frameNat l 0 1 = 0x11 ∧
      frameNat l 1 1 = s.get (QSL_RX_CFG.len c) ∧ frameNat l 12 2 = s.get (QSL_RX_AGE.max_age c) ∧ s.get (QSL_RX_CFG.age_en c) = 0 ∧ 1 ≤
      d ∧ d ≤ Nat.max 1 (s.get (QSL_RX_CFG.seq_tol c)) ∧ d < 32768) ∧
    (∃ (s : State) (p : Fin 4) (c : Fin 8) (l : List Byte), s.eth.qrx.length = 8 ∧ s.qslMeets p c l ∧ s.get (QSL_RX_STAT.state c) < 2 ∧
      qslChecked l ∧ frameNat l 0 1 = 0x11 ∧ frameNat l 1 1 = s.get (QSL_RX_CFG.len c) ∧ frameNat l 12 2 = s.get (QSL_RX_AGE.max_age c) ∧
      (s.get (QSL_RX_CFG.age_en c) = 0 ∨ (s.get TIME_STAT.src_locked = 1 ∧ -50 ≤ sx 32 (s.ptpUs + 2 ^ 32 - frameNat l 8 4) ∧ sx 32
      (s.ptpUs + 2 ^ 32 - frameNat l 8 4) ≤ (s.get (QSL_RX_AGE.max_age c) * 10 : Nat)))) ∧
    (∃ (s : State) (p : Fin 4) (c : Fin 8) (l : List Byte), s.eth.qrx.length = 8 ∧ s.qslMeets p c l ∧ s.get (QSL_RX_STAT.state c) < 2 ∧
      qslChecked l ∧ frameNat l 0 1 = 0x11 ∧ frameNat l 1 1 = s.get (QSL_RX_CFG.len c) ∧ frameNat l 12 2 = s.get (QSL_RX_AGE.max_age c) ∧
      s.get (QSL_RX_CFG.age_en c) = 0) ∧
    (∃ (s : State) (p : Fin 4), s.eth.qrx.length = 8 ∧ (s.isOff (.eth p) = true ∨ s.get (ETH_P_STAT.link p) = 0)) ∧
    (∃ (s : State) (p : Fin 4) (l : List Byte) (r : RxNote) (a : Nat) (b : Nat) (own : Bool), s.eth.qrx.length = 8 ∧ Nat.min r.own.toNat
      (s.ethPort p).rxOwn = a ∧ Nat.min r.other.toNat (s.ethPort p).rxOther = b ∧ (isPtp l || (s.qslParse l).isSome) = own ∧ s.isOff
      (.eth p) = false ∧ s.get (ETH_P_STAT.link p) = 1 ∧ s.eth.ports.length = 4 ∧ (if own then a else Nat.max a 32768) + b + l.length + 4
      ≤ 262144 ∧ (own = false ∨ l.length < 60 ∨ 1518 < l.length)) ∧
    (∃ (s : State) (p : Fin 4) (l : List Byte) (r : RxNote) (a : Nat) (b : Nat) (own : Bool), s.eth.qrx.length = 8 ∧ Nat.min r.own.toNat
      (s.ethPort p).rxOwn = a ∧ Nat.min r.other.toNat (s.ethPort p).rxOther = b ∧ (isPtp l || (s.qslParse l).isSome) = own ∧ s.isOff
      (.eth p) = false ∧ s.get (ETH_P_STAT.link p) = 1 ∧ s.eth.ports.length = 4 ∧ 262144 < (if own then a else Nat.max a 32768) + b +
      l.length + 4) ∧
    (∃ (s : State) (p : Fin 4) (l : List Byte) (r : RxNote) (u : State), s.eth.qrx.length = 8 ∧ s.rxArrive p (l.length + 4) true r =
      (true, u) ∧ s.isOff (.eth p) = false ∧ s.get (ETH_P_STAT.link p) = 1 ∧ 60 ≤ l.length ∧ l.length ≤ 1518 ∧ isPtp l = true) ∧
    (∃ (s : State) (p : Fin 4) (l : List Byte) (r : RxNote) (u : State) (q : QslFrame), s.eth.qrx.length = 8 ∧ s.rxArrive p (l.length +
      4) true r = (true, u) ∧ s.isOff (.eth p) = false ∧ s.get (ETH_P_STAT.link p) = 1 ∧ 60 ≤ l.length ∧ l.length ≤ 1518 ∧ s.qslParse l =
      some q ∧ isPtp l = false ∧ s.psfpMatch p q = none ∧ (q.rtag = none ∨ s.get ETH_FRER_CFG.enable = 0 ∨ (s.get ETH_FRER_CFG.port_a ≠
      p.val ∧ s.get ETH_FRER_CFG.port_b ≠ p.val))) ∧
    (∃ (s : State) (p : Fin 4) (l : List Byte) (r : RxNote) (u : State) (q : QslFrame) (n : Nat) (x : FrerStream), s.eth.qrx.length = 8 ∧
      s.rxArrive p (l.length + 4) true r = (true, u) ∧ s.isOff (.eth p) = false ∧ s.get (ETH_P_STAT.link p) = 1 ∧ 60 ≤ l.length ∧
      l.length ≤ 1518 ∧ s.qslParse l = some q ∧ isPtp l = false ∧ s.psfpMatch p q = none ∧ q.rtag = some n ∧ s.eth.frer = [x] ∧ s.get
      ETH_FRER_CFG.enable = 1 ∧ s.get ETH_FRER_CFG.port_a = p.val ∧ x.dst = q.dst ∧ x.vid = q.vid ∧ x.takeAny = false ∧ x.recov = n ∧ n <
      65536 ∧ x.hist.head? = some true) ∧
    (∃ (s : State) (p : Fin 4) (l : List Byte) (r : RxNote) (u : State) (q : QslFrame) (f : Nat), s.eth.qrx.length = 8 ∧ s.rxArrive p
      (l.length + 4) true r = (true, u) ∧ s.isOff (.eth p) = false ∧ s.get (ETH_P_STAT.link p) = 1 ∧ 60 ≤ l.length ∧ l.length ≤ 1518 ∧
      s.qslParse l = some q ∧ isPtp l = false ∧ s.psfpMatch p q = some f ∧ s.get (ETH_PSFP_CFG.gate_open f) = 0) ∧
    (∃ (s : State) (p : Fin 4) (l : List Byte) (r : RxNote) (u : State) (q : QslFrame) (f : Nat), s.eth.qrx.length = 8 ∧ s.rxArrive p
      (l.length + 4) true r = (true, u) ∧ s.isOff (.eth p) = false ∧ s.get (ETH_P_STAT.link p) = 1 ∧ 60 ≤ l.length ∧ l.length ≤ 1518 ∧
      s.qslParse l = some q ∧ isPtp l = false ∧ s.psfpMatch p q = some f ∧ s.get (ETH_PSFP_CFG.gate_open f) = 1 ∧ s.get
      (ETH_PSFP_CFG.max_sdu f) ≠ 0 ∧ s.get (ETH_PSFP_CFG.max_sdu f) < l.length + 4) ∧
    (∃ (s : State) (p : Fin 4) (l : List Byte) (r : RxNote) (u : State) (q : QslFrame) (f : Nat), s.eth.qrx.length = 8 ∧ s.rxArrive p
      (l.length + 4) true r = (true, u) ∧ s.isOff (.eth p) = false ∧ s.get (ETH_P_STAT.link p) = 1 ∧ 60 ≤ l.length ∧ l.length ≤ 1518 ∧
      s.qslParse l = some q ∧ isPtp l = false ∧ s.psfpMatch p q = some f ∧ s.get (ETH_PSFP_CFG.gate_open f) = 1 ∧ (s.get
      (ETH_PSFP_CFG.max_sdu f) = 0 ∨ l.length + 4 ≤ s.get (ETH_PSFP_CFG.max_sdu f)) ∧ s.get (ETH_PSFP_METER.cir_mbps f) = 0 ∧ q.rtag =
      none) ∧
    (∃ (s : State) (p : Fin 4) (l : List Byte) (r : RxNote) (u : State) (q : QslFrame) (f : Nat), s.eth.qrx.length = 8 ∧ s.rxArrive p
      (l.length + 4) true r = (true, u) ∧ s.isOff (.eth p) = false ∧ s.get (ETH_P_STAT.link p) = 1 ∧ 60 ≤ l.length ∧ l.length ≤ 1518 ∧
      s.qslParse l = some q ∧ isPtp l = false ∧ s.psfpMatch p q = some f ∧ s.get (ETH_PSFP_CFG.gate_open f) = 1 ∧ (s.get
      (ETH_PSFP_CFG.max_sdu f) = 0 ∨ l.length + 4 ≤ s.get (ETH_PSFP_CFG.max_sdu f)) ∧ s.get (ETH_PSFP_METER.cir_mbps f) ≠ 0 ∧ tabGet (fun
      _ => none) s.eth.meters f = some (0, s.now)) :=
  ⟨⟨s0, 1, [], by decide +kernel⟩,
    ⟨s3, 2, 0, [0x11#8, 0x5#8, 0x0#8, 0x0#8, 0x0#8, 0x46#8, 0x0#8, 0xb#8, 0x0#8, 0x0#8, 0x41#8, 0x89#8, 0x0#8, 0x64#8, 0x0#8, 0x0#8,
      0x1#8, 0x2#8, 0x3#8, 0x4#8, 0x5#8, 0x2a#8, 0x8a#8, 0x27#8, 0xfc#8], by unfold State.qslMeets; decide +kernel⟩,
    ⟨s2, 2, 1, [0x11#8, 0x5#8, 0x0#8, 0x0#8, 0x0#8, 0x47#8, 0x0#8, 0xb#8, 0x7#8, 0x0#8, 0x41#8, 0x89#8, 0x0#8, 0x64#8, 0x0#8, 0x0#8,
      0x1#8, 0x2#8, 0x3#8, 0x4#8, 0x5#8, 0x73#8, 0x79#8, 0x67#8, 0xd0#8], by unfold State.qslMeets qslChecked; decide +kernel⟩,
    ⟨s2, 2, 1, [0x11#8, 0x5#8, 0x0#8, 0x0#8, 0x0#8, 0x47#8, 0x0#8, 0xb#8, 0x0#8, 0x0#8, 0x41#8, 0x89#8, 0x0#8, 0x5#8, 0x0#8, 0x0#8,
      0x1#8, 0x2#8, 0x3#8, 0x4#8, 0x5#8, 0xc6#8, 0x12#8, 0x61#8, 0x33#8], by unfold State.qslMeets qslChecked; decide +kernel⟩,
    ⟨s4, 2, 0, [0x11#8, 0x5#8, 0x0#8, 0x0#8, 0x0#8, 0x46#8, 0x0#8, 0xb#8, 0x0#8, 0x0#8, 0x41#8, 0x89#8, 0x0#8, 0x64#8, 0x0#8, 0x0#8,
      0x1#8, 0x2#8, 0x3#8, 0x4#8, 0x5#8, 0x2a#8, 0x8a#8, 0x27#8, 0xfc#8], by unfold State.qslMeets qslChecked; decide +kernel⟩,
    ⟨s2, 2, 1, [0x11#8, 0x5#8, 0x0#8, 0x0#8, 0x0#8, 0x47#8, 0x0#8, 0x9#8, 0x0#8, 0x0#8, 0x41#8, 0x89#8, 0x0#8, 0x64#8, 0x0#8, 0x0#8,
      0x1#8, 0x2#8, 0x3#8, 0x4#8, 0x5#8, 0x45#8, 0xc#8, 0x54#8, 0x31#8], 65535, by unfold State.qslMeets qslChecked; decide +kernel⟩,
    ⟨s2, 2, 1, [0x11#8, 0x5#8, 0x0#8, 0x0#8, 0x0#8, 0x47#8, 0x1#8, 0x2c#8, 0x0#8, 0x0#8, 0x41#8, 0x89#8, 0x0#8, 0x64#8, 0x0#8, 0x0#8,
      0x1#8, 0x2#8, 0x3#8, 0x4#8, 0x5#8, 0xd#8, 0x3c#8, 0x44#8, 0x66#8], 290, by unfold State.qslMeets qslChecked; decide +kernel⟩,
    ⟨s2, 2, 1, [0x11#8, 0x5#8, 0x0#8, 0x0#8, 0x0#8, 0x47#8, 0x0#8, 0xb#8, 0x0#8, 0x0#8, 0x41#8, 0x89#8, 0x0#8, 0x64#8, 0x0#8, 0x0#8,
      0x1#8, 0x2#8, 0x3#8, 0x4#8, 0x5#8, 0x73#8, 0x79#8, 0x67#8, 0xd0#8], 1, by unfold State.qslMeets qslChecked; decide +kernel⟩,
    ⟨s2, 2, 0, [0x11#8, 0x5#8, 0x0#8, 0x0#8, 0x0#8, 0x46#8, 0x0#8, 0xb#8, 0x0#8, 0x0#8, 0x41#8, 0x89#8, 0x0#8, 0x64#8, 0x0#8, 0x0#8,
      0x1#8, 0x2#8, 0x3#8, 0x4#8, 0x5#8, 0x2a#8, 0x8a#8, 0x27#8, 0xfc#8], by unfold State.qslMeets qslChecked; decide +kernel⟩,
    ⟨s2, 2, 0, [0x11#8, 0x5#8, 0x0#8, 0x0#8, 0x0#8, 0x46#8, 0x0#8, 0xb#8, 0x0#8, 0x0#8, 0x41#8, 0x89#8, 0x0#8, 0x64#8, 0x0#8, 0x0#8,
      0x1#8, 0x2#8, 0x3#8, 0x4#8, 0x5#8, 0x2a#8, 0x8a#8, 0x27#8, 0xfc#8], by unfold State.qslMeets qslChecked; decide +kernel⟩,
    ⟨s0, 1, by decide +kernel⟩,
    ⟨s1, 2, [], { own := 0x0#19, other := 0x0#19, corrected := 0x0#8 }, 0, 0, false, by decide +kernel⟩,
    ⟨s21, 2, ([0x0#8, 0x0#8, 0x0#8, 0x0#8, 0x0#8, 0x5#8, 0x0#8, 0x0#8, 0x0#8, 0x0#8, 0x0#8, 0x9#8, 0x81#8, 0x0#8, 0x0#8, 0x1#8, 0x99#8,
      0x99#8, 0x11#8, 0x5#8, 0x0#8, 0x0#8, 0x0#8, 0x47#8, 0x0#8, 0xb#8, 0x0#8, 0x0#8, 0x41#8, 0x89#8, 0x0#8, 0x64#8, 0x0#8, 0x0#8, 0x1#8,
      0x2#8, 0x3#8, 0x4#8, 0x5#8, 0x73#8, 0x79#8, 0x67#8, 0xd0#8] ++ List.replicate 30 0x0#8),
      { own := 0x7ffff#19, other := 0x7ffff#19, corrected := 0xff#8 }, 262104, 0, true, by decide +kernel⟩,
    ⟨s1, 2, ([0x1#8, 0x80#8, 0xc2#8, 0x0#8, 0x0#8, 0xe#8, 0x0#8, 0x0#8, 0x0#8, 0x0#8, 0x0#8, 0x9#8, 0x88#8, 0xf7#8] ++ List.replicate 60
      0x0#8), { own := 0x0#19, other := 0x0#19, corrected := 0x0#8 }, _, by decide +kernel, pair_of (by decide +kernel),
      by decide +kernel⟩,
    ⟨s1, 2, ([0x0#8, 0x0#8, 0x0#8, 0x0#8, 0x0#8, 0x5#8, 0x0#8, 0x0#8, 0x0#8, 0x0#8, 0x0#8, 0x9#8, 0x81#8, 0x0#8, 0x0#8, 0x1#8, 0x99#8,
      0x99#8, 0x11#8, 0x5#8, 0x0#8, 0x0#8, 0x0#8, 0x47#8, 0x0#8, 0xb#8, 0x0#8, 0x0#8, 0x41#8, 0x89#8, 0x0#8, 0x64#8, 0x0#8, 0x0#8, 0x1#8,
      0x2#8, 0x3#8, 0x4#8, 0x5#8, 0x73#8, 0x79#8, 0x67#8, 0xd0#8] ++ List.replicate 30 0x0#8),
      { own := 0x0#19, other := 0x0#19, corrected := 0x0#8 }, _,
      { dst := 5, vid := 1, rtag := none, pdu := ([0x11#8, 0x5#8, 0x0#8, 0x0#8, 0x0#8, 0x47#8, 0x0#8, 0xb#8, 0x0#8, 0x0#8, 0x41#8, 0x89#8, 0x0#8, 0x64#8, 0x0#8, 0x0#8, 0x1#8, 0x2#8, 0x3#8, 0x4#8, 0x5#8, 0x73#8, 0x79#8, 0x67#8, 0xd0#8] ++ List.replicate 30 0x0#8) },
      by decide +kernel, pair_of (by decide +kernel), by decide +kernel⟩,
    ⟨s8, 2, ([0x0#8, 0x0#8, 0x0#8, 0x0#8, 0x0#8, 0x5#8, 0x0#8, 0x0#8, 0x0#8, 0x0#8, 0x0#8, 0x9#8, 0x81#8, 0x0#8, 0x0#8, 0x1#8, 0xf1#8,
      0xc1#8, 0x0#8, 0x0#8, 0x0#8, 0x2c#8, 0x99#8, 0x99#8, 0x11#8, 0x5#8, 0x0#8, 0x0#8, 0x0#8, 0x47#8, 0x0#8, 0xb#8, 0x0#8, 0x0#8,
      0x41#8, 0x89#8, 0x0#8, 0x64#8, 0x0#8, 0x0#8, 0x1#8, 0x2#8, 0x3#8, 0x4#8, 0x5#8, 0x73#8, 0x79#8, 0x67#8, 0xd0#8] ++ List.replicate
      30 0x0#8), { own := 0x0#19, other := 0x0#19, corrected := 0x0#8 }, _,
      { dst := 5, vid := 1, rtag := some 44, pdu := ([0x11#8, 0x5#8, 0x0#8, 0x0#8, 0x0#8, 0x47#8, 0x0#8, 0xb#8, 0x0#8, 0x0#8, 0x41#8, 0x89#8, 0x0#8, 0x64#8, 0x0#8, 0x0#8, 0x1#8, 0x2#8, 0x3#8, 0x4#8, 0x5#8, 0x73#8, 0x79#8, 0x67#8, 0xd0#8] ++ List.replicate 30 0x0#8) },
      44, { dst := 5, vid := 1, recov := 44, hist := [true, false], takeAny := false, runA := 63, runB := 0 }, by decide +kernel, pair_of
      (by decide +kernel), by decide +kernel⟩,
    ⟨s12, 2, ([0x0#8, 0x0#8, 0x0#8, 0x0#8, 0x0#8, 0x5#8, 0x0#8, 0x0#8, 0x0#8, 0x0#8, 0x0#8, 0x9#8, 0x81#8, 0x0#8, 0x0#8, 0x1#8, 0x99#8,
      0x99#8, 0x11#8, 0x5#8, 0x0#8, 0x0#8, 0x0#8, 0x47#8, 0x0#8, 0xb#8, 0x0#8, 0x0#8, 0x41#8, 0x89#8, 0x0#8, 0x64#8, 0x0#8, 0x0#8, 0x1#8,
      0x2#8, 0x3#8, 0x4#8, 0x5#8, 0x73#8, 0x79#8, 0x67#8, 0xd0#8] ++ List.replicate 30 0x0#8),
      { own := 0x0#19, other := 0x0#19, corrected := 0x0#8 }, _,
      { dst := 5, vid := 1, rtag := none, pdu := ([0x11#8, 0x5#8, 0x0#8, 0x0#8, 0x0#8, 0x47#8, 0x0#8, 0xb#8, 0x0#8, 0x0#8, 0x41#8, 0x89#8, 0x0#8, 0x64#8, 0x0#8, 0x0#8, 0x1#8, 0x2#8, 0x3#8, 0x4#8, 0x5#8, 0x73#8, 0x79#8, 0x67#8, 0xd0#8] ++ List.replicate 30 0x0#8) },
      3, by decide +kernel, pair_of (by decide +kernel), by decide +kernel⟩,
    ⟨s14, 2, ([0x0#8, 0x0#8, 0x0#8, 0x0#8, 0x0#8, 0x5#8, 0x0#8, 0x0#8, 0x0#8, 0x0#8, 0x0#8, 0x9#8, 0x81#8, 0x0#8, 0x0#8, 0x1#8, 0xf1#8,
      0xc1#8, 0x0#8, 0x0#8, 0x0#8, 0x2c#8, 0x99#8, 0x99#8, 0x11#8, 0x5#8, 0x0#8, 0x0#8, 0x0#8, 0x47#8, 0x0#8, 0xb#8, 0x0#8, 0x0#8,
      0x41#8, 0x89#8, 0x0#8, 0x64#8, 0x0#8, 0x0#8, 0x1#8, 0x2#8, 0x3#8, 0x4#8, 0x5#8, 0x73#8, 0x79#8, 0x67#8, 0xd0#8] ++ List.replicate
      30 0x0#8), { own := 0x0#19, other := 0x0#19, corrected := 0x0#8 }, _,
      { dst := 5, vid := 1, rtag := some 44, pdu := ([0x11#8, 0x5#8, 0x0#8, 0x0#8, 0x0#8, 0x47#8, 0x0#8, 0xb#8, 0x0#8, 0x0#8, 0x41#8, 0x89#8, 0x0#8, 0x64#8, 0x0#8, 0x0#8, 0x1#8, 0x2#8, 0x3#8, 0x4#8, 0x5#8, 0x73#8, 0x79#8, 0x67#8, 0xd0#8] ++ List.replicate 30 0x0#8) },
      3, by decide +kernel, pair_of (by decide +kernel), by decide +kernel⟩,
    ⟨s13, 2, ([0x0#8, 0x0#8, 0x0#8, 0x0#8, 0x0#8, 0x5#8, 0x0#8, 0x0#8, 0x0#8, 0x0#8, 0x0#8, 0x9#8, 0x81#8, 0x0#8, 0x0#8, 0x1#8, 0x99#8,
      0x99#8, 0x11#8, 0x5#8, 0x0#8, 0x0#8, 0x0#8, 0x47#8, 0x0#8, 0xb#8, 0x0#8, 0x0#8, 0x41#8, 0x89#8, 0x0#8, 0x64#8, 0x0#8, 0x0#8, 0x1#8,
      0x2#8, 0x3#8, 0x4#8, 0x5#8, 0x73#8, 0x79#8, 0x67#8, 0xd0#8] ++ List.replicate 30 0x0#8),
      { own := 0x0#19, other := 0x0#19, corrected := 0x0#8 }, _,
      { dst := 5, vid := 1, rtag := none, pdu := ([0x11#8, 0x5#8, 0x0#8, 0x0#8, 0x0#8, 0x47#8, 0x0#8, 0xb#8, 0x0#8, 0x0#8, 0x41#8, 0x89#8, 0x0#8, 0x64#8, 0x0#8, 0x0#8, 0x1#8, 0x2#8, 0x3#8, 0x4#8, 0x5#8, 0x73#8, 0x79#8, 0x67#8, 0xd0#8] ++ List.replicate 30 0x0#8) },
      3, by decide +kernel, pair_of (by decide +kernel), by decide +kernel⟩,
    ⟨s17, 2, ([0x0#8, 0x0#8, 0x0#8, 0x0#8, 0x0#8, 0x5#8, 0x0#8, 0x0#8, 0x0#8, 0x0#8, 0x0#8, 0x9#8, 0x81#8, 0x0#8, 0x0#8, 0x1#8, 0x99#8,
      0x99#8, 0x11#8, 0x5#8, 0x0#8, 0x0#8, 0x0#8, 0x47#8, 0x0#8, 0xb#8, 0x0#8, 0x0#8, 0x41#8, 0x89#8, 0x0#8, 0x64#8, 0x0#8, 0x0#8, 0x1#8,
      0x2#8, 0x3#8, 0x4#8, 0x5#8, 0x73#8, 0x79#8, 0x67#8, 0xd0#8] ++ List.replicate 30 0x0#8),
      { own := 0x0#19, other := 0x0#19, corrected := 0x0#8 }, _,
      { dst := 5, vid := 1, rtag := none, pdu := ([0x11#8, 0x5#8, 0x0#8, 0x0#8, 0x0#8, 0x47#8, 0x0#8, 0xb#8, 0x0#8, 0x0#8, 0x41#8, 0x89#8, 0x0#8, 0x64#8, 0x0#8, 0x0#8, 0x1#8, 0x2#8, 0x3#8, 0x4#8, 0x5#8, 0x73#8, 0x79#8, 0x67#8, 0xd0#8] ++ List.replicate 30 0x0#8) },
      3, by decide +kernel, pair_of (by decide +kernel), by decide +kernel⟩⟩

end W16

namespace W17

abbrev P := stP
def T (s : State) (f : TimeSt → TimeSt) : State := { s with time := f s.time }
def base : State := T (P rs ([(HUB_MODE_STAT.mode, 6), (TIME_NOW.time, 2 ^ 40), (TIME_STAT.rpll_locked, 1), (TIME_CTL.time_src, 1), (TIME_TIN_CFG.edge 1, 3), (TIME_TIN_CFG.enable 1, 1), (TIME_TIN_CFG.edge 2, 1)])) (fun t => { t with everLocked := true })
def run1 : StatsRun := { wStatsRun with src := 1, a := 1, n := 3, owner := 4, count := 2, sum := 10, squares := 60, min := 4, max := 6 }
def recs (s : State) : State := { s with cal := { s.cal with loaded := [⟨1, 6144, []⟩, ⟨1, 6146, []⟩, ⟨1, 6148, []⟩, ⟨1, 6150, []⟩, ⟨1, 6152, []⟩] } }
def s0 : State := recs rs
def s1 : State := recs base
def s2 : State := P (recs base) [(TIME_STAT.warm, 1), (TIME_STAT.ocxo_warm, 1), (TIME_STAT.src_locked, 1)]
def s3 : State := P (recs base) [(TIME_STAT.ocxo_warm, 1)]
def s14 : State := { base with cal := { base.cal with hubDead := [4, 1] } }
def s15 : State := T (recs base) (fun t => { t with lastEdge := [none, some (128 * 1000 - 100), none, none, some (128 * 1000 - 3)] })
def s16 : State := T (recs base) (fun t => { t with fifo := [[], List.replicate 64 3, [1, 2], []] })
def s18 : State := T (recs base) (fun t => { t with run := some run1, samples := [5, 7] })
def s19 : State := T (P base [(HUB_CLAIM.owner 18, 4)]) (fun t => { t with run := some run1, samples := [2 ^ 31] })
def s20 : State := T (P base [(HUB_CLAIM.owner 18, 4)]) (fun t => { t with run := some (run1.add 5), samples := [2 ^ 31] })
def s22 : State := P (recs base) [(TIME_STATS_CFG.src, 4)]

/-- Every form of `Obligations.TimeBase` has a state and operands that meet its hypotheses together. -/
theorem witness_TimeBase :
    (∃ (s : State), s.get TIME_STAT.rpll_locked = 0) ∧
    (∃ (s : State), s.time.everLocked = false) ∧
    (∃ (s : State), (s.get FIRE_FRAME_STAT.running = 1 ∨ s.time.everLocked = false)) ∧
    (∃ (s : State), s.get FIRE_FRAME_STAT.running = 0 ∧ s.time.everLocked = true) ∧
    (∃ (s : State) (src : Fin 4), s.time.run = none ∧ (src.val = 0 ∨ s.timeSrc ≠ src.val)) ∧
    (∃ (s : State) (src : Fin 4) (o : BitVec 64), s.time.run = none ∧ src.val ≠ 0 ∧ s.timeSrc = src.val ∧ (s.get TIME_CTL.step_en = 0 ∨
      s.get FIRE_FRAME_STAT.running = 1 ∨ o.toInt.natAbs ≤ 65536000 ∨ s.time.everLocked = false)) ∧
    (∃ (s : State) (src : Fin 4) (o : BitVec 64), s.time.run = none ∧ src.val ≠ 0 ∧ s.timeSrc = src.val ∧ s.get TIME_CTL.step_en = 1 ∧
      s.get FIRE_FRAME_STAT.running = 0 ∧ 65536000 < o.toInt.natAbs ∧ s.time.everLocked = true) ∧
    (∃ (s : State), s.timeSrc ≠ 0 ∧ s.get TIME_STAT.holdover = 0) ∧
    (∃ (s : State), (s.timeSrc = 0 ∨ s.get TIME_STAT.holdover = 1)) ∧
    (∃ (s : State) (h : Word16), s.get TIME_STAT.rpll_locked = 1 ∧ s.get TIME_STAT.ocxo_warm = 1 ∧ s.get TIME_WARM_CFG.settle_s ≤ h.toNat
      ∧ s.get TIME_STAT.warm = 0) ∧
    (∃ (s : State) (h : Word16), (s.get TIME_STAT.rpll_locked = 0 ∨ s.get TIME_STAT.ocxo_warm = 0 ∨ h.toNat < s.get
      TIME_WARM_CFG.settle_s ∨ s.get TIME_STAT.warm = 1)) :=
  ⟨⟨s0, by decide +kernel⟩,
    ⟨s0, by decide +kernel⟩,
    ⟨s0, by decide +kernel⟩,
    ⟨s1, by decide +kernel⟩,
    ⟨s0, 0, by decide +kernel⟩,
    ⟨s1, 1, 0x0#64, by decide +kernel⟩,
    ⟨s1, 1, 0x3e80001#64, by decide +kernel⟩,
    ⟨s1, by decide +kernel⟩,
    ⟨s0, by decide +kernel⟩,
    ⟨s3, 0xff#16, by decide +kernel⟩,
    ⟨s0, 0x0#16, by decide +kernel⟩⟩

/-- Every form of `Obligations.StampsAndStatistics` has a state and operands that meet its hypotheses together. -/
theorem witness_StampsAndStatistics :
    (∃ (s : State) (c : BitVec 49) (r : Fin 160), s.time.fifo.length = 4 ∧ s.time.ovf.length = 4 ∧ s.time.lastEdge.length = 5 ∧
      (s.hubTdcDead 4 = true ∨ s.inDead 4 (s.hubStamp 4 0 c.toNat r) = true)) ∧
    (∃ (s : State) (c : BitVec 49) (r : Fin 160) (x : Nat), s.time.fifo.length = 4 ∧ s.time.ovf.length = 4 ∧ s.time.lastEdge.length = 5 ∧
      s.hubStamp 4 0 c.toNat r = x ∧ s.hubTdcDead 4 = false ∧ s.inDead 4 x = false ∧ s.get TIME_STAT.src_locked = 1 ∧ 65536000000 <
      (s.ppsOffset x).natAbs) ∧
    (∃ (s : State) (c : BitVec 49) (r : Fin 160) (x : Nat), s.time.fifo.length = 4 ∧ s.time.ovf.length = 4 ∧ s.time.lastEdge.length = 5 ∧
      s.hubStamp 4 0 c.toNat r = x ∧ s.hubTdcDead 4 = false ∧ s.inDead 4 x = false ∧ (s.get TIME_STAT.src_locked = 0 ∨ (s.ppsOffset
      x).natAbs ≤ 65536000000)) ∧
    (∃ (s : State) (n : Fin 4) (h : Bool), s.time.fifo.length = 4 ∧ s.time.ovf.length = 4 ∧ s.time.lastEdge.length = 5 ∧ (s.hubTdcDead n
      = true ∨ (s.get (TIME_TIN_CFG.edge n)).testBit (bit (!h)) = false)) ∧
    (∃ (s : State) (n : Fin 4) (h : Bool) (c : BitVec 49) (r : Fin 160) (x : Nat), s.time.fifo.length = 4 ∧ s.time.ovf.length = 4 ∧
      s.time.lastEdge.length = 5 ∧ s.hubStamp n (bit (!h)) c.toNat r = x ∧ s.hubTdcDead n = false ∧ (s.get (TIME_TIN_CFG.edge n)).testBit
      (bit (!h)) = true ∧ s.inDead n x = true) ∧
    (∃ (s : State) (n : Fin 4) (h : Bool) (c : BitVec 49) (r : Fin 160) (x : Nat), s.time.fifo.length = 4 ∧ s.time.ovf.length = 4 ∧
      s.time.lastEdge.length = 5 ∧ s.hubStamp n (bit (!h)) c.toNat r = x ∧ s.hubTdcDead n = false ∧ (s.get (TIME_TIN_CFG.edge n)).testBit
      (bit (!h)) = true ∧ s.inDead n x = false ∧ s.time.run = none ∧ s.get (TIME_TIN_CFG.enable n) = 1 ∧ (s.fifo n).length < 64) ∧
    (∃ (s : State) (n : Fin 4) (h : Bool) (c : BitVec 49) (r : Fin 160) (x : Nat), s.time.fifo.length = 4 ∧ s.time.ovf.length = 4 ∧
      s.time.lastEdge.length = 5 ∧ s.hubStamp n (bit (!h)) c.toNat r = x ∧ s.hubTdcDead n = false ∧ (s.get (TIME_TIN_CFG.edge n)).testBit
      (bit (!h)) = true ∧ s.inDead n x = false ∧ s.time.run = none ∧ s.get (TIME_TIN_CFG.enable n) = 1 ∧ 64 ≤ (s.fifo n).length) ∧
    (∃ (s : State) (n : Fin 4) (h : Bool) (c : BitVec 49) (r : Fin 160) (x : Nat), s.time.fifo.length = 4 ∧ s.time.ovf.length = 4 ∧
      s.time.lastEdge.length = 5 ∧ s.hubStamp n (bit (!h)) c.toNat r = x ∧ s.hubTdcDead n = false ∧ (s.get (TIME_TIN_CFG.edge n)).testBit
      (bit (!h)) = true ∧ s.inDead n x = false ∧ s.time.run = none ∧ s.get (TIME_TIN_CFG.enable n) = 0) ∧
    (∃ (s : State) (p : Port) (n : Fin 4), s.time.fifo.length = 4 ∧ s.time.ovf.length = 4 ∧ s.time.lastEdge.length = 5 ∧ s.portLive p =
      true ∧ s.fifo n = []) ∧
    (∃ (s : State) (p : Port) (n : Fin 4) (v : Nat) (l : List Nat), s.time.fifo.length = 4 ∧ s.time.ovf.length = 4 ∧
      s.time.lastEdge.length = 5 ∧ s.portLive p = true ∧ s.fifo n = v :: l) ∧
    (∃ (s : State) (p : Port) (w : Nat), s.time.fifo.length = 4 ∧ s.time.ovf.length = 4 ∧ s.time.lastEdge.length = 5 ∧ s.portLive p =
      true ∧ (if p = .clusterA ∨ p = .clusterB then 5 else 4) = w ∧ s.time.run = none ∧ 4 ≤ s.get TIME_STATS_CFG.src) ∧
    (∃ (s : State) (p : Port) (w : Nat), s.time.fifo.length = 4 ∧ s.time.ovf.length = 4 ∧ s.time.lastEdge.length = 5 ∧ s.portLive p =
      true ∧ (if p = .clusterA ∨ p = .clusterB then 5 else 4) = w ∧ s.time.run = none ∧ s.get TIME_STATS_CFG.src < 4 ∧ (s.get
      (HUB_CLAIM.owner 18) = 0 ∨ s.get (HUB_CLAIM.owner 18) = w)) ∧
    (∃ (s : State) (p : Port) (w : Nat), s.time.fifo.length = 4 ∧ s.time.ovf.length = 4 ∧ s.time.lastEdge.length = 5 ∧ s.portLive p =
      true ∧ (if p = .clusterA ∨ p = .clusterB then 5 else 4) = w ∧ s.get (HUB_CLAIM.owner 18) ≠ 0 ∧ s.get (HUB_CLAIM.owner 18) ≠ w ∧
      (s.time.run ≠ none ∨ s.get TIME_STATS_CFG.src < 4)) ∧
    (∃ (s : State) (p : Port) (w : Nat), s.time.fifo.length = 4 ∧ s.time.ovf.length = 4 ∧ s.time.lastEdge.length = 5 ∧ s.portLive p =
      true ∧ (if p = .clusterA ∨ p = .clusterB then 5 else 4) = w ∧ s.time.run ≠ none ∧ s.get (HUB_CLAIM.owner 18) = w) ∧
    (∃ (s : State) (r : StatsRun) (x : Int) (l : List Int), s.time.fifo.length = 4 ∧ s.time.ovf.length = 4 ∧ s.time.lastEdge.length = 5 ∧
      s.time.run = some r ∧ s.time.samples = x :: l ∧ (x < -2147483648 ∨ 2147483647 < x)) ∧
    (∃ (s : State) (r : StatsRun) (x : Int) (l : List Int), s.time.fifo.length = 4 ∧ s.time.ovf.length = 4 ∧ s.time.lastEdge.length = 5 ∧
      s.time.run = some r ∧ s.time.samples = x :: l ∧ -2147483648 ≤ x ∧ x ≤ 2147483647 ∧ r.count < r.n) ∧
    (∃ (s : State) (r : StatsRun), s.time.fifo.length = 4 ∧ s.time.ovf.length = 4 ∧ s.time.lastEdge.length = 5 ∧ s.time.run = some r ∧
      r.n ≤ r.count) :=
  ⟨⟨s14, 0x0#49, 0, by decide +kernel⟩,
    ⟨s2, 0x1ffffffffffff#49, 0, 72057594037927808, by decide +kernel⟩,
    ⟨s0, 0x0#49, 0, 0, by decide +kernel⟩,
    ⟨s0, 0, false, by decide +kernel⟩,
    ⟨s15, 1, true, 0x3e8#49, 0, 128000, by decide +kernel⟩,
    ⟨s1, 1, true, 0x0#49, 0, 0, by decide +kernel⟩,
    ⟨s16, 1, true, 0x0#49, 0, 0, by decide +kernel⟩,
    ⟨s0, 0, true, 0x0#49, 0, 0, by decide +kernel⟩,
    ⟨s0, Port.pcie, 0, by decide +kernel⟩,
    ⟨s16, Port.pcie, 1, 3, List.replicate 63 3, by decide +kernel⟩,
    ⟨s22, Port.pcie, 4, by decide +kernel⟩,
    ⟨s0, Port.pcie, 4, by decide +kernel⟩,
    ⟨s19, Port.clusterA, 5, by decide +kernel⟩,
    ⟨s19, Port.pcie, 4, by decide +kernel⟩,
    ⟨s19,
      { src := 1, a := 1, b := 0, refTile := 0, refK := 0, n := 3, owner := 4, count := 2, sum := 10, squares := 60, min := 4, max := 6 },
      2147483648, [], by decide +kernel⟩,
    ⟨s18,
      { src := 1, a := 1, b := 0, refTile := 0, refK := 0, n := 3, owner := 4, count := 2, sum := 10, squares := 60, min := 4, max := 6 },
      5, [7], by decide +kernel⟩,
    ⟨s20,
      { src := 1, a := 1, b := 0, refTile := 0, refK := 0, n := 3, owner := 4, count := 3, sum := 15, squares := 85, min := 4, max := 6 },
      by decide +kernel⟩⟩

end W17

namespace W18

abbrev P := stP
def C (s : State) (f : CalSt → CalSt) : State := { s with cal := f s.cal }
def rcd (ty ix gen : Nat) (p : List Byte) : List Byte := let b := toLE 1 ty ++ [1] ++ toLE 2 ix ++ toLE 4 p.length ++ toLE 4 gen ++ toLE 4 0 ++ p ++ List.replicate ((4 - p.length % 4) % 4) 0; b ++ toLE 4 (crc32 b)
def endRec : List Byte := rcd 0 0 0 []
def fac : List Byte := rcd 3 2 0 (List.replicate 520 1) ++ rcd 2 4 0 (List.replicate 64 2)
def mk (g : Nat) : List Byte := let m := toLE 4 g ++ toLE 4 (0xFFFFFFFF - g); m ++ toLE 4 (crc32 m)
def nor1 : List Host.Cell := memStore (memStore (memStore [] 0 fac) 0x800000 (rcd 0x14 0 5 [9, 0, 0, 0])) (0x800000 + 0x3F0000) (mk 5)
def base : State := { P rs ([(HUB_MODE_STAT.mode, 4), (TIME_NOW.time, 2 ^ 40), (THM_STAT.nvm_inhibit, 0), (BIST_CFG.enable, 1), (BIST_MASK.slices, 2 ^ 18 - 1)] ++ (List.range 6).map (fun t => (TILE_GANG_STAT.locked t, 1))) with nor := nor1 }
def stage (s : State) (l : List Byte) : State := { s with calStage := memStore [] 0 l }
def nset : List Byte := rcd 0x14 0 0 [7, 0, 0, 0]
def slice (x : Nat) (s : State) : State := P s [(BIST_STAT.next_slice, x)]
def boot (s : State) : State := P s [(HUB_MODE_STAT.mode, 1)]
def cr (n : Fin 260) (h l a b : Int) : CalResult := ⟨2, n, Vector.ofFn (fun k => Vector.ofFn (fun i => BitVec.ofInt 16 (((i.val * (7 + 3 * k.val) + 5) % 29 : Nat) - 11 + (if k.val < 2 then 400 else 1600)))), #v[BitVec.ofInt 16 (h + 400), 398, 1601, BitVec.ofInt 16 (l + 1600)], BitVec.ofInt 64 a, BitVec.ofInt 64 b⟩
def s0 : State := rs
def s1 : State := base
def s2 : State := P base [(BIST_CFG.enable, 0)]
def s5 : State := P base [(CAL_NVM_STAT.busy, 1)]
def s7 : State := stage base (nset ++ endRec)
def s9 : State := C base (fun c => { c with nvmSet := some nset })
def s12 : State := C base (fun c => { c with loaded := [⟨0x14, 0, nset.take 24⟩] })
def rom0 (s : State) : State := { s with cal := { s.cal with rom := ⟨Vector.replicate 14 0, Vector.replicate 6 0, Vector.replicate 18 0⟩ } }
def s17 : State := C { rom0 base with hub := { base.hub with isolated := [.clb] } } (fun c => { c with bistRun := some 16, bistRan := [], bistPower := true })
def s20 : State := C base (fun c => { c with job := some (63, 1, false) })
def s22 : State := C base (fun c => { c with job := some (4, 2, false) })
def s23 : State := C (P base [(TILE_TDC_FAIL.failed 2 0, 896)]) (fun c => { c with job := some (4, 2, false) })
def s28 : State := P (slice 0 base) [(BIST_SLICE_STAT.result 0, 2)]
def s29 : State := P (slice 0 base) [(BIST_SLICE_STAT.result 1, 2)]

/-- Every form of `Obligations.CalibrationAndSelfTest` has a state and operands that meet its hypotheses together. -/
theorem witness_CalibrationAndSelfTest :
    (∃ (s : State), (s.mode ≠ 1 ∨ s.boot.calLoaded = true)) ∧
    (∃ (s : State), s.mode = 1 ∧ s.boot.calLoaded = false) ∧
    (∃ (s : State), s.get CAL_NVM_STAT.busy = 1) ∧
    (∃ (s : State), s.get CAL_NVM_STAT.busy = 0 ∧ s.get THM_STAT.nvm_inhibit = 1) ∧
    (∃ (s : State) (e : Nat), s.get CAL_NVM_STAT.busy = 0 ∧ s.get THM_STAT.nvm_inhibit = 0 ∧ e < 8 ∧ stageRecs s.calStage 52429 0 =
      .error e) ∧
    (∃ (s : State) (l : List (List Byte)), s.get CAL_NVM_STAT.busy = 0 ∧ s.get THM_STAT.nvm_inhibit = 0 ∧ stageRecs s.calStage 52429 0 =
      .ok l) ∧
    (∃ (s : State), s.cal.nvmSet = none) ∧
    (∃ (s : State) (h : Bool) (v : Bool) (l : List Byte), s.cal.nvmSet = some l ∧ (h = true ∨ s.get THM_STAT.nvm_inhibit = 1 ∨ v = true)) ∧
    (∃ (s : State) (l : List Byte), s.cal.nvmSet = some l ∧ s.get THM_STAT.nvm_inhibit = 0) ∧
    (∃ (s : State) (y : BitVec 8) (n : Word16), s.get CAL_NVM_STAT.busy = 0 ∧ s.calRec y.toNat n.toNat = none) ∧
    (∃ (s : State) (y : BitVec 8) (n : Word16) (r : CalRec), s.calRec y.toNat n.toNat = some r ∧ s.get CAL_NVM_STAT.busy = 0) ∧
    (∃ (s : State), s.cal.job = none) ∧
    (∃ (s : State) (j : Nat × Nat × Bool) (r : CalResult), s.cal.job = some j ∧ j.1.testBit r.tile = true ∧ j.2.1 = 1) ∧
    (∃ (r : CalResult) (k : Fin 4) (n : Fin 28) (p : Int) (a : Nat) (b : Nat), (if k.val < 2 then 400 else 1600 : Int) = p ∧
      (r.trips[k])[n].toNat = a ∧ ((r.trips[k]).toList.getD (calPick r k) 0).toNat = b ∧ (a - p).natAbs = (b - p).natAbs) ∧
    (∃ (s : State) (j : Nat × Nat × Bool) (r : CalResult) (q : CalResult), s.cal.job = some j ∧ j.1.testBit r.tile = true ∧ j.2.1 = 2 ∧
      j.2.2 = false ∧ q.tile = r.tile ∧ q.chan ≠ r.chan ∧ s.tdcWorks r.tile r.chan = true ∧ s.tdcWorks q.tile q.chan = true) ∧
    (∃ (s : State) (j : Nat × Nat × Bool) (r : CalResult), s.cal.job = some j ∧ j.1.testBit r.tile = true ∧ j.2.1 = 2 ∧ j.2.2 = false ∧
      s.tdcWorks r.tile r.chan = false) ∧
    (∃ (s : State), (s.get BIST_CFG.enable = 0 ∨ s.get BIST_MASK.slices = 0)) ∧
    (∃ (s : State) (x : Nat), nextSlice s.bistOn (s.get BIST_STAT.next_slice) = x ∧ s.get BIST_CFG.enable = 1 ∧ s.get BIST_MASK.slices ≠
      0 ∧ s.sliceResult x = 2) ∧
    (∃ (s : State) (x : Nat), nextSlice s.bistOn (s.get BIST_STAT.next_slice) = x ∧ s.get BIST_CFG.enable = 1 ∧ s.get BIST_MASK.slices ≠
      0 ∧ s.sliceResult x ≠ 2 ∧ x < 9 ∧ (∃ y : Fin 9, s.sliceResult y = 2)) ∧
    (∃ (s : State) (h : Bool) (x : Nat), nextSlice s.bistOn (s.get BIST_STAT.next_slice) = x ∧ s.get BIST_CFG.enable = 1 ∧ s.get
      BIST_MASK.slices ≠ 0 ∧ s.sliceResult x ≠ 2 ∧ (9 ≤ x ∨ ∀ y : Fin 9, s.sliceResult y ≠ 2) ∧ s.bistMay x h = true) ∧
    (∃ (s : State) (h : Bool) (x : Nat), nextSlice s.bistOn (s.get BIST_STAT.next_slice) = x ∧ s.get BIST_CFG.enable = 1 ∧ s.get
      BIST_MASK.slices ≠ 0 ∧ s.sliceResult x ≠ 2 ∧ (9 ≤ x ∨ ∀ y : Fin 9, s.sliceResult y ≠ 2) ∧ s.bistMay x h = false) ∧
    (∃ (s : State), s.cal.bistRun = none) ∧
    (∃ (s : State) (w : Word64) (v : Bool) (p : Bool) (x : Nat), s.cal.bistRun = some x ∧ x < 18 ∧ p = (decide
      (s.cal.rom.slice.toList[x]? = some w) && (decide (x < 14) || v))) :=
  ⟨⟨s1, by decide +kernel⟩,
    ⟨s0, by decide +kernel⟩,
    ⟨s5, by decide +kernel⟩,
    ⟨s0, by decide +kernel⟩,
    ⟨s1, 4, by decide +kernel, by decide +kernel, by decide +kernel, err_of (by decide +kernel)⟩,
    ⟨s7, [([0x14#8, 0x1#8, 0x0#8, 0x0#8, 0x4#8] ++ List.replicate 11 0x0#8 ++ [0x7#8, 0x0#8, 0x0#8, 0x0#8, 0x97#8, 0x2f#8, 0xfa#8,
      0x3f#8])], by decide +kernel, by decide +kernel, ok_of (by decide +kernel)⟩,
    ⟨s0, by decide +kernel⟩,
    ⟨s9, true, true, ([0x14#8, 0x1#8, 0x0#8, 0x0#8, 0x4#8] ++ List.replicate 11 0x0#8 ++ [0x7#8, 0x0#8, 0x0#8, 0x0#8, 0x97#8, 0x2f#8, 0xfa#8, 0x3f#8]), by decide +kernel⟩,
    ⟨s9, ([0x14#8, 0x1#8, 0x0#8, 0x0#8, 0x4#8] ++ List.replicate 11 0x0#8 ++ [0x7#8, 0x0#8, 0x0#8, 0x0#8, 0x97#8, 0x2f#8, 0xfa#8, 0x3f#8]),
      by decide +kernel⟩,
    ⟨s0, 0x0#8, 0x0#16, by decide +kernel⟩,
    ⟨s12, 0x14#8, 0x0#16,
      { type := 20, index := 0, bytes := ([0x14#8, 0x1#8, 0x0#8, 0x0#8, 0x4#8] ++ List.replicate 11 0x0#8 ++ [0x7#8, 0x0#8, 0x0#8, 0x0#8, 0x97#8, 0x2f#8, 0xfa#8, 0x3f#8]) },
      by decide +kernel⟩,
    ⟨s0, by decide +kernel⟩,
    ⟨s20, (63, 1, false), cr 259 (1) (-1) (100) (50), by decide +kernel⟩,
    ⟨cr 259 (1) (-1) (100) (50), 0, 5, 400, 400, 400, by decide +kernel⟩,
    ⟨s22, (4, 2, false), cr 259 (1) (-1) (100) (50), cr 7 (0) (-200) (0) (0), by decide +kernel⟩,
    ⟨s23, (4, 2, false), cr 7 (0) (-200) (0) (0), by decide +kernel⟩,
    ⟨s2, by decide +kernel⟩,
    ⟨s28, 0, by decide +kernel⟩,
    ⟨s29, 0, by decide +kernel⟩,
    ⟨s1, true, 0, by decide +kernel⟩,
    ⟨s0, true, 0, by decide +kernel⟩,
    ⟨s0, by decide +kernel⟩,
    ⟨s17, 0x0#64, true, true, 16, by decide +kernel⟩⟩

end W18

namespace W19

abbrev P := stP
def T (s : State) (f : TwnSt → TwnSt) : State := { s with twn := f s.twn }
def base : State := P rs [(HUB_MODE_STAT.mode, 6), (TIME_NOW.time, 2 ^ 40), (TWN_CTL.auto_rejoin, 0), (TWN_CTL.enable, 1), (TWN_STAT.link_up, 1), (TWN_STAT.lanes_up, 3), (TWN_STAT.unit, 0), (TWN_MIRROR_BASE.base, 2), (MEM_STAT.mem_active, 1), (MEM_EXTENT.extent, 2 ^ 27), (TWN_OVL_CFG.az_tol, 3), (TWN_OVL_CFG.ovl_tol, 10)]
def lp (s : State) : State := { s with loops := s.loops.set 2 { LoopSt.init with claimed := some 4 } |>.set 5 { LoopSt.init with claimed := some 5 } }
def s0 : State := rs
def s1 : State := base
def s2 : State := T base (fun t => { t with laneFails := [3, 3, 3, 3] })
def s3 : State := P base [(HUB_TAG_STAT.in_use 4, 4000)]
def s4 : State := P base [(TWN_CTL.enable, 0)]
def s5 : State := P base [(TWN_CTL.auto_rejoin, 1), (TWN_STAT.hb_valid, 1)]
def s6 : State := T (P base [(TWN_STAT.hb_valid, 1), (HUB_MODE_STAT.mode, 5)]) (fun t => { t with hbAt := some (2 ^ 40), hbRun := 9 })
def s8 : State := T (P base [(TWN_STAT.lanes_up, 8)]) (fun t => { t with laneUpAt := some (2 ^ 40), peer := some wHeartbeat, laneTrain := [true, true, false, false] })
def s12 : State := lp (P base [(TWN_OWN_CTL.owner, 1)])
def s13 : State := P (lp (P base [(TWN_OWN_CTL.owner, 1)])) [(TWN_STAT.hb_valid, 1)]
def s14 : State := T (P base [(TWN_OWN_CTL.owner, 1)]) (fun t => { t with handoffAt := some 5 })
def s16 : State := T base (fun t => { t with takeover := true })
def s17 : State := { base with hub := { base.hub with isolated := [.twn] } }
def s19 : State := T base (fun t => { t with ovlPrev := [⟨7, 3, 1000, some 50⟩, ⟨8, 3, 2 ^ 20 - 1, none⟩] })

/-- Every form of `Obligations.TwinMessages` has a state and operands that meet its hypotheses together. -/
theorem witness_TwinMessages :
    (∃ (s : State), s.isOff .twn = true) ∧
    (∃ (s : State), s.isOff .twn = false ∧ s.get TWN_CTL.enable = 1 ∧ s.get TWN_STAT.link_up = 1) ∧
    (∃ (s : State), (s.get TWN_CTL.enable = 0 ∨ s.get TWN_STAT.link_up = 0)) ∧
    (∃ (s : State), s.get TWN_CTL.enable = 0) ∧
    (∃ (s : State) (l : Fin 4), s.isOff .twn = false ∧ s.get TWN_CTL.enable = 1 ∧ s.twn.laneFails.getD l 0 < 3) ∧
    (∃ (s : State) (l : Fin 4), s.isOff .twn = false ∧ s.get TWN_CTL.enable = 1 ∧ 3 ≤ s.twn.laneFails.getD l 0) ∧
    (∃ (s : State) (l : Fin 4), s.isOff .twn = false ∧ s.twn.laneFails.getD l 0 < 3) ∧
    (∃ (s : State) (m : HbMsg), s.isOff .twn = false ∧ s.get TWN_CTL.enable = 1 ∧ bit m.unit = s.get TWN_STAT.unit) ∧
    (∃ (s : State) (m : HbMsg), s.isOff .twn = false ∧ s.get TWN_CTL.enable = 1 ∧ bit m.unit ≠ s.get TWN_STAT.unit ∧ s.get
      TWN_CTL.auto_rejoin = 0 ∧ s.twn.following = false ∧ s.pairSwaps = false ∧ s.get SAF_ZT_STAT.phase ≠ 2) ∧
    (∃ (s : State) (m : HbMsg), s.isOff .twn = false ∧ s.get TWN_CTL.enable = 1 ∧ bit m.unit ≠ s.get TWN_STAT.unit ∧ s.get
      TWN_CTL.auto_rejoin = 1 ∧ s.twn.following = false ∧ s.pairSwaps = false ∧ s.get SAF_ZT_STAT.phase ≠ 2 ∧ s.mode = 6 ∧ s.get
      TWN_STAT.hb_valid = 1 ∧ m.epoch.toNat = s.twn.epoch ∧ isScan m.mode.toNat = true) ∧
    (∃ (s : State), s.get TWN_STAT.hb_valid = 0) ∧
    (∃ (s : State), s.get TWN_STAT.hb_valid = 1 ∧ s.mode ≠ 5) ∧
    (∃ (s : State), s.get TWN_STAT.hb_valid = 1 ∧ s.mode = 5) ∧
    (∃ (s : State) (m : TwinStamps) (h : Bool) (l : Fin 4) (u : State), s.isOff .twn = false ∧
      { s with twn := { s.twn with laneFails := s.twn.laneFails.set l 0, peerFollows := h, timeRx := some (m.sent.toNat, s.now) } } = u ∧
      (m.echo = none ∨ dueAgain s.twn.laneUpAt s.now oneMs = false)) ∧
    (∃ (s : State) (m : TwinStamps) (h : Bool) (l : Fin 4) (u : State) (e : Word64) (x : Word64), s.isOff .twn = false ∧
      { s with twn := { s.twn with laneFails := s.twn.laneFails.set l 0, peerFollows := h, timeRx := some (m.sent.toNat, s.now) } } = u ∧
      m.echo = some (e, x) ∧ dueAgain s.twn.laneUpAt s.now oneMs = true) ∧
    (∃ (s : State), s.twn.peer ≠ none ∧ s.get TWN_STAT.epoch_match = 0 ∧ s.twn.mismatchSeen = false) ∧
    (∃ (s : State), (s.twn.peer = none ∨ s.get TWN_STAT.epoch_match = 1 ∨ s.twn.mismatchSeen = true)) :=
  ⟨⟨s17, by decide +kernel⟩,
    ⟨s1, by decide +kernel⟩,
    ⟨s0, by decide +kernel⟩,
    ⟨s4, by decide +kernel⟩,
    ⟨s0, 0, by decide +kernel⟩,
    ⟨s2, 0, by decide +kernel⟩,
    ⟨s0, 0, by decide +kernel⟩,
    ⟨s0,
      { unit := false, mode := 0x0#4, baseMode := 0x0#4, epoch := 0x0#32, frameEpoch := 0x0#32, tableId := 0x0#32, crc := 0x0#32, grantA := false, grantB := false, owner := false, t0 := 0x0#64, frameLen := 0x0#64, swapPending := false, tablePhase := 0x0#3, readyCrc := 0x0#32 },
      by decide +kernel⟩,
    ⟨s1,
      { unit := true, mode := 0x5#4, baseMode := 0x0#4, epoch := 0x0#32, frameEpoch := 0x0#32, tableId := 0x8#32, crc := 0x9#32, grantA := false, grantB := false, owner := false, t0 := 0x0#64, frameLen := 0x0#64, swapPending := false, tablePhase := 0x0#3, readyCrc := 0x0#32 },
      by decide +kernel⟩,
    ⟨s5,
      { unit := true, mode := 0x5#4, baseMode := 0x0#4, epoch := 0x0#32, frameEpoch := 0x0#32, tableId := 0x8#32, crc := 0x9#32, grantA := false, grantB := false, owner := false, t0 := 0x0#64, frameLen := 0x0#64, swapPending := false, tablePhase := 0x0#3, readyCrc := 0x0#32 },
      by decide +kernel⟩,
    ⟨s0, by decide +kernel⟩,
    ⟨s5, by decide +kernel⟩,
    ⟨s6, by decide +kernel⟩,
    ⟨s0, { sent := 0x5#64, echo := none }, true, 0, _, by decide +kernel, rfl, by decide +kernel⟩,
    ⟨s0, { sent := 0x3e8#64, echo := some (0xfffffffc7c#64, 0x190#64) }, true, 0, _, 0xfffffffc7c#64, 0x190#64, by decide +kernel, rfl,
      by decide +kernel⟩,
    ⟨s8, by decide +kernel⟩,
    ⟨s0, by decide +kernel⟩⟩

/-- Every form of `Obligations.TwinMirror` has a state and operands that meet its hypotheses together. -/
theorem witness_TwinMirror :
    (∃ (s : State), s.isOff .twn = true) ∧
    (∃ (s : State) (l : Fin 4), s.isOff .twn = false ∧ s.twn.laneFails.getD l 0 < 3) ∧
    (∃ (s : State), (s.get TWN_CTL.enable = 0 ∨ s.get TWN_STAT.link_up = 0 ∨ s.get TWN_OWN_CTL.owner = 0)) ∧
    (∃ (s : State), s.isOff .twn = false ∧ s.get TWN_CTL.enable = 1 ∧ s.get TWN_STAT.link_up = 1 ∧ s.get TWN_OWN_CTL.owner = 1) ∧
    (∃ (s : State), s.isOff .twn = false ∧ s.get TWN_OWN_CTL.owner = 1) ∧
    (∃ (s : State), s.isOff .twn = false ∧ s.get TWN_OWN_CTL.owner = 0) ∧
    (∃ (s : State), s.isOff .twn = false ∧ s.get TWN_STAT.hb_valid = 0) ∧
    (∃ (s : State), s.isOff .twn = false ∧ s.get TWN_STAT.hb_valid = 1 ∧ s.get TWN_OWN_CTL.owner = 0) ∧
    (∃ (s : State) (v : Word64) (x : Nat), (if modGe 64 v.toNat (timeAdd s.now (500 * 65536000)) then v.toNat else timeAdd s.now (500 *
      65536000)) = x ∧ s.isOff .twn = false ∧ s.get TWN_STAT.hb_valid = 1 ∧ s.get TWN_OWN_CTL.owner = 1) ∧
    (∃ (s : State), s.get TWN_OWN_CTL.owner = 1 ∧ s.twn.handoffAt ≠ none) ∧
    (∃ (s : State), s.get TWN_OWN_CTL.owner = 1 ∧ s.twn.handoffAt = none) ∧
    (∃ (s : State), s.get TWN_OWN_CTL.owner = 0 ∧ s.loops.length = 8) ∧
    (∃ (s : State), s.get TWN_OWN_CTL.owner = 0 ∧ s.get TWN_STAT.hb_valid = 0) ∧
    (∃ (s : State), (s.get TWN_OWN_CTL.owner = 1 ∨ s.get TWN_STAT.hb_valid = 1)) ∧
    (∃ (s : State), s.twn.takeover = true ∧ s.get TWN_OWN_CTL.owner = 0) ∧
    (∃ (s : State), (s.twn.takeover = false ∨ s.get TWN_OWN_CTL.owner = 1)) ∧
    (∃ (s : State) (c : Fin 1536) (b : Fin 64) (z : BitVec 20) (x : OvlCell), s.isOff .twn = false ∧ s.twn.ovlPrev.find? (fun x => x.chan
      == c.val && x.bank == b.val && decide ((sx 20 (z.toNat + 2 ^ 20 - x.azimuth % 2 ^ 20)).natAbs ≤ s.get TWN_OVL_CFG.az_tol)) = some
      x) ∧
    (∃ (s : State) (c : Fin 1536) (b : Fin 64) (z : BitVec 20), s.isOff .twn = false ∧ s.twn.ovlPrev.find? (fun x => x.chan == c.val &&
      x.bank == b.val && decide ((sx 20 (z.toNat + 2 ^ 20 - x.azimuth % 2 ^ 20)).natAbs ≤ s.get TWN_OVL_CFG.az_tol)) = none) ∧
    (∃ (s : State) (a : Word64), s.isOff .twn = false ∧ s.get TWN_MIRROR_BASE.base * 2 ^ 24 ≤ a.toNat ∧ a.toNat + 32 ≤ s.get
      TWN_MIRROR_BASE.base * 2 ^ 24 + 2 ^ 24 ∧ a.toNat % 32 = 0 ∧ s.memHas a.toNat 32 = true ∧ s.tagFree 4 = true) ∧
    (∃ (s : State) (a : Word64), s.isOff .twn = false ∧ s.get TWN_MIRROR_BASE.base * 2 ^ 24 ≤ a.toNat ∧ a.toNat + 32 ≤ s.get
      TWN_MIRROR_BASE.base * 2 ^ 24 + 2 ^ 24 ∧ s.memHas a.toNat 32 = true ∧ s.tagFree 4 = false) ∧
    (∃ (s : State) (a : Word64), s.isOff .twn = false ∧ (a.toNat < s.get TWN_MIRROR_BASE.base * 2 ^ 24 ∨ s.get TWN_MIRROR_BASE.base * 2 ^
      24 + 2 ^ 24 < a.toNat + 32 ∨ s.memHas a.toNat 32 = false)) ∧
    (∃ (s : State), s.isOff .twn = false) ∧
    (∃ (s : State) (l : Fin 4), s.isOff .twn = false ∧ (s.get TWN_STAT.lanes_up).testBit l = true) ∧
    (∃ (s : State) (l : Fin 4), (s.get TWN_STAT.lanes_up).testBit l = false) :=
  ⟨⟨s17, by decide +kernel⟩,
    ⟨s0, 0, by decide +kernel⟩,
    ⟨s0, by decide +kernel⟩,
    ⟨s12, by decide +kernel⟩,
    ⟨s12, by decide +kernel⟩,
    ⟨s0, by decide +kernel⟩,
    ⟨s0, by decide +kernel⟩,
    ⟨s5, by decide +kernel⟩,
    ⟨s13, 0x0#64, 1132279627776, by decide +kernel⟩,
    ⟨s14, by decide +kernel⟩,
    ⟨s12, by decide +kernel⟩,
    ⟨s0, by decide +kernel⟩,
    ⟨s0, by decide +kernel⟩,
    ⟨s5, by decide +kernel⟩,
    ⟨s16, by decide +kernel⟩,
    ⟨s0, by decide +kernel⟩,
    ⟨s19, 7, 3, 0x3e8#20, { chan := 7, bank := 3, azimuth := 1000, range := some 50 }, by decide +kernel⟩,
    ⟨s0, 0, 0, 0x0#20, by decide +kernel⟩,
    ⟨s1, 0x2000000#64, by decide +kernel⟩,
    ⟨s3, 0x2000000#64, by decide +kernel⟩,
    ⟨s0, 0x0#64, by decide +kernel⟩,
    ⟨s0, by decide +kernel⟩,
    ⟨s1, 0, by decide +kernel⟩,
    ⟨s0, 0, by decide +kernel⟩⟩

end W19

namespace W20

abbrev P := stP
def H (s : State) (f : HkSt → HkSt) : State := { s with hk := f s.hk }
def base : State := P rs [(HUB_MODE_STAT.mode, 6), (TIME_NOW.time, 2 ^ 40), (HK_CTL.seq_len_m1, 5), (SHADE_TEMP_CFG.rtd_a, 9), (CHM_CTL.enable, 1), (CHM_CTL.amp, 100)]
def unity : Nat := 2 ^ 30 * 2 ^ 32
def running (s : State) (e ph mode lin thr : Nat) (hi : Int) (br : List Nat) : State := H (P s [(HK_CTL.enable, 1), (HK_STAT.busy, 1)]) (fun h => { h with
  run := some (e, ph), round := (5, 1250, 0), breaks := br
  snap := [mode + lin * 2 ^ 27, thr * 2 ^ 20, toField 32 hi + 2 ^ 32 * toField 32 (-1000000), unity] })
def s0 : State := rs
def s1 : State := base
def s2 : State := P base [(HK_CTL.enable, 1)]
def s3 : State := P base [(HK_SEQ_CFG.mode 3, 2)]
def s4 : State := P base [(HK_SEQ_CFG.mode 3, 2), (HK_SEQ_CFG.iex_b 3, 1), (HK_CTL.trig_src, 2), (HK_LEAD.lead_valid 3, 1), (HK_LEAD.lead 3, 77)]
def s5 : State := P base [(HK_CTL.enable, 1), (HK_CTL.trig_src, 1), (HK_CTL.osr_r, 1)]
def s6 : State := P (running base 2 0 1 4 0 0 []) [(HK_CTL.trig_src, 1)]
def s12 : State := running base 5 0 1 4 0 0 []
def s13 : State := running base 5 0 1 4 1 5 []
def s14 : State := running base 5 0 1 4 0 0 [1]
def s15 : State := running base 3 0 2 4 0 0 []
def s16 : State := P (H (running base 3 0 2 4 0 0 []) (fun h => { h with stopping := true })) [(HK_CTL.enable, 0)]
def s17 : State := P base [(HK_CTL.sync_en, 1), (HK_CAL_CMD.go, 1)]
def s18 : State := H base (fun h => { h with cal := some (3, 0, 0), calRuns := true })
def s19 : State := H base (fun h => { h with cal := some (3, 1, 1000000), calRuns := true })

/-- Every form of `Obligations.Housekeeping` has a state and operands that meet its hypotheses together. -/
theorem witness_Housekeeping :
    (∃ (s : State), s.get HK_CTL.enable = 1) ∧
    (∃ (s : State), s.get HK_CTL.enable = 0 ∧ (∃ e : Fin 16, e.val ≤ s.get HK_CTL.seq_len_m1 ∧ s.get (HK_SEQ_CFG.mode e) = 2 ∧ s.get
      (HK_SEQ_CFG.iex_a e) = s.get (HK_SEQ_CFG.iex_b e))) ∧
    (∃ (s : State), s.get HK_CTL.enable = 0 ∧ (∀ e : Fin 16, e.val ≤ s.get HK_CTL.seq_len_m1 → s.get (HK_SEQ_CFG.mode e) ≠ 2 ∨ s.get
      (HK_SEQ_CFG.iex_a e) ≠ s.get (HK_SEQ_CFG.iex_b e))) ∧
    (∃ (s : State), (s.get HK_CTL.trig_src = 0 ∨ s.get HK_CTL.trig_src = 3)) ∧
    (∃ (s : State), (s.get HK_CTL.trig_src = 1 ∨ s.get HK_CTL.trig_src = 2)) ∧
    (∃ (s : State), s.get HK_CTL.trig_src = 1) ∧
    (∃ (s : State), s.get HK_CTL.trig_src ≠ 1) ∧
    (∃ (s : State), s.hk.run = none) ∧
    (∃ (s : State), s.hk.run ≠ none ∧ s.hk.stopping = true ∧ s.hk.cal = none ∧ s.get HK_CTL.enable = 0) ∧
    (∃ (s : State) (p : Nat × Nat), s.hk.run = some p ∧ s.hk.stopping = false ∧ p.2 = 0 ∧ s.hk.fallback.getD p.1 false = false ∧ s.hkSet
      0 (HK_SEQ_CFG.mode 0) = 2) ∧
    (∃ (s : State) (p : Nat × Nat) (r : BitVec 24) (c : Int), s.hk.run = some p ∧ (hkCode r.toInt (sx 24 (s.hkSet 3 (HK_CAL.offset 0)))
      (s.hkSet 3 (HK_CAL.gain 0))).1 = c ∧ s.hk.stopping = false ∧ s.hk.latchAt = none ∧ p.2 = 0 ∧ s.hkSet 0 (HK_SEQ_CFG.mode 0) ≠ 2 ∧
      p.1 < 16 ∧ s.hk.codes = [] ∧ s.hk.ovr = false ∧ -hkMax < c ∧ c < hkMax ∧ p.1 < s.hk.round.1) ∧
    (∃ (s : State) (p : Nat × Nat) (r : BitVec 24) (c : Int), s.hk.run = some p ∧ (hkCode r.toInt (sx 24 (s.hkSet 3 (HK_CAL.offset 0)))
      (s.hkSet 3 (HK_CAL.gain 0))).1 = c ∧ s.hk.stopping = false ∧ s.hk.latchAt = none ∧ p.2 = 0 ∧ s.hkSet 0 (HK_SEQ_CFG.mode 0) ≠ 2 ∧
      p.1 < 16 ∧ s.hk.codes = [] ∧ s.hk.ovr = false ∧ -hkMax < c ∧ c < hkMax ∧ s.hk.round.1 ≤ p.1 ∧ s.hk.pend = [] ∧ s.hk.cal = none ∧
      s.get HK_STAT.queued = 0 ∧ s.get HK_CTL.trig_src ≠ 2 ∧ 4 ≤ s.hkSet 0 (HK_SEQ_CFG.lin_set 0) ∧ s.get SHADE_TEMP_CFG.rtd_a ≠ p.1 ∧
      s.get SHADE_TEMP_CFG.rtd_b_en = 0 ∧ s.hk.breaks = [] ∧ s.hkSet 1 (HK_SEQ_TIM.thr_en 0) = 0) ∧
    (∃ (s : State) (p : Nat × Nat) (r : BitVec 24) (c : Int), s.hk.run = some p ∧ (hkCode r.toInt (sx 24 (s.hkSet 3 (HK_CAL.offset 0)))
      (s.hkSet 3 (HK_CAL.gain 0))).1 = c ∧ s.hk.stopping = false ∧ s.hk.latchAt = none ∧ p.2 = 0 ∧ s.hkSet 0 (HK_SEQ_CFG.mode 0) ≠ 2 ∧
      p.1 < 16 ∧ s.hk.codes = [] ∧ s.hk.ovr = false ∧ -hkMax < c ∧ c < hkMax ∧ s.hk.round.1 ≤ p.1 ∧ s.hk.pend = [] ∧ s.hk.cal = none ∧
      s.get HK_STAT.queued = 0 ∧ s.get HK_CTL.trig_src ≠ 2 ∧ 4 ≤ s.hkSet 0 (HK_SEQ_CFG.lin_set 0) ∧ s.get SHADE_TEMP_CFG.rtd_a ≠ p.1 ∧
      s.get SHADE_TEMP_CFG.rtd_b_en = 0 ∧ s.hk.breaks = [] ∧ s.hkSet 1 (HK_SEQ_TIM.thr_en 0) = 1 ∧ s.get (HK_RES.in_hi p.1) = 0 ∧ sx 32
      (s.hkSet 2 (HK_THR.hi 0)) ≤ c) ∧
    (∃ (s : State) (p : Nat × Nat) (r : BitVec 24) (c : Int), s.hk.run = some p ∧ (hkCode r.toInt (sx 24 (s.hkSet 3 (HK_CAL.offset 0)))
      (s.hkSet 3 (HK_CAL.gain 0))).1 = c ∧ s.hk.stopping = false ∧ s.hk.latchAt = none ∧ p.2 = 0 ∧ s.hkSet 0 (HK_SEQ_CFG.mode 0) ≠ 2 ∧
      p.1 < 16 ∧ s.hk.codes = [] ∧ s.hk.ovr = false ∧ -hkMax < c ∧ c < hkMax ∧ s.hk.round.1 ≤ p.1 ∧ s.hk.pend = [] ∧ s.hk.cal = none ∧
      s.get HK_STAT.queued = 0 ∧ s.get HK_CTL.trig_src ≠ 2 ∧ 4 ≤ s.hkSet 0 (HK_SEQ_CFG.lin_set 0) ∧ s.get SHADE_TEMP_CFG.rtd_a ≠ p.1 ∧
      s.get SHADE_TEMP_CFG.rtd_b_en = 0 ∧ s.hk.breaks ≠ []) ∧
    (∃ (s : State) (p : Nat × Nat), s.hk.run = some p ∧ s.hk.stopping = false ∧ p.2 = 0 ∧ s.hkSet 0 (HK_SEQ_CFG.mode 0) ≠ 2 ∧
      s.hk.round.1 ≤ p.1 ∧ p.1 < 16 ∧ s.hk.cal = none ∧ s.get HK_STAT.queued = 0 ∧ s.get HK_CTL.trig_src ≠ 2) ∧
    (∃ (s : State), s.get HK_CAL_CMD.go = 1) ∧
    (∃ (s : State) (e : Fin 16), s.get HK_CAL_CMD.go = 0 ∧ s.get HK_CTL.seq_len_m1 < e.val) ∧
    (∃ (s : State) (e : Fin 16), s.get HK_CAL_CMD.go = 0 ∧ e.val ≤ s.get HK_CTL.seq_len_m1) ∧
    (∃ (s : State), (s.hk.cal = none ∨ s.hk.calRuns = false)) ∧
    (∃ (s : State) (p : Nat × Nat × Nat), s.hk.cal = some p ∧ s.hk.calRuns = true ∧ s.get HK_CTL.enable = 0 ∧ p.1 < 16 ∧ p.2.1 = 0) ∧
    (∃ (s : State) (p : Nat × Nat × Nat) (v : BitVec 28) (d : Int), s.hk.cal = some p ∧ v.toInt - 16 * sx 24 (s.get (HK_CAL.offset p.1))
      = d ∧ s.hk.calRuns = true ∧ s.get HK_CTL.enable = 0 ∧ p.1 < 16 ∧ p.2.1 = 1) :=
  ⟨⟨s2, by decide +kernel⟩,
    ⟨s3, by decide +kernel⟩,
    ⟨s0, by decide +kernel⟩,
    ⟨s0, by decide +kernel⟩,
    ⟨s4, by decide +kernel⟩,
    ⟨s5, by decide +kernel⟩,
    ⟨s0, by decide +kernel⟩,
    ⟨s0, by decide +kernel⟩,
    ⟨s16, by decide +kernel⟩,
    ⟨s15, (3, 0), by decide +kernel⟩,
    ⟨s6, (2, 0), 0x0#24, 0, by decide +kernel⟩,
    ⟨s12, (5, 0), 0x0#24, 0, by decide +kernel⟩,
    ⟨s13, (5, 0), 0x5#24, 5, by decide +kernel⟩,
    ⟨s14, (5, 0), 0x0#24, 0, by decide +kernel⟩,
    ⟨s12, (5, 0), by decide +kernel⟩,
    ⟨s17, by decide +kernel⟩,
    ⟨s0, 3, by decide +kernel⟩,
    ⟨s0, 0, by decide +kernel⟩,
    ⟨s0, by decide +kernel⟩,
    ⟨s18, (3, 0, 0), by decide +kernel⟩,
    ⟨s19, (3, 1, 1000000), 0x0#28, 0, by decide +kernel⟩⟩

/-- Every form of `Obligations.Chimney` has a state and operands that meet its hypotheses together. -/
theorem witness_Chimney :
    (∃ (s : State), s.chm.refs.length = 8 ∧ s.chm.cand.length = 8) ∧
    (∃ (s : State), s.chm.refs.length = 8 ∧ s.chm.cand.length = 8 ∧ s.get CHM_CTL.enable = 0) ∧
    (∃ (s : State) (e : Fin 8) (c : BitVec 31) (g : BitVec 31) (r : Int × Int), s.chm.refs.length = 8 ∧ s.chm.cand.length = 8 ∧ (if
      (s.get CHM_STAT.ref_cap).testBit e then (c.toInt, g.toInt) else s.chm.refs.getD e (0, 0)) = r ∧ s.get CHM_CTL.enable = 1) :=
  ⟨⟨s0, by decide +kernel⟩,
    ⟨s0, by decide +kernel⟩,
    ⟨s1, 0, 0x0#31, 0x0#31, (0, 0), by decide +kernel⟩⟩

end W20

namespace W21

abbrev P := stP
def base : State := P rs [(HUB_MODE_STAT.mode, 6), (TIME_NOW.time, 2 ^ 40), (HK_RES.valid 3, 1), (HK_RES.value 3, 250)]
def lpS (s : State) (n : Nat) (f : LoopSt → LoopSt) : State := s.setLoop n (f (s.loop n))
def half : Nat := 0x3F000000
def one : Nat := 0x3F800000
def en (s : State) (n au law : Nat) (pars : List Nat) : State := lpS (P s [(CTL_LOOP_CFG.enable n, 1), (CTL_LOOP_CFG.auto n, au), (CTL_LOOP_CFG.law n, law), (CTL_LOOP_CFG.in_idx n, 3)]) n (fun x => { x with claimed := some 1, pars := pars })
-- pars: 0 sp 1 kp 2 ki 3 kd 4 alpha 5 lo 6 hi 7 band 8 ramp 9 manual 10 invalid 11 dev
def prs (sp kp ki man inv dev : Nat) : List Nat := [sp, kp, ki, 0, 0, 0, one, half, 0, man, inv, dev]
def Th (s : State) (f : ThmSt → ThmSt) : State := { s with thm := f s.thm }
def pw (s : State) : State := { s with snf := { s.snf with powered := true } }
def I (s : State) (f : IndSt → IndSt) : State := { s with ind := f s.ind }
def cfgW (n : Nat) (e : Nat) : Nat := 4 + 32 * e + 256 * 20 + n * 0
def s0 : State := rs
def s2 : State := { base with snf := { base.snf with powered := false } }
def s3 : State := P base [(CTL_LOOP_CFG.enable 1, 1)]
def s4 : State := P base [(CHM_CTL.enable, 1), (CHM_CTL.amp, 100)]
def s5 : State := P base [(CTL_LOOP_CFG.in_src 1, 6), (CTL_LOOP_PAR.par 2 6, 0)]
def s8 : State := lpS (P base [(HUB_CLAIM.owner 12, 17), (CTL_LOOP_CFG.enable 1, 1)]) 1 (fun x => { x with claimed := some 2 })
def s10 : State := en base 1 0 0 (prs half half 0 half 0 0)
def s14 : State := lpS (en base 1 1 1 (prs half half half 0 0 0)) 1 (fun x => { x with commit := some (prs 0 0 0 0 0 0) })
def s16 : State := en (P base [(CTL_LOOP_STAT.val 1 2, one), (CTL_LOOP_STAT.val 1 1, 0x40400000)]) 1 1 1 (prs 0 0 0 0 0 one)
def s26 : State := Th (pw (P base [(THM_STAT.nvm_inhibit, 0)])) (fun t => { t with nvmTaken := 3, nvmRun := 2, snfRuns := [2, 2] })
def s29 : State := I (P base [(HUB_CLAIM.owner 4, 9), (HUB_CLAIM.owner 5, 3), (HUB_CLAIM.owner 7, 3)]) (fun i => { i with apply := some (5, [cfgW 0 1, cfgW 0 0, cfgW 0 1, cfgW 0 1, 0, 0, 33 + 256 * 40, 32]) })
def s30 : State := I (P base [(IND_STAT.state 3, 1), (IND_STAT.fault_seen, 8)]) (fun i => { i with active := List.replicate 8 (cfgW 0 1) })
def s32 : State := P base ((List.range 8).flatMap (fun n => [(CTL_LOOP_PAR.par n 6, one), (HUB_CLAIM.owner (10 + n), 9)]))

/-- Every form of `Obligations.ControlLoops` has a state and operands that meet its hypotheses together. -/
theorem witness_ControlLoops :
    (∃ (s : State) (n : Fin 8), s.loops.length = 8 ∧ s.get (CTL_LOOP_CFG.enable n) = 0 ∧ s.loopConfigOk n = false) ∧
    (∃ (s : State) (n : Fin 8) (i : Nat), s.loops.length = 8 ∧ 10 + s.get (CTL_LOOP_CFG.out n) = i ∧ s.get (CTL_LOOP_CFG.enable n) = 0 ∧
      s.loopConfigOk n = true ∧ (s.get (HUB_CLAIM.owner i) = 0 ∨ s.get (HUB_CLAIM.owner i) = 16 + n.val)) ∧
    (∃ (s : State) (n : Fin 8) (i : Nat), s.loops.length = 8 ∧ 10 + s.get (CTL_LOOP_CFG.out n) = i ∧ s.get (CTL_LOOP_CFG.enable n) = 0 ∧
      s.loopConfigOk n = true ∧ s.get (HUB_CLAIM.owner i) ≠ 0 ∧ s.get (HUB_CLAIM.owner i) ≠ 16 + n.val) ∧
    (∃ (s : State) (n : Fin 8), s.loops.length = 8 ∧ s.get (CTL_LOOP_CFG.enable n) = 0) ∧
    (∃ (s : State) (n : Fin 8) (w : Word32) (o : Nat), s.loops.length = 8 ∧ s.get (CTL_LOOP_CFG.enable n) = 1 ∧ (s.loop n).commit = none
      ∧ s.loopInput n w.toNat = none ∧ (s.loop n).claimed = some o ∧ (s.par n 10).isNan = false) ∧
    (∃ (s : State) (n : Fin 8) (w : Word32) (pv : Flt) (u : Flt) (o : Nat), s.loops.length = 8 ∧ s.get (CTL_LOOP_CFG.enable n) = 1 ∧
      (s.loop n).commit = none ∧ s.loopInput n w.toNat = some pv ∧ (if s.get (CTL_LOOP_CFG.auto n) = 0 then s.par n 9 else if s.get
      (CTL_LOOP_CFG.law n) = 0 then s.loopHyst n (f32.sub (s.loopWsp n pv) pv) else (s.loopPid n (f32.sub (s.loopWsp n pv) pv)
      (s.loopDeriv n pv)).2.1) = u ∧ s.get (CTL_LOOP_CFG.in_invalid n) = 0 ∧ (s.loop n).claimed = some o ∧ pv.isNan = false ∧ (s.loopWsp
      n pv).isNan = false ∧ u.isNan = false ∧ (s.loopPid n (f32.sub (s.loopWsp n pv) pv) (s.loopDeriv n pv)).1.isNan = false) ∧
    (∃ (s : State) (n : Fin 8) (p : List Nat), s.loops.length = 8 ∧ s.get (CTL_LOOP_CFG.enable n) = 1 ∧ (s.loop n).commit = some p ∧ (∀ o
      : Nat, (s.loop n).claimed = some o → o < 6)) ∧
    (∃ (s : State) (n : Fin 8), s.loops.length = 8 ∧ s.loopParsOk n = true) ∧
    (∃ (s : State) (n : Fin 8), s.loops.length = 8 ∧ s.loopParsOk n = false) ∧
    (∃ (s : State) (n : Fin 8) (u : Flt), s.loops.length = 8 ∧ ofF32 (s.get (CTL_LOOP_STAT.val n 2)) = u ∧ s.get (CTL_LOOP_CFG.enable n)
      = 1 ∧ (u.le (s.par n 5) = true ∨ (s.par n 6).le u = true)) ∧
    (∃ (s : State) (n : Fin 8) (u : Flt), s.loops.length = 8 ∧ ofF32 (s.get (CTL_LOOP_STAT.val n 2)) = u ∧ (s.get (CTL_LOOP_CFG.enable n)
      = 0 ∨ (u.le (s.par n 5) = false ∧ (s.par n 6).le u = false))) ∧
    (∃ (s : State) (n : Fin 8) (e : Flt), s.loops.length = 8 ∧ f32.sub (ofF32 (s.get (CTL_LOOP_STAT.val n 1))) (ofF32 (s.get
      (CTL_LOOP_STAT.val n 0))) = e ∧ s.get (CTL_LOOP_CFG.enable n) = 1 ∧ (f32.ofInt 0).lt (s.par n 11) = true ∧ ((s.par n 11).lt e =
      true ∨ (s.par n 11).lt e.neg = true)) ∧
    (∃ (s : State) (n : Fin 8) (e : Flt), s.loops.length = 8 ∧ f32.sub (ofF32 (s.get (CTL_LOOP_STAT.val n 1))) (ofF32 (s.get
      (CTL_LOOP_STAT.val n 0))) = e ∧ (s.get (CTL_LOOP_CFG.enable n) = 0 ∨ ((s.par n 11).lt e = false ∧ (s.par n 11).lt e.neg = false))) :=
  ⟨⟨s5, 1, by decide +kernel⟩,
    ⟨s0, 0, 11, by decide +kernel⟩,
    ⟨s32, 0, 11, by decide +kernel⟩,
    ⟨s0, 0, by decide +kernel⟩,
    ⟨s8, 1, 0x0#32, 2, by decide +kernel⟩,
    ⟨s10, 1, 0x0#32, Flt.fin false 16384000 (-16), Flt.fin false 8388608 (-24), 1, by decide +kernel⟩,
    ⟨s14, 1, [0, 0, 0, 0, 0, 0, 1065353216, 1056964608, 0, 0, 0, 0], by decide +kernel, by decide +kernel, by decide +kernel, all_some
      (by decide +kernel)⟩,
    ⟨s0, 0, by decide +kernel⟩,
    ⟨s5, 2, by decide +kernel⟩,
    ⟨s3, 1, Flt.fin false 0 (-149), by decide +kernel⟩,
    ⟨s0, 0, Flt.fin false 0 (-149), by decide +kernel⟩,
    ⟨s16, 1, Flt.fin false 12582912 (-22), by decide +kernel⟩,
    ⟨s0, 0, Flt.fin false 0 0, by decide +kernel⟩⟩

/-- Every form of `Obligations.Thermal` has a state and operands that meet its hypotheses together. -/
theorem witness_Thermal :
    (∃ (s : State) (d : List (BitVec 16)), s.thm.sens.length = 38 ∧ d.length = 34) ∧
    (∃ (s : State) (k : Fin 4), s.thm.sens.length = 38 ∧ (k = 3 ∨ (classSens k).any (fun i => s.sensUsable i) = true)) ∧
    (∃ (s : State) (k : Fin 4), s.thm.sens.length = 38 ∧ k ≠ 3 ∧ (classSens k).any (fun i => s.sensUsable i) = false) ∧
    (∃ (s : State), s.thm.sens.length = 38 ∧ s.snf.powered = false) ∧
    (∃ (s : State) (a : BitVec 16) (b : BitVec 16), s.thm.sens.length = 38 ∧ s.snf.powered = true ∧ dieSample a.toInt = none ∧ dieSample
      b.toInt = none) ∧
    (∃ (s : State) (a : BitVec 16), s.thm.sens.length = 38 ∧ s.snf.powered = true ∧ s.suspect 32 = false ∧ s.suspect 33 = false ∧ -550 ≤
      a.toInt ∧ a.toInt ≤ 1500 ∧ a.toInt < s.thmThr 2 2) ∧
    (∃ (s : State) (a : BitVec 16), s.thm.sens.length = 38 ∧ s.snf.powered = true ∧ s.suspect 32 = false ∧ s.suspect 33 = false ∧ a.toInt
      ≤ 1500 ∧ -550 ≤ a.toInt ∧ s.thmThr 2 2 ≤ a.toInt ∧ s.thm.snfRuns = [2, 2] ∧ s.thm.snfHeld = [false, false]) ∧
    (∃ (s : State) (x : Nat × List Nat), s.thm.sens.length = 38 ∧ s.ind.apply = some x ∧ x.2.length = 8 ∧ s.ind.active.length = 8) ∧
    (∃ (s : State) (n : Fin 8), s.thm.sens.length = 38 ∧ 2 ≤ s.indDrive n) ∧
    (∃ (s : State), s.thm.sens.length = 38) ∧
    (∃ (s : State), s.thm.sens.length = 38 ∧ s.chm.refs.length = 8 ∧ s.chm.cand.length = 8 ∧ s.get CHM_CTL.enable = 1) :=
  ⟨⟨s0, List.replicate 34 0xfa#16, by decide +kernel⟩,
    ⟨s0, 3, by decide +kernel⟩,
    ⟨s0, 0, by decide +kernel⟩,
    ⟨s2, by decide +kernel⟩,
    ⟨s0, 0x5dd#16, 0x5dd#16, by decide +kernel⟩,
    ⟨s0, 0x0#16, by decide +kernel⟩,
    ⟨s26, 0x4b0#16, by decide +kernel⟩,
    ⟨s29, (5, [5156, 5124, 5156, 5156, 0, 0, 10273, 32]), by decide +kernel⟩,
    ⟨s30, 0, by decide +kernel⟩,
    ⟨s0, by decide +kernel⟩,
    ⟨s4, by decide +kernel⟩⟩

/-- Every form of `Obligations.Indicators` has a state and operands that meet its hypotheses together. -/
theorem witness_Indicators :
    (∃ (s : State), s.ind.apply = none) ∧
    (∃ (s : State) (x : Nat × List Nat), s.ind.apply = some x ∧ x.2.length = 8 ∧ s.ind.active.length = 8) ∧
    (∃ (s : State) (n : Fin 8), s.indDrive n < 2) ∧
    (∃ (s : State) (n : Fin 8), 2 ≤ s.indDrive n) ∧
    (∃ (s : State) (d : List (BitVec 16)), s.thm.sens.length = 38 ∧ d.length = 34) ∧
    (∃ (s : State) (k : Fin 4), s.thm.sens.length = 38 ∧ k ≠ 3 ∧ (classSens k).any (fun i => s.sensUsable i) = false) ∧
    (∃ (s : State) (a : BitVec 16) (b : BitVec 16), s.thm.sens.length = 38 ∧ s.snf.powered = true ∧ dieSample a.toInt = none ∧ dieSample
      b.toInt = none) :=
  ⟨⟨s0, by decide +kernel⟩,
    ⟨s29, (5, [5156, 5124, 5156, 5156, 0, 0, 10273, 32]), by decide +kernel⟩,
    ⟨s0, 0, by decide +kernel⟩,
    ⟨s30, 0, by decide +kernel⟩,
    ⟨s0, List.replicate 34 0xfa#16, by decide +kernel⟩,
    ⟨s0, 0, by decide +kernel⟩,
    ⟨s0, 0x5dd#16, 0x5dd#16, by decide +kernel⟩⟩

end W21

end Sys2Proof.Tests
end

section
/-! Resets and the event system (R404): what a command that leaves the event system alone keeps, and what the reset pins clear. -/

namespace Sys2Proof.Machine

/-! ## Where the event system's registers stand -/

/-- A register of the event system is RING_EV_STAT or stands among EVT_PEND and EVT_STAT, past the event configurations. -/
theorem evReg_cases {a : Nat} (h : evReg a = true) : a = RING_EV_STAT.addr ∨ EVT_PEND.addr 0 ≤ a ∧ a ≤ EVT_STAT.addr := by
  simp only [evReg, Bool.or_eq_true, Bool.and_eq_true, Nat.ble_eq, Nat.blt_eq, beq_iff_eq, EVT_PEND.addr, EVT_STAT.addr] at h ⊢
  omega

/-- Registers below RING_EV_STAT do not show the event system. -/
theorem evReg_of_lt_ring {a : Nat} (h : a < RING_EV_STAT.addr) : evReg a = false := by
  refine Bool.eq_false_iff.mpr fun ha => ?_
  have hc := evReg_cases ha
  simp only [RING_EV_STAT.addr, EVT_PEND.addr] at h hc
  omega

/-! ## Operations that keep the event system -/

/-- From `s` to `t` the event system stays: its ring and every register that shows it. -/
structure State.EvKept (s t : State) : Prop where
  ev : t.ev = s.ev
  reg : ∀ a, evReg a = true → t.reg a = s.reg a

variable {s t u : State}

theorem State.EvKept.refl (s : State) : s.EvKept s := ⟨rfl, fun _ _ => rfl⟩

theorem State.EvKept.trans (h : s.EvKept t) (k : t.EvKept u) : s.EvKept u :=
  ⟨k.ev.trans h.ev, fun a ha => (k.reg a ha).trans (h.reg a ha)⟩

/-- What lies outside the registers and the event system may change as it will. -/
theorem State.EvKept.congr (h : s.EvKept t) (he : u.ev = t.ev) (hr : u.regs = t.regs) : s.EvKept u :=
  h.trans ⟨he, fun a _ => State.reg_congr hr a⟩

theorem State.EvKept.setReg (h : s.EvKept t) {a : Nat} {v : BitVec 64} (ha : evReg a = false) : s.EvKept (t.setReg a v) := by
  refine h.trans ⟨rfl, fun b hb => State.reg_setReg_ne t v ?_⟩
  rintro rfl
  simp [ha] at hb

theorem State.EvKept.put (h : s.EvKept t) {f : FRef} {x : Nat} (hf : evReg f.addr = false) : s.EvKept (t.put f x) := h.setReg hf

theorem State.EvKept.get (h : s.EvKept t) {f : FRef} (hf : evReg f.addr = true) : t.get f = s.get f := by
  unfold State.get
  rw [h.reg _ hf]

theorem State.EvKept.when {g : State → State} (hg : ∀ t, State.EvKept t (g t)) (s : State) (c : Bool) : s.EvKept (s.when c g) := by
  cases c
  · exact .refl s
  · exact hg s

theorem State.EvKept.ite {c : Prop} [Decidable c] (ht : s.EvKept t) (hu : s.EvKept u) : s.EvKept (if c then t else u) := by
  split <;> assumption

theorem State.EvKept.foldl {α : Type} {g : State → α → State} {l : List α} (hg : ∀ t, ∀ x ∈ l, State.EvKept t (g t x)) (s : State) :
    s.EvKept (l.foldl g s) := by
  induction l generalizing s with
  | nil => exact .refl s
  | cons x l ih =>
    exact (hg s x (by simp)).trans (ih (fun t y hy => hg t y (by simp [hy])) _)

/-! ## Disabling the rings (R192) -/

theorem State.EvKept.tagRelease (s : State) (i : Nat) : s.EvKept (s.tagRelease i) := by
  unfold State.tagRelease
  split
  next => exact .refl s
  next o _ =>
    have hc : evReg (HUB_TAG_STAT.addr o.cls) = false := by
      apply evReg_of_lt_ring
      simp only [HUB_TAG_STAT.addr, RING_EV_STAT.addr]
      omega
    exact ((State.EvKept.refl s).put (f := HUB_TAG_STAT.in_use o.cls) hc).congr rfl rfl

theorem State.EvKept.dropDescs (s : State) (l : List Desc) : s.EvKept (s.dropDescs l) := by
  refine .trans ?_ (.foldl (g := fun (t : State) (d : Desc) => t.tagRelease d.inst) (fun t d _ => .tagRelease t d.inst) _)
  exact (State.EvKept.refl s).congr rfl rfl

theorem State.EvKept.sqDisable (s : State) {n : Nat} (hn : n < 128) : s.EvKept (s.sqDisable n) := by
  have cfg : evReg (RING_SQ_CFG.addr n) = false := evReg_of_lt_ring (by simp only [RING_SQ_CFG.addr, RING_EV_STAT.addr]; omega)
  have stat : evReg (RING_SQ_STAT.addr n) = false := evReg_of_lt_ring (by simp only [RING_SQ_STAT.addr, RING_EV_STAT.addr]; omega)
  have ctl : evReg (RING_SQ_CTL.addr n) = false := evReg_of_lt_ring (by simp only [RING_SQ_CTL.addr, RING_EV_STAT.addr]; omega)
  have emptied : s.EvKept ((s.dropDescs (s.sq n).descs).setSq n SqSt.init) := (State.EvKept.dropDescs s _).congr rfl rfl
  exact .setReg (.setReg (.setReg (.setReg emptied cfg) stat) ctl) stat

theorem State.EvKept.cqDisable (s : State) {n : Nat} (hn : n < 128) : s.EvKept (s.cqDisable n) := by
  have cfg : evReg (RING_CQ_CFG.addr n) = false := evReg_of_lt_ring (by simp only [RING_CQ_CFG.addr, RING_EV_STAT.addr]; omega)
  have emptied : s.EvKept (s.setCq n CqSt.init) := (State.EvKept.refl s).congr rfl rfl
  exact .setReg emptied cfg

/-- A point ring whose indices are 0 is empty, so that its watermark is not reached and raises nothing (R210). -/
theorem State.prLevel_of_empty (s : State) (n : Nat) (hh : s.get (RING_PR_HEAD.index n) = 0) (ht : s.get (RING_PR_TAIL.index n) = 0) :
    s.prLevel n = s.put (RING_PR_STAT.level n) 0 := by
  have empty : ringDist (s.prSize n) 0 0 = 0 := by simp [ringDist]
  have norise (wm old : Nat) : (decide (0 < wm) && decide (old < wm) && decide (wm ≤ 0)) = false := by
    simp only [Bool.and_eq_false_iff, decide_eq_false_iff_not]
    omega
  simp only [State.prLevel, hh, ht, empty, norise, State.when_false]
  rfl

theorem State.EvKept.prDisable (s : State) {n : Nat} (hn : n < 32) : s.EvKept (s.prDisable n) := by
  have cfg : evReg (RING_PR_CFG.addr n) = false := evReg_of_lt_ring (by simp only [RING_PR_CFG.addr, RING_EV_STAT.addr]; omega)
  have head : evReg (RING_PR_HEAD.addr n) = false := evReg_of_lt_ring (by simp only [RING_PR_HEAD.addr, RING_EV_STAT.addr]; omega)
  have tail : evReg (RING_PR_TAIL.addr n) = false := evReg_of_lt_ring (by simp only [RING_PR_TAIL.addr, RING_EV_STAT.addr]; omega)
  have stat : evReg (RING_PR_STAT.addr n) = false := evReg_of_lt_ring (by simp only [RING_PR_STAT.addr, RING_EV_STAT.addr]; omega)
  have apart : RING_PR_HEAD.addr n ≠ RING_PR_TAIL.addr n := by simp only [RING_PR_HEAD.addr, RING_PR_TAIL.addr]; omega
  unfold State.prDisable
  rw [State.prLevel_of_empty]
  · have off : s.EvKept (s.clearFlag (RING_PR_CFG.enable n)) := .setReg (.refl s) cfg
    refine .setReg (.setReg (.setReg ?_ head) tail) stat
    exact off.congr rfl rfl
  · rw [State.get_put_addr _ _ _ _ apart, State.get_put_self _ _ _ (by simp [RING_PR_HEAD.index])]
    rfl
  · rw [State.get_put_self _ _ _ (by simp [RING_PR_TAIL.index])]
    rfl

theorem State.EvKept.disableRings (s : State) (sel : State → Nat → Bool) : s.EvKept (s.disableRings sel) := by
  unfold State.disableRings
  dsimp only
  refine .trans ?_ (.foldl (fun t n hn => .ite (.prDisable t (List.mem_range.mp hn)) (.refl t)) _)
  refine .trans ?_ (.foldl (fun t n hn => .ite (.cqDisable t (List.mem_range.mp hn)) (.refl t)) _)
  exact .foldl (fun t n hn => .ite (.sqDisable t (List.mem_range.mp hn)) (.refl t)) s

/-! ## The function-level reset (R189) -/

/-- The registers of the RING block and of BAR2 reset, but for the link's and for the event ring's present level and next seq. -/
def State.flrRegs (s : State) : State :=
  ((((((s.resetRange 0xB00000 0xC00000).resetRange 0x1000000 0x1010000).setReg RING_LINK_STAT.addr (s.reg RING_LINK_STAT.addr)).setFlag
    RING_LINK_STAT.flr_seen).put RING_EV_STAT.level (s.get RING_EV_STAT.level)).put RING_EV_STAT.next_seq (s.get RING_EV_STAT.next_seq))

/-- What a function-level reset does between disabling the rings and raising its event. -/
def State.flrClear (s : State) : State :=
  { s.flrRegs with
    host := { HostSt.init with sbAddr := s.flrRegs.host.sbAddr, linkUp := s.flrRegs.host.linkUp,
                               doorbells := s.flrRegs.host.doorbells, pr := prKept s.flrRegs.host.pr }
    ev := { s.flrRegs.ev with hold := List.replicate 5 (List.replicate 32 0) } }

theorem State.funcReset_eq (s : State) : s.funcReset = (s.disableRings fun _ _ => true).flrClear.raise Ev.flr 0 0 := by
  unfold State.funcReset
  generalize s.disableRings (fun _ _ => true) = t
  rfl

theorem exec_flr (s : State) : exec .flr s = .next ((s.disableRings fun _ _ => true).flrClear.raise Ev.flr 0 0) := by
  rw [← State.funcReset_eq]
  rfl

theorem State.flrRegs_ev (s : State) : s.flrRegs.ev = s.ev := by
  rw [State.flrRegs, State.put_ev, State.put_ev, State.setFlag_eq, State.put_ev, State.setReg_ev, State.resetRange_ev,
    State.resetRange_ev]

theorem State.flrClear_regs (s : State) : s.flrClear.regs = s.flrRegs.regs := by rw [State.flrClear]

theorem State.flrClear_ring (s : State) : s.flrClear.ev.ring = s.ev.ring := by rw [State.flrClear, State.flrRegs_ev]

theorem State.flrClear_waiting (s : State) : s.flrClear.ev.waiting = s.ev.waiting := by rw [State.flrClear, State.flrRegs_ev]

/-- EVT_PEND and EVT_STAT stand outside the ranges that are reset. -/
theorem State.flrClear_reg (s : State) {a : Nat} (ha : evReg a = true) (hr : a ≠ RING_EV_STAT.addr) : s.flrClear.reg a = s.reg a := by
  have hl : a ≠ RING_LINK_STAT.addr := by rintro rfl; cases ha
  have hc := evReg_cases ha
  simp only [EVT_PEND.addr, EVT_STAT.addr] at hc
  rw [State.reg_congr s.flrClear_regs, State.flrRegs, State.reg_put_ne _ _ _ hr, State.reg_put_ne _ _ _ hr, State.setFlag_eq,
    State.reg_put_ne _ _ _ hl, State.reg_setReg_ne _ _ hl, State.reg_resetRange, if_neg (by omega), State.reg_resetRange,
    if_neg (by omega)]

theorem State.flrClear_next_seq (s : State) : s.flrClear.get RING_EV_STAT.next_seq = s.get RING_EV_STAT.next_seq := by
  rw [State.get_congr s.flrClear_regs, State.flrRegs, State.get_put_self _ _ _ (by decide),
    Nat.mod_eq_of_lt (State.get_lt s RING_EV_STAT.next_seq)]

/-- A function-level reset leaves the event ring, the pending bits, EVT_STAT and the next seq as they are (R404). -/
theorem State.flr_keeps_events (s : State) (sel : State → Nat → Bool) :
    (s.disableRings sel).flrClear.ev.ring = s.ev.ring ∧ (s.disableRings sel).flrClear.ev.waiting = s.ev.waiting ∧
      (∀ w : Fin 8, (s.disableRings sel).flrClear.reg (EVT_PEND.addr w) = s.reg (EVT_PEND.addr w)) ∧
      (s.disableRings sel).flrClear.reg EVT_STAT.addr = s.reg EVT_STAT.addr ∧
      (s.disableRings sel).flrClear.get RING_EV_STAT.next_seq = s.get RING_EV_STAT.next_seq := by
  have kept := State.EvKept.disableRings s sel
  generalize s.disableRings sel = t at kept
  have reg {a : Nat} (ha : evReg a = true) (hr : a ≠ RING_EV_STAT.addr) : t.flrClear.reg a = s.reg a :=
    (t.flrClear_reg ha hr).trans (kept.reg a ha)
  refine ⟨?ring, ?waiting, fun w => ?pend, ?stat, ?seq⟩
  case ring => rw [t.flrClear_ring, kept.ev]
  case waiting => rw [t.flrClear_waiting, kept.ev]
  case pend => exact reg (evReg_pend w w.isLt) (by simp only [EVT_PEND.addr, RING_EV_STAT.addr]; omega)
  case stat => exact reg rfl (by decide)
  case seq => rw [t.flrClear_next_seq, kept.get rfl]

/-! ## The reset pins -/

/-- Every register that HOLD shows anew is another block's (R289, R302). -/
theorem State.EvKept.holdShow (s old : State) : s.EvKept (s.holdShow old) := by
  unfold State.holdShow
  dsimp only
  iterate 15 refine .setReg ?_ rfl
  exact .refl s

theorem State.EvKept.capIsolate (s : State) : s.EvKept s.capIsolate := ⟨rfl, fun _ _ => rfl⟩

theorem State.EvKept.claimsWarm (s : State) : s.EvKept s.claimsWarm := by
  refine .foldl (fun t i hi => .ite (.refl t) (.put (.refl t) (evReg_of_lt_ring ?_))) s
  have := List.mem_range.mp hi
  simp only [HUB_CLAIM.owner, HUB_CLAIM.addr, RING_EV_STAT.addr]
  omega

theorem State.EvKept.aonIdle (s : State) : s.EvKept s.aonIdle := by
  unfold State.aonIdle
  dsimp only
  iterate 8 refine .setReg ?_ rfl
  refine .foldl (fun t n hn => .put (.refl t) (evReg_of_lt_ring ?_)) s
  have := List.mem_range.mp hn
  simp only [HUB_TAG_STAT.in_use, HUB_TAG_STAT.addr, RING_EV_STAT.addr]
  omega

/-- The event system cleared, as R404 says of the reset pins; that no overflow record waits either is the model's reading (log entry
5). -/
structure State.EvCleared (t : State) : Prop where
  ring : t.ev.ring = []
  waiting : t.ev.waiting = none
  pend : ∀ w : Fin 8, t.reg (EVT_PEND.addr w) = 0
  stat : t.reg EVT_STAT.addr = 0
  nextSeq : t.get RING_EV_STAT.next_seq = 0

/-- An event system that is cleared stays so where it is kept. -/
theorem State.EvKept.cleared (h : s.EvKept t) (hs : s.EvCleared) : t.EvCleared where
  ring := by rw [h.ev, hs.ring]
  waiting := by rw [h.ev, hs.waiting]
  pend w := by rw [h.reg _ (evReg_pend w w.isLt), hs.pend]
  stat := by rw [h.reg _ rfl, hs.stat]
  nextSeq := by rw [h.get rfl, hs.nextSeq]

theorem State.EvCleared.congr (hs : s.EvCleared) (he : t.ev = s.ev) (hr : t.regs = s.regs) : t.EvCleared :=
  ((State.EvKept.refl s).congr he hr).cleared hs

/-- A pin reset that keeps none of the event system's registers clears it: the reset value of each is 0 (R303, R404). -/
theorem State.pinReset_evCleared (s : State) {keep : Nat → Bool} (hk : ∀ a, evReg a = true → keep a = false) :
    (s.pinReset keep).EvCleared := by
  have reset {a : Nat} (ha : evReg a = true) : (s.pinReset keep).reg a = resetOf a := by
    have read := tabGet_filter resetOf keep s.regs a
    rwa [hk a ha] at read
  have pend0 : ∀ w : Fin 8, resetOf (EVT_PEND.addr w) = 0 := by decide +kernel
  have stat0 : resetOf EVT_STAT.addr = 0 := by decide +kernel
  have ring0 : resetOf RING_EV_STAT.addr = 0 := by decide +kernel
  refine ⟨rfl, rfl, fun w => ?_, ?_, ?_⟩
  · rw [reset (evReg_pend w w.isLt), pend0]
  · rw [reset rfl, stat0]
  · unfold State.get
    rw [reset rfl, show resetOf RING_EV_STAT.next_seq.addr = 0 from ring0]
    rfl

/-- No register of the event system is in the SAF block (R294, R303). -/
theorem snfKeeps_of_evReg {a : Nat} (ha : evReg a = true) : snfKeeps a = false := by
  have hc := evReg_cases ha
  refine Bool.eq_false_iff.mpr fun hk => ?_
  simp only [snfKeeps, Bool.and_eq_true, Nat.ble_eq, Nat.blt_eq] at hk
  simp only [RING_EV_STAT.addr, EVT_PEND.addr] at hc
  omega

/-- What WARM_RST_N leaves of PD_AON shows nothing of the event system but the sources' configurations (R404). -/
theorem aonKeeps_of_evReg {a : Nat} (ha : evReg a = true) : aonKeeps a = false := by
  have hc := evReg_cases ha
  refine Bool.eq_false_iff.mpr fun hk => ?_
  simp only [aonKeeps, EVT_SRC_CFG.addr, Bool.or_eq_true, Bool.and_eq_true, Nat.ble_eq, Nat.blt_eq] at hk
  simp only [RING_EV_STAT.addr, EVT_PEND.addr] at hc
  omega

/-- What PORST_N leaves is none of the event system's. -/
theorem porstKeeps_of_evReg {a : Nat} (ha : evReg a = true) :
    (snfKeeps a || decide (a = HUB_SVN_FLOOR.addr) || decide (a = HUB_CAP.addr)) = false := by
  have hc := evReg_cases ha
  simp only [RING_EV_STAT.addr, EVT_PEND.addr] at hc
  have floor : a ≠ HUB_SVN_FLOOR.addr := by simp only [HUB_SVN_FLOOR.addr]; omega
  have cap : a ≠ HUB_CAP.addr := by simp only [HUB_CAP.addr]; omega
  simp [snfKeeps_of_evReg ha, floor, cap]

/-- What WARM_RST_N leaves is none of the event system's. -/
theorem warmKeeps_of_evReg {a : Nat} (ha : evReg a = true) : (snfKeeps a || aonKeeps a) = false := by
  rw [snfKeeps_of_evReg ha, aonKeeps_of_evReg ha]
  rfl

theorem State.porst_evCleared (s : State) (tiles : Nat) : (s.porst tiles).EvCleared := by
  unfold State.porst
  dsimp only
  refine State.EvKept.cleared (.capIsolate _) ?_
  refine State.EvKept.cleared (.put (.refl _) rfl) ?_
  refine State.EvKept.cleared (.holdShow _ s) ?_
  exact (State.pinReset_evCleared s fun _ ha => porstKeeps_of_evReg ha).congr rfl rfl

theorem State.warmRst_evCleared (s : State) : s.warmRst.EvCleared := by
  unfold State.warmRst
  dsimp only
  refine State.EvKept.cleared (.capIsolate _) ?_
  refine State.EvKept.cleared (.aonIdle _) ?_
  refine State.EvKept.cleared (.claimsWarm _) ?_
  refine State.EvKept.cleared (.when (fun t => .put (.refl t) rfl) _ _) ?_
  refine State.EvKept.cleared (.put (.refl _) rfl) ?_
  refine State.EvKept.cleared (.holdShow _ s) ?_
  exact (State.pinReset_evCleared s fun _ ha => warmKeeps_of_evReg ha).congr rfl rfl

/-- Settles O60: the pins' part by the reset values of what they do not keep, the function-level reset's by the frame of the rings'
disabling and the addresses of the ranges it resets. -/
theorem eventSystemResets : Obligations.EventSystemResets := by
  intro s
  refine ⟨fun tiles => ?_, ?_, _, exec_flr s, s.flr_keeps_events _⟩
  · have cleared := s.porst_evCleared tiles.toNat
    exact ⟨s.porst tiles.toNat, rfl, cleared.ring, cleared.waiting, cleared.pend, cleared.stat, cleared.nextSeq⟩
  · have cleared := s.warmRst_evCleared
    exact ⟨s.warmRst, rfl, cleared.ring, cleared.waiting, cleared.pend, cleared.stat, cleared.nextSeq⟩

end Sys2Proof.Machine
end
